-- ==== Sys2Proof/Word.lean ====
section
/-! DEFINITION. The word type and its plainest arithmetic: 32-bit registers, bytes, and a named field of a register. -/

namespace Sys2Proof

/-- A register is 32 bits wide (R7). -/
abbrev Word := BitVec 32

/-- One byte of the page store, of a frame or of a message. -/
abbrev Byte := BitVec 8

/-- A field of a register: its least significant bit and its width. -/
structure Fld where
  lo : Nat
  width : Nat
  deriving DecidableEq, Repr

/-- The value of a field in a register's value. -/
def Word.fld (w : Word) (f : Fld) : Nat := (w.toNat / 2 ^ f.lo) % 2 ^ f.width

/-- A register's value with one field replaced (the value is taken modulo the field's width). -/
def Word.setFld (w : Word) (f : Fld) (v : Nat) : Word :=
  let old := Word.fld w f
  BitVec.ofNat 32 (w.toNat - old * 2 ^ f.lo + (v % 2 ^ f.width) * 2 ^ f.lo)

/-- One bit of a register. -/
def Word.bit (w : Word) (i : Nat) : Bool := w.toNat.testBit i

/-- The two's complement reading of the low `n` bits of a number. -/
def signedOf (n x : Nat) : Int :=
  let y := x % 2 ^ n
  if 2 ^ (n - 1) ≤ y then (y : Int) - (2 ^ n : Nat) else (y : Int)

/-- The low `n` bits of an integer in two's complement. -/
def unsignedOf (n : Nat) (x : Int) : Nat := (x % ((2 ^ n : Nat) : Int)).toNat

end Sys2Proof
end

