-- ==== Sys2Proof/Syntax.lean ====
section
/-! DEFINITION. The commands that the part takes from outside and the events of its own engines and timers: every row of
spec/opcode_table.json, with its operands. -/

namespace Sys2Proof

/-- Who makes a register access: the port code (R356), the Sash session on that port (0 where the port has none), and
the URGENT attribute (R371). -/
structure Req where
  port : Fin 7
  session : Nat
  urgent : Bool
  deriving DecidableEq, Repr

/-- One entry of a camera report (R258): channel, nozzle, result (0 CLEAR, 1 MISSING, 2 WEAK, 3 DEVIATED), coverage and
share as fractions, first and last job line of the frame. -/
structure NhEntry where
  chan : Fin 64
  noz : Nat
  kind : Fin 4
  covNum : Nat
  covDen : Nat
  shNum : Nat
  shDen : Nat
  first : Nat
  last : Nat
  deriving DecidableEq, Repr

/-- An open job as a STATE frame of the pair carries it (R397, R412): L_last and the front line F (none while undefined),
the state of R173, and S. -/
structure JobNote where
  id : Nat
  bits : Fin 4
  autoarm : Bool
  last : Nat
  mask : BitVec 64
  state : Fin 8
  front : Option Nat
  s : Int
  deriving DecidableEq, Repr

/-- A line record of the pair (R409): channel, disposition, bits [15:0] of the channel line, body CRC, void cause. -/
structure PeerRec where
  chan : Fin 64
  disp : Fin 8
  tag : Fin 65536
  crc : Fin 65536
  cause : Fin 256
  deriving DecidableEq, Repr

/-- A Sash request: its header but for OP, and its data (R359). -/
structure SashReq where
  port : Fin 7
  ver : Fin 256
  flags : Fin 256
  status : Fin 256
  session : Fin 65536
  seq : Fin 65536
  addr : Word
  count : Fin 65536
  resv : Fin 65536
  data : List Byte
  deriving DecidableEq, Repr

/-- The commands: one constructor for each row of spec/opcode_table.json, in the table's order. Register commands take their
requester first; events take last the ticks of 1.25 ns that have passed since the command before them. -/
inductive Instr where
  /-- REGISTER_WRITE (R9): A write to a register that has no row of its own sets its fields according to their access types. -/
  | registerWrite (q : Req) (a : Word) (width : Nat) (v : Word)
  /-- READ_CLEAR (R9): A read of an RC register returns its value and clears it, unless R363 keeps it. -/
  | readClear (q : Req) (a : Word) (width : Nat)
  /-- LO_READ_CAPTURE (R11): A read of a _LO register captures the whole wide value into the reading port's capture register. -/
  | loReadCapture (q : Req) (a : Word)
  /-- LO_WRITE_HOLD (R11): A write to a _LO register is held in the writing port's hold register for that pair. -/
  | loWriteHold (q : Req) (a v : Word)
  /-- HI_WRITE_COMMIT (R11): A write to a _HI register makes the whole wide value take effect, with the lower part taken from the port's hold register. -/
  | hiWriteCommit (q : Req) (a v : Word)
  /-- CROSSING_TIMEOUT (R16): An island crossing handshake that has not completed within GLB_XING_TMO.TIMEOUT is abandoned and its destination island is isolated. -/
  | crossingTimeout (xs : List (Fin 128 × Fin 128)) (dt : Nat)
  /-- FAULT_FLAG_RESET (R34): A fault flag that was cleared while its island is still isolated sets again on the next management cycle. -/
  | faultFlagReset (dt : Nat)
  /-- ISLAND_GATE (R18): A PWR_ISLc.GATE write refuses new transfers and gates the island once the crossings in progress have drained. -/
  | islandGate (q : Req) (code : Fin 128) (v : Word)
  /-- ISLAND_RESET (R24): A PWR_ISLc.RESET write resets the island, which ends any isolation. -/
  | islandReset (q : Req) (code : Fin 128) (v : Word)
  /-- ISLAND_GATE_COMPLETE (R18): Once every crossing into or out of the island has completed or been abandoned, the gate or reset takes effect. -/
  | islandGateComplete (code : Fin 128) (dt : Nat)
  /-- CHANNEL_RESTART (R24): A reset head channel, once it has relinked its bridge and reloaded its calibration set, takes up firing at the named line. -/
  | channelRestart (c : Fin 64) (line : BitVec 40) (dt : Nat)
  /-- ROWDLY_ARM (R54): A write of HC_ROWDLY_AT_HI with ARM = 1 arms a row delay change from job line L_eff. -/
  | rowdlyArm (q : Req) (c : Fin 64) (hi : Fin 256)
  /-- ROWDLY_APPLY (R54): The pending row delay replaces D(c) at the first fire of the reference row at or after L_eff, and LATE is set if it applies late. -/
  | rowdlyApply (c : Fin 64) (dt : Nat)
  /-- INPUT_TRANSITION (R59): A raw change of level on a discrete input pin is sampled and enters the conditioning chain. -/
  | inputTransition (ix : Fin 32) (j : Fin 8) (dt : Nat)
  /-- INPUT_POL_WRITE (R59): A write of POL takes effect on the next tick, and a resulting change of level is handled as a transition of the pin. -/
  | inputPolWrite (q : Req) (ix : Fin 32) (v : Word)
  /-- GLITCH_FILTER_ACCEPT (R60): After FILT ticks of a stable new level, the glitch filter accepts the change, stamped with the tick of its raw transition, and passes it down the chain. -/
  | glitchFilterAccept (l : List (Fin 32)) (dt : Nat)
  /-- RATE_GAP_CLOSE (R62): When a MIN_GAP gap closes, an edge is passed on if the filtered level differs from the level last passed on. -/
  | rateGapClose (l : List (Fin 32)) (dt : Nat)
  /-- INPUT_STUCK (R61): An input that has been active for longer than MAX_ACTIVE becomes stuck and is presented to its consumer as inactive. -/
  | inputStuck (ix : Fin 32) (dt : Nat)
  /-- STUCK_RELEASE (R61): A stuck input that has been inactive for RELEASE µs is no longer stuck, and STUCK_NOW clears. -/
  | stuckRelease (ix : Fin 32) (dt : Nat)
  /-- LOOP_UPDATE (R67): Every 1,024 ticks the tracking loop forms pm and e and corrects v and p. -/
  | loopUpdate (dt : Nat)
  /-- PACING_ENABLE (R74): A write of PAC_CFG.EN = 1 enables pacing and starts an acquisition, unless the VMIN or COAST check refuses it. -/
  | pacingEnable (q : Req) (v : Word)
  /-- PACING_DISABLE (R69): A write of PAC_CFG.EN = 0 stops pacing and clears LOCK. -/
  | pacingDisable (q : Req) (v : Word)
  /-- SOURCE_CHANGE (R58): A write of PAC_CFG.SRC or BKP changes the pacing sources without a step in P, or is refused during a job or on a conflict. -/
  | sourceChange (q : Req) (src bkp : Fin 4)
  /-- ZERO (R72): PAC_CMD.ZERO sets P, p and the furthest position to PAC_PRESET, or is refused during a job. -/
  | zero (q : Req)
  /-- ZARM (R72): PAC_CMD.ZARM arms a preset for the next active Z edge of the primary encoder. -/
  | zarm (q : Req)
  /-- ZDISARM (R72): PAC_CMD.ZDISARM cancels an armed ZARM. -/
  | zdisarm (q : Req)
  /-- Z_PRESET (R72): On the next active Z edge of the primary, the armed ZARM presets P, p and the furthest position. -/
  | zPreset (e : Fin 2) (dt : Nat)
  /-- RESTORE (R77): PAC_CMD.RESTORE requests a return from the backup to the primary, or is refused. -/
  | restore (q : Req)
  /-- RESTORE_APPLY (R77): At the next update after a RESTORE, the loop takes its measured position from the primary again. -/
  | restoreApply (dt : Nat)
  /-- BACKUP_SWITCH (R76): When the backup has made SWITCH_N counts since the primary's last count, the loop switches to the backup. -/
  | backupSwitch (dt : Nat)
  /-- LOSS (R75): No count for LOSS.TIME with motion expected puts the loop in LOST and can stop the job. -/
  | loss (dt : Nat)
  /-- MEDIUM_STOPPED (R75): No count for LOSS.TIME without motion expected puts the loop in STOPPED. -/
  | mediumStopped (dt : Nat)
  /-- ADV_IDLE (R78): SETTLE µs without a count of the advance source sets PAC_ADV_CFG.IDLE. -/
  | advIdle (dt : Nat)
  /-- ADV_ZERO (R78): PAC_ADV_CFG.ZERO sets PAC_ADV to 0. -/
  | advZero (q : Req)
  /-- FIR_ARM (R80): FIR_CMD.ARM arms the start of the head job, latches the channel timing and, in modes 0 and 1, fixes S at once. -/
  | firArm (q : Req)
  /-- FIR_DISARM (R103): FIR_CMD.DISARM cancels an armed start, or does nothing. -/
  | firDisarm (q : Req)
  /-- FIR_STOP (R92): FIR_CMD.STOP stops the running job. -/
  | firStop (q : Req)
  /-- LINE_FIRE (R85): On the first tick on which all the firing conditions hold, the sequencer decides the pending line and disposes of it. -/
  | lineFire (c : Fin 64) (dt : Nat)
  /-- STROBE_ISSUE (R86): DELAY ticks after the decision the fire strobe leaves, and the waveforms start. -/
  | strobeIssue (c : Fin 64) (dt : Nat)
  /-- LINE_SKIP (R90): A waiting line whose position lateness exceeds the shutter window is skipped and its data consumed. -/
  | lineSkip (c : Fin 64) (dt : Nat)
  /-- SKIP_WINDOW_END (R91): Every 800,000 ticks a channel's skip window closes and a new one opens. -/
  | skipWindowEnd (c : Fin 64) (dt : Nat)
  /-- INHIBIT_FALL (R93): FIRE_INH_N falling forces every strobe inactive and every waveform to rest, and sets INH_NOW and INHIBIT. -/
  | inhibitFall (dt : Nat)
  /-- INHIBIT_RISE (R93): FIRE_INH_N rising releases the forcing and clears INH_NOW. -/
  | inhibitRise (dt : Nat)
  /-- PASS_GO (R97): FIR_CMD.PASS_GO arms the described pass, holds it behind an active pass, or refuses it. -/
  | passGo (q : Req)
  /-- PASS_ACTIVATE (R97): When the paper is settled, no pass is active and the banks are in force, the armed pass becomes active or is refused. -/
  | passActivate (dt : Nat)
  /-- PASS_ABORT (R98): FIR_CMD.PASS_ABORT ends an active pass, or disarms an armed one, from the next tick. -/
  | passAbort (q : Req)
  /-- BODY_SEND (R113): The body of the pending line is started on the Louvre lanes once the gap, release and mask conditions allow. -/
  | bodySend (c : Fin 64) (dt : Nat)
  /-- STATUS_FRAME (R117): A status frame from the head bridge updates the flags, temperature and counters, or is discarded with RETCRC. -/
  | statusFrame (c : Fin 64) (bs : List Byte) (dt : Nat)
  /-- HOLD_ON (R118): A HOLD_ON character makes condition 4 of R85 fail for the channel. -/
  | holdOn (c : Fin 64) (dt : Nat)
  /-- HOLD_OFF (R118): A HOLD_OFF character lets condition 4 of R85 hold again. -/
  | holdOff (c : Fin 64) (dt : Nat)
  /-- LVR_STATUS_TIMEOUT (R119): No valid status frame for 20 µs takes the Louvre link down. -/
  | lvrStatusTimeout (c : Fin 64) (dt : Nat)
  /-- LVR_CODE_ERRORS (R119): 4 or more return-lane code errors within 1 µs take the Louvre link down. -/
  | lvrCodeErrors (c : Fin 64) (n dt : Nat)
  /-- LVR_BRIDGE_TRAINING (R119): A training sequence from the bridge takes the Louvre link down. -/
  | lvrBridgeTraining (c : Fin 64) (dt : Nat)
  /-- LVR_RESTART (R119): HC_LVR_CMD.RESTART takes the Louvre link down. -/
  | lvrRestart (q : Req) (c : Fin 64)
  /-- LINK_START_RETRY (R119): 100 µs after a link-down, link start begins again. -/
  | linkStartRetry (c : Fin 64) (dt : Nat)
  /-- LVR_ENABLE (R120): Setting HC_LVR_CFG.EN starts Louvre link start with TS1. -/
  | lvrEnable (q : Req) (c : Fin 64) (v : Word)
  /-- BRIDGE_TS (R120): The bridge's TS sets the version and HC_LVR_ID, or refuses a bridge whose NMAX is too small. -/
  | bridgeTs (c : Fin 64) (verMax caps nmax id dt : Nat)
  /-- TS2_ECHO (R120): The bridge's echo of TS2 moves link start to CONFIG, which sends the image of bank 0. -/
  | ts2Echo (c : Fin 64) (ver dt : Nat)
  /-- LINK_START_FAILED (R120): Not reaching UP within 10 ms makes the state FAILED. -/
  | linkStartFailed (c : Fin 64) (dt : Nat)
  /-- FAILED_RETRY (R120): Every 100 ms while FAILED and enabled, link start is tried again. -/
  | failedRetry (c : Fin 64) (dt : Nat)
  /-- BANK_ARM (R125): A write of HC_LVR_BANK_AT_HI with ARM = 1 checks the pending configuration and starts sending it to the idle bank. -/
  | bankArm (q : Req) (c : Fin 64) (hi : Fin 256)
  /-- BANK_IMAGE_PIECE (R124): A configuration body of a bank image is sent when it can end before the next decision window. -/
  | bankImagePiece (c : Fin 64) (dt : Nat)
  /-- WAV_TRIM_WRITE (R132): A write of WAV_TRIM_A or WAV_TRIM_B is held until the output's next rest sample. -/
  | wavTrimWrite (q : Req) (c : Fin 64) (b : Bool) (v : Word)
  /-- TRIM_APPLY (R132): A pending trim takes effect at the first rest sample after its write. -/
  | trimApply (c : Fin 64) (b : Bool) (dt : Nat)
  /-- WAV_SEG_WRITE (R136): A write to a segment of a waveform in use or pending is ignored and sets BUSYWR; any other is stored. -/
  | wavSegWrite (q : Req) (c : Fin 64) (ix : Fin 1024) (v : Word)
  /-- TTH_ENABLE (R143): Setting TTH_CFG.EN starts transmission on every lane and the equaliser search on each receiver. -/
  | tthEnable (q : Req) (v : Word)
  /-- TTH_DISABLE (R167): Clearing TTH_CFG.EN takes the link down and turns the lanes off. -/
  | tthDisable (q : Req) (v : Word)
  /-- TTH_RETRAIN (R167): TTH_CMD.RETRAIN takes the link down and retrains every lane. -/
  | tthRetrain (q : Req)
  /-- EQ_SEARCH_DONE (R144): At the end of the equaliser search a lane applies the chosen setting, or becomes FAILED with EQ_FAIL. -/
  | eqSearchDone (ix : Fin 18) (pass : BitVec 16) (dt : Nat)
  /-- BLOCK_LOCK (R145): 64 consecutive valid sync headers lock a hunting lane. -/
  | blockLock (ix : Fin 18) (dt : Nat)
  /-- LOCK_LOSS (R145): 16 invalid headers in 64, or a loss-of-signal trip, loses a lane's block lock. -/
  | lockLoss (ix : Fin 18) (bad dt : Nat)
  /-- MARKER (R146): A MARKER block aligns a locked lane, corrects its polarity and skew, or acts as a newer RESTRIPE. -/
  | marker (ix : Fin 18) (lane : Fin 16) (epoch : Fin 256) (mask : BitVec 16) (skew : Nat) (inverted : Bool) (dt : Nat)
  /-- MARKERS_MISSED (R146): Three missing or wrong MARKERs lose a lane's alignment. -/
  | markersMissed (ix : Fin 18) (dt : Nat)
  /-- BAD_BLOCK (R142): An unlisted control block, or one whose CRC-8 fails, is discarded and counted in BADBLK. -/
  | badBlock (ix : Fin 18) (inFrame : Bool) (dt : Nat)
  /-- LANE_RETRAIN (R147): 1 ms after a link-down or retrain, every enabled lane re-enters EQ. -/
  | laneRetrain (brd : Bool) (dt : Nat)
  /-- HELLO_ENTER (R151): With every enabled lane ALIGNED or FAILED, the end enters the HELLO phase and starts sending OFFERs. -/
  | helloEnter (brd : Bool) (dt : Nat)
  /-- TRAIN_TMO (R151): Expiry of TRAIN_TMO enters HELLO with the aligned lanes, or sets TRAIN_TMO and retrains. -/
  | trainTmo (brd : Bool) (dt : Nat)
  /-- OFFER_SEND (R151): Every 10 µs in the HELLO phase an OFFER is sent, and a CONFIRM once sent is repeated. -/
  | offerSend (dt : Nat)
  /-- OFFER (R151): A received OFFER is answered with a CONFIRM within 1 µs, or, while UP, takes the link down to HELLO. -/
  | offer (bs : List Byte) (dt : Nat)
  /-- CONFIRM (R151): A received CONFIRM with a matching VER sends the first RESTRIPE, or sets VERLOW. -/
  | confirm (bs : List Byte) (dt : Nat)
  /-- HELLO_TMO (R151): No pair of CONFIRMs within HELLO_TMO sets HELLO_TMO and retrains every lane. -/
  | helloTmo (dt : Nat)
  /-- HELLO_RESTART (R151): 1 s after VERLOW the HELLO phase restarts. -/
  | helloRestart (dt : Nat)
  /-- RESTRIPE (R153): A received RESTRIPE settles the mask or is answered with a new RESTRIPE, and a settled link is UP and replays. -/
  | restripe (brd : Bool) (epoch : Fin 256) (mask : BitVec 16) (dt : Nat)
  /-- FRAME_ACCEPT (R162): A received frame is accepted and delivered, discarded as a duplicate, or discarded with a NAK. -/
  | frameAccept (bs : List Byte) (dt : Nat)
  /-- ACK_REPEAT (R162): Every 10 µs while UP the latest ACK is repeated. -/
  | ackRepeat (dt : Nat)
  /-- NAK_REPEAT (R162): Every 4 µs while waiting for the expected frame the NAK is repeated. -/
  | nakRepeat (dt : Nat)
  /-- ACK (R163): A received ACK frees the acknowledged frames from the replay buffer. -/
  | ack (seq : Fin 65536) (dt : Nat)
  /-- NAK (R163): A received NAK acknowledges the earlier frames and starts a replay from the named SEQ. -/
  | nak (seq : Fin 65536) (dt : Nat)
  /-- REPLAY_TMO (R163): No ACK advance for REPLAY_TMO replays from the oldest unacknowledged frame, or ends at REPLAY_MAX. -/
  | replayTmo (dt : Nat)
  /-- CREDIT (R164): A received CREDIT message updates the LIMIT of its virtual channel. -/
  | credit (v : Fin 3) (limit : Word) (dt : Nat)
  /-- CREDIT_SEND (R164): A CREDIT is sent within 1 µs of a LIMIT advance. -/
  | creditSend (dt : Nat)
  /-- CREDIT_REPEAT (R164): Every 10 µs while UP, CREDIT is sent for each virtual channel. -/
  | creditRepeat (dt : Nat)
  /-- FRAME_SEND (R164): A new frame is sent once credit and replay room allow it. -/
  | frameSend (dt : Nat)
  /-- JOB_OPEN (R171): A JOB OPEN frame opens a job or is refused with a RESULT. -/
  | jobOpen (arg : Fin 256) (job : Word) (line : BitVec 40) (mask : BitVec 64) (other : Nat)
  /-- JOB_SETLAST (R172): A JOB SETLAST frame replaces L_last or is refused. -/
  | jobSetlast (arg : Fin 256) (job : Word) (line : BitVec 40) (mask : BitVec 64) (other : Nat)
  /-- JOB_ABORT (R173): A JOB ABORT frame stops the job, frees its segments and removes it from the queue. -/
  | jobAbort (arg : Fin 256) (job : Word) (line : BitVec 40) (mask : BitVec 64) (other : Nat)
  /-- JOB_RESUME (R173): A JOB RESUME frame returns a STOPPED job to ARMED at the resume line. -/
  | jobResume (arg : Fin 256) (job : Word) (line : BitVec 40) (mask : BitVec 64) (other : Nat)
  /-- CMP_RESUME (R173): CMP_RFL_CMD.RESUME acts for the head job as a RESUME frame does. -/
  | cmpResume (q : Req)
  /-- AUTOARM (R172): An AUTOARM head job is armed once every channel holds segments covering its first 64 lines. -/
  | autoarm (dt : Nat)
  /-- JOB_PROGRESS (R173): Every 1 ms while a job is RUNNING a PROGRESS frame is sent. -/
  | jobProgress (dt : Nat)
  /-- SEGMENT (R182): A SEGMENT frame's payload is written to the page store with SECDED and commits when it is accepted. -/
  | segment (first last resend : Bool) (tag off : Nat) (bs : List Byte)
  /-- OPEN_LOST (R184): An open segment kept across a link-down is abandoned CMP_OPEN_KEEP ms after the next link-up. -/
  | openLost (tag dt : Nat)
  /-- BLOCK_DISPATCH (R193): A free engine is given the eligible block with the least slack. -/
  | blockDispatch (dt : Nat)
  /-- BLOCK_DECODE_DONE (R187): At a block's end its CRC-32C is compared with BCRC, and the block is released or has failed its check. -/
  | blockDecodeDone (e : Fin 16) (cycles dt : Nat)
  /-- ADVANCE_VERIFY (R194): An idle engine with no eligible block verifies the oldest unchecked committed block. -/
  | advanceVerify (e : Fin 16) (dt : Nat)
  /-- ADVANCE_VERIFY_DONE (R194): An advance verification ends and a failure it found is handled under R196 at once. -/
  | advanceVerifyDone (e : Fin 16) (cycles dt : Nat)
  /-- ENGINE_ABANDON (R198): An engine refused fabric credit for 20 µs abandons its block, which becomes eligible again. -/
  | engineAbandon (e : Fin 16) (dt : Nat)
  /-- REREQ_NO (R196): A REREQ_NO frame voids the block it names, or is only counted. -/
  | rereqNo (reqId : Nat)
  /-- VOID_RUN_REPORT (R199): A void run is reported when it ends, or 1 ms after its first line. -/
  | voidRunReport (c : Fin 64) (dt : Nat)
  /-- MEM_REQUEST (R216): A request enters a memory channel queue and is scheduled under the close-page policy. -/
  | memRequest (n : Fin 2) (tag x : Nat) (write : Bool) (ws : List (Nat × Byte)) (errs : List (Nat × Nat))
  /-- MEM_READ_RETURN (R211): A read beat is decoded and delivered as read, corrected with a write-back, or flagged uncorrectable. -/
  | memReadReturn (n : Fin 2) (errs : List (Nat × Nat))
  /-- INIT_PASS_DONE (R215): The initialisation pass finishes writing every granule and sets INIT_DONE. -/
  | initPassDone (n : Fin 2)
  /-- REFRESH (R220): Each tREFI a rank's all-bank refresh falls due and is issued, postponed or pulled in. -/
  | refresh (n rank : Fin 2) (pullIn : Bool) (dt : Nat)
  /-- MR4_READ (R220): Every 32 ms MR4 of every device is read and HOT and the refresh rate are set. -/
  | mr4Read (n rank : Fin 2) (double : Bool) (dt : Nat)
  /-- TRAINING_DONE (R221): A memory training ends with a working setting, or steps down a bin, or fails. -/
  | trainingDone (n : Fin 2) (ok : Bool) (failStep : Nat)
  /-- DQS_OSCILLATOR (R223): Every OSC_PERIOD ms the DQS oscillator drift is applied and RETRAIN_DUE is set above DRIFT_TH. -/
  | dqsOscillator (n : Fin 2) (ps : Int) (dt : Nat)
  /-- RETRAIN_AT_GAP (R224): At the first job gap with RETRAIN_DUE set, retraining runs on each rank. -/
  | retrainAtGap (n : Fin 2)
  /-- MEM_CMD_RETRAIN (R224): MEM_CMD.RETRAIN runs retraining at once, or is refused. -/
  | memCmdRetrain (q : Req) (n : Fin 2)
  /-- RETRAIN_DONE (R224): A retraining ends, setting RETRAINED, or DEGRADED and TRAIN_FAIL. -/
  | retrainDone (n : Fin 2) (ok : Bool) (failStep : Nat)
  /-- CE_WINDOW (R225): At the end of each WINDOW a CE count above THRESH sets CE_RATE and RETRAIN_DUE or STEP_DUE. -/
  | ceWindow (n : Fin 2) (dt : Nat)
  /-- STEP_DOWN_AT_GAP (R225): At the next job gap with STEP_DUE set, the channel steps down one bin. -/
  | stepDownAtGap (n : Fin 2)
  /-- SETBIN (R226): MEM_CMD.SETBIN starts a frequency change, or is refused. -/
  | setbin (q : Req) (n : Fin 2) (bin : Fin 8)
  /-- FREQ_DONE (R226): A frequency change ends with fast training at the new bin and sets FREQ_DONE. -/
  | freqDone (n : Fin 2) (ok : Bool) (failStep : Nat)
  /-- POWER_DOWN (R227): A rank idle for IDLE × 100 ns enters power-down. -/
  | powerDown (n rank : Fin 2) (dt : Nat)
  /-- SCRUB (R229): At each scrub interval one granule is read and corrected, and SCRUB_PASS is set at the end of a pass. -/
  | scrub (n : Fin 2) (errs : List (Nat × Nat)) (dt : Nat)
  /-- OBJ_START (R248): CMP_OBJ_CMD.START submits an object decode, which waits or begins on an engine. -/
  | objStart (q : Req)
  /-- OBJ_WAIT_END (R248): A WAITING object starts on an engine at the next job gap. -/
  | objWaitEnd (dt : Nat)
  /-- OBJ_DONE (R247): An object decode ends DONE or REJECTED with the byte count reached. -/
  | objDone (dt : Nat)
  /-- OBJ_CANCEL (R248): CMP_OBJ_CMD.CANCEL ends a WAITING or BUSY object as CANCELLED. -/
  | objCancel (q : Req)
  /-- CX_START (R249): CMP_CXk_CMD.START starts an encode, or is refused. -/
  | cxStart (q : Req) (k : Fin 2)
  /-- CX_FLUSH (R252): CMP_CXk_CMD.FLUSH makes the input so far decodable at a byte boundary. -/
  | cxFlush (q : Req) (k : Fin 2)
  /-- CX_FLUSHED (R252): A flush completes and FLUSHED is set. -/
  | cxFlushed (k : Fin 2) (consumed dt : Nat)
  /-- CX_FINISH (R252): CMP_CXk_CMD.FINISH ends the input of an encode. -/
  | cxFinish (q : Req) (k : Fin 2)
  /-- CX_ABORT (R252): CMP_CXk_CMD.ABORT stops the engine at once as ABORTED. -/
  | cxAbort (q : Req) (k : Fin 2)
  /-- CX_DONE (R249): An encode completes after FINISH and its state becomes DONE. -/
  | cxDone (k : Fin 2) (dt : Nat)
  /-- CX_OVERFLOW (R249): Output that would pass DLEN stops the engine in OVERFLOW. -/
  | cxOverflow (k : Fin 2) (consumed dt : Nat)
  /-- NH_REPORT (R260): A camera report is credited to its nozzles as hits or clears, or discarded as stale. -/
  | nhReport (es : List NhEntry) (dt : Nat)
  /-- NH_EVIDENCE (R262): HC_NH_CMD with OP EVIDENCE credits one host hit to a nozzle. -/
  | nhEvidence (q : Req) (c : Fin 64) (noz : Fin 4096) (kind : Fin 4)
  /-- NH_OVERRIDE (R271): HC_NH_CMD with OP OVERRIDE sets a nozzle's state through the next update, or is refused. -/
  | nhOverride (q : Req) (c : Fin 64) (noz : Fin 4096) (st : Fin 8) (atEn : Bool)
  /-- NH_RESET (R271): HC_NH_CMD with OP RESET sets every non-DISABLED nozzle of the channel to GOOD. -/
  | nhReset (q : Req) (c : Fin 64)
  /-- GATE_START (R263): FIR_GATEk_CMD.START starts a drop gate test, or refuses it with a reason. -/
  | gateStart (q : Req) (k : Fin 2)
  /-- GATE_ABORT (R263): FIR_GATEk_CMD.ABORT ends a running gate test as ABORTED. -/
  | gateAbort (q : Req) (k : Fin 2)
  /-- GATE_STROBE (R263): Every INTERVAL µs the gate test fires a test strobe for the nozzle under test. -/
  | gateStrobe (k : Fin 2) (dt : Nat)
  /-- GATE_WINDOW_CLOSE (R264): At TOFMAX a strobe's window closes, and after REP strobes the nozzle is classified. -/
  | gateWindowClose (k : Fin 2) (dt : Nat)
  /-- NH_UPDATE (R269): Pending state changes form an update whose maps are recomputed and whose L_eff is chosen. -/
  | nhUpdate (dt : Nat)
  /-- PROPOSAL_HOLD_END (R272): HOLD ms after a proposal, its L_eff is chosen. -/
  | proposalHoldEnd (dt : Nat)
  /-- NH_VETO (R272): FIR_NH_CMD.VETO discards the automatic changes of the pending proposal, or sets REFUSED. -/
  | nhVeto (q : Req) (id : Fin 65536)
  /-- NH_UPDATE_APPLIED (R270): When every touched channel has released L_eff, the update has applied, CHANGE is set and the next update may form. -/
  | nhUpdateApplied (dt : Nat)
  /-- NOZZLE_RECORD_WRITE (R274): At job end and every 60 s with changes, the Keel nozzle record is written. -/
  | nozzleRecordWrite (dt : Nat)
  /-- LTRIG (R283): When P reaches a grid line's position, LTRIG is issued, held back by LT_MIN, or dropped as TRIGSKIP. -/
  | ltrig (n : Fin 4) (dt : Nat)
  /-- GRID_REPHASE (R283): When P reaches G(0) of a new job the grid is rephased and an open frame closes. -/
  | gridRephase (n : Fin 4) (dt : Nat)
  /-- LVAL_RISE (R284): A camera line arriving on LVAL takes the oldest outstanding trigger, or is discarded as an extra line. -/
  | lvalRise (n : Fin 4) (dt : Nat)
  /-- LINE_TMO (R284): A trigger with no line within LINE_TMO is dropped, and its grid line is missing. -/
  | lineTmo (n : Fin 4) (dt : Nat)
  /-- FTMO (R284): FTMO × 10 ms without a line closes the open frame. -/
  | ftmo (n : Fin 4) (dt : Nat)
  /-- FVAL_RISE (R282): FVAL rising starts a frame in framing 1. -/
  | fvalRise (n : Fin 4) (dt : Nat)
  /-- FVAL_FALL (R282): FVAL falling ends a frame in framings 1 to 3. -/
  | fvalFall (n : Fin 4) (dt : Nat)
  /-- EXPOSE (R285): EXPOSE rises at a frame position or on a trigger firing and starts an area frame. -/
  | expose (n : Fin 4) (dt : Nat)
  /-- PCLK_LOST (R281): No PCLK edge for 1 µs sets PCLK_LOST and closes the open line and frame short. -/
  | pclkLost (n : Fin 4) (dt : Nat)
  /-- INS_COMMIT (R288): A write of INS_COMMIT snapshots a camera's shadow registers for a later frame. -/
  | insCommit (q : Req) (mask : BitVec 4)
  /-- CAM_ENABLE (R287): A write of CAMn_CFG.EN = 1 enables the port, or is refused with CFG_REJ. -/
  | camEnable (q : Req) (n : Fin 4) (v : Word)
  /-- FRAME_RECORD (R290): Within 2 ms of a frame's close, its statistics, registration and report are formed and FRAME is set. -/
  | frameRecord (n : Fin 4) (ue : List Int) (dt : Nat)
  /-- STAT_CAPTURE (R290): A read of CAMn_STAT0 captures the whole statistics record for the reading port. -/
  | statCapture (q : Req) (n : Fin 4)
  /-- PANE_SEND (R301): A pane piece is sent on VC2 as credit allows, in pane priority order. -/
  | paneSend (dt : Nat)
  /-- ADC_REQUEST (R306): A write of CAL_ADC_REQ queues a sense conversion, or is refused. -/
  | adcRequest (q : Req) (input : Fin 256) (a : Fin 16)
  /-- ADC_CONVERSION_DONE (R306): A requested conversion ends and its mean code is returned. -/
  | adcConversionDone (k : Fin 4) (sum dt : Nat)
  /-- VREF_CHECK (R307): Every 10 s the bandgap is converted, and VREF_BAD is set when the code is out of range. -/
  | vrefCheck (code : Fin 65536) (dt : Nat)
  /-- TRIM_EVALUATION (R313): Every 10 ms each evaluated channel's temperature is measured and its set contribution and trims are updated. -/
  | trimEvaluation (codes : List (Nat × Nat)) (dt : Nat)
  /-- CAL_SET_ARM (R311): A write of HC_CAL_SET_AT_HI with ARM = 1 arms a calibration set change. -/
  | calSetArm (q : Req) (c : Fin 64) (hi : Fin 256)
  /-- DACCAL (R316): CAL_CMD OP 1 starts DAC calibration of the named outputs. -/
  | daccal (q : Req) (c : Fin 64) (outputs : Fin 4) (bandgap : Fin 65536)
  /-- CLASSCAL (R317): CAL_CMD OP 2 starts the drive-class procedure. -/
  | classcal (q : Req) (c : Fin 64) (gate : Fin 2) (bandgap : Fin 65536)
  /-- TPOINT (R318): CAL_CMD OP 3 starts the temperature-point procedure. -/
  | tpoint (q : Req) (c : Fin 64) (set : Fin 4) (gate : Fin 2) (bandgap : Fin 65536)
  /-- LOADSET (R319): CAL_CMD OP 4 copies a set into the CAL_STAGE_ registers. -/
  | loadset (q : Req) (c : Fin 64) (set : Fin 4) (bandgap : Fin 65536)
  /-- STORESET (R319): CAL_CMD OP 5 checks the staged set and commits it to the channel record. -/
  | storeset (q : Req) (c : Fin 64) (set : Fin 4) (bandgap : Fin 65536)
  /-- CAL_ABORT (R315): CAL_CMD OP 6 aborts the running procedure and restores its trims and classes. -/
  | calAbort (q : Req)
  /-- PROCEDURE_END (R315): A procedure ends DONE or FAILED, and its values apply only after its Keel commit. -/
  | procedureEnd (meas : List Int) (dt : Nat)
  /-- KEEL_COMMIT (R322): A Keel record is written to its target slot and read back, and COMMIT is written last. -/
  | keelCommit (ok : Bool) (dt : Nat)
  /-- KEEL_DEFER_END (R324): A deferred commit is carried out once a second has passed since the record's last commit. -/
  | keelDeferEnd (rid : Fin 256) (dt : Nat)
  /-- DEVICE_RECORD_COMMIT (R325): Every hour the DEVICE record is committed. -/
  | deviceRecordCommit (dt : Nat)
  /-- KEY_PROGRAM (R329): KEEL_KEY_CMD PROGRAM writes a key into an empty slot, or is refused. -/
  | keyProgram (q : Req) (slot : Fin 4) (confirm : Fin 65536)
  /-- KEY_REVOKE (R329): KEEL_KEY_CMD REVOKE marks a WRITTEN slot REVOKED, or is refused. -/
  | keyRevoke (q : Req) (slot : Fin 4) (confirm : Fin 65536)
  /-- INC_WRITE (R334): A write of TIM_Dd_INC_HI sets the domain's increment, clamped, from the next tick. -/
  | incWrite (q : Req) (dom : Fin 2) (v : Word)
  /-- DOMAIN_SET (R335): TIM_Dd_CMD.SET sets the domain time, or is refused. -/
  | domainSet (q : Req) (dom : Fin 2)
  /-- DOMAIN_STEP (R335): TIM_Dd_CMD.STEP steps the domain time by ADJ, or is refused. -/
  | domainStep (q : Req) (dom : Fin 2)
  /-- CNTERR (R337): A mismatch of a domain's two accumulators sets CNTERR and can switch device time. -/
  | cnterr (dom : Fin 2) (errA errB : Int) (dt : Nat)
  /-- HOLDOVER (R338): SERVO_TMO ms without a servo write puts the domain in holdover and can switch device time. -/
  | holdover (dom : Fin 2) (dt : Nat)
  /-- TIME_SWITCH (R340): TIM_CMD.SWITCH moves device time to the other domain without a step, or is refused. -/
  | timeSwitch (q : Req)
  /-- CLEAR_H (R341): TIM_CMD.CLEAR_H sets H to 0 at once. -/
  | clearH (q : Req)
  /-- SLEW_DONE (R341): When H has slewed to 0, SLEWING clears and SLEW_DONE is set. -/
  | slewDone (dt : Nat)
  /-- ETH_FRAME_RX (R343): A received Ethernet frame is timestamped and delivered to the firmware. -/
  | ethFrameRx (p : Fin 2) (eighth : Int) (frame : List Byte) (dt : Nat)
  /-- ETH_FRAME_TX (R344): A transmitted frame gets its one-step timestamp, or a two-step entry in the queue. -/
  | ethFrameTx (p : Fin 2) (eighth : Int) (twoStep : Option Nat) (oneStep : Option (Nat × Nat)) (sent : Bool) (frame : List Byte) (dt : Nat)
  /-- TXQ_POP (R345): ETH_p_TXQ_CMD.POP removes the head timestamp. -/
  | txqPop (q : Req) (p : Fin 2)
  /-- TXQ_FLUSH (R345): ETH_p_TXQ_CMD.FLUSH empties the timestamp queue. -/
  | txqFlush (q : Req) (p : Fin 2)
  /-- ETH_CFG_WRITE (R355): A write of ETH_p_CFG takes the port's link down and restarts it. -/
  | ethCfgWrite (q : Req) (p : Fin 2) (v : Word)
  /-- ETH_LINK_UP (R342): An Ethernet port's link comes up and UP is set. -/
  | ethLinkUp (p : Fin 2) (rf : Bool) (dt : Nat)
  /-- ETH_LINK_DOWN (R342): An Ethernet port's link goes down, DOWN is set, and its sessions close. -/
  | ethLinkDown (p : Fin 2) (rf : Bool) (dt : Nat)
  /-- TRG_ARM (R349): TRGn_CMD.ARM arms a trigger unit from its registers, or is refused. -/
  | trgArm (q : Req) (n : Fin 16)
  /-- TRG_DISARM (R349): TRGn_CMD.DISARM ends the trigger unit. -/
  | trgDisarm (q : Req) (n : Fin 16)
  /-- TRG_OCCURRENCE (R346): When time reaches an armed target, the occurrence executes its actions, late or on time, or is discarded. -/
  | trgOccurrence (n : Fin 16) (dt : Nat)
  /-- TRG_PULSE_END (R350): A trigger's GPIO pulse ends after WIDTH. -/
  | trgPulseEnd (n : Fin 16) (dt : Nat)
  /-- CAP_POP (R351): CAPn_CMD.POP removes the head capture entry. -/
  | capPop (q : Req) (n : Fin 16)
  /-- CAP_FLUSH (R351): CAPn_CMD.FLUSH empties the capture FIFO. -/
  | capFlush (q : Req) (n : Fin 16)
  /-- SPI_READ (R358): A SERVICE READ transaction reads one register and returns status and data. -/
  | spiRead (a : Word)
  /-- SPI_WRITE (R358): A SERVICE WRITE transaction writes one register and returns status. -/
  | spiWrite (a v : Word)
  /-- SPI_WRITE_URGENT (R358): A SERVICE WRITE_URGENT transaction writes one register with the URGENT attribute. -/
  | spiWriteUrgent (a v : Word)
  /-- SASH_OPEN (R360): A Sash OPEN opens a session with the agreed version, or is refused. -/
  | sashOpen (r : SashReq)
  /-- SASH_CLOSE (R360): A Sash CLOSE closes the session. -/
  | sashClose (r : SashReq)
  /-- SASH_KEEPALIVE (R359): A Sash KEEPALIVE keeps the session open. -/
  | sashKeepalive (r : SashReq)
  /-- SASH_READ (R361): A Sash READ reads COUNT registers in order, stopping at the first failure. -/
  | sashRead (r : SashReq)
  /-- SASH_WRITE (R361): A Sash WRITE writes COUNT registers in order, stopping at the first failure. -/
  | sashWrite (r : SashReq)
  /-- SASH_BLOB (R359): A Sash BLOB writes bytes into the staging area. -/
  | sashBlob (r : SashReq)
  /-- SESSION_TIMEOUT (R360): A session with no message for 5 s is closed. -/
  | sessionTimeout (port : Fin 7) (num dt : Nat)
  /-- LATCH_REQUEST (R364): A write of OWN_REQ grants the Latch, renews its lease, or records the request as waiting. -/
  | latchRequest (q : Req) (v : Word)
  /-- LATCH_KEEP (R364): OWN_CMD.KEEP restarts the holder's lease. -/
  | latchKeep (q : Req)
  /-- LATCH_RELEASE (R365): OWN_CMD.RELEASE frees the Latch and passes it to the waiting request. -/
  | latchRelease (q : Req)
  /-- LATCH_HANDOVER (R365): OWN_CMD.HANDOVER passes the Latch to the waiting session it names, or is refused. -/
  | latchHandover (q : Req) (port : Fin 8) (session : Fin 256) (client : Fin 65536)
  /-- LATCH_SEIZE (R366): OWN_CMD.SEIZE from SERVICE or JTAG takes the Latch at once. -/
  | latchSeize (q : Req)
  /-- LATCH_EXPIRE (R365): The holder's lease runs out, EXPIRED is set, and the Latch passes on. -/
  | latchExpire (dt : Nat)
  /-- HATCH_WRITE (R369): A data write to a Hatch fills it for the writing port, or fails with FULL. -/
  | hatchWrite (q : Req) (n : Fin 8) (ix : Fin 16) (v : Word)
  /-- HATCH_GO (R369): A write of CTRL.GO by the filler posts the message, and NOTIFY is sent for an outbound Hatch. -/
  | hatchGo (q : Req) (n : Fin 8)
  /-- HATCH_ACK (R369): A write of CTRL.ACK by the receiver empties the Hatch as DELIVERED, or fails with NOTRX. -/
  | hatchAck (q : Req) (n : Fin 8)
  /-- HATCH_URGENT_WRITE (R371): An URGENT data write overwrites the message in an inbound Hatch, or is refused. -/
  | hatchUrgentWrite (q : Req) (n : Fin 8) (ix : Fin 16) (v : Word)
  /-- HATCH_FILL_TIMEOUT (R369): A FILLING Hatch with no write from its filler for 10 ms returns to EMPTY as ABANDONED. -/
  | hatchFillTimeout (n : Fin 8) (dt : Nat)
  /-- HATCH_RESET (R373): HAT_CMD.RESET increments the writing port's epoch, as every other reset of a port does. -/
  | hatchReset (q : Req)
  /-- PING (R377): A PING message is answered with the firmware version. -/
  | ping (n : Fin 4) (dt : Nat)
  /-- KEEL_READ (R377): A KEEL_READ message returns bytes of the record in force. -/
  | keelRead (n : Fin 4) (dt : Nat)
  /-- LOG_READ (R377): A LOG_READ message returns an entry of the Hatch message log. -/
  | logRead (n : Fin 4) (dt : Nat)
  /-- TELEM_SET (R377): A TELEM_SET message sets the telemetry period and register list. -/
  | telemSet (n : Fin 4) (dt : Nat)
  /-- CX_ASSIGN (R377): A CX_ASSIGN message assigns a compression engine to a use. -/
  | cxAssign (n : Fin 4) (dt : Nat)
  /-- OBJ_LOAD (R377): An OBJ_LOAD message decodes an object from the staging area. -/
  | objLoad (n : Fin 4) (dt : Nat)
  /-- FLASH_WRITE (R377): A FLASH_WRITE message writes the last decoded image to a Kite slot, or is refused. -/
  | flashWrite (n : Fin 4) (entryOk : Bool) (dt : Nat)
  /-- PTP_SEND (R377): A PTP_SEND message transmits a PTP frame from the staging area with timestamping. -/
  | ptpSend (n : Fin 4) (eighth : Int) (sent : Bool) (dt : Nat)
  /-- EVENT_POST (R378): A firmware event is posted on HT7 when it has room, or is held or dropped. -/
  | eventPost (dt : Nat)
  /-- TELEMETRY (R380): Each telemetry period the listed registers are read and sent as a TELEMETRY frame. -/
  | telemetry (dt : Nat)
  /-- CU_START (R385): CHK_CUk_CMD.START makes a check unit OPEN for the writing port with reg loaded from INIT, or is refused. -/
  | cuStart (q : Req) (k : Fin 8)
  /-- CU_DIN (R384): A write of DIN8, DIN16 or DIN32 feeds bytes to an OPEN check unit. -/
  | cuDin (q : Req) (k : Fin 8) (size : Fin 3) (v : Word)
  /-- CU_STATE_WRITE (R385): A write of CHK_CUk_STATE replaces reg in an OPEN unit. -/
  | cuStateWrite (q : Req) (k : Fin 8) (v : Word)
  /-- CU_GO (R387): CHK_CUk_CMD.GO starts a buffer operation, or is refused. -/
  | cuGo (q : Req) (k : Fin 8)
  /-- CU_BUFFER_DONE (R387): A buffer operation ends, appending or checking the check bytes, or with FAULT. -/
  | cuBufferDone (k : Fin 8) (dt : Nat)
  /-- CU_ABORT (R387): CHK_CUk_CMD.ABORT ends a BUSY operation and returns the unit to OPEN. -/
  | cuAbort (q : Req) (k : Fin 8)
  /-- CU_RELEASE (R386): CHK_CUk_CMD.RELEASE frees the check unit. -/
  | cuRelease (q : Req) (k : Fin 8)
  /-- JOIN_OFFER_SEND (R398): Every 10 µs while the Bridle link is up, a JOIN OFFER is sent. -/
  | joinOfferSend (dt : Nat)
  /-- JOIN_OFFER (R398): A received JOIN OFFER is answered with a CONFIRM that accepts or refuses the join. -/
  | joinOffer (bs : List Byte) (dt : Nat)
  /-- JOIN_CONFIRM (R398): A received JOIN CONFIRM completes the join, or refuses it. -/
  | joinConfirm (bs : List Byte) (dt : Nat)
  /-- HEARTBEAT_EDGE (R401): An edge on PAIR_HB_IN classes the peer's heartbeat. -/
  | heartbeatEdge (dt : Nat)
  /-- HEARTBEAT_MISS (R401): No heartbeat edge for MISS µs sets the class NONE and HB_FAIL. -/
  | heartbeatMiss (dt : Nat)
  /-- GUARD_KICK (R402): A write of BRD_KICK by the firmware restarts the guard kick. -/
  | guardKick (q : Req) (v : Word)
  /-- GUARD_KICK_TIMEOUT (R402): No BRD_KICK write for KICK_TMO lapses the guard. -/
  | guardKickTimeout (dt : Nat)
  /-- LOCKSTEP_MISMATCH (R402): A lockstep mismatch of the service processors lapses the guard. -/
  | lockstepMismatch (dt : Nat)
  /-- REFCLK_LOSS (R402): Loss of REFCLK, detected within 1 µs, lapses the guard. -/
  | refclkLoss (dt : Nat)
  /-- RELINQUISH (R402): BRD_CMD.RELINQUISH lapses the guard. -/
  | relinquish (q : Req)
  /-- GUARD_REARM (R402): 1 ms after a RELINQUISH the guard re-arms. -/
  | guardRearm (dt : Nat)
  /-- ARB_CLAIM (R403): A SEEKING chip that sees PAIR_ARB_N released for 1 ms with no ACTIVE peer claims the ACTIVE role. -/
  | arbClaim (dt : Nat)
  /-- CLAIM_HOLDOFF_END (R403): At the end of rank 1's 50 µs hold-off the claim conditions are checked again. -/
  | claimHoldoffEnd (released : Bool) (dt : Nat)
  /-- TAKEOVER (R404): A standby that sees PAIR_ARB_N released for ARB_FILT µs with no ACTIVE peer becomes ACTIVE. -/
  | takeover (dt : Nat)
  /-- HOLDOFF_END (R405): The 50 µs hold-off of a yielding chip ends. -/
  | holdoffEnd (dt : Nat)
  /-- PEER_LOST (R405): An ACTIVE chip without its peer's heartbeat and STATE for 20 µs sets PEER_LOST. -/
  | peerLost (dt : Nat)
  /-- STATE_SEND (R397): Every 5 µs a Bridle STATE frame is sent. -/
  | stateSend (dt : Nat)
  /-- BRD_STATE (R397): A received STATE frame updates the peer's role and state and the time offset. -/
  | brdState (role : Fin 5) (sync : Fin 3) (front : Option Nat) (ns : Nat) (tether : Bool) (jobs : List JobNote) (dt : Nat)
  /-- POSITION_SYNC (R407): At the Z edge after a SYNC, the standby adjusts P by the active's recorded value, and positions are compared. -/
  | positionSync (peerP : Int) (dt : Nat)
  /-- SYNC_START (R408): A SYNC frame carrying S starts the job on the standby, or detaches it with START. -/
  | syncStart (job : Word) (start : Int) (dt : Nat)
  /-- LINEREC (R409): Received line records are compared with the chip's own and counted as a match, DIVERGE, ONESIDE or TIMING. -/
  | linerec (rs : List PeerRec) (dt : Nat)
  /-- LINEREC_LAG (R409): A record with no partner within 50 µs makes the standby detach with LAG. -/
  | linerecLag (dt : Nat)
  /-- BRD_DETACH (R410): BRD_CMD.DETACH detaches the standby and keeps it detached. -/
  | brdDetach (q : Req)
  /-- BRD_REJOIN (R410): BRD_CMD.REJOIN starts the rejoin of a detached standby. -/
  | brdRejoin (q : Req)
  /-- REJOIN_TIMER (R410): 1 ms after a detach not caused by DETACH, the standby rejoins. -/
  | rejoinTimer (dt : Nat)
  /-- MIRROR (R412): A MIRROR frame applies mirrored state on the standby. -/
  | mirror (f : List Nat) (dt : Nat)
  /-- BRD_TEMP (R314): A TEMP frame gives the standby the active's temperatures for the evaluation tick. -/
  | brdTemp (l : List (Nat × Option Int)) (dt : Nat)
  /-- BRD_SWITCH (R414): A SWITCH frame switches the standby's device time domain. -/
  | brdSwitch (dom : Fin 2) (dt : Nat)
  /-- PROPOSE (R415): A PROPOSE frame makes the standby answer with AGREE at its line. -/
  | propose (id : Fin 65536) (kind : Fin 256) (mask : BitVec 64) (line : BitVec 40) (payload : List Nat) (dt : Nat)
  /-- AGREE (R415): An AGREE frame lets the active COMMIT at L_a, or propose again. -/
  | agree (id : Fin 65536) (line : BitVec 40) (dt : Nat)
  /-- BRD_COMMIT (R415): A COMMIT frame arms the agreed change on the standby at L_eff. -/
  | brdCommit (id : Fin 65536) (line : BitVec 40) (dt : Nat)
  /-- AGREE_TIMEOUT (R415): No AGREE within 100 µs makes the active apply the change alone and the standby detach. -/
  | agreeTimeout (dt : Nat)
  /-- BRD_SWAP (R418): BRD_CMD.SWAP proposes a swap at L_p. -/
  | brdSwap (q : Req) (atEn : Bool)
  /-- TETHER_LOSS_SWAP (R418): The active's Tether link down for 1 ms with the standby's up starts a swap. -/
  | tetherLossSwap (dt : Nat)
  /-- SWAP_EXECUTE (R417): When P reaches the swap line both chips exchange roles, or the swap is refused. -/
  | swapExecute (dt : Nat)
  /-- SWAP_HOLD_END (R417): 10 µs after a swap the former active releases PAIR_ARB_N. -/
  | swapHoldEnd (dt : Nat)
  /-- POWER_ON (R424): VIN rising above 4.40 V starts rail sequencing and a power-on reset. -/
  | powerOn (dt : Nat)
  /-- UVLO (R424): VIN falling below 4.20 V holds every island in reset and turns the rails off. -/
  | uvlo (dt : Nat)
  /-- UV_WARNING (R426): VIN below WARN for 2 µs lapses the guard, stops new Keel commits and sets UVWARN. -/
  | uvWarning (dt : Nat)
  /-- UV_WARNING_CLEAR (R424): VIN 0.2 V above WARN for 10 ms clears the warning. -/
  | uvWarningClear (dt : Nat)
  /-- RAIL_START (R425): 0.5 ms after a rail is in its window, the next rail starts. -/
  | railStart (dt : Nat)
  /-- RAIL_FAULT (R425): A rail outside its window hard-resets the chip with every rail off. -/
  | railFault (rail : Fin 5) (dt : Nat)
  /-- RAIL_RETRY (R425): 100 ms after a rail fault the rails are sequenced again, unless three faults have occurred in 10 s. -/
  | railRetry (dt : Nat)
  /-- PIN_RESET (R427): SYS_RST_N low for 1 µs makes a hard reset. -/
  | pinReset (dt : Nat)
  /-- HARD_RESET (R427): PWR_CMD.HARD with CONFIRM makes a hard reset. -/
  | hardReset (q : Req) (confirm : Fin 65536)
  /-- SOFT_RESET (R427): PWR_CMD.SOFT with CONFIRM makes a soft reset. -/
  | softReset (q : Req) (confirm : Fin 65536)
  /-- GUARD_RESET (R427): After a guard lapse a soft reset starts once any Keel commit has ended. -/
  | guardReset (dt : Nat)
  /-- RESET_RELEASE (R429): On the release of reset the boot starts with the Keel scan and plausibility checks. -/
  | resetRelease (dt : Nat)
  /-- IMAGE_READ (R435): A slot is read and checked, accepted, or rejected with a fall back to the other slot or NOIMAGE. -/
  | imageRead (flash : Bool) (slot : List Byte) (entryOk : Bool) (dt : Nat)
  /-- CONFIGURATION (R435): The load checks run, the configuration is applied and the firmware starts, or the slot is rejected. -/
  | configuration (dt : Nat)
  /-- HOVER (R429): With DAC calibration ended and every memory channel RUN, the chip enters Hover. -/
  | hover (bandgap : Fin 65536) (rs : List (Nat × List Int)) (dt : Nat)
  /-- READY (R429): In Hover with initialisation done and Tether UP, READY sets. -/
  | ready (dt : Nat)
  /-- BOOT_RECORD_WRITE (R432): A write of PWR_BOOT.FIRST makes the firmware rewrite the boot record and set PERSISTED. -/
  | bootRecordWrite (dt : Nat)
  /-- POWER_ENTER (R437): PWR_CMD.ENTER starts entry to the TARGET state, or is refused. -/
  | powerEnter (q : Req) (target : Fin 8)
  /-- ENTRY_DONE (R437): An entry to Moored or Furled completes and ENTERED is set. -/
  | entryDone (dt : Nat)
  /-- POWER_WAKE (R438): PWR_CMD.WAKE starts a wake to Hover. -/
  | powerWake (q : Req)
  /-- TETHER_SIGNAL_WAKE (R438): Signal on a Tether lane after 1 ms of silence wakes the chip. -/
  | tetherSignalWake (dt : Nat)
  /-- SCHEDULED_WAKE (R439): Device time reaching the scheduled wake starts a wake. -/
  | scheduledWake (dt : Nat)
  /-- WAKE_DONE (R436): A wake reaches Hover, WOKE is set, and held island writes act. -/
  | wakeDone (dt : Nat)
  /-- AUTO_STATE_EVAL (R439): Every 1 ms with PWR_AUTO.EN, t_next is computed and the deepest allowed state is entered or its wake rescheduled. -/
  | autoStateEval (dt : Nat)
  /-- LOOPBACK_ENTER (R443): A write of TST_LBk_CFG with EN = 1 enters a loop-back, or refuses it with a reason. -/
  | loopbackEnter (q : Req) (k : Fin 4) (v : Word)
  /-- LOOPBACK_RUN (R452): The slot reaches RUN and its generator and checker start. -/
  | loopbackRun (k : Fin 4) (units : List (Nat × Bool)) (dt : Nat)
  /-- LOOPBACK_EXIT (R444): A write of TST_LBk_CFG with EN = 0 ends the slot and the interface recovers. -/
  | loopbackExit (q : Req) (k : Fin 4) (v : Word)
  /-- LOOPBACK_TIMEOUT (R444): TIME ms after entry the slot ends. -/
  | loopbackTimeout (k : Fin 4) (dt : Nat)
  /-- BIST_START (R446): TST_BIST_CMD.START runs a March test over an SRAM group, or is refused. -/
  | bistStart (q : Req) (group : Fin 256)
  /-- BIST_DONE (R446): A March test ends PASS, or FAIL with the first failing address. -/
  | bistDone (fail : Option (Fin 16 × BitVec 20)) (dt : Nat)
  /-- MRAM_TEST_START (R447): TST_MRAM_CMD.START tests the Keel store, or is refused. -/
  | mramTestStart (q : Req)
  /-- MRAM_TEST_DONE (R447): The Keel store test ends, with MRAM_FAIL set on a bad word. -/
  | mramTestDone (fail : Option (BitVec 20)) (dt : Nat)
  /-- TEST_LOGIC_RESET (R448): TRST_N or the TAP state machine's reset selects IDCODE. -/
  | testLogicReset (dt : Nat)
  /-- EXTEST (R449): Loading EXTEST lapses the guard and gives the boundary cells the output balls. -/
  | extest (dt : Nat)
  /-- IDCODE (R448): Loading IDCODE selects the identification register. -/
  | idcode (dt : Nat)
  /-- SAMPLE_PRELOAD (R448): Loading SAMPLE/PRELOAD samples the pins with no effect on the device. -/
  | samplePreload (cells : List Bool) (dt : Nat)
  /-- CLAMP (R449): Loading CLAMP lapses the guard and holds the outputs from the boundary cells. -/
  | clamp (dt : Nat)
  /-- HIGHZ (R449): Loading HIGHZ lapses the guard and makes the outputs high impedance. -/
  | highz (dt : Nat)
  /-- EXTEST_PULSE (R449): Loading EXTEST_PULSE lapses the guard and tests the AC-coupled lanes. -/
  | extestPulse (dt : Nat)
  /-- EXTEST_TRAIN (R449): Loading EXTEST_TRAIN lapses the guard and tests the AC-coupled lanes. -/
  | extestTrain (dt : Nat)
  /-- SASHREG (R450): Update-DR with SASHREG loaded starts a register access as the JTAG port. -/
  | sashreg (dr : BitVec 72) (dt : Nat)
  /-- BYPASS (R448): Loading BYPASS, or any unlisted code, selects the bypass register. -/
  | bypass (code : Fin 64) (dt : Nat)
  /-- FRAC_READ_CAPTURE (R333): A read of a time value's _FRAC register captures the whole time value for the reading port, and later reads of its other three words return that capture. -/
  | fracReadCapture (q : Req) (a : Word)
  /-- PCLK_EDGE (R280): Each sampling edge of CAMn_PCLK samples the tap data, LVAL, FVAL and DVAL, and yields pixels, overruns the input buffer, or sets PCLK_OK again after a loss. -/
  | pclkEdge (n : Fin 4) (rising lval fval dval : Bool) (t0 t1 : Fin 4096) (full : Bool) (dt : Nat)
  /-- LVAL_FALL (R286): LVAL falling ends a camera line, which is kept as a short line if it has fewer than PIXELS pixels and may complete the frame's last grid line. -/
  | lvalFall (n : Fin 4) (dt : Nat)
  /-- MEM_TRAINING_STEP_DONE (R226): The end of a training step releases a held frequency change or self-refresh entry, and the remaining steps of that training are abandoned. -/
  | memTrainingStepDone (n : Fin 2)
  /-- OWN_HEARTBEAT_SILENT (R402): When the chip's own heartbeat has made no edge for 1 µs while it holds PAIR_ARB_N, the driver releases PAIR_ARB_N. -/
  | ownHeartbeatSilent (dt : Nat)
  /-- CAM_PULSE_END (R283): An LTRIG pulse ends after LT_W ticks, or an EXPOSE pulse after EXP_W × 10 ns, and the output returns inactive. -/
  | camPulseEnd (n : Fin 4) (dt : Nat)
  deriving DecidableEq, Repr

end Sys2Proof
end

