-- ==== Sys2Proof/Machine/Crc.lean ====
section
/-! DEFINITION. Cyclic redundancy checks: the parameter model of R382, the catalogue settings of R389 and the fixed
checks of R390; the Adler-32 of RFC 1950 that R247 names. -/

namespace Sys2Proof.Machine

/-- The six parameters of a check (R382). -/
structure CrcParams where
  width : Nat
  poly : Nat
  init : Nat
  refin : Bool
  refout : Bool
  xorout : Nat
  deriving DecidableEq, Repr

/-- The low `n` bits of `x` in reverse order: bit 0 becomes bit n - 1. -/
def reflectBits : Nat → Nat → Nat
  | 0, _ => 0
  | n + 1, x => (x % 2) * 2 ^ n + reflectBits n (x / 2)

/-- One bit into the register: shift left, and add the polynomial when the bit fed back is 1 (R382). -/
def crcBit (p : CrcParams) (reg : Nat) (b : Bool) : Nat :=
  let fb := xor (reg.testBit (p.width - 1)) b
  let sh := (reg * 2) % 2 ^ p.width
  if fb then sh ^^^ p.poly else sh

/-- Bits `n - 1` down to 0 of a byte, in that order (R382). -/
def crcBits (p : CrcParams) : Nat → Nat → Nat → Nat
  | 0, _, reg => reg
  | n + 1, b, reg => crcBits p n b (crcBit p reg (b.testBit n))

/-- One byte, reflected first when REFIN is set (R382). -/
def crcByte (p : CrcParams) (reg : Nat) (b : Byte) : Nat :=
  crcBits p 8 (if p.refin then reflectBits 8 b.toNat else b.toNat) reg

/-- Bytes in feed order (R382). -/
def crcFeed (p : CrcParams) (reg : Nat) (bs : List Byte) : Nat := bs.foldl (crcByte p) reg

/-- The result as if the message ended here (R382). -/
def crcResult (p : CrcParams) (reg : Nat) : Nat :=
  (if p.refout then reflectBits p.width reg else reg) ^^^ p.xorout

/-- The check of a whole message. -/
def crcOf (p : CrcParams) (bs : List Byte) : Nat := crcResult p (crcFeed p p.init bs)

/-- CRC-8/SMBUS: Tether LINK, MARKER and RESTRIPE blocks (R142, R390). -/
def crc8Smbus : CrcParams := ⟨8, 0x07, 0, false, false, 0⟩

/-- CRC-16/IBM-3740: Louvre bodies and status frames (R111, R117, R390). -/
def crc16Ibm3740 : CrcParams := ⟨16, 0x1021, 0xFFFF, false, false, 0⟩

/-- CRC-16/XMODEM: the row checks Q(r, l) (R188, R390). -/
def crc16Xmodem : CrcParams := ⟨16, 0x1021, 0, false, false, 0⟩

/-- CRC-32C: Tether frames, segment headers, check blocks, Keel slots, Kite images, objects (R390). -/
def crc32cParams : CrcParams := ⟨32, 0x1EDC6F41, 0xFFFFFFFF, true, true, 0xFFFFFFFF⟩

/-- The CRC-32C of a message. -/
def crc32c (bs : List Byte) : Nat := crcOf crc32cParams bs

/-- Adler-32 over a message (RFC 1950, named by R247). -/
def adler32 (bs : List Byte) : Nat :=
  let ab := bs.foldl (fun (ab : Nat × Nat) b =>
    let a := (ab.1 + b.toNat) % 65521
    (a, (ab.2 + a) % 65521)) (1, 0)
  ab.2 * 65536 + ab.1

/-- Bytes of a number, least significant first. -/
def leBytes : Nat → Nat → List Byte
  | 0, _ => []
  | n + 1, x => BitVec.ofNat 8 x :: leBytes n (x / 256)

/-- Bytes of a number, most significant first. -/
def beBytes (n x : Nat) : List Byte := (leBytes n x).reverse

/-- The number that bytes spell, least significant first. -/
def leNat : List Byte → Nat
  | [] => 0
  | b :: t => b.toNat + 256 * leNat t

/-- The little-endian field of `n` bytes at offset `off` of a message; absent bytes read 0. -/
def leField (bs : List Byte) (off n : Nat) : Nat := leNat ((bs.drop off).take n)

/-- The check bytes of a buffer in the order of OUTBE (R387). -/
def checkBytes (n x : Nat) (be : Bool) : List Byte := if be then beBytes n x else leBytes n x

end Sys2Proof.Machine
end

