-- ==== Sys2Proof/Machine/Hsiao.lean ====
section
/-! DEFINITION. The (72,64) Hsiao code of the page store (R210, R211). -/

namespace Sys2Proof.Machine

/-- The number of 1 bits among the low `n` bits. -/
def weightBits : Nat → Nat → Nat
  | 0, _ => 0
  | n + 1, x => x % 2 + weightBits n (x / 2)

/-- The columns of d0 to d63: the 56 weight-3 bytes in ascending order, then the first eight weight-5 bytes (R210). -/
def hsiaoColumns : List Nat :=
  (List.range 256).filter (fun x => weightBits 8 x == 3) ++
    ((List.range 256).filter (fun x => weightBits 8 x == 5)).take 8

/-- The check byte of 64 data bits: the XOR of the columns of the bits that are 1 (R210). -/
def hsiaoCheckFrom : List Nat → Nat → Nat
  | [], _ => 0
  | c :: cs, d => (if d % 2 = 1 then c else 0) ^^^ hsiaoCheckFrom cs (d / 2)

/-- The check byte of 64 data bits (R210). -/
def hsiaoCheck (d : Nat) : Nat := hsiaoCheckFrom hsiaoColumns d

/-- What the controller makes of a received beat (R211). -/
inductive BeatResult where
  | clean (d : Nat)
  | corrected (d : Nat) (syndrome : Nat)
  | uncorrectable (d : Nat) (syndrome : Nat)
  deriving DecidableEq, Repr

/-- The data a beat result delivers. -/
def BeatResult.data : BeatResult → Nat
  | .clean d => d
  | .corrected d _ => d
  | .uncorrectable d _ => d

/-- Decode one received beat: 64 data bits and the check byte (R211). -/
def hsiaoDecode (d chk : Nat) : BeatResult :=
  let s := chk ^^^ hsiaoCheck d
  if s = 0 then .clean d
  else if weightBits 8 s = 1 then .corrected d s
  else if hsiaoColumns.contains s then .corrected (d ^^^ 2 ^ hsiaoColumns.idxOf s) s
  else .uncorrectable d s

end Sys2Proof.Machine
end

