-- ==== Sys2Proof/Config.lean ====
section
/-! DEFINITION. The free values: what the spec leaves open or does not state. Each is an opaque constant with no body,
applied to the counter `Dev.free` or to the operands it depends on, so that no proof can see a value of it. -/

namespace Sys2Proof

/-- A fresh value the spec does not state, one for each value of the counter `Dev.free`. -/
opaque Config.freeNat : Nat → Nat

/-- A value the spec does not state, by what it is a value of and by the operands it depends on. -/
opaque Config.unstated : (what operand : Nat) → Nat

/-- The 64-bit identifier programmed into the die at manufacture (R30). -/
opaque Config.uid : BitVec 64

/-- What a byte of a page store granule that nothing has initialised reads as (R215). -/
opaque Config.uninitByte : Nat → Byte

/-- A stretch of an encoder's deflate stream up to the end of the input or to a flush (the hash of R251 is not stated):
the settings, the bytes before the stretch, its bytes, and whether the stream ends with it. -/
opaque Config.deflatePart : (settings : Nat) → (before : List Byte) → List Byte → (last : Bool) → List Byte

/-- The verdict of an Ed25519 verification: public key, signature, message. -/
opaque Config.ed25519Ok : List Byte → List Byte → List Byte → Bool

/-- The version word the firmware answers PING with (R377). -/
opaque Config.firmwareVersion : Word

end Sys2Proof
end

