-- ==== Sys2Proof/Machine/RegNames.lean ====
section
/-! DEFINITION. The address of every register (one definition for each register name of the tables of spec/,
in the order of the chapters, with its instance numbers as arguments) and the place of every named field. -/

namespace Sys2Proof.Machine

/-! Registers of R30 (spec/01_architecture.md). -/
def GLB_ID : Nat := 0x0
def GLB_ID.DIE : Fld := ⟨16, 16⟩
def GLB_ID.MAJOR : Fld := ⟨4, 4⟩
def GLB_ID.MINOR : Fld := ⟨0, 4⟩
def GLB_CAP : Nat := 0x4
def GLB_CAP.CX_COUNT : Fld := ⟨28, 4⟩
def GLB_CAP.CAM_PORTS : Fld := ⟨24, 3⟩
def GLB_CAP.DX_COUNT : Fld := ⟨16, 5⟩
def GLB_CAP.TTH_LANES : Fld := ⟨8, 5⟩
def GLB_CAP.HC_COUNT : Fld := ⟨0, 7⟩
def GLB_FEAT : Nat := 0x8
def GLB_ISL_FAULT : Nat := 0xC
def GLB_ISL_FAULT.TETHER : Fld := ⟨0, 1⟩
def GLB_ISL_FAULT.FABRIC : Fld := ⟨1, 1⟩
def GLB_ISL_FAULT.MEM0 : Fld := ⟨2, 1⟩
def GLB_ISL_FAULT.MEM1 : Fld := ⟨3, 1⟩
def GLB_ISL_FAULT.INSPECT : Fld := ⟨4, 1⟩
def GLB_ISL_FAULT.TIME : Fld := ⟨5, 1⟩
def GLB_ISL_FAULT.ETHBRD : Fld := ⟨6, 1⟩
def GLB_ISL_FAULT.HC_ANY : Fld := ⟨7, 1⟩
def GLB_HC_FAULT0 : Nat := 0x10
def GLB_HC_FAULT1 : Nat := 0x14
def GLB_XING_TMO : Nat := 0x18
def GLB_XING_TMO.TIMEOUT : Fld := ⟨0, 16⟩
def GLB_FAULT_LAST : Nat := 0x1C
def GLB_FAULT_LAST.COUNT : Fld := ⟨16, 16⟩
def GLB_FAULT_LAST.SOURCE : Fld := ⟨8, 8⟩
def GLB_FAULT_LAST.ISLAND : Fld := ⟨0, 8⟩
def GLB_SCRATCH : Nat := 0x20
def GLB_UID_LO : Nat := 0x28
def GLB_UID_HI : Nat := 0x2C
/-! Registers of R53 (spec/02_print_plane.md). -/
def HC_GEOM_NOZ (n : Nat) : Nat := 0x100000 + 0x4000 * n
def HC_GEOM_NOZ.USED : Fld := ⟨31, 1⟩
def HC_GEOM_NOZ.COLOUR : Fld := ⟨28, 3⟩
def HC_GEOM_NOZ.STRIDE : Fld := ⟨25, 2⟩
def HC_GEOM_NOZ.MIRROR : Fld := ⟨24, 1⟩
def HC_GEOM_NOZ.BLOCKED : Fld := ⟨23, 1⟩
def HC_GEOM_NOZ.ROWS : Fld := ⟨16, 3⟩
def HC_GEOM_NOZ.NOZZLES : Fld := ⟨0, 13⟩
def HC_GEOM_X (n : Nat) : Nat := 0x100004 + 0x4000 * n
def HC_ROWOFF0 (n : Nat) : Nat := 0x100008 + 0x4000 * n
def HC_ROWOFF1 (n : Nat) : Nat := 0x10000C + 0x4000 * n
def HC_ROWOFF2 (n : Nat) : Nat := 0x100010 + 0x4000 * n
def HC_OVL (n : Nat) : Nat := 0x100014 + 0x4000 * n
def HC_OVL.MODE : Fld := ⟨28, 1⟩
def HC_OVL.SPLIT : Fld := ⟨18, 10⟩
def HC_OVL.WIDTH : Fld := ⟨8, 10⟩
def HC_OVL.VALID : Fld := ⟨7, 1⟩
def HC_OVL.PARTNER : Fld := ⟨0, 6⟩
def HC_ROWDLY (n : Nat) : Nat := 0x100018 + 0x4000 * n
def HC_ROWDLY_NEXT (n : Nat) : Nat := 0x10001C + 0x4000 * n
def HC_ROWDLY_AT_LO (n : Nat) : Nat := 0x100020 + 0x4000 * n
def HC_ROWDLY_AT_HI (n : Nat) : Nat := 0x100024 + 0x4000 * n
def HC_ROWDLY_AT_HI.ARM : Fld := ⟨31, 1⟩
def HC_ROWDLY_AT_HI.LINE_HI : Fld := ⟨0, 8⟩
def HC_GEOM_STS (n : Nat) : Nat := 0x100028 + 0x4000 * n
def HC_GEOM_STS.DROPPED : Fld := ⟨3, 1⟩
def HC_GEOM_STS.REJECT : Fld := ⟨2, 1⟩
def HC_GEOM_STS.LATE : Fld := ⟨1, 1⟩
def HC_GEOM_STS.PENDING : Fld := ⟨0, 1⟩
/-! Registers of R79 (spec/03_web_pacing.md). -/
def PAC_CFG : Nat := 0xB0000
def PAC_CFG.EXP_GPIO : Fld := ⟨10, 4⟩
def PAC_CFG.EXP_EN : Fld := ⟨9, 1⟩
def PAC_CFG.LOSS_STOP : Fld := ⟨8, 1⟩
def PAC_CFG.BW : Fld := ⟨5, 3⟩
def PAC_CFG.BKP : Fld := ⟨3, 2⟩
def PAC_CFG.SRC : Fld := ⟨1, 2⟩
def PAC_CFG.EN : Fld := ⟨0, 1⟩
def PAC_STS : Nat := 0xB0004
def PAC_STS.REJ_WHY : Fld := ⟨8, 4⟩
def PAC_STS.DIR : Fld := ⟨5, 1⟩
def PAC_STS.ON_BACKUP : Fld := ⟨4, 1⟩
def PAC_STS.LOCK : Fld := ⟨3, 1⟩
def PAC_STS.STATE : Fld := ⟨0, 3⟩
def PAC_EVT : Nat := 0xB0008
def PAC_EVT.LOCKLOST : Fld := ⟨10, 1⟩
def PAC_EVT.CMDREJ : Fld := ⟨9, 1⟩
def PAC_EVT.INSTUCK : Fld := ⟨8, 1⟩
def PAC_EVT.INRATE : Fld := ⟨7, 1⟩
def PAC_EVT.QERR : Fld := ⟨6, 1⟩
def PAC_EVT.ZERR : Fld := ⟨5, 1⟩
def PAC_EVT.DIV : Fld := ⟨4, 1⟩
def PAC_EVT.STOP : Fld := ⟨3, 1⟩
def PAC_EVT.LOSS : Fld := ⟨2, 1⟩
def PAC_EVT.SWITCH : Fld := ⟨1, 1⟩
def PAC_EVT.REVERSE : Fld := ⟨0, 1⟩
def PAC_CMD : Nat := 0xB000C
def PAC_CMD.ZDISARM : Fld := ⟨3, 1⟩
def PAC_CMD.RESTORE : Fld := ⟨2, 1⟩
def PAC_CMD.ZARM : Fld := ⟨1, 1⟩
def PAC_CMD.ZERO : Fld := ⟨0, 1⟩
def PAC_RATIO_ENC0_LO : Nat := 0xB0010
def PAC_RATIO_ENC0_HI : Nat := 0xB0014
def PAC_RATIO_ENC1_LO : Nat := 0xB0018
def PAC_RATIO_ENC1_HI : Nat := 0xB001C
def PAC_RATIO_STEP0_LO : Nat := 0xB0020
def PAC_RATIO_STEP0_HI : Nat := 0xB0024
def PAC_RATIO_STEP1_LO : Nat := 0xB0028
def PAC_RATIO_STEP1_HI : Nat := 0xB002C
def PAC_BACKLASH : Nat := 0xB0030
def PAC_BACKLASH.WINDOW : Fld := ⟨0, 4⟩
def PAC_LOSS : Nat := 0xB0034
def PAC_LOSS.DIV_TOL : Fld := ⟨24, 8⟩
def PAC_LOSS.COAST : Fld := ⟨20, 4⟩
def PAC_LOSS.SWITCH_N : Fld := ⟨16, 4⟩
def PAC_LOSS.TIME : Fld := ⟨0, 16⟩
def PAC_VMIN : Nat := 0xB0038
def PAC_ENC_CFG : Nat := 0xB003C
def PAC_ENC_CFG.ENC1_REV : Fld := ⟨10, 1⟩
def PAC_ENC_CFG.ENC1_DEC : Fld := ⟨8, 2⟩
def PAC_ENC_CFG.ENC0_REV : Fld := ⟨2, 1⟩
def PAC_ENC_CFG.ENC0_DEC : Fld := ⟨0, 2⟩
def PAC_POS_LO : Nat := 0xB0040
def PAC_POS_HI : Nat := 0xB0044
def PAC_VEL : Nat := 0xB0048
def PAC_ERR : Nat := 0xB004C
def PAC_HWM_LO : Nat := 0xB0050
def PAC_HWM_HI : Nat := 0xB0054
def PAC_PRESET_LO : Nat := 0xB0058
def PAC_PRESET_HI : Nat := 0xB005C
def PAC_REV : Nat := 0xB0060
def PAC_REV.COUNT : Fld := ⟨16, 16⟩
def PAC_REV.DEPTH : Fld := ⟨0, 16⟩
def PAC_ERRCNT : Nat := 0xB0064
def PAC_ERRCNT.DIV_CNT : Fld := ⟨16, 16⟩
def PAC_ERRCNT.QERR_CNT : Fld := ⟨0, 16⟩
def PAC_OFFSET : Nat := 0xB0068
def PAC_ZCPR : Nat := 0xB006C
def PAC_ZCPR.CPR : Fld := ⟨0, 24⟩
def PAC_ZMEAS0 : Nat := 0xB0070
def PAC_ZMEAS1 : Nat := 0xB0074
def PAC_ADV : Nat := 0xB0078
def PAC_ADV_CFG : Nat := 0xB007C
def PAC_ADV_CFG.SETTLE : Fld := ⟨16, 16⟩
def PAC_ADV_CFG.IDLE : Fld := ⟨3, 1⟩
def PAC_ADV_CFG.ZERO : Fld := ⟨2, 1⟩
def PAC_ADV_CFG.SRC : Fld := ⟨0, 2⟩
def PAC_CNT (i : Nat) : Nat := 0xB0080 + 0x4 * i
def PAC_IN_CFG (i : Nat) : Nat := 0xB0100 + 0x10 * i
def PAC_IN_CFG.POL : Fld := ⟨8, 1⟩
def PAC_IN_CFG.FILT : Fld := ⟨0, 8⟩
def PAC_IN_LIM (i : Nat) : Nat := 0xB0104 + 0x10 * i
def PAC_IN_LIM.MIN_GAP : Fld := ⟨0, 16⟩
def PAC_IN_STUCK (i : Nat) : Nat := 0xB0108 + 0x10 * i
def PAC_IN_STUCK.RELEASE : Fld := ⟨16, 16⟩
def PAC_IN_STUCK.MAX_ACTIVE : Fld := ⟨0, 16⟩
def PAC_IN_STS (i : Nat) : Nat := 0xB010C + 0x10 * i
def PAC_IN_STS.RATE_CNT : Fld := ⟨16, 16⟩
def PAC_IN_STS.LEVEL : Fld := ⟨3, 1⟩
def PAC_IN_STS.STUCK_NOW : Fld := ⟨2, 1⟩
def PAC_IN_STS.STUCK : Fld := ⟨1, 1⟩
def PAC_IN_STS.RATE : Fld := ⟨0, 1⟩
/-! Registers of R102 (spec/04_firing.md). -/
def FIR_CFG : Nat := 0xB0200
def FIR_CFG.SCAN : Fld := ⟨16, 1⟩
def FIR_CFG.SKIP_MAX : Fld := ⟨8, 8⟩
def FIR_CFG.WAIT_ADV : Fld := ⟨3, 1⟩
def FIR_CFG.INH_STOP : Fld := ⟨2, 1⟩
def FIR_CFG.OVS_STOP : Fld := ⟨1, 1⟩
def FIR_CFG.NEED_LOCK : Fld := ⟨0, 1⟩
def FIR_START : Nat := 0xB0204
def FIR_START.MARGIN : Fld := ⟨8, 24⟩
def FIR_START.TRG : Fld := ⟨4, 4⟩
def FIR_START.PD : Fld := ⟨2, 2⟩
def FIR_START.MODE : Fld := ⟨0, 2⟩
def FIR_START_POS_LO : Nat := 0xB0208
def FIR_START_POS_HI : Nat := 0xB020C
def FIR_CMD : Nat := 0xB0210
def FIR_CMD.PASS_ABORT : Fld := ⟨4, 1⟩
def FIR_CMD.PASS_GO : Fld := ⟨3, 1⟩
def FIR_CMD.STOP : Fld := ⟨2, 1⟩
def FIR_CMD.DISARM : Fld := ⟨1, 1⟩
def FIR_CMD.ARM : Fld := ⟨0, 1⟩
def FIR_STS : Nat := 0xB0214
def FIR_STS.STOP_WHY : Fld := ⟨8, 4⟩
def FIR_STS.PASS_ARMED : Fld := ⟨6, 1⟩
def FIR_STS.PASS_DIR : Fld := ⟨5, 1⟩
def FIR_STS.PASS_ACTIVE : Fld := ⟨4, 1⟩
def FIR_STS.INH_NOW : Fld := ⟨3, 1⟩
def FIR_STS.JOB : Fld := ⟨0, 3⟩
def FIR_EVT : Nat := 0xB0218
def FIR_EVT.PASS_REJ : Fld := ⟨9, 1⟩
def FIR_EVT.PASS_DONE : Fld := ⟨8, 1⟩
def FIR_EVT.PASS_START : Fld := ⟨7, 1⟩
def FIR_EVT.DONE : Fld := ⟨6, 1⟩
def FIR_EVT.STOPPED : Fld := ⟨5, 1⟩
def FIR_EVT.INHIBIT : Fld := ⟨4, 1⟩
def FIR_EVT.OVERSPEED : Fld := ⟨3, 1⟩
def FIR_EVT.START_LATE : Fld := ⟨2, 1⟩
def FIR_EVT.START_REJ : Fld := ⟨1, 1⟩
def FIR_EVT.STARTED : Fld := ⟨0, 1⟩
def FIR_S_LO : Nat := 0xB021C
def FIR_S_HI : Nat := 0xB0220
def FIR_OVS0 : Nat := 0xB0224
def FIR_OVS1 : Nat := 0xB0228
def FIR_PASS : Nat := 0xB022C
def FIR_PASS.DIR : Fld := ⟨20, 1⟩
def FIR_PASS.PASS : Fld := ⟨0, 20⟩
def FIR_PASS_FIRST : Nat := 0xB0230
def FIR_PASS_LAST : Nat := 0xB0234
def FIR_ILACE : Nat := 0xB0238
def FIR_ILACE.NPASS : Fld := ⟨0, 5⟩
def FIR_MASK (j : Nat) : Nat := 0xB0240 + 0x4 * j
def FIR_MASK.LINE_MASK : Fld := ⟨0, 8⟩
def FIR_INH_CNT : Nat := 0xB0280
/-! Registers of R104 (spec/04_firing.md). -/
def HC_FIR_CFG (n : Nat) : Nat := 0x100040 + 0x4000 * n
def HC_FIR_CFG.DELAY : Fld := ⟨8, 12⟩
def HC_FIR_CFG.SHUTTER : Fld := ⟨0, 8⟩
def HC_FIR_MININT (n : Nat) : Nat := 0x100044 + 0x4000 * n
def HC_FIR_MININT.MIN_INT : Fld := ⟨0, 20⟩
def HC_FIR_MININT_EFF (n : Nat) : Nat := 0x100048 + 0x4000 * n
def HC_FIR_MININT_EFF.I_ : Fld := ⟨0, 20⟩
def HC_ALIGN (n : Nat) : Nat := 0x10004C + 0x4000 * n
def HC_FIR_STS (n : Nat) : Nat := 0x100050 + 0x4000 * n
def HC_FIR_STS.DONE : Fld := ⟨6, 1⟩
def HC_FIR_STS.RAISED : Fld := ⟨5, 1⟩
def HC_FIR_STS.HOLD : Fld := ⟨4, 1⟩
def HC_FIR_STS.INH : Fld := ⟨3, 1⟩
def HC_FIR_STS.LATE : Fld := ⟨2, 1⟩
def HC_FIR_STS.SKIP : Fld := ⟨1, 1⟩
def HC_FIR_STS.OVERSPEED : Fld := ⟨0, 1⟩
def HC_LINE_LO (n : Nat) : Nat := 0x100054 + 0x4000 * n
def HC_LINE_HI (n : Nat) : Nat := 0x100058 + 0x4000 * n
def HC_FIRE_CNT (n : Nat) : Nat := 0x10005C + 0x4000 * n
def HC_SKIP_CNT (n : Nat) : Nat := 0x100060 + 0x4000 * n
def HC_LATE_CNT (n : Nat) : Nat := 0x100064 + 0x4000 * n
def HC_INH_CNT (n : Nat) : Nat := 0x100068 + 0x4000 * n
def HC_LATE_MAX (n : Nat) : Nat := 0x10006C + 0x4000 * n
def HC_LATE_MAX.MAX_WAIT : Fld := ⟨0, 24⟩
def HC_SKIP_LAST_LO (n : Nat) : Nat := 0x100070 + 0x4000 * n
def HC_SKIP_LAST_HI (n : Nat) : Nat := 0x100074 + 0x4000 * n
/-! Registers of R137 (spec/05_louvre_waveforms.md). -/
def HC_LVR_CFG (n : Nat) : Nat := 0x100080 + 0x4000 * n
def HC_LVR_CFG.ALIGN : Fld := ⟨20, 8⟩
def HC_LVR_CFG.VER_MAX : Fld := ⟨16, 4⟩
def HC_LVR_CFG.STB_W : Fld := ⟨4, 8⟩
def HC_LVR_CFG.EN : Fld := ⟨0, 1⟩
def HC_LVR_STS (n : Nat) : Nat := 0x100084 + 0x4000 * n
def HC_LVR_STS.OVERTEMP : Fld := ⟨14, 1⟩
def HC_LVR_STS.HEAD_FAULT : Fld := ⟨13, 1⟩
def HC_LVR_STS.HEAD_PRESENT : Fld := ⟨12, 1⟩
def HC_LVR_STS.PENDING : Fld := ⟨9, 1⟩
def HC_LVR_STS.BANK : Fld := ⟨8, 1⟩
def HC_LVR_STS.VER : Fld := ⟨4, 2⟩
def HC_LVR_STS.STATE : Fld := ⟨0, 3⟩
def HC_LVR_EVT (n : Nat) : Nat := 0x100088 + 0x4000 * n
def HC_LVR_EVT.VERLOW : Fld := ⟨8, 1⟩
def HC_LVR_EVT.BANK_REJ : Fld := ⟨7, 1⟩
def HC_LVR_EVT.BANK_LATE : Fld := ⟨6, 1⟩
def HC_LVR_EVT.BLANKLATE : Fld := ⟨5, 1⟩
def HC_LVR_EVT.BRIDGE_ERR : Fld := ⟨4, 1⟩
def HC_LVR_EVT.CODEERR : Fld := ⟨3, 1⟩
def HC_LVR_EVT.RETCRC : Fld := ⟨2, 1⟩
def HC_LVR_EVT.UP : Fld := ⟨1, 1⟩
def HC_LVR_EVT.DOWN : Fld := ⟨0, 1⟩
def HC_LVR_CMD (n : Nat) : Nat := 0x10008C + 0x4000 * n
def HC_LVR_CMD.RESTART : Fld := ⟨0, 1⟩
def HC_LVR_TEMP (n : Nat) : Nat := 0x100090 + 0x4000 * n
def HC_LVR_TEMP.TEMP : Fld := ⟨0, 16⟩
def HC_LVR_HSTAT (n : Nat) : Nat := 0x100094 + 0x4000 * n
def HC_LVR_HSTAT.FIRED : Fld := ⟨16, 16⟩
def HC_LVR_HSTAT.CODE : Fld := ⟨0, 16⟩
def HC_LVR_ERRCNT (n : Nat) : Nat := 0x100098 + 0x4000 * n
def HC_LVR_ERRCNT.CRCERR : Fld := ⟨0, 16⟩
def HC_LVR_MISS (n : Nat) : Nat := 0x10009C + 0x4000 * n
def HC_LVR_MISS.MISS : Fld := ⟨0, 16⟩
def HC_LVR_BANK_AT_LO (n : Nat) : Nat := 0x1000A0 + 0x4000 * n
def HC_LVR_BANK_AT_HI (n : Nat) : Nat := 0x1000A4 + 0x4000 * n
def HC_LVR_BANK_AT_HI.ARM : Fld := ⟨31, 1⟩
def HC_LVR_HOLDCNT (n : Nat) : Nat := 0x1000A8 + 0x4000 * n
def HC_LVR_HOLDCNT.HOLD_ON : Fld := ⟨0, 16⟩
def HC_LVR_ID (n : Nat) : Nat := 0x1000AC + 0x4000 * n
def HC_LVR_ID.NMAX : Fld := ⟨2, 14⟩
def HC_LVR_ID.CAPS : Fld := ⟨0, 2⟩
/-! Registers of R138 (spec/05_louvre_waveforms.md). -/
def WAV_SEL (n : Nat) : Nat := 0x1000C0 + 0x4000 * n
def WAV_SEL.WFB : Fld := ⟨4, 4⟩
def WAV_SEL.WFA : Fld := ⟨0, 4⟩
def WAV_SEL_NEXT (n : Nat) : Nat := 0x1000C4 + 0x4000 * n
def WAV_SEL_NEXT.WFB : Fld := ⟨4, 4⟩
def WAV_SEL_NEXT.WFA : Fld := ⟨0, 4⟩
def WAV_REST (n : Nat) : Nat := 0x1000C8 + 0x4000 * n
def WAV_REST.REST_B : Fld := ⟨16, 14⟩
def WAV_REST.REST_A : Fld := ⟨0, 14⟩
def WAV_TRIM_A (n : Nat) : Nat := 0x1000CC + 0x4000 * n
def WAV_TRIM_A.OFFSET : Fld := ⟨16, 12⟩
def WAV_TRIM_A.GAIN : Fld := ⟨0, 12⟩
def WAV_TRIM_B (n : Nat) : Nat := 0x1000D0 + 0x4000 * n
def WAV_TRIM_B.OFFSET : Fld := ⟨16, 12⟩
def WAV_TRIM_B.GAIN : Fld := ⟨0, 12⟩
def WAV_GREY_NEXT0 (n : Nat) : Nat := 0x1000D4 + 0x4000 * n
def WAV_GREY_NEXT1 (n : Nat) : Nat := 0x1000D8 + 0x4000 * n
def WAV_GREY0 (n : Nat) : Nat := 0x1000DC + 0x4000 * n
def WAV_GREY1 (n : Nat) : Nat := 0x1000E0 + 0x4000 * n
def WAV_STS (n : Nat) : Nat := 0x1000E4 + 0x4000 * n
def WAV_STS.ERR_OUT : Fld := ⟨13, 1⟩
def WAV_STS.ERR_SEG : Fld := ⟨8, 5⟩
def WAV_STS.TABLE_ERR : Fld := ⟨2, 1⟩
def WAV_STS.BUSYWR : Fld := ⟨1, 1⟩
def WAV_STS.CLIP : Fld := ⟨0, 1⟩
def WAV_LEN (n : Nat) : Nat := 0x1000E8 + 0x4000 * n
def WAV_CLASS_NEXT (n j : Nat) : Nat := 0x100800 + 0x4000 * n + 0x4 * j
def WAV_CLASS (n j : Nat) : Nat := 0x100A00 + 0x4000 * n + 0x4 * j
def WAV_SEG (n i : Nat) : Nat := 0x101000 + 0x4000 * n + 0x4 * i
def WAV_SEG.SLOT : Fld := ⟨29, 3⟩
def WAV_SEG.LEVEL : Fld := ⟨15, 14⟩
def WAV_SEG.DUR : Fld := ⟨0, 15⟩
/-! Registers of R168 (spec/06_tether.md). -/
def TTH_CFG : Nat := 0x20000
def TTH_CFG.VER_MIN : Fld := ⟨20, 4⟩
def TTH_CFG.VER_MAX : Fld := ⟨16, 4⟩
def TTH_CFG.MIN_LANES : Fld := ⟨8, 5⟩
def TTH_CFG.EQ_FIXED : Fld := ⟨3, 1⟩
def TTH_CFG.RATE : Fld := ⟨1, 2⟩
def TTH_CFG.EN : Fld := ⟨0, 1⟩
def TTH_STS : Nat := 0x20004
def TTH_STS.EPOCH : Fld := ⟨24, 8⟩
def TTH_STS.DEGRADED : Fld := ⟨16, 1⟩
def TTH_STS.LANES : Fld := ⟨8, 5⟩
def TTH_STS.VER : Fld := ⟨4, 2⟩
def TTH_STS.LINK : Fld := ⟨0, 3⟩
def TTH_EVT : Nat := 0x20008
def TTH_EVT.TRAIN_TMO : Fld := ⟨9, 1⟩
def TTH_EVT.PROTO : Fld := ⟨8, 1⟩
def TTH_EVT.REPLAY_MAX : Fld := ⟨7, 1⟩
def TTH_EVT.REPLAY : Fld := ⟨6, 1⟩
def TTH_EVT.HELLO_TMO : Fld := ⟨5, 1⟩
def TTH_EVT.VERLOW : Fld := ⟨4, 1⟩
def TTH_EVT.EQ_FAIL : Fld := ⟨3, 1⟩
def TTH_EVT.LANE_LOST : Fld := ⟨2, 1⟩
def TTH_EVT.DOWN : Fld := ⟨1, 1⟩
def TTH_EVT.UP : Fld := ⟨0, 1⟩
def TTH_CMD : Nat := 0x2000C
def TTH_CMD.RETRAIN : Fld := ⟨0, 1⟩
def TTH_MASK : Nat := 0x20010
def TTH_TMO : Nat := 0x20014
def TTH_TMO.TRAIN_TMO : Fld := ⟨28, 4⟩
def TTH_TMO.HELLO_TMO : Fld := ⟨24, 4⟩
def TTH_TMO.REPLAY_MAX : Fld := ⟨16, 8⟩
def TTH_TMO.REPLAY_TMO : Fld := ⟨0, 16⟩
def TTH_PEER : Nat := 0x20018
def TTH_PEER.RXMASK : Fld := ⟨16, 16⟩
def TTH_PEER.MAXPAY : Fld := ⟨8, 8⟩
def TTH_PEER.PAIR : Fld := ⟨4, 4⟩
def TTH_PEER.VER_MAX : Fld := ⟨0, 4⟩
def TTH_PEER_UID_LO : Nat := 0x2001C
def TTH_PEER_UID_HI : Nat := 0x20020
def TTH_SEQ : Nat := 0x20024
def TTH_REPLAY : Nat := 0x20028
def TTH_REPLAY_FR : Nat := 0x2002C
def TTH_CNT_RX : Nat := 0x20030
def TTH_CNT_RX.NAK : Fld := ⟨0, 16⟩
def TTH_CNT_TX : Nat := 0x20034
def TTH_PROTO : Nat := 0x20038
def TTH_TXCRED (v : Nat) : Nat := 0x20040 + 0x4 * v
def TTH_TXCRED.LIMIT : Fld := ⟨0, 16⟩
def TTH_LANE_CFG (k : Nat) : Nat := 0x20100 + 0x10 * k
def TTH_LANE_CFG.DISABLE : Fld := ⟨4, 1⟩
def TTH_LANE_CFG.CTLE : Fld := ⟨0, 4⟩
def TTH_LANE_STS (k : Nat) : Nat := 0x20104 + 0x10 * k
def TTH_LANE_STS.EQ_FAIL : Fld := ⟨24, 1⟩
def TTH_LANE_STS.SKEW : Fld := ⟨16, 6⟩
def TTH_LANE_STS.SKEWERR : Fld := ⟨15, 1⟩
def TTH_LANE_STS.POLINV : Fld := ⟨14, 1⟩
def TTH_LANE_STS.LANE : Fld := ⟨8, 4⟩
def TTH_LANE_STS.CTLE : Fld := ⟨4, 4⟩
def TTH_LANE_STS.STATE : Fld := ⟨0, 3⟩
def TTH_LANE_ERR (k : Nat) : Nat := 0x20108 + 0x10 * k
def TTH_LANE_ERR.BADHDR : Fld := ⟨16, 16⟩
def TTH_LANE_ERR.LOCKLOSS : Fld := ⟨8, 8⟩
def TTH_LANE_ERR.BADBLK : Fld := ⟨0, 8⟩
def TTH_LANE_EQ (k : Nat) : Nat := 0x2010C + 0x10 * k
/-! Registers of R202 (spec/07_raster_flow.md). -/
def CMP_RFL_CFG : Nat := 0x40000
def CMP_RFL_CFG.REREQ_EN : Fld := ⟨31, 1⟩
def CMP_RFL_CFG.REREQ_TRIES : Fld := ⟨28, 3⟩
def CMP_RFL_CFG.AVERIFY_EN : Fld := ⟨27, 1⟩
def CMP_RFL_CFG.VOID_PAUSE : Fld := ⟨0, 16⟩
def CMP_RFL_STS : Nat := 0x40004
def CMP_RFL_STS.CREDIT_HELD : Fld := ⟨21, 1⟩
def CMP_RFL_STS.JOBS : Fld := ⟨16, 5⟩
def CMP_RFL_STS.SEG_FREE : Fld := ⟨0, 16⟩
def CMP_RFL_EVT : Nat := 0x40008
def CMP_RFL_EVT.OPEN_LOST : Fld := ⟨9, 1⟩
def CMP_RFL_EVT.POOL_SHORT : Fld := ⟨8, 1⟩
def CMP_RFL_EVT.STORE_FULL : Fld := ⟨7, 1⟩
def CMP_RFL_EVT.RETIRED : Fld := ⟨6, 1⟩
def CMP_RFL_EVT.REREQ_NO : Fld := ⟨5, 1⟩
def CMP_RFL_EVT.REREQ : Fld := ⟨4, 1⟩
def CMP_RFL_EVT.PAUSED : Fld := ⟨3, 1⟩
def CMP_RFL_EVT.VOID : Fld := ⟨2, 1⟩
def CMP_RFL_EVT.SEG_REJ : Fld := ⟨0, 1⟩
def CMP_RFL_CMD : Nat := 0x4000C
def CMP_RFL_CMD.RESUME : Fld := ⟨0, 1⟩
def CMP_RESUME_LO : Nat := 0x40010
def CMP_RESUME_HI : Nat := 0x40014
def CMP_REREQ_CFG : Nat := 0x40018
def CMP_REREQ_CFG.MIN_SLACK : Fld := ⟨0, 16⟩
def CMP_OPEN_KEEP : Nat := 0x4001C
def CMP_VC1_MAX : Nat := 0x40020
def CMP_STORE_EXT : Nat := 0x40024
def CMP_STORE_EXT.HAVE : Fld := ⟨0, 28⟩
def CMP_STORE_FREE : Nat := 0x40028
def CMP_STORE_NEED : Nat := 0x4002C
def CMP_STORE_NEED.NEED : Fld := ⟨0, 28⟩
def CMP_FRONT_LO : Nat := 0x40030
def CMP_FRONT_HI : Nat := 0x40034
def CMP_JOB_HEAD : Nat := 0x40038
def CMP_SEGREJ : Nat := 0x4003C
def CMP_REREQ_CNT : Nat := 0x40040
def CMP_REREQ_CNT.REREQ : Fld := ⟨16, 16⟩
def CMP_REREQ_CNT.REREQ_NO : Fld := ⟨0, 16⟩
def CMP_AVERIFY_CNT : Nat := 0x40044
/-! Registers of R203 (spec/07_raster_flow.md). -/
def HC_RFL_STS (n : Nat) : Nat := 0x100100 + 0x4000 * n
def HC_RFL_STS.LC : Fld := ⟨24, 8⟩
def HC_RFL_STS.DISPATCHED : Fld := ⟨0, 1⟩
def HC_RFL_EVT (n : Nat) : Nat := 0x100104 + 0x4000 * n
def HC_RFL_EVT.RUNPAUSE : Fld := ⟨4, 1⟩
def HC_RFL_EVT.ABANDON : Fld := ⟨3, 1⟩
def HC_RFL_EVT.AVFAIL : Fld := ⟨2, 1⟩
def HC_RFL_EVT.CHKFAIL : Fld := ⟨1, 1⟩
def HC_RFL_EVT.VOID : Fld := ⟨0, 1⟩
def HC_RFL_VOID_CNT (n : Nat) : Nat := 0x100108 + 0x4000 * n
def HC_RFL_VOID_RUN (n : Nat) : Nat := 0x10010C + 0x4000 * n
def HC_RFL_VOID_LAST_LO (n : Nat) : Nat := 0x100110 + 0x4000 * n
def HC_RFL_VOID_LAST_HI (n : Nat) : Nat := 0x100114 + 0x4000 * n
def HC_RFL_CHK_CNT (n : Nat) : Nat := 0x100118 + 0x4000 * n
/-! Registers of R230 (spec/08_page_store_memory.md). -/
def MEM_CFG (n : Nat) : Nat := 0x30000 + 0x800 * n
def MEM_CFG.PRESENT : Fld := ⟨12, 1⟩
def MEM_CFG.GRAIN : Fld := ⟨8, 4⟩
def MEM_CFG.BIN_MAX : Fld := ⟨4, 3⟩
def MEM_CFG.RANKS : Fld := ⟨3, 1⟩
def MEM_CFG.DENSITY : Fld := ⟨1, 2⟩
def MEM_CFG.WIDTH : Fld := ⟨0, 1⟩
def MEM_STS (n : Nat) : Nat := 0x30004 + 0x800 * n
def MEM_STS.RANKPD : Fld := ⟨24, 2⟩
def MEM_STS.QDEPTH : Fld := ⟨16, 7⟩
def MEM_STS.HOT : Fld := ⟨13, 1⟩
def MEM_STS.INIT_DONE : Fld := ⟨12, 1⟩
def MEM_STS.STEP_DUE : Fld := ⟨11, 1⟩
def MEM_STS.RETRAIN_DUE : Fld := ⟨10, 1⟩
def MEM_STS.FLOOR : Fld := ⟨9, 1⟩
def MEM_STS.DEGRADED : Fld := ⟨8, 1⟩
def MEM_STS.STATE : Fld := ⟨4, 3⟩
def MEM_STS.BIN : Fld := ⟨0, 3⟩
def MEM_EVT (n : Nat) : Nat := 0x30008 + 0x800 * n
def MEM_EVT.CMD_REJ : Fld := ⟨9, 1⟩
def MEM_EVT.SCRUB_PASS : Fld := ⟨8, 1⟩
def MEM_EVT.INIT_DONE : Fld := ⟨7, 1⟩
def MEM_EVT.FREQ_DONE : Fld := ⟨6, 1⟩
def MEM_EVT.RETRAINED : Fld := ⟨5, 1⟩
def MEM_EVT.STEPDOWN : Fld := ⟨4, 1⟩
def MEM_EVT.TRAIN_FAIL : Fld := ⟨3, 1⟩
def MEM_EVT.CE_RATE : Fld := ⟨2, 1⟩
def MEM_EVT.UE : Fld := ⟨1, 1⟩
def MEM_EVT.CE : Fld := ⟨0, 1⟩
def MEM_CMD (n : Nat) : Nat := 0x3000C + 0x800 * n
def MEM_CMD.BIN : Fld := ⟨4, 3⟩
def MEM_CMD.SETBIN : Fld := ⟨1, 1⟩
def MEM_CMD.RETRAIN : Fld := ⟨0, 1⟩
def MEM_CE_CFG (n : Nat) : Nat := 0x30010 + 0x800 * n
def MEM_CE_CFG.WINDOW : Fld := ⟨16, 8⟩
def MEM_CE_CFG.THRESH : Fld := ⟨0, 16⟩
def MEM_CE_CNT (n : Nat) : Nat := 0x30014 + 0x800 * n
def MEM_UE_CNT (n : Nat) : Nat := 0x30018 + 0x800 * n
def MEM_UE_CNT.SCRUB_UE : Fld := ⟨16, 16⟩
def MEM_CE_ADDR_LO (n : Nat) : Nat := 0x3001C + 0x800 * n
def MEM_CE_ADDR_HI (n : Nat) : Nat := 0x30020 + 0x800 * n
def MEM_CE_ADDR_HI.RANK : Fld := ⟨20, 1⟩
def MEM_CE_ADDR_HI.BEAT : Fld := ⟨16, 4⟩
def MEM_CE_ADDR_HI.SYNDROME : Fld := ⟨8, 8⟩
def MEM_CE_ADDR_HI.ADDR_HI : Fld := ⟨0, 4⟩
def MEM_UE_ADDR_LO (n : Nat) : Nat := 0x30024 + 0x800 * n
def MEM_UE_ADDR_HI (n : Nat) : Nat := 0x30028 + 0x800 * n
def MEM_PD_CFG (n : Nat) : Nat := 0x3002C + 0x800 * n
def MEM_PD_CFG.IDLE : Fld := ⟨0, 16⟩
def MEM_SCRUB_CFG (n : Nat) : Nat := 0x30030 + 0x800 * n
def MEM_SCRUB_CFG.PERIOD : Fld := ⟨8, 8⟩
def MEM_SCRUB_CFG.EN : Fld := ⟨0, 1⟩
def MEM_SCRUB_POS (n : Nat) : Nat := 0x30034 + 0x800 * n
def MEM_SCRUB_POS.PASSES : Fld := ⟨24, 8⟩
def MEM_INIT_PTR (n : Nat) : Nat := 0x30038 + 0x800 * n
def MEM_INIT_PTR.MEM_INIT_PTR : Fld := ⟨0, 20⟩
def MEM_TRAIN (n : Nat) : Nat := 0x3003C + 0x800 * n
def MEM_TRAIN.RETRAINS : Fld := ⟨8, 8⟩
def MEM_TRAIN.FAIL_STEP : Fld := ⟨4, 4⟩
def MEM_TRAIN.STEP : Fld := ⟨0, 4⟩
def MEM_RETRAIN_CFG (n : Nat) : Nat := 0x30040 + 0x800 * n
def MEM_RETRAIN_CFG.OSC_PERIOD : Fld := ⟨8, 8⟩
def MEM_RETRAIN_CFG.DRIFT_TH : Fld := ⟨0, 8⟩
def MEM_DRIFT (n : Nat) : Nat := 0x30044 + 0x800 * n
def MEM_BW (n : Nat) : Nat := 0x30048 + 0x800 * n
def MEM_STARVE (n : Nat) : Nat := 0x3004C + 0x800 * n
/-! Registers of R254 (spec/09_spool.md). -/
def CMP_DX_RETIRED : Nat := 0x40100
def CMP_DX_BUSY : Nat := 0x40104
def CMP_DECERR : Nat := 0x40108
def CMP_DECERR.COUNT : Fld := ⟨20, 12⟩
def CMP_DECERR.ENGINE : Fld := ⟨16, 4⟩
def CMP_DECERR.CHANNEL : Fld := ⟨8, 6⟩
def CMP_DECERR.CODE : Fld := ⟨0, 4⟩
def CMP_DECERR_BLK_LO : Nat := 0x4010C
def CMP_DECERR_BLK_HI : Nat := 0x40110
def CMP_DX_STS (n : Nat) : Nat := 0x40140 + 0x4 * n
def CMP_DX_STS.RATE : Fld := ⟨23, 9⟩
def CMP_DX_STS.RETIRED : Fld := ⟨22, 1⟩
def CMP_DX_STS.METHOD : Fld := ⟨20, 2⟩
def CMP_DX_STS.WORK : Fld := ⟨18, 2⟩
def CMP_DX_STS.CHANNEL : Fld := ⟨0, 6⟩
def CMP_DX_BLKS (n : Nat) : Nat := 0x40180 + 0x4 * n
def CMP_OBJ_CFG : Nat := 0x401C0
def CMP_OBJ_CFG.RUN_OK : Fld := ⟨0, 1⟩
def CMP_OBJ_SRC_LO : Nat := 0x401C4
def CMP_OBJ_SRC_HI : Nat := 0x401C8
def CMP_OBJ_SLEN : Nat := 0x401CC
def CMP_OBJ_DST_LO : Nat := 0x401D0
def CMP_OBJ_DST_HI : Nat := 0x401D4
def CMP_OBJ_CMD : Nat := 0x401D8
def CMP_OBJ_CMD.CANCEL : Fld := ⟨1, 1⟩
def CMP_OBJ_CMD.START : Fld := ⟨0, 1⟩
def CMP_OBJ_STS : Nat := 0x401DC
def CMP_OBJ_STS.RESULT : Fld := ⟨0, 3⟩
def CMP_CX_CFG (k : Nat) : Nat := 0x40200 + 0x40 * k
def CMP_CX_CFG.NICE : Fld := ⟨13, 9⟩
def CMP_CX_CFG.DEPTH : Fld := ⟨6, 7⟩
def CMP_CX_CFG.STREAM : Fld := ⟨5, 1⟩
def CMP_CX_CFG.ZLIB : Fld := ⟨4, 1⟩
def CMP_CX_CFG.LAZY : Fld := ⟨3, 1⟩
def CMP_CX_CFG.BLOCKED : Fld := ⟨2, 1⟩
def CMP_CX_CFG.METHOD : Fld := ⟨0, 2⟩
def CMP_CX_LINE (k : Nat) : Nat := 0x40204 + 0x40 * k
def CMP_CX_LINE.BLOCK_LINES : Fld := ⟨16, 13⟩
def CMP_CX_LINE.LB : Fld := ⟨0, 16⟩
def CMP_CX_SRC_LO (k : Nat) : Nat := 0x40208 + 0x40 * k
def CMP_CX_SRC_HI (k : Nat) : Nat := 0x4020C + 0x40 * k
def CMP_CX_SLEN (k : Nat) : Nat := 0x40210 + 0x40 * k
def CMP_CX_DST_LO (k : Nat) : Nat := 0x40214 + 0x40 * k
def CMP_CX_DST_HI (k : Nat) : Nat := 0x40218 + 0x40 * k
def CMP_CX_DLEN (k : Nat) : Nat := 0x4021C + 0x40 * k
def CMP_CX_CMD (k : Nat) : Nat := 0x40220 + 0x40 * k
def CMP_CX_CMD.ABORT : Fld := ⟨3, 1⟩
def CMP_CX_CMD.FINISH : Fld := ⟨2, 1⟩
def CMP_CX_CMD.FLUSH : Fld := ⟨1, 1⟩
def CMP_CX_CMD.START : Fld := ⟨0, 1⟩
def CMP_CX_STS (k : Nat) : Nat := 0x40224 + 0x40 * k
def CMP_CX_STS.STATE : Fld := ⟨0, 3⟩
def CMP_CX_STS.ASSIGNED : Fld := ⟨3, 1⟩
def CMP_CX_OUT (k : Nat) : Nat := 0x40228 + 0x40 * k
def CMP_CX_IN (k : Nat) : Nat := 0x4022C + 0x40 * k
def CMP_CX_EVT (k : Nat) : Nat := 0x40230 + 0x40 * k
def CMP_CX_EVT.FLUSHED : Fld := ⟨3, 1⟩
def CMP_CX_EVT.CMD_REJ : Fld := ⟨2, 1⟩
def CMP_CX_EVT.OVERFLOW : Fld := ⟨1, 1⟩
def CMP_CX_EVT.DONE : Fld := ⟨0, 1⟩
/-! Registers of R276 (spec/10_nozzle_health.md). -/
def NH_STATE (n j : Nat) : Nat := 0x400000 + 0x4000 * n + 0x4 * j
def NH_PATCH (n j : Nat) : Nat := 0x401000 + 0x4000 * n + 0x4 * j
def NH_PATCH_NEXT (n j : Nat) : Nat := 0x401800 + 0x4000 * n + 0x4 * j
def NH_GATE (n j : Nat) : Nat := 0x402000 + 0x4000 * n + 0x4 * j
/-! Registers of R277 (spec/10_nozzle_health.md). -/
def HC_NH_CFG (n : Nat) : Nat := 0x100140 + 0x4000 * n
def HC_NH_CFG.FREEZE : Fld := ⟨0, 1⟩
def HC_NH_CMD (n : Nat) : Nat := 0x100144 + 0x4000 * n
def HC_NH_CMD.AT_EN : Fld := ⟨31, 1⟩
def HC_NH_CMD.OP : Fld := ⟨28, 2⟩
def HC_NH_CMD.KIND : Fld := ⟨16, 2⟩
def HC_NH_CMD.STATE : Fld := ⟨12, 3⟩
def HC_NH_CMD.NOZZLE : Fld := ⟨0, 12⟩
def HC_NH_AT_LO (n : Nat) : Nat := 0x100148 + 0x4000 * n
def HC_NH_AT_HI (n : Nat) : Nat := 0x10014C + 0x4000 * n
def HC_NH_STS (n : Nat) : Nat := 0x100150 + 0x4000 * n
def HC_NH_STS.PENDING : Fld := ⟨31, 1⟩
def HC_NH_LOST (n : Nat) : Nat := 0x100154 + 0x4000 * n
def HC_NH_STALE (n : Nat) : Nat := 0x100158 + 0x4000 * n
/-! Registers of R278 (spec/10_nozzle_health.md). -/
def FIR_NH_CFG : Nat := 0xB0300
def FIR_NH_CFG.COVER : Fld := ⟨16, 7⟩
def FIR_NH_CFG.CLEAR_N : Fld := ⟨12, 4⟩
def FIR_NH_CFG.CONF : Fld := ⟨8, 2⟩
def FIR_NH_CFG.REACH : Fld := ⟨4, 2⟩
def FIR_NH_CFG.WEAK_ACT : Fld := ⟨3, 1⟩
def FIR_NH_CFG.REDIST : Fld := ⟨2, 1⟩
def FIR_NH_CFG.FREEZE : Fld := ⟨1, 1⟩
def FIR_NH_CFG.EN : Fld := ⟨0, 1⟩
def FIR_NH_LEAD : Nat := 0xB0304
def FIR_NH_LEAD.LEAD : Fld := ⟨0, 16⟩
def FIR_NH_VETO : Nat := 0xB0308
def FIR_NH_VETO.HOLD : Fld := ⟨0, 16⟩
def FIR_NH_STS : Nat := 0xB030C
def FIR_NH_EVT : Nat := 0xB0310
def FIR_NH_EVT.REFUSED : Fld := ⟨7, 1⟩
def FIR_NH_EVT.STALE : Fld := ⟨6, 1⟩
def FIR_NH_EVT.GATE_DONE1 : Fld := ⟨5, 1⟩
def FIR_NH_EVT.GATE_DONE0 : Fld := ⟨4, 1⟩
def FIR_NH_EVT.LOST : Fld := ⟨3, 1⟩
def FIR_NH_EVT.VETOED : Fld := ⟨2, 1⟩
def FIR_NH_EVT.PROPOSED : Fld := ⟨1, 1⟩
def FIR_NH_EVT.CHANGE : Fld := ⟨0, 1⟩
def FIR_NH_LAST : Nat := 0xB0314
def FIR_NH_LAST.CHANNEL : Fld := ⟨24, 6⟩
def FIR_NH_LAST.SOURCE : Fld := ⟨20, 2⟩
def FIR_NH_LAST.OLD : Fld := ⟨16, 3⟩
def FIR_NH_LAST.NEW : Fld := ⟨12, 3⟩
def FIR_NH_LAST.NOZZLE : Fld := ⟨0, 12⟩
def FIR_NH_LAST_AT_LO : Nat := 0xB0318
def FIR_NH_LAST_AT_HI : Nat := 0xB031C
def FIR_NH_PROP : Nat := 0xB0320
def FIR_NH_CMD : Nat := 0xB0324
def FIR_NH_CMD.VETO : Fld := ⟨16, 1⟩
def FIR_GATE_CFG (k : Nat) : Nat := 0xB0340 + 0x40 * k
def FIR_GATE_CFG.THRESH : Fld := ⟨16, 10⟩
def FIR_GATE_CFG.REP : Fld := ⟨12, 4⟩
def FIR_GATE_CFG.GVAL : Fld := ⟨8, 2⟩
def FIR_GATE_CFG.CHANNEL : Fld := ⟨0, 6⟩
def FIR_GATE_RANGE (k : Nat) : Nat := 0xB0344 + 0x40 * k
def FIR_GATE_RANGE.COUNT : Fld := ⟨16, 13⟩
def FIR_GATE_RANGE.FIRST : Fld := ⟨0, 12⟩
def FIR_GATE_TOF (k : Nat) : Nat := 0xB0348 + 0x40 * k
def FIR_GATE_TOF.TOFMAX : Fld := ⟨16, 16⟩
def FIR_GATE_TOF.TOFMIN : Fld := ⟨0, 16⟩
def FIR_GATE_LIM (k : Nat) : Nat := 0xB034C + 0x40 * k
def FIR_GATE_LIM.WIDTH_MIN : Fld := ⟨16, 16⟩
def FIR_GATE_LIM.TOF_SLOW : Fld := ⟨0, 16⟩
def FIR_GATE_INT (k : Nat) : Nat := 0xB0350 + 0x40 * k
def FIR_GATE_INT.INTERVAL : Fld := ⟨0, 16⟩
def FIR_GATE_CMD (k : Nat) : Nat := 0xB0354 + 0x40 * k
def FIR_GATE_CMD.ABORT : Fld := ⟨1, 1⟩
def FIR_GATE_CMD.START : Fld := ⟨0, 1⟩
def FIR_GATE_STS (k : Nat) : Nat := 0xB0358 + 0x40 * k
def FIR_GATE_STS.REASON : Fld := ⟨4, 4⟩
def FIR_GATE_STS.STATE : Fld := ⟨0, 3⟩
def FIR_GATE_CNT (k : Nat) : Nat := 0xB035C + 0x40 * k
def FIR_GATE_CNT.EXTRA : Fld := ⟨16, 16⟩
def FIR_GATE_CNT.STRAY : Fld := ⟨0, 16⟩
def FIR_GATE_IN_CFG (k : Nat) : Nat := 0xB0360 + 0x40 * k
def FIR_GATE_IN_CFG.POL : Fld := ⟨8, 1⟩
def FIR_GATE_IN_CFG.FILT : Fld := ⟨0, 8⟩
def FIR_GATE_IN_LIM (k : Nat) : Nat := 0xB0364 + 0x40 * k
def FIR_GATE_IN_LIM.MIN_GAP : Fld := ⟨0, 16⟩
def FIR_GATE_IN_STUCK (k : Nat) : Nat := 0xB0368 + 0x40 * k
def FIR_GATE_IN_STUCK.RELEASE : Fld := ⟨16, 16⟩
def FIR_GATE_IN_STUCK.MAX_ACTIVE : Fld := ⟨0, 16⟩
def FIR_GATE_IN_STS (k : Nat) : Nat := 0xB036C + 0x40 * k
def FIR_GATE_IN_STS.RATE_CNT : Fld := ⟨16, 16⟩
def FIR_GATE_IN_STS.LEVEL : Fld := ⟨3, 1⟩
def FIR_GATE_IN_STS.STUCK_NOW : Fld := ⟨2, 1⟩
def FIR_GATE_IN_STS.STUCK : Fld := ⟨1, 1⟩
def FIR_GATE_IN_STS.RATE : Fld := ⟨0, 1⟩
/-! Registers of R302 (spec/11_inspection.md). -/
def INS_MEDIUM : Nat := 0x70000
def INS_MEDIUM.D0 : Fld := ⟨0, 8⟩
def INS_STS : Nat := 0x70004
def INS_COMMIT : Nat := 0x7000C
def INS_RING : Nat := 0x70010
def INS_DROP : Nat := 0x70014
def INS_RESP (k : Nat) : Nat := 0x70020 + 0x4 * k
def INS_RESP.W_B : Fld := ⟨16, 8⟩
def INS_RESP.W_G : Fld := ⟨8, 8⟩
def INS_RESP.W_R : Fld := ⟨0, 8⟩
/-! Registers of R303 (spec/11_inspection.md). -/
def CAM_CFG (n : Nat) : Nat := 0x70100 + 0x100 * n
def CAM_CFG.PLANES : Fld := ⟨24, 8⟩
def CAM_CFG.TRG : Fld := ⟨20, 4⟩
def CAM_CFG.FTMO : Fld := ⟨16, 4⟩
def CAM_CFG.FLIP_Y : Fld := ⟨13, 1⟩
def CAM_CFG.DVAL_EN : Fld := ⟨12, 1⟩
def CAM_CFG.MOSAIC : Fld := ⟨9, 3⟩
def CAM_CFG.DDR : Fld := ⟨8, 1⟩
def CAM_CFG.BITS : Fld := ⟨6, 2⟩
def CAM_CFG.TAPMODE : Fld := ⟨4, 2⟩
def CAM_CFG.FRAMING : Fld := ⟨1, 2⟩
def CAM_CFG.EN : Fld := ⟨0, 1⟩
def CAM_GRID (n : Nat) : Nat := 0x70104 + 0x100 * n
def CAM_GRID.CLP : Fld := ⟨0, 20⟩
def CAM_YOFF (n : Nat) : Nat := 0x70108 + 0x100 * n
def CAM_LTRIG (n : Nat) : Nat := 0x7010C + 0x100 * n
def CAM_LTRIG.LINE_TMO : Fld := ⟨20, 12⟩
def CAM_LTRIG.LT_MIN : Fld := ⟨0, 20⟩
def CAM_SIZE (n : Nat) : Nat := 0x70110 + 0x100 * n
def CAM_SIZE.LINES : Fld := ⟨16, 16⟩
def CAM_SIZE.PIXELS : Fld := ⟨0, 16⟩
def CAM_PULSE (n : Nat) : Nat := 0x70114 + 0x100 * n
def CAM_PULSE.EXP_W : Fld := ⟨16, 16⟩
def CAM_PULSE.LT_W : Fld := ⟨0, 8⟩
def CAM_WIN (n : Nat) : Nat := 0x70118 + 0x100 * n
def CAM_WIN.COL_LAST : Fld := ⟨16, 14⟩
def CAM_WIN.COL_FIRST : Fld := ⟨0, 14⟩
def CAM_LVL_R (n : Nat) : Nat := 0x7011C + 0x100 * n
def CAM_LVL_R.WHITE : Fld := ⟨16, 12⟩
def CAM_LVL_R.BLACK : Fld := ⟨0, 12⟩
def CAM_LVL_G (n : Nat) : Nat := 0x70120 + 0x100 * n
def CAM_LVL_G.WHITE : Fld := ⟨16, 12⟩
def CAM_LVL_G.BLACK : Fld := ⟨0, 12⟩
def CAM_LVL_B (n : Nat) : Nat := 0x70124 + 0x100 * n
def CAM_LVL_B.WHITE : Fld := ⟨16, 12⟩
def CAM_LVL_B.BLACK : Fld := ⟨0, 12⟩
def CAM_DET (n : Nat) : Nat := 0x70128 + 0x100 * n
def CAM_DET.MISS_TH : Fld := ⟨24, 8⟩
def CAM_DET.DEV_TH : Fld := ⟨16, 8⟩
def CAM_DET.DEV_REACH : Fld := ⟨12, 4⟩
def CAM_DET.MIN_LINES : Fld := ⟨0, 12⟩
def CAM_REG (n : Nat) : Nat := 0x7012C + 0x100 * n
def CAM_REG.Q_MIN : Fld := ⟨22, 10⟩
def CAM_REG.SEARCH_Y : Fld := ⟨8, 8⟩
def CAM_REG.SEARCH_X : Fld := ⟨0, 8⟩
def CAM_PANE (n : Nat) : Nat := 0x70130 + 0x100 * n
def CAM_PANE.VIS_EN : Fld := ⟨14, 1⟩
def CAM_PANE.CODE_SRC : Fld := ⟨13, 1⟩
def CAM_PANE.CODE_EN : Fld := ⟨12, 1⟩
def CAM_PANE.DEC : Fld := ⟨6, 4⟩
def CAM_PANE.SY : Fld := ⟨4, 2⟩
def CAM_PANE.SX : Fld := ⟨2, 2⟩
def CAM_PANE.DISP_RGB : Fld := ⟨1, 1⟩
def CAM_PANE.DISP_EN : Fld := ⟨0, 1⟩
def CAM_STS (n : Nat) : Nat := 0x70140 + 0x100 * n
def CAM_STS.FRAME_OPEN : Fld := ⟨3, 1⟩
def CAM_STS.PCLK_OK : Fld := ⟨2, 1⟩
def CAM_EVT (n : Nat) : Nat := 0x70144 + 0x100 * n
def CAM_EVT.EXP_UE : Fld := ⟨11, 1⟩
def CAM_EVT.CFG_REJ : Fld := ⟨10, 1⟩
def CAM_EVT.TRIGSKIP : Fld := ⟨9, 1⟩
def CAM_EVT.MISSLINE : Fld := ⟨8, 1⟩
def CAM_EVT.NOREG : Fld := ⟨7, 1⟩
def CAM_EVT.PCLK_LOST : Fld := ⟨6, 1⟩
def CAM_EVT.OVERRUN : Fld := ⟨5, 1⟩
def CAM_EVT.LONGLINE : Fld := ⟨4, 1⟩
def CAM_EVT.SHORTLINE : Fld := ⟨3, 1⟩
def CAM_EVT.LONG : Fld := ⟨2, 1⟩
def CAM_EVT.SHORT : Fld := ⟨1, 1⟩
def CAM_EVT.FRAME : Fld := ⟨0, 1⟩
def CAM_GEN (n : Nat) : Nat := 0x70148 + 0x100 * n
def CAM_FRAME (n : Nat) : Nat := 0x7014C + 0x100 * n
def CAM_CNT (n : Nat) : Nat := 0x70150 + 0x100 * n
def CAM_CNT.TRIGSKIP : Fld := ⟨16, 16⟩
def CAM_CNT.EXTRA : Fld := ⟨0, 16⟩
def CAM_STAT (n j : Nat) : Nat := 0x70180 + 0x100 * n + 0x4 * j
/-! Registers of R330 (spec/12_calibration_keel.md). -/
def CAL_CMD : Nat := 0xA0000
def CAL_CMD.OP : Fld := ⟨28, 4⟩
def CAL_CMD.CHANNEL : Fld := ⟨16, 6⟩
def CAL_CMD.SET : Fld := ⟨12, 2⟩
def CAL_CMD.OUTPUTS : Fld := ⟨8, 2⟩
def CAL_CMD.GATE : Fld := ⟨4, 1⟩
def CAL_STS : Nat := 0xA0004
def CAL_STS.OP : Fld := ⟨28, 4⟩
def CAL_STS.CHANNEL : Fld := ⟨16, 6⟩
def CAL_STS.STEP : Fld := ⟨8, 4⟩
def CAL_STS.VREF_BAD : Fld := ⟨4, 1⟩
def CAL_STS.STATE : Fld := ⟨0, 3⟩
def CAL_EVT : Nat := 0xA0008
def CAL_EVT.VREF_BAD : Fld := ⟨7, 1⟩
def CAL_EVT.TRIMCLAMP : Fld := ⟨6, 1⟩
def CAL_EVT.OOR : Fld := ⟨5, 1⟩
def CAL_EVT.SENSOR : Fld := ⟨4, 1⟩
def CAL_EVT.REFUSED : Fld := ⟨3, 1⟩
def CAL_EVT.ABORTED : Fld := ⟨2, 1⟩
def CAL_EVT.FAILED : Fld := ⟨1, 1⟩
def CAL_EVT.DONE : Fld := ⟨0, 1⟩
def CAL_RESULT : Nat := 0xA000C
def CAL_RESULT.REASON : Fld := ⟨24, 8⟩
def CAL_RESULT.STEP : Fld := ⟨20, 4⟩
def CAL_RESULT.MEAS : Fld := ⟨0, 16⟩
def CAL_ADC_REQ : Nat := 0xA0010
def CAL_ADC_REQ.INPUT : Fld := ⟨0, 8⟩
def CAL_ADC_RES : Nat := 0xA0014
def CAL_ADC_RES.VALID : Fld := ⟨31, 1⟩
def CAL_ADC_RES.INPUT : Fld := ⟨16, 8⟩
def CAL_VREF : Nat := 0xA0018
def CAL_STAGE_HDR : Nat := 0xA0040
def CAL_STAGE_HDR.CHANNEL : Fld := ⟨24, 6⟩
def CAL_STAGE_HDR.SET : Fld := ⟨20, 2⟩
def CAL_STAGE_HDR.NPTS : Fld := ⟨16, 4⟩
def CAL_STAGE_HDR.TREF : Fld := ⟨0, 16⟩
def CAL_STAGE_REST : Nat := 0xA0044
def CAL_STAGE_REST.REST_B : Fld := ⟨16, 14⟩
def CAL_STAGE_REST.REST_A : Fld := ⟨0, 14⟩
def CAL_STAGE_T (i : Nat) : Nat := 0xA0080 + 0x4 * i
def CAL_STAGE_G (i : Nat) : Nat := 0xA00A0 + 0x4 * i
def CAL_STAGE_G.G_B : Fld := ⟨16, 12⟩
def CAL_STAGE_G.G_A : Fld := ⟨0, 12⟩
def CAL_STAGE_O (i : Nat) : Nat := 0xA00C0 + 0x4 * i
def CAL_STAGE_O.O_B : Fld := ⟨16, 12⟩
def CAL_STAGE_O.O_A : Fld := ⟨0, 12⟩
def CAL_DAC (j : Nat) : Nat := 0xA0100 + 0x4 * j
def HC_CAL_SET (n : Nat) : Nat := 0x100180 + 0x4000 * n
def HC_CAL_SET_NEXT (n : Nat) : Nat := 0x100184 + 0x4000 * n
def HC_CAL_SET_AT_LO (n : Nat) : Nat := 0x100188 + 0x4000 * n
def HC_CAL_SET_AT_HI (n : Nat) : Nat := 0x10018C + 0x4000 * n
def HC_CAL_SET_AT_HI.ARM : Fld := ⟨31, 1⟩
def HC_CAL_TCFG (n : Nat) : Nat := 0x100190 + 0x4000 * n
def HC_CAL_TCFG.FIXED : Fld := ⟨16, 16⟩
def HC_CAL_TCFG.START_SET : Fld := ⟨4, 2⟩
def HC_CAL_TCFG.EVAL_EN : Fld := ⟨3, 1⟩
def HC_CAL_TCFG.TSRC : Fld := ⟨0, 2⟩
def HC_CAL_THERM (n : Nat) : Nat := 0x100194 + 0x4000 * n
def HC_CAL_THERM.RPU : Fld := ⟨16, 16⟩
def HC_CAL_THERM.R25 : Fld := ⟨0, 16⟩
def HC_CAL_BETA (n : Nat) : Nat := 0x100198 + 0x4000 * n
def HC_CAL_TEMP (n : Nat) : Nat := 0x10019C + 0x4000 * n
def HC_CAL_GSET (n : Nat) : Nat := 0x1001A0 + 0x4000 * n
def HC_CAL_OSET (n : Nat) : Nat := 0x1001A4 + 0x4000 * n
def HC_CAL_STS (n : Nat) : Nat := 0x1001A8 + 0x4000 * n
def HC_CAL_STS.FAULT_NOW : Fld := ⟨5, 1⟩
def HC_CAL_STS.PENDING : Fld := ⟨4, 1⟩
def HC_CAL_STS.LATE : Fld := ⟨3, 1⟩
def HC_CAL_STS.CLAMP : Fld := ⟨2, 1⟩
def HC_CAL_STS.OOR : Fld := ⟨1, 1⟩
def HC_CAL_STS.SENSOR : Fld := ⟨0, 1⟩
/-! Registers of R331 (spec/12_calibration_keel.md). -/
def KEEL_STS : Nat := 0xA0800
def KEEL_STS.BUSY : Fld := ⟨2, 1⟩
def KEEL_STS.KEYED : Fld := ⟨1, 1⟩
def KEEL_STS.READY : Fld := ⟨0, 1⟩
def KEEL_EVT : Nat := 0xA0804
def KEEL_EVT.IMPLAUS : Fld := ⟨6, 1⟩
def KEEL_EVT.KEYREJ : Fld := ⟨5, 1⟩
def KEEL_EVT.KEYPROG : Fld := ⟨4, 1⟩
def KEEL_EVT.DEFER : Fld := ⟨3, 1⟩
def KEEL_EVT.WRFAIL : Fld := ⟨2, 1⟩
def KEEL_EVT.LOST : Fld := ⟨1, 1⟩
def KEEL_EVT.TORN : Fld := ⟨0, 1⟩
def KEEL_TORN : Nat := 0xA0808
def KEEL_TORN.RID : Fld := ⟨8, 8⟩
def KEEL_COMMITS : Nat := 0xA080C
def KEEL_KEY_STS (s : Nat) : Nat := 0xA0820 + 0x4 * s
def KEEL_KEY_DATA (j : Nat) : Nat := 0xA0840 + 0x4 * j
def KEEL_KEY_CMD : Nat := 0xA0860
def KEEL_KEY_CMD.CONFIRM : Fld := ⟨16, 16⟩
def KEEL_KEY_CMD.SLOT : Fld := ⟨4, 2⟩
def KEEL_KEY_CMD.REVOKE : Fld := ⟨1, 1⟩
def KEEL_KEY_CMD.PROGRAM : Fld := ⟨0, 1⟩
def KEEL_REC_SEL : Nat := 0xA0870
def KEEL_REC_SEL.RID : Fld := ⟨0, 8⟩
def KEEL_REC_STS : Nat := 0xA0874
def KEEL_REC_STS.VALID : Fld := ⟨31, 1⟩
def KEEL_REC_STS.TORN : Fld := ⟨30, 1⟩
def KEEL_REC_STS.IMPLAUS : Fld := ⟨29, 1⟩
def KEEL_REC_STS.SKIPPED : Fld := ⟨0, 16⟩
def KEEL_REC_SEQ : Nat := 0xA0878
/-! Registers of R353 (spec/13_time.md). -/
def TIM_CFG : Nat := 0x60000
def TIM_CFG.AUTO_HOLD : Fld := ⟨17, 1⟩
def TIM_CFG.AUTO_FAIL : Fld := ⟨16, 1⟩
def TIM_CFG.SLEW : Fld := ⟨0, 16⟩
def TIM_STS : Nat := 0x60004
def TIM_STS.HOLD_SEL : Fld := ⟨2, 1⟩
def TIM_STS.SLEWING : Fld := ⟨1, 1⟩
def TIM_STS.SEL : Fld := ⟨0, 1⟩
def TIM_EVT : Nat := 0x60008
def TIM_EVT.CMDREJ : Fld := ⟨7, 1⟩
def TIM_EVT.SLEW_DONE : Fld := ⟨6, 1⟩
def TIM_EVT.INCCLAMP : Fld := ⟨5, 1⟩
def TIM_EVT.BACKSTEP : Fld := ⟨4, 1⟩
def TIM_EVT.HOLDOVER : Fld := ⟨3, 1⟩
def TIM_EVT.CNTERR : Fld := ⟨2, 1⟩
def TIM_EVT.SWREJ : Fld := ⟨1, 1⟩
def TIM_EVT.SWITCH : Fld := ⟨0, 1⟩
def TIM_CMD : Nat := 0x6000C
def TIM_CMD.CLEAR_H : Fld := ⟨1, 1⟩
def TIM_CMD.SWITCH : Fld := ⟨0, 1⟩
def TIM_DEV_FRAC : Nat := 0x60010
def TIM_DEV_NS : Nat := 0x60014
def TIM_DEV_SEC_LO : Nat := 0x60018
def TIM_DEV_SEC_HI : Nat := 0x6001C
def TIM_H_LO : Nat := 0x60020
def TIM_H_HI : Nat := 0x60024
def TIM_GPIO_DIR : Nat := 0x60040
def TIM_GPIO_OUT : Nat := 0x60044
def TIM_GPIO_IN : Nat := 0x60048
def TIM_GPIO_IN.PD3 : Fld := ⟨16, 4⟩
def TIM_GPIO_IN.GPIO15 : Fld := ⟨0, 16⟩
def TIM_D_CFG (d : Nat) : Nat := 0x60100 + 0x80 * d
def TIM_D_CFG.SERVO_TMO : Fld := ⟨0, 16⟩
def TIM_D_STS (d : Nat) : Nat := 0x60104 + 0x80 * d
def TIM_D_STS.SELECTED : Fld := ⟨2, 1⟩
def TIM_D_STS.CNTERR : Fld := ⟨1, 1⟩
def TIM_D_STS.HOLD : Fld := ⟨0, 1⟩
def TIM_D_CMD (d : Nat) : Nat := 0x60108 + 0x80 * d
def TIM_D_CMD.STEP : Fld := ⟨1, 1⟩
def TIM_D_CMD.SET : Fld := ⟨0, 1⟩
def TIM_D_INC_LO (d : Nat) : Nat := 0x6010C + 0x80 * d
def TIM_D_INC_HI (d : Nat) : Nat := 0x60110 + 0x80 * d
def TIM_D_FRAC (d : Nat) : Nat := 0x60114 + 0x80 * d
def TIM_D_NS (d : Nat) : Nat := 0x60118 + 0x80 * d
def TIM_D_SEC_LO (d : Nat) : Nat := 0x6011C + 0x80 * d
def TIM_D_SEC_HI (d : Nat) : Nat := 0x60120 + 0x80 * d
def TIM_D_SET_NS (d : Nat) : Nat := 0x60124 + 0x80 * d
def TIM_D_SET_NS.NS : Fld := ⟨0, 30⟩
def TIM_D_SET_SEC_LO (d : Nat) : Nat := 0x60128 + 0x80 * d
def TIM_D_SET_SEC_HI (d : Nat) : Nat := 0x6012C + 0x80 * d
def TIM_D_ADJ (d : Nat) : Nat := 0x60130 + 0x80 * d
/-! Registers of R354 (spec/13_time.md). -/
def TRG_CFG (n : Nat) : Nat := 0x60400 + 0x40 * n
def TRG_CFG.A : Fld := ⟨20, 4⟩
def TRG_CFG.INPUT : Fld := ⟨12, 8⟩
def TRG_CFG.FW_EV : Fld := ⟨7, 1⟩
def TRG_CFG.ADC_EN : Fld := ⟨6, 1⟩
def TRG_CFG.DOM : Fld := ⟨4, 2⟩
def TRG_CFG.STRICT : Fld := ⟨0, 1⟩
def TRG_OUT (n : Nat) : Nat := 0x60404 + 0x40 * n
def TRG_OUT.WIDTH : Fld := ⟨8, 24⟩
def TRG_OUT.POL : Fld := ⟨5, 1⟩
def TRG_OUT.GPIO_EN : Fld := ⟨4, 1⟩
def TRG_OUT.GPIO : Fld := ⟨0, 4⟩
def TRG_T_FRAC (n : Nat) : Nat := 0x60408 + 0x40 * n
def TRG_T_NS (n : Nat) : Nat := 0x6040C + 0x40 * n
def TRG_T_SEC_LO (n : Nat) : Nat := 0x60410 + 0x40 * n
def TRG_T_SEC_HI (n : Nat) : Nat := 0x60414 + 0x40 * n
def TRG_PERIOD (n : Nat) : Nat := 0x60418 + 0x40 * n
def TRG_PFRAC (n : Nat) : Nat := 0x6041C + 0x40 * n
def TRG_COUNT (n : Nat) : Nat := 0x60420 + 0x40 * n
def TRG_STS (n : Nat) : Nat := 0x60424 + 0x40 * n
def TRG_STS.SKIPPED : Fld := ⟨16, 16⟩
def TRG_STS.ADCOVR : Fld := ⟨7, 1⟩
def TRG_STS.REFUSED : Fld := ⟨6, 1⟩
def TRG_STS.WREJ : Fld := ⟨5, 1⟩
def TRG_STS.DONE : Fld := ⟨4, 1⟩
def TRG_STS.MISSED : Fld := ⟨3, 1⟩
def TRG_STS.LATE : Fld := ⟨2, 1⟩
def TRG_STS.ARMED : Fld := ⟨0, 1⟩
def TRG_LATE (n : Nat) : Nat := 0x60428 + 0x40 * n
def TRG_ADCRES (n : Nat) : Nat := 0x6042C + 0x40 * n
def TRG_ADCRES.VALID : Fld := ⟨31, 1⟩
def TRG_ADCRES.INPUT : Fld := ⟨16, 8⟩
def TRG_CMD (n : Nat) : Nat := 0x60430 + 0x40 * n
def TRG_CMD.DISARM : Fld := ⟨1, 1⟩
def TRG_CMD.ARM : Fld := ⟨0, 1⟩
def CAP_CFG (n : Nat) : Nat := 0x60800 + 0x40 * n
def CAP_CFG.EN : Fld := ⟨31, 1⟩
def CAP_CFG.WIN_TRG : Fld := ⟨16, 4⟩
def CAP_CFG.WIN_EN : Fld := ⟨12, 1⟩
def CAP_CFG.DOM : Fld := ⟨10, 2⟩
def CAP_CFG.EDGE : Fld := ⟨8, 2⟩
def CAP_CFG.SRC : Fld := ⟨0, 6⟩
def CAP_WINLEN (n : Nat) : Nat := 0x60804 + 0x40 * n
def CAP_FRAC (n : Nat) : Nat := 0x60808 + 0x40 * n
def CAP_NS (n : Nat) : Nat := 0x6080C + 0x40 * n
def CAP_SEC_LO (n : Nat) : Nat := 0x60810 + 0x40 * n
def CAP_SEC_HI (n : Nat) : Nat := 0x60814 + 0x40 * n
def CAP_POS_LO (n : Nat) : Nat := 0x60818 + 0x40 * n
def CAP_POS_HI (n : Nat) : Nat := 0x6081C + 0x40 * n
def CAP_STS (n : Nat) : Nat := 0x60820 + 0x40 * n
def CAP_STS.REFUSED : Fld := ⟨6, 1⟩
def CAP_STS.OUTSIDE : Fld := ⟨5, 1⟩
def CAP_STS.OVERFLOW : Fld := ⟨4, 1⟩
def CAP_CNT (n : Nat) : Nat := 0x60824 + 0x40 * n
def CAP_CNT.DROPPED : Fld := ⟨16, 16⟩
def CAP_CNT.OUTSIDE : Fld := ⟨0, 16⟩
def CAP_CMD (n : Nat) : Nat := 0x60828 + 0x40 * n
def CAP_CMD.FLUSH : Fld := ⟨1, 1⟩
def CAP_CMD.POP : Fld := ⟨0, 1⟩
/-! Registers of R355 (spec/13_time.md). -/
def ETH_CFG (p : Nat) : Nat := 0x61000 + 0x100 * p
def ETH_CFG.TSDOM : Fld := ⟨4, 1⟩
def ETH_CFG.AN : Fld := ⟨2, 1⟩
def ETH_CFG.MODE : Fld := ⟨1, 1⟩
def ETH_CFG.EN : Fld := ⟨0, 1⟩
def ETH_STS (p : Nat) : Nat := 0x61004 + 0x100 * p
def ETH_STS.TXQ : Fld := ⟨8, 5⟩
def ETH_STS.REMOTE_FAULT : Fld := ⟨3, 1⟩
def ETH_STS.AN_DONE : Fld := ⟨2, 1⟩
def ETH_STS.PCS_LOCK : Fld := ⟨1, 1⟩
def ETH_STS.LINK : Fld := ⟨0, 1⟩
def ETH_EVT (p : Nat) : Nat := 0x61008 + 0x100 * p
def ETH_EVT.TXABORT : Fld := ⟨3, 1⟩
def ETH_EVT.OVERFLOW : Fld := ⟨2, 1⟩
def ETH_EVT.DOWN : Fld := ⟨1, 1⟩
def ETH_EVT.UP : Fld := ⟨0, 1⟩
def ETH_LAT_RX (p : Nat) : Nat := 0x6100C + 0x100 * p
def ETH_LAT_TX (p : Nat) : Nat := 0x61010 + 0x100 * p
def ETH_TXQ_TAG (p : Nat) : Nat := 0x61014 + 0x100 * p
def ETH_TXQ_TAG.VALID : Fld := ⟨31, 1⟩
def ETH_TXQ_TAG.TAG : Fld := ⟨0, 16⟩
def ETH_TXQ_FRAC (p : Nat) : Nat := 0x61018 + 0x100 * p
def ETH_TXQ_NS (p : Nat) : Nat := 0x6101C + 0x100 * p
def ETH_TXQ_SEC_LO (p : Nat) : Nat := 0x61020 + 0x100 * p
def ETH_TXQ_SEC_HI (p : Nat) : Nat := 0x61024 + 0x100 * p
def ETH_TXQ_CMD (p : Nat) : Nat := 0x61028 + 0x100 * p
def ETH_TXQ_CMD.FLUSH : Fld := ⟨1, 1⟩
def ETH_TXQ_CMD.POP : Fld := ⟨0, 1⟩
def ETH_TXQ_CNT (p : Nat) : Nat := 0x6102C + 0x100 * p
def ETH_TXQ_CNT.ABORTED : Fld := ⟨16, 16⟩
def ETH_TXQ_CNT.DROPPED : Fld := ⟨0, 16⟩
/-! Registers of R381 (spec/14_host_access.md). -/
def OWN_STS : Nat := 0x80000
def OWN_STS.FREE : Fld := ⟨0, 1⟩
def OWN_STS.WAITING : Fld := ⟨1, 1⟩
def OWN_HOLDER : Nat := 0x80004
def OWN_HOLDER.CLIENT : Fld := ⟨16, 16⟩
def OWN_REQ : Nat := 0x80008
def OWN_REQ.LEASE : Fld := ⟨0, 16⟩
def OWN_CMD : Nat := 0x8000C
def OWN_CMD.TO_CLIENT : Fld := ⟨16, 16⟩
def OWN_CMD.TO_SESSION : Fld := ⟨8, 8⟩
def OWN_CMD.TO_PORT : Fld := ⟨4, 3⟩
def OWN_CMD.SEIZE : Fld := ⟨3, 1⟩
def OWN_CMD.HANDOVER : Fld := ⟨2, 1⟩
def OWN_CMD.KEEP : Fld := ⟨1, 1⟩
def OWN_CMD.RELEASE : Fld := ⟨0, 1⟩
def OWN_EVT : Nat := 0x80010
def OWN_EVT.HANDED : Fld := ⟨5, 1⟩
def OWN_EVT.SEIZED : Fld := ⟨4, 1⟩
def OWN_EVT.EXPIRED : Fld := ⟨3, 1⟩
def OWN_EVT.DENIED : Fld := ⟨2, 1⟩
def OWN_EVT.RELEASED : Fld := ⟨1, 1⟩
def OWN_EVT.GRANTED : Fld := ⟨0, 1⟩
def OWN_LEASE_LEFT : Nat := 0x80014
def OWN_WAIT : Nat := 0x80018
def HAT_EPOCH0 : Nat := 0x80020
def HAT_EPOCH1 : Nat := 0x80024
def HAT_CMD : Nat := 0x80028
def HAT_CMD.RESET : Fld := ⟨0, 1⟩
def HAT_SUMMARY : Nat := 0x8002C
def HAT_D (n i : Nat) : Nat := 0x80100 + 0x80 * n + 0x4 * i
def HAT_CTRL (n : Nat) : Nat := 0x80140 + 0x80 * n
def HAT_CTRL.ACK : Fld := ⟨1, 1⟩
def HAT_CTRL.GO : Fld := ⟨0, 1⟩
def HAT_STS (n : Nat) : Nat := 0x80144 + 0x80 * n
def HAT_STS.SEPOCH : Fld := ⟨24, 8⟩
def HAT_STS.SPORT : Fld := ⟨20, 3⟩
def HAT_STS.STATE : Fld := ⟨18, 2⟩
def HAT_STS.COLLIDE : Fld := ⟨17, 1⟩
def HAT_STS.DIR : Fld := ⟨16, 1⟩
def HAT_STS.LAST : Fld := ⟨12, 4⟩
def HAT_STS.RXPORT : Fld := ⟨0, 3⟩
def HAT_AGE (n : Nat) : Nat := 0x80148 + 0x80 * n
def HAT_CFG (n : Nat) : Nat := 0x8014C + 0x80 * n
def HAT_CFG.RXPORT : Fld := ⟨0, 3⟩
/-! Registers of R391 (spec/15_check_units.md). -/
def CHK_SUM : Nat := 0x50000
def CHK_EVT : Nat := 0x50004
def CU_CFG (k : Nat) : Nat := 0x50100 + 0x80 * k
def CU_CFG.OUTBE : Fld := ⟨14, 1⟩
def CU_CFG.MODE : Fld := ⟨12, 2⟩
def CU_CFG.ORDER : Fld := ⟨10, 1⟩
def CU_CFG.REFOUT : Fld := ⟨9, 1⟩
def CU_CFG.REFIN : Fld := ⟨8, 1⟩
def CU_CFG.WIDTH : Fld := ⟨0, 6⟩
def CU_POLY_LO (k : Nat) : Nat := 0x50104 + 0x80 * k
def CU_POLY_HI (k : Nat) : Nat := 0x50108 + 0x80 * k
def CU_INIT_LO (k : Nat) : Nat := 0x5010C + 0x80 * k
def CU_INIT_HI (k : Nat) : Nat := 0x50110 + 0x80 * k
def CU_XOR_LO (k : Nat) : Nat := 0x50114 + 0x80 * k
def CU_XOR_HI (k : Nat) : Nat := 0x50118 + 0x80 * k
def CU_STATE_LO (k : Nat) : Nat := 0x5011C + 0x80 * k
def CU_STATE_HI (k : Nat) : Nat := 0x50120 + 0x80 * k
def CU_RESULT_LO (k : Nat) : Nat := 0x50124 + 0x80 * k
def CU_RESULT_HI (k : Nat) : Nat := 0x50128 + 0x80 * k
def CU_DIN8 (k : Nat) : Nat := 0x5012C + 0x80 * k
def CU_DIN16 (k : Nat) : Nat := 0x50130 + 0x80 * k
def CU_DIN32 (k : Nat) : Nat := 0x50134 + 0x80 * k
def CU_CMD (k : Nat) : Nat := 0x50138 + 0x80 * k
def CU_CMD.ABORT : Fld := ⟨3, 1⟩
def CU_CMD.GO : Fld := ⟨2, 1⟩
def CU_CMD.RELEASE : Fld := ⟨1, 1⟩
def CU_CMD.START : Fld := ⟨0, 1⟩
def CU_STS (k : Nat) : Nat := 0x5013C + 0x80 * k
def CU_STS.OWNER : Fld := ⟨8, 3⟩
def CU_STS.FAULT : Fld := ⟨7, 1⟩
def CU_STS.REJ : Fld := ⟨6, 1⟩
def CU_STS.MISMATCH : Fld := ⟨5, 1⟩
def CU_STS.MATCH : Fld := ⟨4, 1⟩
def CU_STS.STATE : Fld := ⟨0, 3⟩
def CU_BUF_LO (k : Nat) : Nat := 0x50140 + 0x80 * k
def CU_BUF_HI (k : Nat) : Nat := 0x50144 + 0x80 * k
def CU_BUF_LEN (k : Nat) : Nat := 0x50148 + 0x80 * k
def CU_BUF_LEN.LEN : Fld := ⟨0, 25⟩
def CU_BYTES (k : Nat) : Nat := 0x5014C + 0x80 * k
/-! Registers of R422 (spec/16_bridle_pair.md). -/
def BRD_CFG : Nat := 0x90000
def BRD_CFG.SHARED : Fld := ⟨16, 16⟩
def BRD_CFG.VOID_SWAP : Fld := ⟨8, 8⟩
def BRD_CFG.AUTO_SWAP : Fld := ⟨1, 1⟩
def BRD_CFG.EN : Fld := ⟨0, 1⟩
def BRD_STS : Nat := 0x90004
def BRD_STS.VER : Fld := ⟨16, 4⟩
def BRD_STS.DEGRADED : Fld := ⟨13, 1⟩
def BRD_STS.LINK : Fld := ⟨12, 1⟩
def BRD_STS.HOLDOFF : Fld := ⟨11, 1⟩
def BRD_STS.GUARD_OK : Fld := ⟨10, 1⟩
def BRD_STS.HB_PEER : Fld := ⟨8, 2⟩
def BRD_STS.ARB : Fld := ⟨7, 1⟩
def BRD_STS.RANK : Fld := ⟨6, 1⟩
def BRD_STS.SYNC : Fld := ⟨4, 2⟩
def BRD_STS.ROLE : Fld := ⟨0, 3⟩
def BRD_EVT : Nat := 0x90008
def BRD_EVT.TIMEDIFF : Fld := ⟨15, 1⟩
def BRD_EVT.SWAP_REJ : Fld := ⟨14, 1⟩
def BRD_EVT.AGREE_TMO : Fld := ⟨13, 1⟩
def BRD_EVT.POSDIFF : Fld := ⟨12, 1⟩
def BRD_EVT.LINK_DOWN : Fld := ⟨11, 1⟩
def BRD_EVT.GUARD_LAPSE : Fld := ⟨10, 1⟩
def BRD_EVT.PEER_LOST : Fld := ⟨9, 1⟩
def BRD_EVT.DUAL : Fld := ⟨8, 1⟩
def BRD_EVT.HB_WIRE : Fld := ⟨7, 1⟩
def BRD_EVT.HB_FAIL : Fld := ⟨6, 1⟩
def BRD_EVT.ONESIDE : Fld := ⟨5, 1⟩
def BRD_EVT.DIVERGE : Fld := ⟨4, 1⟩
def BRD_EVT.JOIN_REJ : Fld := ⟨3, 1⟩
def BRD_EVT.SWAPPED : Fld := ⟨2, 1⟩
def BRD_EVT.TAKEOVER : Fld := ⟨1, 1⟩
def BRD_EVT.ROLE : Fld := ⟨0, 1⟩
def BRD_CMD : Nat := 0x9000C
def BRD_CMD.AT_EN : Fld := ⟨4, 1⟩
def BRD_CMD.DETACH : Fld := ⟨3, 1⟩
def BRD_CMD.REJOIN : Fld := ⟨2, 1⟩
def BRD_CMD.RELINQUISH : Fld := ⟨1, 1⟩
def BRD_CMD.SWAP : Fld := ⟨0, 1⟩
def BRD_HB : Nat := 0x90010
def BRD_HB.ARB_FILT : Fld := ⟨8, 4⟩
def BRD_HB.MISS : Fld := ⟨0, 4⟩
def BRD_GUARD : Nat := 0x90014
def BRD_GUARD.KICK_TMO : Fld := ⟨0, 16⟩
def BRD_KICK : Nat := 0x90018
def BRD_LEAD : Nat := 0x9001C
def BRD_LEAD.JOIN_LEAD : Fld := ⟨16, 16⟩
def BRD_LEAD.GUARD : Fld := ⟨0, 8⟩
def BRD_PEER : Nat := 0x90020
def BRD_PEER.PRESENT : Fld := ⟨0, 1⟩
def BRD_PEER_UID_LO : Nat := 0x90024
def BRD_PEER_UID_HI : Nat := 0x90028
def BRD_JOINREJ : Nat := 0x9002C
def BRD_JOINREJ.BY_PEER : Fld := ⟨8, 1⟩
def BRD_JOINREJ.REASON : Fld := ⟨0, 8⟩
def BRD_DIGEST : Nat := 0x90030
def BRD_PEER_DIGEST : Nat := 0x90034
def BRD_CNT_CMP : Nat := 0x90038
def BRD_CNT_DIFF : Nat := 0x9003C
def BRD_CNT_DIFF.DIVERGE : Fld := ⟨16, 16⟩
def BRD_CNT_DIFF.TIMING : Fld := ⟨0, 16⟩
def BRD_CNT_ONE : Nat := 0x90040
def BRD_CNT_ONE.ONESIDE : Fld := ⟨16, 16⟩
def BRD_LAST_DIFF_LO : Nat := 0x90044
def BRD_LAST_DIFF_LO.CHANNEL : Fld := ⟨8, 6⟩
def BRD_LAST_DIFF_LO.KIND : Fld := ⟨14, 2⟩
def BRD_LAST_DIFF_HI : Nat := 0x90048
def BRD_LAST_DIFF_HI.CHANNEL : Fld := ⟨8, 6⟩
def BRD_LAST_DIFF_HI.KIND : Fld := ⟨14, 2⟩
def BRD_TAKE : Nat := 0x9004C
def BRD_TAKE.RISK : Fld := ⟨0, 16⟩
def BRD_SWAP_AT_LO : Nat := 0x90050
def BRD_SWAP_AT_HI : Nat := 0x90054
def BRD_TOFF : Nat := 0x90058
def BRD_LANE_STS (k : Nat) : Nat := 0x90100 + 0x10 * k
/-! Registers of R440 (spec/17_startup_power.md). -/
def PWR_STS : Nat := 0x10000
def PWR_STS.UVWARN : Fld := ⟨12, 1⟩
def PWR_STS.READY : Fld := ⟨11, 1⟩
def PWR_STS.SIGNED : Fld := ⟨10, 1⟩
def PWR_STS.FALLBACK : Fld := ⟨9, 1⟩
def PWR_STS.SLOT : Fld := ⟨8, 1⟩
def PWR_STS.STAGE : Fld := ⟨4, 4⟩
def PWR_STS.STATE : Fld := ⟨0, 3⟩
def PWR_EVT : Nat := 0x10004
def PWR_EVT.LATEWAKE : Fld := ⟨6, 1⟩
def PWR_EVT.REJ : Fld := ⟨5, 1⟩
def PWR_EVT.WOKE : Fld := ⟨4, 1⟩
def PWR_EVT.ENTERED : Fld := ⟨3, 1⟩
def PWR_EVT.FALLBACK : Fld := ⟨2, 1⟩
def PWR_EVT.UVWARN : Fld := ⟨1, 1⟩
def PWR_EVT.READY : Fld := ⟨0, 1⟩
def PWR_CMD : Nat := 0x10008
def PWR_CMD.CONFIRM : Fld := ⟨16, 16⟩
def PWR_CMD.HARD : Fld := ⟨9, 1⟩
def PWR_CMD.SOFT : Fld := ⟨8, 1⟩
def PWR_CMD.WAKE : Fld := ⟨4, 1⟩
def PWR_CMD.ENTER : Fld := ⟨3, 1⟩
def PWR_CMD.TARGET : Fld := ⟨0, 3⟩
def PWR_RST_CAUSE : Nat := 0x1000C
def PWR_RST_CAUSE.CAUSE : Fld := ⟨0, 4⟩
def PWR_BOOT : Nat := 0x10010
def PWR_BOOT.FIRST : Fld := ⟨0, 1⟩
def PWR_BOOT.PERSISTED : Fld := ⟨1, 1⟩
def PWR_LOAD_A : Nat := 0x10014
def PWR_LOAD_A.SKIPPED : Fld := ⟨24, 8⟩
def PWR_LOAD_A.ITEM : Fld := ⟨16, 8⟩
def PWR_LOAD_A.CODE : Fld := ⟨0, 8⟩
def PWR_LOAD_B : Nat := 0x10018
def PWR_LOAD_B.SKIPPED : Fld := ⟨24, 8⟩
def PWR_LOAD_B.ITEM : Fld := ⟨16, 8⟩
def PWR_LOAD_B.CODE : Fld := ⟨0, 8⟩
def PWR_LOAD_DETAIL : Nat := 0x1001C
def PWR_UV : Nat := 0x10020
def PWR_UV.WARN : Fld := ⟨0, 9⟩
def PWR_RAIL : Nat := 0x10024
def PWR_AUTO : Nat := 0x10028
def PWR_AUTO.GUARD : Fld := ⟨16, 16⟩
def PWR_AUTO.ACCESS_WAKE : Fld := ⟨3, 1⟩
def PWR_AUTO.DEEPEST : Fld := ⟨1, 2⟩
def PWR_AUTO.EN : Fld := ⟨0, 1⟩
def PWR_NEXT : Nat := 0x1002C
def PWR_AUTO_TRG : Nat := 0x10030
def PWR_WAKE_AT_NS : Nat := 0x10034
def PWR_WAKE_AT_NS.NS : Fld := ⟨0, 30⟩
def PWR_WAKE_AT_SEC_LO : Nat := 0x10038
def PWR_WAKE_AT_SEC_HI : Nat := 0x1003C
def PWR_TIME : Nat := 0x10040
def PWR_SERIAL : Nat := 0x10044
def PWR_ISL (c : Nat) : Nat := 0x10100 + 0x4 * c
def PWR_ISL.GATED : Fld := ⟨10, 1⟩
def PWR_ISL.ISOLATED : Fld := ⟨9, 1⟩
def PWR_ISL.RUNNING : Fld := ⟨8, 1⟩
def PWR_ISL.DIV : Fld := ⟨4, 2⟩
def PWR_ISL.RESET : Fld := ⟨1, 1⟩
def PWR_ISL.GATE : Fld := ⟨0, 1⟩
/-! Registers of R451 (spec/18_test.md). -/
def TST_IDCODE : Nat := 0xC0000
def TST_BIST_CMD : Nat := 0xC0010
def TST_BIST_CMD.GROUP : Fld := ⟨8, 8⟩
def TST_BIST_CMD.START : Fld := ⟨0, 1⟩
def TST_BIST_STS : Nat := 0xC0014
def TST_BIST_STS.BIST_FAIL : Fld := ⟨4, 1⟩
def TST_BIST_STS.STATE : Fld := ⟨0, 3⟩
def TST_MRAM_CMD : Nat := 0xC0018
def TST_MRAM_CMD.START : Fld := ⟨0, 1⟩
def TST_MRAM_STS : Nat := 0xC001C
def TST_MRAM_STS.MRAM_FAIL : Fld := ⟨4, 1⟩
def TST_MRAM_STS.STATE : Fld := ⟨0, 3⟩
def TST_LB_CFG (k : Nat) : Nat := 0xC0100 + 0x20 * k
def TST_LB_CFG.EN : Fld := ⟨31, 1⟩
def TST_LB_CFG.IF : Fld := ⟨24, 4⟩
def TST_LB_CFG.DEPTH : Fld := ⟨20, 4⟩
def TST_LB_CFG.INST : Fld := ⟨14, 6⟩
def TST_LB_CFG.PAT : Fld := ⟨8, 4⟩
def TST_LB_CFG.SUB : Fld := ⟨0, 3⟩
def TST_LB_STS (k : Nat) : Nat := 0xC0104 + 0x20 * k
def TST_LB_STS.REASON : Fld := ⟨12, 4⟩
def TST_LB_STS.LOCKLOST : Fld := ⟨9, 1⟩
def TST_LB_STS.LOCK : Fld := ⟨8, 1⟩
def TST_LB_STS.STATE : Fld := ⟨0, 3⟩
def TST_LB_WORD (k : Nat) : Nat := 0xC0108 + 0x20 * k
def TST_LB_WORD.TOL : Fld := ⟨16, 16⟩
def TST_LB_TIME (k : Nat) : Nat := 0xC010C + 0x20 * k
def TST_LB_TIME.TIME : Fld := ⟨0, 16⟩
def TST_LB_BITS_LO (k : Nat) : Nat := 0xC0110 + 0x20 * k
def TST_LB_BITS_HI (k : Nat) : Nat := 0xC0114 + 0x20 * k
def TST_LB_ERR (k : Nat) : Nat := 0xC0118 + 0x20 * k
/-! Registers of R303 (spec/11_inspection.md). -/
def CAM_MAP (n i : Nat) : Nat := 0x71000 + 0x100 * n + 0x4 * i
def CAM_MAP.COORD : Fld := ⟨0, 28⟩
/-! Registers of R353 (spec/13_time.md). -/
def TIM_IN_CFG (i : Nat) : Nat := 0x60C00 + 0x10 * i
def TIM_IN_CFG.POL : Fld := ⟨8, 1⟩
def TIM_IN_CFG.FILT : Fld := ⟨0, 8⟩
def TIM_IN_LIM (i : Nat) : Nat := 0x60C04 + 0x10 * i
def TIM_IN_LIM.MIN_GAP : Fld := ⟨0, 16⟩
def TIM_IN_STUCK (i : Nat) : Nat := 0x60C08 + 0x10 * i
def TIM_IN_STUCK.RELEASE : Fld := ⟨16, 16⟩
def TIM_IN_STUCK.MAX_ACTIVE : Fld := ⟨0, 16⟩
def TIM_IN_STS (i : Nat) : Nat := 0x60C0C + 0x10 * i
def TIM_IN_STS.RATE_CNT : Fld := ⟨16, 16⟩
def TIM_IN_STS.LEVEL : Fld := ⟨3, 1⟩
def TIM_IN_STS.STUCK_NOW : Fld := ⟨2, 1⟩
def TIM_IN_STS.STUCK : Fld := ⟨1, 1⟩
def TIM_IN_STS.RATE : Fld := ⟨0, 1⟩

end Sys2Proof.Machine
end

