-- ==== Sys2Proof/Machine/RegMap.lean ====
section
/-! DEFINITION. The register map: for every register of the tables of spec/ its address, its instances,
its value at reset and which of its bits a write sets (rw), a write of 1 clears (w1c) and a read clears (rc),
the 64-bit pairs and the FRAC/NS/SEC groups of R11. -/

namespace Sys2Proof.Machine

/-- The place of a register in a value wider than 32 bits (R11, and the FRAC/NS/SEC groups of chapter 13). -/
inductive RegKind where
  | plain | lo | hi | frac | ns | secLo | secHi
  deriving DecidableEq, Repr

/-- One row of the register map. -/
structure RegRow where
  base : Nat
  s1 : Nat
  n1 : Nat
  s2 : Nat
  n2 : Nat
  reset : Nat
  rw : Nat
  w1c : Nat
  rc : Nat
  kind : RegKind
  deriving DecidableEq, Repr

def regRows00 : List RegRow :=
  [⟨0x0, 0x0, 1, 0x0, 1, 0xA6400B0, 0x0, 0x0, 0x0, .plain⟩, -- GLB_ID
   ⟨0x4, 0x0, 1, 0x0, 1, 0x0, 0x0, 0x0, 0x0, .plain⟩, -- GLB_CAP
   ⟨0x8, 0x0, 1, 0x0, 1, 0x111123, 0x0, 0x0, 0x0, .plain⟩, -- GLB_FEAT
   ⟨0xC, 0x0, 1, 0x0, 1, 0x0, 0x0, 0x7F, 0x0, .plain⟩, -- GLB_ISL_FAULT
   ⟨0x10, 0x0, 1, 0x0, 1, 0x0, 0x0, 0xFFFFFFFF, 0x0, .plain⟩, -- GLB_HC_FAULT0
   ⟨0x14, 0x0, 1, 0x0, 1, 0x0, 0x0, 0xFFFFFFFF, 0x0, .plain⟩, -- GLB_HC_FAULT1
   ⟨0x18, 0x0, 1, 0x0, 1, 0xA, 0xFFFF, 0x0, 0x0, .plain⟩, -- GLB_XING_TMO
   ⟨0x1C, 0x0, 1, 0x0, 1, 0x0, 0x0, 0x0, 0x0, .plain⟩, -- GLB_FAULT_LAST
   ⟨0x20, 0x0, 1, 0x0, 1, 0x0, 0xFFFFFFFF, 0x0, 0x0, .plain⟩, -- GLB_SCRATCH
   ⟨0x28, 0x0, 1, 0x0, 1, 0x0, 0x0, 0x0, 0x0, .lo⟩, -- GLB_UID_LO
   ⟨0x2C, 0x0, 1, 0x0, 1, 0x0, 0x0, 0x0, 0x0, .hi⟩] -- GLB_UID_HI

def regRows01 : List RegRow :=
  [⟨0x10000, 0x0, 1, 0x0, 1, 0x0, 0x0, 0x0, 0x0, .plain⟩, -- PWR_STS
   ⟨0x10004, 0x0, 1, 0x0, 1, 0x0, 0x0, 0x7F, 0x0, .plain⟩, -- PWR_EVT
   ⟨0x10008, 0x0, 1, 0x0, 1, 0x0, 0x0, 0x0, 0x0, .plain⟩, -- PWR_CMD
   ⟨0x1000C, 0x0, 1, 0x0, 1, 0x1, 0x0, 0x0, 0x0, .plain⟩, -- PWR_RST_CAUSE
   ⟨0x10010, 0x0, 1, 0x0, 1, 0x2, 0x1, 0x0, 0x0, .plain⟩, -- PWR_BOOT
   ⟨0x10014, 0x0, 1, 0x0, 1, 0x0, 0x0, 0x0, 0x0, .plain⟩, -- PWR_LOAD_A
   ⟨0x10018, 0x0, 1, 0x0, 1, 0x0, 0x0, 0x0, 0x0, .plain⟩, -- PWR_LOAD_B
   ⟨0x1001C, 0x0, 1, 0x0, 1, 0x0, 0x0, 0x0, 0x0, .plain⟩, -- PWR_LOAD_DETAIL
   ⟨0x10020, 0x0, 1, 0x0, 1, 0x2D, 0x1FF, 0x0, 0x0, .plain⟩, -- PWR_UV
   ⟨0x10024, 0x0, 1, 0x0, 1, 0x1F1F, 0x0, 0x0, 0x0, .plain⟩, -- PWR_RAIL
   ⟨0x10028, 0x0, 1, 0x0, 1, 0x50000, 0xFFFF000F, 0x0, 0x0, .plain⟩, -- PWR_AUTO
   ⟨0x1002C, 0x0, 1, 0x0, 1, 0xFFFFFFFF, 0x0, 0x0, 0x0, .plain⟩, -- PWR_NEXT
   ⟨0x10030, 0x0, 1, 0x0, 1, 0x0, 0xFFFF, 0x0, 0x0, .plain⟩, -- PWR_AUTO_TRG
   ⟨0x10034, 0x0, 1, 0x0, 1, 0x0, 0x3FFFFFFF, 0x0, 0x0, .plain⟩, -- PWR_WAKE_AT_NS
   ⟨0x10038, 0x0, 1, 0x0, 1, 0x0, 0xFFFFFFFF, 0x0, 0x0, .lo⟩, -- PWR_WAKE_AT_SEC_LO
   ⟨0x1003C, 0x0, 1, 0x0, 1, 0x0, 0xFFFF, 0x0, 0x0, .hi⟩, -- PWR_WAKE_AT_SEC_HI
   ⟨0x10040, 0x0, 1, 0x0, 1, 0x0, 0x0, 0x0, 0x0, .plain⟩, -- PWR_TIME
   ⟨0x10044, 0x0, 1, 0x0, 1, 0x0, 0x0, 0x0, 0x0, .plain⟩, -- PWR_SERIAL
   ⟨0x10104, 0x0, 1, 0x4, 7, 0x100, 0x31, 0x0, 0x0, .plain⟩, -- PWR_ISL
   ⟨0x10200, 0x0, 1, 0x4, 64, 0x100, 0x31, 0x0, 0x0, .plain⟩] -- PWR_ISL

def regRows02 : List RegRow :=
  [⟨0x20000, 0x0, 1, 0x0, 1, 0x130406, 0xFF1F0F, 0x0, 0x0, .plain⟩, -- TTH_CFG
   ⟨0x20004, 0x0, 1, 0x0, 1, 0x0, 0x0, 0x0, 0x0, .plain⟩, -- TTH_STS
   ⟨0x20008, 0x0, 1, 0x0, 1, 0x0, 0x0, 0x3FF, 0x0, .plain⟩, -- TTH_EVT
   ⟨0x2000C, 0x0, 1, 0x0, 1, 0x0, 0x0, 0x0, 0x0, .plain⟩, -- TTH_CMD
   ⟨0x20010, 0x0, 1, 0x0, 1, 0x0, 0x0, 0x0, 0x0, .plain⟩, -- TTH_MASK
   ⟨0x20014, 0x0, 1, 0x0, 1, 0x5A080014, 0xFFFFFFFF, 0x0, 0x0, .plain⟩, -- TTH_TMO
   ⟨0x20018, 0x0, 1, 0x0, 1, 0x0, 0x0, 0x0, 0x0, .plain⟩, -- TTH_PEER
   ⟨0x2001C, 0x0, 1, 0x0, 1, 0x0, 0x0, 0x0, 0x0, .lo⟩, -- TTH_PEER_UID_LO
   ⟨0x20020, 0x0, 1, 0x0, 1, 0x0, 0x0, 0x0, 0x0, .hi⟩, -- TTH_PEER_UID_HI
   ⟨0x20024, 0x0, 1, 0x0, 1, 0x0, 0x0, 0x0, 0x0, .plain⟩, -- TTH_SEQ
   ⟨0x20028, 0x0, 1, 0x0, 1, 0x0, 0x0, 0x0, 0x0, .plain⟩, -- TTH_REPLAY
   ⟨0x2002C, 0x0, 1, 0x0, 1, 0x0, 0x0, 0x0, 0x0, .plain⟩, -- TTH_REPLAY_FR
   ⟨0x20030, 0x0, 1, 0x0, 1, 0x0, 0x0, 0x0, 0xFFFFFFFF, .plain⟩, -- TTH_CNT_RX
   ⟨0x20034, 0x0, 1, 0x0, 1, 0x0, 0x0, 0x0, 0xFFFFFFFF, .plain⟩, -- TTH_CNT_TX
   ⟨0x20038, 0x0, 1, 0x0, 1, 0x0, 0x0, 0x0, 0xFFFFFFFF, .plain⟩, -- TTH_PROTO
   ⟨0x20040, 0x0, 1, 0x4, 3, 0x0, 0x0, 0x0, 0x0, .plain⟩, -- TTH_TXCRED
   ⟨0x20100, 0x0, 1, 0x10, 16, 0x0, 0x1F, 0x0, 0x0, .plain⟩, -- TTH_LANE_CFG
   ⟨0x20104, 0x0, 1, 0x10, 16, 0x0, 0x0, 0x0, 0x0, .plain⟩, -- TTH_LANE_STS
   ⟨0x20108, 0x0, 1, 0x10, 16, 0x0, 0x0, 0x0, 0xFFFFFFFF, .plain⟩, -- TTH_LANE_ERR
   ⟨0x2010C, 0x0, 1, 0x10, 16, 0x0, 0x0, 0x0, 0x0, .plain⟩] -- TTH_LANE_EQ

def regRows03 : List RegRow :=
  [⟨0x30000, 0x0, 1, 0x800, 2, 0x0, 0x0, 0x0, 0x0, .plain⟩, -- MEM_CFG
   ⟨0x30004, 0x0, 1, 0x800, 2, 0x0, 0x0, 0x0, 0x0, .plain⟩, -- MEM_STS
   ⟨0x30008, 0x0, 1, 0x800, 2, 0x0, 0x0, 0x3FF, 0x0, .plain⟩, -- MEM_EVT
   ⟨0x3000C, 0x0, 1, 0x800, 2, 0x0, 0x0, 0x0, 0x0, .plain⟩, -- MEM_CMD
   ⟨0x30010, 0x0, 1, 0x800, 2, 0x3C0064, 0xFFFFFF, 0x0, 0x0, .plain⟩, -- MEM_CE_CFG
   ⟨0x30014, 0x0, 1, 0x800, 2, 0x0, 0x0, 0x0, 0xFFFFFFFF, .plain⟩, -- MEM_CE_CNT
   ⟨0x30018, 0x0, 1, 0x800, 2, 0x0, 0x0, 0x0, 0xFFFFFFFF, .plain⟩, -- MEM_UE_CNT
   ⟨0x3001C, 0x0, 1, 0x800, 2, 0x0, 0x0, 0x0, 0x0, .lo⟩, -- MEM_CE_ADDR_LO
   ⟨0x30020, 0x0, 1, 0x800, 2, 0x0, 0x0, 0x0, 0x0, .hi⟩, -- MEM_CE_ADDR_HI
   ⟨0x30024, 0x0, 1, 0x800, 2, 0x0, 0x0, 0x0, 0x0, .lo⟩, -- MEM_UE_ADDR_LO
   ⟨0x30028, 0x0, 1, 0x800, 2, 0x0, 0x0, 0x0, 0x0, .hi⟩, -- MEM_UE_ADDR_HI
   ⟨0x3002C, 0x0, 1, 0x800, 2, 0x64, 0xFFFF, 0x0, 0x0, .plain⟩, -- MEM_PD_CFG
   ⟨0x30030, 0x0, 1, 0x800, 2, 0x1801, 0xFF01, 0x0, 0x0, .plain⟩, -- MEM_SCRUB_CFG
   ⟨0x30034, 0x0, 1, 0x800, 2, 0x0, 0x0, 0x0, 0x0, .plain⟩, -- MEM_SCRUB_POS
   ⟨0x30038, 0x0, 1, 0x800, 2, 0x0, 0x0, 0x0, 0x0, .plain⟩, -- MEM_INIT_PTR
   ⟨0x3003C, 0x0, 1, 0x800, 2, 0x0, 0x0, 0x0, 0x0, .plain⟩, -- MEM_TRAIN
   ⟨0x30040, 0x0, 1, 0x800, 2, 0x414, 0xFFFF, 0x0, 0x0, .plain⟩, -- MEM_RETRAIN_CFG
   ⟨0x30044, 0x0, 1, 0x800, 2, 0x0, 0x0, 0x0, 0x0, .plain⟩, -- MEM_DRIFT
   ⟨0x30048, 0x0, 1, 0x800, 2, 0x0, 0x0, 0x0, 0xFFFFFFFF, .plain⟩, -- MEM_BW
   ⟨0x3004C, 0x0, 1, 0x800, 2, 0x0, 0x0, 0x0, 0xFFFFFFFF, .plain⟩] -- MEM_STARVE

def regRows04_0 : List RegRow :=
  [⟨0x40000, 0x0, 1, 0x0, 1, 0xA8000200, 0xF800FFFF, 0x0, 0x0, .plain⟩, -- CMP_RFL_CFG
   ⟨0x40004, 0x0, 1, 0x0, 1, 0x8000, 0x0, 0x0, 0x0, .plain⟩, -- CMP_RFL_STS
   ⟨0x40008, 0x0, 1, 0x0, 1, 0x0, 0x0, 0x3FD, 0x0, .plain⟩, -- CMP_RFL_EVT
   ⟨0x4000C, 0x0, 1, 0x0, 1, 0x0, 0x0, 0x0, 0x0, .plain⟩, -- CMP_RFL_CMD
   ⟨0x40010, 0x0, 1, 0x0, 1, 0x0, 0xFFFFFFFF, 0x0, 0x0, .lo⟩, -- CMP_RESUME_LO
   ⟨0x40014, 0x0, 1, 0x0, 1, 0x0, 0xFF, 0x0, 0x0, .hi⟩, -- CMP_RESUME_HI
   ⟨0x40018, 0x0, 1, 0x0, 1, 0x3E8, 0xFFFF, 0x0, 0x0, .plain⟩, -- CMP_REREQ_CFG
   ⟨0x4001C, 0x0, 1, 0x0, 1, 0x64, 0xFFFF, 0x0, 0x0, .plain⟩, -- CMP_OPEN_KEEP
   ⟨0x40020, 0x0, 1, 0x0, 1, 0x10000, 0xFFFFFF, 0x0, 0x0, .plain⟩, -- CMP_VC1_MAX
   ⟨0x40024, 0x0, 1, 0x0, 1, 0x0, 0x0, 0x0, 0x0, .plain⟩, -- CMP_STORE_EXT
   ⟨0x40028, 0x0, 1, 0x0, 1, 0x0, 0x0, 0x0, 0x0, .plain⟩, -- CMP_STORE_FREE
   ⟨0x4002C, 0x0, 1, 0x0, 1, 0x0, 0x0, 0x0, 0x0, .plain⟩, -- CMP_STORE_NEED
   ⟨0x40030, 0x0, 1, 0x0, 1, 0xFFFFFFFF, 0x0, 0x0, 0x0, .lo⟩, -- CMP_FRONT_LO
   ⟨0x40034, 0x0, 1, 0x0, 1, 0xFF, 0x0, 0x0, 0x0, .hi⟩, -- CMP_FRONT_HI
   ⟨0x40038, 0x0, 1, 0x0, 1, 0x0, 0x0, 0x0, 0x0, .plain⟩, -- CMP_JOB_HEAD
   ⟨0x4003C, 0x0, 1, 0x0, 1, 0x0, 0x0, 0x0, 0xFFFFFFFF, .plain⟩, -- CMP_SEGREJ
   ⟨0x40040, 0x0, 1, 0x0, 1, 0x0, 0x0, 0x0, 0xFFFFFFFF, .plain⟩, -- CMP_REREQ_CNT
   ⟨0x40044, 0x0, 1, 0x0, 1, 0x0, 0x0, 0x0, 0xFFFFFFFF, .plain⟩, -- CMP_AVERIFY_CNT
   ⟨0x40100, 0x0, 1, 0x0, 1, 0x0, 0x0, 0x0, 0x0, .plain⟩, -- CMP_DX_RETIRED
   ⟨0x40104, 0x0, 1, 0x0, 1, 0x0, 0x0, 0x0, 0x0, .plain⟩, -- CMP_DX_BUSY
   ⟨0x40108, 0x0, 1, 0x0, 1, 0x0, 0x0, 0x0, 0xFFFF3F0F, .plain⟩, -- CMP_DECERR
   ⟨0x4010C, 0x0, 1, 0x0, 1, 0x0, 0x0, 0x0, 0x0, .lo⟩, -- CMP_DECERR_BLK_LO
   ⟨0x40110, 0x0, 1, 0x0, 1, 0x0, 0x0, 0x0, 0x0, .hi⟩, -- CMP_DECERR_BLK_HI
   ⟨0x40140, 0x0, 1, 0x4, 16, 0x0, 0x0, 0x0, 0x0, .plain⟩, -- CMP_DX_STS
   ⟨0x40180, 0x0, 1, 0x4, 16, 0x0, 0x0, 0x0, 0xFFFFFFFF, .plain⟩, -- CMP_DX_BLKS
   ⟨0x401C0, 0x0, 1, 0x0, 1, 0x0, 0x1, 0x0, 0x0, .plain⟩, -- CMP_OBJ_CFG
   ⟨0x401C4, 0x0, 1, 0x0, 1, 0x0, 0xFFFFFFFF, 0x0, 0x0, .lo⟩, -- CMP_OBJ_SRC_LO
   ⟨0x401C8, 0x0, 1, 0x0, 1, 0x0, 0xF, 0x0, 0x0, .hi⟩, -- CMP_OBJ_SRC_HI
   ⟨0x401CC, 0x0, 1, 0x0, 1, 0x0, 0x1FFFFFF, 0x0, 0x0, .plain⟩, -- CMP_OBJ_SLEN
   ⟨0x401D0, 0x0, 1, 0x0, 1, 0x0, 0xFFFFFFFF, 0x0, 0x0, .lo⟩, -- CMP_OBJ_DST_LO
   ⟨0x401D4, 0x0, 1, 0x0, 1, 0x0, 0xF, 0x0, 0x0, .hi⟩, -- CMP_OBJ_DST_HI
   ⟨0x401D8, 0x0, 1, 0x0, 1, 0x0, 0x0, 0x0, 0x0, .plain⟩, -- CMP_OBJ_CMD
   ⟨0x401DC, 0x0, 1, 0x0, 1, 0x0, 0x0, 0x0, 0x0, .plain⟩, -- CMP_OBJ_STS
   ⟨0x40200, 0x0, 1, 0x40, 2, 0x40201, 0x3FFFFF, 0x0, 0x0, .plain⟩, -- CMP_CX_CFG
   ⟨0x40204, 0x0, 1, 0x40, 2, 0x400000, 0x1FFFFFFF, 0x0, 0x0, .plain⟩, -- CMP_CX_LINE
   ⟨0x40208, 0x0, 1, 0x40, 2, 0x0, 0xFFFFFFFF, 0x0, 0x0, .lo⟩, -- CMP_CX_SRC_LO
   ⟨0x4020C, 0x0, 1, 0x40, 2, 0x0, 0xF, 0x0, 0x0, .hi⟩, -- CMP_CX_SRC_HI
   ⟨0x40210, 0x0, 1, 0x40, 2, 0x0, 0xFFFFFFFF, 0x0, 0x0, .plain⟩, -- CMP_CX_SLEN
   ⟨0x40214, 0x0, 1, 0x40, 2, 0x0, 0xFFFFFFFF, 0x0, 0x0, .lo⟩, -- CMP_CX_DST_LO
   ⟨0x40218, 0x0, 1, 0x40, 2, 0x0, 0xF, 0x0, 0x0, .hi⟩] -- CMP_CX_DST_HI

def regRows04_1 : List RegRow :=
  [⟨0x4021C, 0x0, 1, 0x40, 2, 0x0, 0xFFFFFFFF, 0x0, 0x0, .plain⟩, -- CMP_CX_DLEN
   ⟨0x40220, 0x0, 1, 0x40, 2, 0x0, 0x0, 0x0, 0x0, .plain⟩, -- CMP_CX_CMD
   ⟨0x40224, 0x0, 1, 0x40, 2, 0x0, 0x0, 0x0, 0x0, .plain⟩, -- CMP_CX_STS
   ⟨0x40228, 0x0, 1, 0x40, 2, 0x0, 0x0, 0x0, 0x0, .plain⟩, -- CMP_CX_OUT
   ⟨0x4022C, 0x0, 1, 0x40, 2, 0x0, 0x0, 0x0, 0x0, .plain⟩, -- CMP_CX_IN
   ⟨0x40230, 0x0, 1, 0x40, 2, 0x0, 0x0, 0xF, 0x0, .plain⟩] -- CMP_CX_EVT

def regRows04 : List RegRow := regRows04_0 ++ regRows04_1

def regRows05 : List RegRow :=
  [⟨0x50000, 0x0, 1, 0x0, 1, 0xFF, 0x0, 0x0, 0x0, .plain⟩, -- CHK_SUM
   ⟨0x50004, 0x0, 1, 0x0, 1, 0x0, 0x0, 0xFFFF, 0x0, .plain⟩, -- CHK_EVT
   ⟨0x50100, 0x0, 1, 0x80, 8, 0x31F, 0x773F, 0x0, 0x0, .plain⟩, -- CU_CFG
   ⟨0x50104, 0x0, 1, 0x80, 8, 0x1EDC6F41, 0xFFFFFFFF, 0x0, 0x0, .lo⟩, -- CU_POLY_LO
   ⟨0x50108, 0x0, 1, 0x80, 8, 0x0, 0xFFFFFFFF, 0x0, 0x0, .hi⟩, -- CU_POLY_HI
   ⟨0x5010C, 0x0, 1, 0x80, 8, 0xFFFFFFFF, 0xFFFFFFFF, 0x0, 0x0, .lo⟩, -- CU_INIT_LO
   ⟨0x50110, 0x0, 1, 0x80, 8, 0x0, 0xFFFFFFFF, 0x0, 0x0, .hi⟩, -- CU_INIT_HI
   ⟨0x50114, 0x0, 1, 0x80, 8, 0xFFFFFFFF, 0xFFFFFFFF, 0x0, 0x0, .lo⟩, -- CU_XOR_LO
   ⟨0x50118, 0x0, 1, 0x80, 8, 0x0, 0xFFFFFFFF, 0x0, 0x0, .hi⟩, -- CU_XOR_HI
   ⟨0x5011C, 0x0, 1, 0x80, 8, 0x0, 0xFFFFFFFF, 0x0, 0x0, .lo⟩, -- CU_STATE_LO
   ⟨0x50120, 0x0, 1, 0x80, 8, 0x0, 0xFFFFFFFF, 0x0, 0x0, .hi⟩, -- CU_STATE_HI
   ⟨0x50124, 0x0, 1, 0x80, 8, 0x0, 0x0, 0x0, 0x0, .lo⟩, -- CU_RESULT_LO
   ⟨0x50128, 0x0, 1, 0x80, 8, 0x0, 0x0, 0x0, 0x0, .hi⟩, -- CU_RESULT_HI
   ⟨0x5012C, 0x0, 1, 0x80, 8, 0x0, 0x0, 0x0, 0x0, .plain⟩, -- CU_DIN8
   ⟨0x50130, 0x0, 1, 0x80, 8, 0x0, 0x0, 0x0, 0x0, .plain⟩, -- CU_DIN16
   ⟨0x50134, 0x0, 1, 0x80, 8, 0x0, 0x0, 0x0, 0x0, .plain⟩, -- CU_DIN32
   ⟨0x50138, 0x0, 1, 0x80, 8, 0x0, 0x0, 0x0, 0x0, .plain⟩, -- CU_CMD
   ⟨0x5013C, 0x0, 1, 0x80, 8, 0x0, 0x0, 0xC0, 0x0, .plain⟩, -- CU_STS
   ⟨0x50140, 0x0, 1, 0x80, 8, 0x0, 0xFFFFFFFF, 0x0, 0x0, .lo⟩, -- CU_BUF_LO
   ⟨0x50144, 0x0, 1, 0x80, 8, 0x0, 0xF, 0x0, 0x0, .hi⟩, -- CU_BUF_HI
   ⟨0x50148, 0x0, 1, 0x80, 8, 0x0, 0x1FFFFFF, 0x0, 0x0, .plain⟩, -- CU_BUF_LEN
   ⟨0x5014C, 0x0, 1, 0x80, 8, 0x0, 0x0, 0x0, 0x0, .plain⟩] -- CU_BYTES

def regRows06_0 : List RegRow :=
  [⟨0x60000, 0x0, 1, 0x0, 1, 0x10064, 0x3FFFF, 0x0, 0x0, .plain⟩, -- TIM_CFG
   ⟨0x60004, 0x0, 1, 0x0, 1, 0x0, 0x0, 0x0, 0x0, .plain⟩, -- TIM_STS
   ⟨0x60008, 0x0, 1, 0x0, 1, 0x0, 0x0, 0xFF, 0x0, .plain⟩, -- TIM_EVT
   ⟨0x6000C, 0x0, 1, 0x0, 1, 0x0, 0x0, 0x0, 0x0, .plain⟩, -- TIM_CMD
   ⟨0x60010, 0x0, 1, 0x0, 1, 0x0, 0x0, 0x0, 0x0, .frac⟩, -- TIM_DEV_FRAC
   ⟨0x60014, 0x0, 1, 0x0, 1, 0x0, 0x0, 0x0, 0x0, .ns⟩, -- TIM_DEV_NS
   ⟨0x60018, 0x0, 1, 0x0, 1, 0x0, 0x0, 0x0, 0x0, .secLo⟩, -- TIM_DEV_SEC_LO
   ⟨0x6001C, 0x0, 1, 0x0, 1, 0x0, 0x0, 0x0, 0x0, .secHi⟩, -- TIM_DEV_SEC_HI
   ⟨0x60020, 0x0, 1, 0x0, 1, 0x0, 0x0, 0x0, 0x0, .lo⟩, -- TIM_H_LO
   ⟨0x60024, 0x0, 1, 0x0, 1, 0x0, 0x0, 0x0, 0x0, .hi⟩, -- TIM_H_HI
   ⟨0x60040, 0x0, 1, 0x0, 1, 0x0, 0xFFFF, 0x0, 0x0, .plain⟩, -- TIM_GPIO_DIR
   ⟨0x60044, 0x0, 1, 0x0, 1, 0x0, 0xFFFF, 0x0, 0x0, .plain⟩, -- TIM_GPIO_OUT
   ⟨0x60048, 0x0, 1, 0x0, 1, 0x0, 0x0, 0x0, 0x0, .plain⟩, -- TIM_GPIO_IN
   ⟨0x60100, 0x0, 1, 0x80, 2, 0x0, 0xFFFF, 0x0, 0x0, .plain⟩, -- TIM_D_CFG
   ⟨0x60104, 0x0, 1, 0x80, 2, 0x0, 0x0, 0x0, 0x0, .plain⟩, -- TIM_D_STS
   ⟨0x60108, 0x0, 1, 0x80, 2, 0x0, 0x0, 0x0, 0x0, .plain⟩, -- TIM_D_CMD
   ⟨0x6010C, 0x0, 1, 0x80, 2, 0x40000000, 0xFFFFFFFF, 0x0, 0x0, .lo⟩, -- TIM_D_INC_LO
   ⟨0x60110, 0x0, 1, 0x80, 2, 0x1, 0xF, 0x0, 0x0, .hi⟩, -- TIM_D_INC_HI
   ⟨0x60114, 0x0, 1, 0x80, 2, 0x0, 0x0, 0x0, 0x0, .frac⟩, -- TIM_D_FRAC
   ⟨0x60118, 0x0, 1, 0x80, 2, 0x0, 0x0, 0x0, 0x0, .ns⟩, -- TIM_D_NS
   ⟨0x6011C, 0x0, 1, 0x80, 2, 0x0, 0x0, 0x0, 0x0, .secLo⟩, -- TIM_D_SEC_LO
   ⟨0x60120, 0x0, 1, 0x80, 2, 0x0, 0x0, 0x0, 0x0, .secHi⟩, -- TIM_D_SEC_HI
   ⟨0x60124, 0x0, 1, 0x80, 2, 0x0, 0x3FFFFFFF, 0x0, 0x0, .plain⟩, -- TIM_D_SET_NS
   ⟨0x60128, 0x0, 1, 0x80, 2, 0x0, 0xFFFFFFFF, 0x0, 0x0, .lo⟩, -- TIM_D_SET_SEC_LO
   ⟨0x6012C, 0x0, 1, 0x80, 2, 0x0, 0xFFFF, 0x0, 0x0, .hi⟩, -- TIM_D_SET_SEC_HI
   ⟨0x60130, 0x0, 1, 0x80, 2, 0x0, 0xFFFFFFFF, 0x0, 0x0, .plain⟩, -- TIM_D_ADJ
   ⟨0x60400, 0x0, 1, 0x40, 16, 0x0, 0xFFF0F1, 0x0, 0x0, .plain⟩, -- TRG_CFG
   ⟨0x60404, 0x0, 1, 0x40, 16, 0x0, 0xFFFFFF3F, 0x0, 0x0, .plain⟩, -- TRG_OUT
   ⟨0x60408, 0x0, 1, 0x40, 16, 0x0, 0xFFFF, 0x0, 0x0, .frac⟩, -- TRG_T_FRAC
   ⟨0x6040C, 0x0, 1, 0x40, 16, 0x0, 0x3FFFFFFF, 0x0, 0x0, .ns⟩, -- TRG_T_NS
   ⟨0x60410, 0x0, 1, 0x40, 16, 0x0, 0xFFFFFFFF, 0x0, 0x0, .secLo⟩, -- TRG_T_SEC_LO
   ⟨0x60414, 0x0, 1, 0x40, 16, 0x0, 0xFFFF, 0x0, 0x0, .secHi⟩, -- TRG_T_SEC_HI
   ⟨0x60418, 0x0, 1, 0x40, 16, 0x0, 0xFFFFFFFF, 0x0, 0x0, .plain⟩, -- TRG_PERIOD
   ⟨0x6041C, 0x0, 1, 0x40, 16, 0x0, 0xFFFF, 0x0, 0x0, .plain⟩, -- TRG_PFRAC
   ⟨0x60420, 0x0, 1, 0x40, 16, 0x0, 0xFFFFFFFF, 0x0, 0x0, .plain⟩, -- TRG_COUNT
   ⟨0x60424, 0x0, 1, 0x40, 16, 0x0, 0x0, 0xFC, 0xFFFF0000, .plain⟩, -- TRG_STS
   ⟨0x60428, 0x0, 1, 0x40, 16, 0x0, 0x0, 0x0, 0x0, .plain⟩, -- TRG_LATE
   ⟨0x6042C, 0x0, 1, 0x40, 16, 0x0, 0x0, 0x0, 0xFFFFFFFF, .plain⟩, -- TRG_ADCRES
   ⟨0x60430, 0x0, 1, 0x40, 16, 0x0, 0x0, 0x0, 0x0, .plain⟩, -- TRG_CMD
   ⟨0x60800, 0x0, 1, 0x40, 16, 0x100, 0x800F1F3F, 0x0, 0x0, .plain⟩] -- CAP_CFG

def regRows06_1 : List RegRow :=
  [⟨0x60804, 0x0, 1, 0x40, 16, 0x0, 0xFFFFFFFF, 0x0, 0x0, .plain⟩, -- CAP_WINLEN
   ⟨0x60808, 0x0, 1, 0x40, 16, 0x0, 0x0, 0x0, 0x0, .frac⟩, -- CAP_FRAC
   ⟨0x6080C, 0x0, 1, 0x40, 16, 0x0, 0x0, 0x0, 0x0, .ns⟩, -- CAP_NS
   ⟨0x60810, 0x0, 1, 0x40, 16, 0x0, 0x0, 0x0, 0x0, .secLo⟩, -- CAP_SEC_LO
   ⟨0x60814, 0x0, 1, 0x40, 16, 0x0, 0x0, 0x0, 0x0, .secHi⟩, -- CAP_SEC_HI
   ⟨0x60818, 0x0, 1, 0x40, 16, 0x0, 0x0, 0x0, 0x0, .lo⟩, -- CAP_POS_LO
   ⟨0x6081C, 0x0, 1, 0x40, 16, 0x0, 0x0, 0x0, 0x0, .hi⟩, -- CAP_POS_HI
   ⟨0x60820, 0x0, 1, 0x40, 16, 0x0, 0x0, 0x70, 0x0, .plain⟩, -- CAP_STS
   ⟨0x60824, 0x0, 1, 0x40, 16, 0x0, 0x0, 0x0, 0xFFFFFFFF, .plain⟩, -- CAP_CNT
   ⟨0x60828, 0x0, 1, 0x40, 16, 0x0, 0x0, 0x0, 0x0, .plain⟩, -- CAP_CMD
   ⟨0x61000, 0x0, 1, 0x100, 2, 0x4, 0x17, 0x0, 0x0, .plain⟩, -- ETH_CFG
   ⟨0x61004, 0x0, 1, 0x100, 2, 0x0, 0x0, 0x0, 0x0, .plain⟩, -- ETH_STS
   ⟨0x61008, 0x0, 1, 0x100, 2, 0x0, 0x0, 0xF, 0x0, .plain⟩, -- ETH_EVT
   ⟨0x6100C, 0x0, 1, 0x100, 2, 0x0, 0xFFFFFFFF, 0x0, 0x0, .plain⟩, -- ETH_LAT_RX
   ⟨0x61010, 0x0, 1, 0x100, 2, 0x0, 0xFFFFFFFF, 0x0, 0x0, .plain⟩, -- ETH_LAT_TX
   ⟨0x61014, 0x0, 1, 0x100, 2, 0x0, 0x0, 0x0, 0x0, .plain⟩, -- ETH_TXQ_TAG
   ⟨0x61018, 0x0, 1, 0x100, 2, 0x0, 0x0, 0x0, 0x0, .frac⟩, -- ETH_TXQ_FRAC
   ⟨0x6101C, 0x0, 1, 0x100, 2, 0x0, 0x0, 0x0, 0x0, .ns⟩, -- ETH_TXQ_NS
   ⟨0x61020, 0x0, 1, 0x100, 2, 0x0, 0x0, 0x0, 0x0, .secLo⟩, -- ETH_TXQ_SEC_LO
   ⟨0x61024, 0x0, 1, 0x100, 2, 0x0, 0x0, 0x0, 0x0, .secHi⟩, -- ETH_TXQ_SEC_HI
   ⟨0x61028, 0x0, 1, 0x100, 2, 0x0, 0x0, 0x0, 0x0, .plain⟩, -- ETH_TXQ_CMD
   ⟨0x6102C, 0x0, 1, 0x100, 2, 0x0, 0x0, 0x0, 0xFFFFFFFF, .plain⟩, -- ETH_TXQ_CNT
   ⟨0x60C00, 0x0, 1, 0x10, 20, 0x0, 0x1FF, 0x0, 0x0, .plain⟩, -- TIM_IN_CFG
   ⟨0x60C04, 0x0, 1, 0x10, 20, 0x0, 0xFFFF, 0x0, 0x0, .plain⟩, -- TIM_IN_LIM
   ⟨0x60C08, 0x0, 1, 0x10, 20, 0x640000, 0xFFFFFFFF, 0x0, 0x0, .plain⟩, -- TIM_IN_STUCK
   ⟨0x60C0C, 0x0, 1, 0x10, 20, 0x0, 0x0, 0x3, 0xFFFF0000, .plain⟩] -- TIM_IN_STS

def regRows06 : List RegRow := regRows06_0 ++ regRows06_1

def regRows07 : List RegRow :=
  [⟨0x70000, 0x0, 1, 0x0, 1, 0x0, 0xFF, 0x0, 0x0, .plain⟩, -- INS_MEDIUM
   ⟨0x70004, 0x0, 1, 0x0, 1, 0x0, 0x0, 0x0, 0x0, .plain⟩, -- INS_STS
   ⟨0x7000C, 0x0, 1, 0x0, 1, 0x0, 0x0, 0x0, 0x0, .plain⟩, -- INS_COMMIT
   ⟨0x70010, 0x0, 1, 0x0, 1, 0x0, 0x0, 0x0, 0x0, .plain⟩, -- INS_RING
   ⟨0x70014, 0x0, 1, 0x0, 1, 0x0, 0x0, 0x0, 0xFFFFFFFF, .plain⟩, -- INS_DROP
   ⟨0x70020, 0x0, 1, 0x4, 8, 0x0, 0xFFFFFF, 0x0, 0x0, .plain⟩, -- INS_RESP
   ⟨0x70100, 0x0, 1, 0x100, 4, 0x80, 0xFFFF3FF7, 0x0, 0x0, .plain⟩, -- CAM_CFG
   ⟨0x70104, 0x0, 1, 0x100, 4, 0x300, 0xFFFFF, 0x0, 0x0, .plain⟩, -- CAM_GRID
   ⟨0x70108, 0x0, 1, 0x100, 4, 0x0, 0xFFFFFFFF, 0x0, 0x0, .plain⟩, -- CAM_YOFF
   ⟨0x7010C, 0x0, 1, 0x100, 4, 0x6400C80, 0xFFFFFFFF, 0x0, 0x0, .plain⟩, -- CAM_LTRIG
   ⟨0x70110, 0x0, 1, 0x100, 4, 0x20002000, 0xFFFFFFFF, 0x0, 0x0, .plain⟩, -- CAM_SIZE
   ⟨0x70114, 0x0, 1, 0x100, 4, 0x640050, 0xFFFF00FF, 0x0, 0x0, .plain⟩, -- CAM_PULSE
   ⟨0x70118, 0x0, 1, 0x100, 4, 0x3FFF0000, 0x3FFF3FFF, 0x0, 0x0, .plain⟩, -- CAM_WIN
   ⟨0x7011C, 0x0, 1, 0x100, 4, 0xFFF0000, 0xFFF0FFF, 0x0, 0x0, .plain⟩, -- CAM_LVL_R
   ⟨0x70120, 0x0, 1, 0x100, 4, 0xFFF0000, 0xFFF0FFF, 0x0, 0x0, .plain⟩, -- CAM_LVL_G
   ⟨0x70124, 0x0, 1, 0x100, 4, 0xFFF0000, 0xFFF0FFF, 0x0, 0x0, .plain⟩, -- CAM_LVL_B
   ⟨0x70128, 0x0, 1, 0x100, 4, 0x20102040, 0xFFFFFFFF, 0x0, 0x0, .plain⟩, -- CAM_DET
   ⟨0x7012C, 0x0, 1, 0x100, 4, 0xC8001010, 0xFFC0FFFF, 0x0, 0x0, .plain⟩, -- CAM_REG
   ⟨0x70130, 0x0, 1, 0x100, 4, 0x4000, 0x73FF, 0x0, 0x0, .plain⟩, -- CAM_PANE
   ⟨0x70140, 0x0, 1, 0x100, 4, 0x0, 0x0, 0x0, 0x0, .plain⟩, -- CAM_STS
   ⟨0x70144, 0x0, 1, 0x100, 4, 0x0, 0x0, 0xFFF, 0x0, .plain⟩, -- CAM_EVT
   ⟨0x70148, 0x0, 1, 0x100, 4, 0x0, 0x0, 0x0, 0x0, .plain⟩, -- CAM_GEN
   ⟨0x7014C, 0x0, 1, 0x100, 4, 0x0, 0x0, 0x0, 0x0, .plain⟩, -- CAM_FRAME
   ⟨0x70150, 0x0, 1, 0x100, 4, 0x0, 0x0, 0x0, 0xFFFFFFFF, .plain⟩, -- CAM_CNT
   ⟨0x70180, 0x100, 4, 0x4, 20, 0x0, 0x0, 0x0, 0x0, .plain⟩, -- CAM_STAT
   ⟨0x71000, 0x100, 4, 0x4, 33, 0x0, 0xFFFFFFF, 0x0, 0x0, .plain⟩] -- CAM_MAP

def regRows08 : List RegRow :=
  [⟨0x80000, 0x0, 1, 0x0, 1, 0x1, 0x0, 0x0, 0x0, .plain⟩, -- OWN_STS
   ⟨0x80004, 0x0, 1, 0x0, 1, 0x0, 0x0, 0x0, 0x0, .plain⟩, -- OWN_HOLDER
   ⟨0x80008, 0x0, 1, 0x0, 1, 0x0, 0x0, 0x0, 0x0, .plain⟩, -- OWN_REQ
   ⟨0x8000C, 0x0, 1, 0x0, 1, 0x0, 0x0, 0x0, 0x0, .plain⟩, -- OWN_CMD
   ⟨0x80010, 0x0, 1, 0x0, 1, 0x0, 0x0, 0x3F, 0x0, .plain⟩, -- OWN_EVT
   ⟨0x80014, 0x0, 1, 0x0, 1, 0x0, 0x0, 0x0, 0x0, .plain⟩, -- OWN_LEASE_LEFT
   ⟨0x80018, 0x0, 1, 0x0, 1, 0x0, 0x0, 0x0, 0x0, .plain⟩, -- OWN_WAIT
   ⟨0x80020, 0x0, 1, 0x0, 1, 0x0, 0x0, 0x0, 0x0, .plain⟩, -- HAT_EPOCH0
   ⟨0x80024, 0x0, 1, 0x0, 1, 0x0, 0x0, 0x0, 0x0, .plain⟩, -- HAT_EPOCH1
   ⟨0x80028, 0x0, 1, 0x0, 1, 0x0, 0x0, 0x0, 0x0, .plain⟩, -- HAT_CMD
   ⟨0x8002C, 0x0, 1, 0x0, 1, 0x0, 0x0, 0x0, 0x0, .plain⟩, -- HAT_SUMMARY
   ⟨0x80100, 0x80, 8, 0x4, 16, 0x0, 0xFFFFFFFF, 0x0, 0x0, .plain⟩, -- HAT_D
   ⟨0x80140, 0x0, 1, 0x80, 8, 0x0, 0x0, 0x0, 0x0, .plain⟩, -- HAT_CTRL
   ⟨0x80144, 0x0, 1, 0x80, 8, 0x0, 0x0, 0x20000, 0x0, .plain⟩, -- HAT_STS
   ⟨0x80148, 0x0, 1, 0x80, 8, 0x0, 0x0, 0x0, 0x0, .plain⟩, -- HAT_AGE
   ⟨0x8014C, 0x0, 1, 0x80, 8, 0x5, 0x7, 0x0, 0x0, .plain⟩] -- HAT_CFG

def regRows09 : List RegRow :=
  [⟨0x90000, 0x0, 1, 0x0, 1, 0x4002, 0xFFFFFF03, 0x0, 0x0, .plain⟩, -- BRD_CFG
   ⟨0x90004, 0x0, 1, 0x0, 1, 0x0, 0x0, 0x0, 0x0, .plain⟩, -- BRD_STS
   ⟨0x90008, 0x0, 1, 0x0, 1, 0x0, 0x0, 0xFFFF, 0x0, .plain⟩, -- BRD_EVT
   ⟨0x9000C, 0x0, 1, 0x0, 1, 0x0, 0x0, 0x0, 0x0, .plain⟩, -- BRD_CMD
   ⟨0x90010, 0x0, 1, 0x0, 1, 0x403, 0xF0F, 0x0, 0x0, .plain⟩, -- BRD_HB
   ⟨0x90014, 0x0, 1, 0x0, 1, 0x32, 0xFFFF, 0x0, 0x0, .plain⟩, -- BRD_GUARD
   ⟨0x90018, 0x0, 1, 0x0, 1, 0x0, 0x0, 0x0, 0x0, .plain⟩, -- BRD_KICK
   ⟨0x9001C, 0x0, 1, 0x0, 1, 0x8000008, 0xFFFF00FF, 0x0, 0x0, .plain⟩, -- BRD_LEAD
   ⟨0x90020, 0x0, 1, 0x0, 1, 0x0, 0x0, 0x0, 0x0, .plain⟩, -- BRD_PEER
   ⟨0x90024, 0x0, 1, 0x0, 1, 0x0, 0x0, 0x0, 0x0, .lo⟩, -- BRD_PEER_UID_LO
   ⟨0x90028, 0x0, 1, 0x0, 1, 0x0, 0x0, 0x0, 0x0, .hi⟩, -- BRD_PEER_UID_HI
   ⟨0x9002C, 0x0, 1, 0x0, 1, 0x0, 0x0, 0x0, 0x0, .plain⟩, -- BRD_JOINREJ
   ⟨0x90030, 0x0, 1, 0x0, 1, 0x0, 0x0, 0x0, 0x0, .plain⟩, -- BRD_DIGEST
   ⟨0x90034, 0x0, 1, 0x0, 1, 0x0, 0x0, 0x0, 0x0, .plain⟩, -- BRD_PEER_DIGEST
   ⟨0x90038, 0x0, 1, 0x0, 1, 0x0, 0x0, 0x0, 0xFFFFFFFF, .plain⟩, -- BRD_CNT_CMP
   ⟨0x9003C, 0x0, 1, 0x0, 1, 0x0, 0x0, 0x0, 0xFFFFFFFF, .plain⟩, -- BRD_CNT_DIFF
   ⟨0x90040, 0x0, 1, 0x0, 1, 0x0, 0x0, 0x0, 0xFFFFFFFF, .plain⟩, -- BRD_CNT_ONE
   ⟨0x90044, 0x0, 1, 0x0, 1, 0x0, 0x0, 0x0, 0x0, .lo⟩, -- BRD_LAST_DIFF_LO
   ⟨0x90048, 0x0, 1, 0x0, 1, 0x0, 0x0, 0x0, 0x0, .hi⟩, -- BRD_LAST_DIFF_HI
   ⟨0x9004C, 0x0, 1, 0x0, 1, 0x0, 0x0, 0x0, 0x0, .plain⟩, -- BRD_TAKE
   ⟨0x90050, 0x0, 1, 0x0, 1, 0x0, 0xFFFFFFFF, 0x0, 0x0, .lo⟩, -- BRD_SWAP_AT_LO
   ⟨0x90054, 0x0, 1, 0x0, 1, 0x0, 0xFF, 0x0, 0x0, .hi⟩, -- BRD_SWAP_AT_HI
   ⟨0x90058, 0x0, 1, 0x0, 1, 0x0, 0x0, 0x0, 0x0, .plain⟩, -- BRD_TOFF
   ⟨0x90100, 0x0, 1, 0x10, 2, 0x0, 0x0, 0x0, 0x0, .plain⟩] -- BRD_LANE_STS

def regRows0A : List RegRow :=
  [⟨0xA0000, 0x0, 1, 0x0, 1, 0x0, 0x0, 0x0, 0x0, .plain⟩, -- CAL_CMD
   ⟨0xA0004, 0x0, 1, 0x0, 1, 0x0, 0x0, 0x0, 0x0, .plain⟩, -- CAL_STS
   ⟨0xA0008, 0x0, 1, 0x0, 1, 0x0, 0x0, 0xFF, 0x0, .plain⟩, -- CAL_EVT
   ⟨0xA000C, 0x0, 1, 0x0, 1, 0x0, 0x0, 0x0, 0x0, .plain⟩, -- CAL_RESULT
   ⟨0xA0010, 0x0, 1, 0x0, 1, 0x0, 0x0, 0x0, 0x0, .plain⟩, -- CAL_ADC_REQ
   ⟨0xA0014, 0x0, 1, 0x0, 1, 0x0, 0x0, 0x0, 0x0, .plain⟩, -- CAL_ADC_RES
   ⟨0xA0018, 0x0, 1, 0x0, 1, 0x0, 0x0, 0x0, 0x0, .plain⟩, -- CAL_VREF
   ⟨0xA0040, 0x0, 1, 0x0, 1, 0x0, 0x3F3FFFFF, 0x0, 0x0, .plain⟩, -- CAL_STAGE_HDR
   ⟨0xA0044, 0x0, 1, 0x0, 1, 0x0, 0x3FFF3FFF, 0x0, 0x0, .plain⟩, -- CAL_STAGE_REST
   ⟨0xA0080, 0x0, 1, 0x4, 8, 0x0, 0xFFFF, 0x0, 0x0, .plain⟩, -- CAL_STAGE_T
   ⟨0xA00A0, 0x0, 1, 0x4, 8, 0x0, 0xFFF0FFF, 0x0, 0x0, .plain⟩, -- CAL_STAGE_G
   ⟨0xA00C0, 0x0, 1, 0x4, 8, 0x0, 0xFFF0FFF, 0x0, 0x0, .plain⟩, -- CAL_STAGE_O
   ⟨0xA0100, 0x0, 1, 0x4, 128, 0x0, 0x0, 0x0, 0x0, .plain⟩, -- CAL_DAC
   ⟨0xA0800, 0x0, 1, 0x0, 1, 0x0, 0x0, 0x0, 0x0, .plain⟩, -- KEEL_STS
   ⟨0xA0804, 0x0, 1, 0x0, 1, 0x0, 0x0, 0x7F, 0x0, .plain⟩, -- KEEL_EVT
   ⟨0xA0808, 0x0, 1, 0x0, 1, 0x0, 0x0, 0x0, 0x0, .plain⟩, -- KEEL_TORN
   ⟨0xA080C, 0x0, 1, 0x0, 1, 0x0, 0x0, 0x0, 0xFFFFFFFF, .plain⟩, -- KEEL_COMMITS
   ⟨0xA0820, 0x0, 1, 0x4, 4, 0x0, 0x0, 0x0, 0x0, .plain⟩, -- KEEL_KEY_STS
   ⟨0xA0840, 0x0, 1, 0x4, 8, 0x0, 0xFFFFFFFF, 0x0, 0x0, .plain⟩, -- KEEL_KEY_DATA
   ⟨0xA0860, 0x0, 1, 0x0, 1, 0x0, 0x0, 0x0, 0x0, .plain⟩, -- KEEL_KEY_CMD
   ⟨0xA0870, 0x0, 1, 0x0, 1, 0x1, 0xFF, 0x0, 0x0, .plain⟩, -- KEEL_REC_SEL
   ⟨0xA0874, 0x0, 1, 0x0, 1, 0x0, 0x0, 0x0, 0x0, .plain⟩, -- KEEL_REC_STS
   ⟨0xA0878, 0x0, 1, 0x0, 1, 0x0, 0x0, 0x0, 0x0, .plain⟩] -- KEEL_REC_SEQ

def regRows0B_0 : List RegRow :=
  [⟨0xB0000, 0x0, 1, 0x0, 1, 0x180, 0x3FFF, 0x0, 0x0, .plain⟩, -- PAC_CFG
   ⟨0xB0004, 0x0, 1, 0x0, 1, 0x0, 0x0, 0x0, 0x0, .plain⟩, -- PAC_STS
   ⟨0xB0008, 0x0, 1, 0x0, 1, 0x0, 0x0, 0x7FF, 0x0, .plain⟩, -- PAC_EVT
   ⟨0xB000C, 0x0, 1, 0x0, 1, 0x0, 0x0, 0x0, 0x0, .plain⟩, -- PAC_CMD
   ⟨0xB0010, 0x0, 1, 0x0, 1, 0x0, 0xFFFFFFFF, 0x0, 0x0, .lo⟩, -- PAC_RATIO_ENC0_LO
   ⟨0xB0014, 0x0, 1, 0x0, 1, 0x1, 0xFFFF, 0x0, 0x0, .hi⟩, -- PAC_RATIO_ENC0_HI
   ⟨0xB0018, 0x0, 1, 0x0, 1, 0x0, 0xFFFFFFFF, 0x0, 0x0, .lo⟩, -- PAC_RATIO_ENC1_LO
   ⟨0xB001C, 0x0, 1, 0x0, 1, 0x1, 0xFFFF, 0x0, 0x0, .hi⟩, -- PAC_RATIO_ENC1_HI
   ⟨0xB0020, 0x0, 1, 0x0, 1, 0x0, 0xFFFFFFFF, 0x0, 0x0, .lo⟩, -- PAC_RATIO_STEP0_LO
   ⟨0xB0024, 0x0, 1, 0x0, 1, 0x1, 0xFFFF, 0x0, 0x0, .hi⟩, -- PAC_RATIO_STEP0_HI
   ⟨0xB0028, 0x0, 1, 0x0, 1, 0x0, 0xFFFFFFFF, 0x0, 0x0, .lo⟩, -- PAC_RATIO_STEP1_LO
   ⟨0xB002C, 0x0, 1, 0x0, 1, 0x1, 0xFFFF, 0x0, 0x0, .hi⟩, -- PAC_RATIO_STEP1_HI
   ⟨0xB0030, 0x0, 1, 0x0, 1, 0x3, 0xF, 0x0, 0x0, .plain⟩, -- PAC_BACKLASH
   ⟨0xB0034, 0x0, 1, 0x0, 1, 0x48403E8, 0xFFFFFFFF, 0x0, 0x0, .plain⟩, -- PAC_LOSS
   ⟨0xB0038, 0x0, 1, 0x0, 1, 0x1000, 0xFFFFF, 0x0, 0x0, .plain⟩, -- PAC_VMIN
   ⟨0xB003C, 0x0, 1, 0x0, 1, 0x0, 0x707, 0x0, 0x0, .plain⟩, -- PAC_ENC_CFG
   ⟨0xB0040, 0x0, 1, 0x0, 1, 0x0, 0x0, 0x0, 0x0, .lo⟩, -- PAC_POS_LO
   ⟨0xB0044, 0x0, 1, 0x0, 1, 0x0, 0x0, 0x0, 0x0, .hi⟩, -- PAC_POS_HI
   ⟨0xB0048, 0x0, 1, 0x0, 1, 0x0, 0x0, 0x0, 0x0, .plain⟩, -- PAC_VEL
   ⟨0xB004C, 0x0, 1, 0x0, 1, 0x0, 0x0, 0x0, 0x0, .plain⟩, -- PAC_ERR
   ⟨0xB0050, 0x0, 1, 0x0, 1, 0x0, 0x0, 0x0, 0x0, .lo⟩, -- PAC_HWM_LO
   ⟨0xB0054, 0x0, 1, 0x0, 1, 0x0, 0x0, 0x0, 0x0, .hi⟩, -- PAC_HWM_HI
   ⟨0xB0058, 0x0, 1, 0x0, 1, 0x0, 0xFFFFFFFF, 0x0, 0x0, .lo⟩, -- PAC_PRESET_LO
   ⟨0xB005C, 0x0, 1, 0x0, 1, 0x0, 0xFFFFFF, 0x0, 0x0, .hi⟩, -- PAC_PRESET_HI
   ⟨0xB0060, 0x0, 1, 0x0, 1, 0x0, 0x0, 0x0, 0xFFFFFFFF, .plain⟩, -- PAC_REV
   ⟨0xB0064, 0x0, 1, 0x0, 1, 0x0, 0x0, 0x0, 0xFFFFFFFF, .plain⟩, -- PAC_ERRCNT
   ⟨0xB0068, 0x0, 1, 0x0, 1, 0x0, 0x0, 0x0, 0x0, .plain⟩, -- PAC_OFFSET
   ⟨0xB006C, 0x0, 1, 0x0, 1, 0x0, 0xFFFFFF, 0x0, 0x0, .plain⟩, -- PAC_ZCPR
   ⟨0xB0070, 0x0, 1, 0x0, 1, 0x0, 0x0, 0x0, 0x0, .plain⟩, -- PAC_ZMEAS0
   ⟨0xB0074, 0x0, 1, 0x0, 1, 0x0, 0x0, 0x0, 0x0, .plain⟩, -- PAC_ZMEAS1
   ⟨0xB0078, 0x0, 1, 0x0, 1, 0x0, 0x0, 0x0, 0x0, .plain⟩, -- PAC_ADV
   ⟨0xB007C, 0x0, 1, 0x0, 1, 0x1F40000, 0xFFFF0003, 0x0, 0x0, .plain⟩, -- PAC_ADV_CFG
   ⟨0xB0080, 0x0, 1, 0x4, 4, 0x0, 0x0, 0x0, 0x0, .plain⟩, -- PAC_CNT
   ⟨0xB0100, 0x0, 1, 0x10, 10, 0x0, 0x1FF, 0x0, 0x0, .plain⟩, -- PAC_IN_CFG
   ⟨0xB0104, 0x0, 1, 0x10, 10, 0x0, 0xFFFF, 0x0, 0x0, .plain⟩, -- PAC_IN_LIM
   ⟨0xB0108, 0x0, 1, 0x10, 10, 0x640000, 0xFFFFFFFF, 0x0, 0x0, .plain⟩, -- PAC_IN_STUCK
   ⟨0xB010C, 0x0, 1, 0x10, 10, 0x0, 0x0, 0x3, 0xFFFF0000, .plain⟩, -- PAC_IN_STS
   ⟨0xB0200, 0x0, 1, 0x0, 1, 0x809, 0xFF0F, 0x0, 0x0, .plain⟩, -- FIR_CFG
   ⟨0xB0204, 0x0, 1, 0x0, 1, 0x0, 0xFFFFFFFF, 0x0, 0x0, .plain⟩, -- FIR_START
   ⟨0xB0208, 0x0, 1, 0x0, 1, 0x0, 0xFFFFFFFF, 0x0, 0x0, .lo⟩] -- FIR_START_POS_LO

def regRows0B_1 : List RegRow :=
  [⟨0xB020C, 0x0, 1, 0x0, 1, 0x0, 0xFFFFFF, 0x0, 0x0, .hi⟩, -- FIR_START_POS_HI
   ⟨0xB0210, 0x0, 1, 0x0, 1, 0x0, 0x0, 0x0, 0x0, .plain⟩, -- FIR_CMD
   ⟨0xB0214, 0x0, 1, 0x0, 1, 0x0, 0x0, 0x0, 0x0, .plain⟩, -- FIR_STS
   ⟨0xB0218, 0x0, 1, 0x0, 1, 0x0, 0x0, 0x3FF, 0x0, .plain⟩, -- FIR_EVT
   ⟨0xB021C, 0x0, 1, 0x0, 1, 0x0, 0x0, 0x0, 0x0, .lo⟩, -- FIR_S_LO
   ⟨0xB0220, 0x0, 1, 0x0, 1, 0x0, 0x0, 0x0, 0x0, .hi⟩, -- FIR_S_HI
   ⟨0xB0224, 0x0, 1, 0x0, 1, 0x0, 0x0, 0xFFFFFFFF, 0x0, .plain⟩, -- FIR_OVS0
   ⟨0xB0228, 0x0, 1, 0x0, 1, 0x0, 0x0, 0xFFFFFFFF, 0x0, .plain⟩, -- FIR_OVS1
   ⟨0xB022C, 0x0, 1, 0x0, 1, 0x0, 0x1FFFFF, 0x0, 0x0, .plain⟩, -- FIR_PASS
   ⟨0xB0230, 0x0, 1, 0x0, 1, 0x0, 0xFFFFF, 0x0, 0x0, .plain⟩, -- FIR_PASS_FIRST
   ⟨0xB0234, 0x0, 1, 0x0, 1, 0x0, 0xFFFFF, 0x0, 0x0, .plain⟩, -- FIR_PASS_LAST
   ⟨0xB0238, 0x0, 1, 0x0, 1, 0x0, 0x1F, 0x0, 0x0, .plain⟩, -- FIR_ILACE
   ⟨0xB0240, 0x0, 1, 0x4, 16, 0xFF, 0xFF, 0x0, 0x0, .plain⟩, -- FIR_MASK
   ⟨0xB0280, 0x0, 1, 0x0, 1, 0x0, 0x0, 0x0, 0xFFFFFFFF, .plain⟩, -- FIR_INH_CNT
   ⟨0xB0300, 0x0, 1, 0x0, 1, 0x322324, 0x7FF33F, 0x0, 0x0, .plain⟩, -- FIR_NH_CFG
   ⟨0xB0304, 0x0, 1, 0x0, 1, 0x100, 0xFFFF, 0x0, 0x0, .plain⟩, -- FIR_NH_LEAD
   ⟨0xB0308, 0x0, 1, 0x0, 1, 0x0, 0xFFFF, 0x0, 0x0, .plain⟩, -- FIR_NH_VETO
   ⟨0xB030C, 0x0, 1, 0x0, 1, 0x0, 0x0, 0x0, 0x0, .plain⟩, -- FIR_NH_STS
   ⟨0xB0310, 0x0, 1, 0x0, 1, 0x0, 0x0, 0xFF, 0x0, .plain⟩, -- FIR_NH_EVT
   ⟨0xB0314, 0x0, 1, 0x0, 1, 0x0, 0x0, 0x0, 0x0, .plain⟩, -- FIR_NH_LAST
   ⟨0xB0318, 0x0, 1, 0x0, 1, 0x0, 0x0, 0x0, 0x0, .lo⟩, -- FIR_NH_LAST_AT_LO
   ⟨0xB031C, 0x0, 1, 0x0, 1, 0x0, 0x0, 0x0, 0x0, .hi⟩, -- FIR_NH_LAST_AT_HI
   ⟨0xB0320, 0x0, 1, 0x0, 1, 0x0, 0x0, 0x0, 0x0, .plain⟩, -- FIR_NH_PROP
   ⟨0xB0324, 0x0, 1, 0x0, 1, 0x0, 0x0, 0x0, 0x0, .plain⟩, -- FIR_NH_CMD
   ⟨0xB0340, 0x0, 1, 0x40, 2, 0x2004300, 0x3FFF33F, 0x0, 0x0, .plain⟩, -- FIR_GATE_CFG
   ⟨0xB0344, 0x0, 1, 0x40, 2, 0x10000000, 0x1FFF0FFF, 0x0, 0x0, .plain⟩, -- FIR_GATE_RANGE
   ⟨0xB0348, 0x0, 1, 0x40, 2, 0x4E2007D0, 0xFFFFFFFF, 0x0, 0x0, .plain⟩, -- FIR_GATE_TOF
   ⟨0xB034C, 0x0, 1, 0x40, 2, 0x0, 0xFFFFFFFF, 0x0, 0x0, .plain⟩, -- FIR_GATE_LIM
   ⟨0xB0350, 0x0, 1, 0x40, 2, 0x1F4, 0xFFFF, 0x0, 0x0, .plain⟩, -- FIR_GATE_INT
   ⟨0xB0354, 0x0, 1, 0x40, 2, 0x0, 0x0, 0x0, 0x0, .plain⟩, -- FIR_GATE_CMD
   ⟨0xB0358, 0x0, 1, 0x40, 2, 0x0, 0x0, 0x0, 0x0, .plain⟩, -- FIR_GATE_STS
   ⟨0xB035C, 0x0, 1, 0x40, 2, 0x0, 0x0, 0x0, 0xFFFFFFFF, .plain⟩, -- FIR_GATE_CNT
   ⟨0xB0360, 0x0, 1, 0x40, 2, 0x0, 0x1FF, 0x0, 0x0, .plain⟩, -- FIR_GATE_IN_CFG
   ⟨0xB0364, 0x0, 1, 0x40, 2, 0x0, 0xFFFF, 0x0, 0x0, .plain⟩, -- FIR_GATE_IN_LIM
   ⟨0xB0368, 0x0, 1, 0x40, 2, 0x640000, 0xFFFFFFFF, 0x0, 0x0, .plain⟩, -- FIR_GATE_IN_STUCK
   ⟨0xB036C, 0x0, 1, 0x40, 2, 0x0, 0x0, 0x3, 0xFFFF0000, .plain⟩] -- FIR_GATE_IN_STS

def regRows0B : List RegRow := regRows0B_0 ++ regRows0B_1

def regRows0C : List RegRow :=
  [⟨0xC0000, 0x0, 1, 0x0, 1, 0x10A6456F, 0x0, 0x0, 0x0, .plain⟩, -- TST_IDCODE
   ⟨0xC0010, 0x0, 1, 0x0, 1, 0x0, 0x0, 0x0, 0x0, .plain⟩, -- TST_BIST_CMD
   ⟨0xC0014, 0x0, 1, 0x0, 1, 0x0, 0x0, 0x10, 0x0, .plain⟩, -- TST_BIST_STS
   ⟨0xC0018, 0x0, 1, 0x0, 1, 0x0, 0x0, 0x0, 0x0, .plain⟩, -- TST_MRAM_CMD
   ⟨0xC001C, 0x0, 1, 0x0, 1, 0x0, 0x0, 0x10, 0x0, .plain⟩, -- TST_MRAM_STS
   ⟨0xC0100, 0x0, 1, 0x20, 4, 0x0, 0x8FFFCF07, 0x0, 0x0, .plain⟩, -- TST_LB_CFG
   ⟨0xC0104, 0x0, 1, 0x20, 4, 0x0, 0x0, 0x200, 0x0, .plain⟩, -- TST_LB_STS
   ⟨0xC0108, 0x0, 1, 0x20, 4, 0x0, 0xFFFFFFFF, 0x0, 0x0, .plain⟩, -- TST_LB_WORD
   ⟨0xC010C, 0x0, 1, 0x20, 4, 0x3E8, 0xFFFF, 0x0, 0x0, .plain⟩, -- TST_LB_TIME
   ⟨0xC0110, 0x0, 1, 0x20, 4, 0x0, 0x0, 0x0, 0x0, .lo⟩, -- TST_LB_BITS_LO
   ⟨0xC0114, 0x0, 1, 0x20, 4, 0x0, 0x0, 0x0, 0x0, .hi⟩, -- TST_LB_BITS_HI
   ⟨0xC0118, 0x0, 1, 0x20, 4, 0x0, 0x0, 0x0, 0xFFFFFFFF, .plain⟩] -- TST_LB_ERR

def regRows10_0 : List RegRow :=
  [⟨0x100000, 0x0, 1, 0x4000, 64, 0x0, 0x0, 0x0, 0x0, .plain⟩, -- HC_GEOM_NOZ
   ⟨0x100004, 0x0, 1, 0x4000, 64, 0x0, 0x0, 0x0, 0x0, .plain⟩, -- HC_GEOM_X
   ⟨0x100008, 0x0, 1, 0x4000, 64, 0x0, 0x0, 0x0, 0x0, .plain⟩, -- HC_ROWOFF0
   ⟨0x10000C, 0x0, 1, 0x4000, 64, 0x0, 0x0, 0x0, 0x0, .plain⟩, -- HC_ROWOFF1
   ⟨0x100010, 0x0, 1, 0x4000, 64, 0x0, 0x0, 0x0, 0x0, .plain⟩, -- HC_ROWOFF2
   ⟨0x100014, 0x0, 1, 0x4000, 64, 0x0, 0x0, 0x0, 0x0, .plain⟩, -- HC_OVL
   ⟨0x100018, 0x0, 1, 0x4000, 64, 0x0, 0x0, 0x0, 0x0, .plain⟩, -- HC_ROWDLY
   ⟨0x10001C, 0x0, 1, 0x4000, 64, 0x0, 0xFFFFFFFF, 0x0, 0x0, .plain⟩, -- HC_ROWDLY_NEXT
   ⟨0x100020, 0x0, 1, 0x4000, 64, 0x0, 0xFFFFFFFF, 0x0, 0x0, .lo⟩, -- HC_ROWDLY_AT_LO
   ⟨0x100024, 0x0, 1, 0x4000, 64, 0x0, 0xFF, 0x0, 0x0, .hi⟩, -- HC_ROWDLY_AT_HI
   ⟨0x100028, 0x0, 1, 0x4000, 64, 0x0, 0x0, 0xE, 0x0, .plain⟩, -- HC_GEOM_STS
   ⟨0x100040, 0x0, 1, 0x4000, 64, 0x40, 0xFFFFF, 0x0, 0x0, .plain⟩, -- HC_FIR_CFG
   ⟨0x100044, 0x0, 1, 0x4000, 64, 0xC80, 0xFFFFF, 0x0, 0x0, .plain⟩, -- HC_FIR_MININT
   ⟨0x100048, 0x0, 1, 0x4000, 64, 0xC80, 0x0, 0x0, 0x0, .plain⟩, -- HC_FIR_MININT_EFF
   ⟨0x10004C, 0x0, 1, 0x4000, 64, 0x0, 0xFFFFFFFF, 0x0, 0x0, .plain⟩, -- HC_ALIGN
   ⟨0x100050, 0x0, 1, 0x4000, 64, 0x0, 0x0, 0xF, 0x0, .plain⟩, -- HC_FIR_STS
   ⟨0x100054, 0x0, 1, 0x4000, 64, 0x0, 0x0, 0x0, 0x0, .lo⟩, -- HC_LINE_LO
   ⟨0x100058, 0x0, 1, 0x4000, 64, 0x0, 0x0, 0x0, 0x0, .hi⟩, -- HC_LINE_HI
   ⟨0x10005C, 0x0, 1, 0x4000, 64, 0x0, 0x0, 0x0, 0xFFFFFFFF, .plain⟩, -- HC_FIRE_CNT
   ⟨0x100060, 0x0, 1, 0x4000, 64, 0x0, 0x0, 0x0, 0xFFFFFFFF, .plain⟩, -- HC_SKIP_CNT
   ⟨0x100064, 0x0, 1, 0x4000, 64, 0x0, 0x0, 0x0, 0xFFFFFFFF, .plain⟩, -- HC_LATE_CNT
   ⟨0x100068, 0x0, 1, 0x4000, 64, 0x0, 0x0, 0x0, 0xFFFFFFFF, .plain⟩, -- HC_INH_CNT
   ⟨0x10006C, 0x0, 1, 0x4000, 64, 0x0, 0x0, 0x0, 0xFFFFFFFF, .plain⟩, -- HC_LATE_MAX
   ⟨0x100070, 0x0, 1, 0x4000, 64, 0x0, 0x0, 0x0, 0x0, .lo⟩, -- HC_SKIP_LAST_LO
   ⟨0x100074, 0x0, 1, 0x4000, 64, 0x0, 0x0, 0x0, 0x0, .hi⟩, -- HC_SKIP_LAST_HI
   ⟨0x100080, 0x0, 1, 0x4000, 64, 0x20500, 0xFFF0FF1, 0x0, 0x0, .plain⟩, -- HC_LVR_CFG
   ⟨0x100084, 0x0, 1, 0x4000, 64, 0x0, 0x0, 0x0, 0x0, .plain⟩, -- HC_LVR_STS
   ⟨0x100088, 0x0, 1, 0x4000, 64, 0x0, 0x0, 0x1FF, 0x0, .plain⟩, -- HC_LVR_EVT
   ⟨0x10008C, 0x0, 1, 0x4000, 64, 0x0, 0x0, 0x0, 0x0, .plain⟩, -- HC_LVR_CMD
   ⟨0x100090, 0x0, 1, 0x4000, 64, 0x8000, 0x0, 0x0, 0x0, .plain⟩, -- HC_LVR_TEMP
   ⟨0x100094, 0x0, 1, 0x4000, 64, 0x0, 0x0, 0x0, 0x0, .plain⟩, -- HC_LVR_HSTAT
   ⟨0x100098, 0x0, 1, 0x4000, 64, 0x0, 0x0, 0x0, 0xFFFFFFFF, .plain⟩, -- HC_LVR_ERRCNT
   ⟨0x10009C, 0x0, 1, 0x4000, 64, 0x0, 0x0, 0x0, 0xFFFFFFFF, .plain⟩, -- HC_LVR_MISS
   ⟨0x1000A0, 0x0, 1, 0x4000, 64, 0x0, 0xFFFFFFFF, 0x0, 0x0, .lo⟩, -- HC_LVR_BANK_AT_LO
   ⟨0x1000A4, 0x0, 1, 0x4000, 64, 0x0, 0xFF, 0x0, 0x0, .hi⟩, -- HC_LVR_BANK_AT_HI
   ⟨0x1000A8, 0x0, 1, 0x4000, 64, 0x0, 0x0, 0x0, 0xFFFFFFFF, .plain⟩, -- HC_LVR_HOLDCNT
   ⟨0x1000AC, 0x0, 1, 0x4000, 64, 0x0, 0x0, 0x0, 0x0, .plain⟩, -- HC_LVR_ID
   ⟨0x1000C0, 0x0, 1, 0x4000, 64, 0x0, 0x0, 0x0, 0x0, .plain⟩, -- WAV_SEL
   ⟨0x1000C4, 0x0, 1, 0x4000, 64, 0x0, 0xFF, 0x0, 0x0, .plain⟩, -- WAV_SEL_NEXT
   ⟨0x1000C8, 0x0, 1, 0x4000, 64, 0x0, 0x3FFF3FFF, 0x0, 0x0, .plain⟩] -- WAV_REST

def regRows10_1 : List RegRow :=
  [⟨0x1000CC, 0x0, 1, 0x4000, 64, 0x0, 0xFFF0FFF, 0x0, 0x0, .plain⟩, -- WAV_TRIM_A
   ⟨0x1000D0, 0x0, 1, 0x4000, 64, 0x0, 0xFFF0FFF, 0x0, 0x0, .plain⟩, -- WAV_TRIM_B
   ⟨0x1000D4, 0x0, 1, 0x4000, 64, 0x0, 0xFFFFFFFF, 0x0, 0x0, .plain⟩, -- WAV_GREY_NEXT0
   ⟨0x1000D8, 0x0, 1, 0x4000, 64, 0x0, 0xFFFFFF, 0x0, 0x0, .plain⟩, -- WAV_GREY_NEXT1
   ⟨0x1000DC, 0x0, 1, 0x4000, 64, 0x0, 0x0, 0x0, 0x0, .plain⟩, -- WAV_GREY0
   ⟨0x1000E0, 0x0, 1, 0x4000, 64, 0x0, 0x0, 0x0, 0x0, .plain⟩, -- WAV_GREY1
   ⟨0x1000E4, 0x0, 1, 0x4000, 64, 0x0, 0x0, 0x7, 0x0, .plain⟩, -- WAV_STS
   ⟨0x1000E8, 0x0, 1, 0x4000, 64, 0x0, 0x0, 0x0, 0x0, .plain⟩, -- WAV_LEN
   ⟨0x100800, 0x4000, 64, 0x4, 128, 0x0, 0xFFFFFFFF, 0x0, 0x0, .plain⟩, -- WAV_CLASS_NEXT
   ⟨0x100A00, 0x4000, 64, 0x4, 128, 0x0, 0x0, 0x0, 0x0, .plain⟩, -- WAV_CLASS
   ⟨0x101000, 0x4000, 64, 0x4, 1024, 0x0, 0xFFFFFFFF, 0x0, 0x0, .plain⟩, -- WAV_SEG
   ⟨0x100100, 0x0, 1, 0x4000, 64, 0x0, 0x0, 0x0, 0x0, .plain⟩, -- HC_RFL_STS
   ⟨0x100104, 0x0, 1, 0x4000, 64, 0x0, 0x0, 0x1F, 0x0, .plain⟩, -- HC_RFL_EVT
   ⟨0x100108, 0x0, 1, 0x4000, 64, 0x0, 0x0, 0x0, 0xFFFFFFFF, .plain⟩, -- HC_RFL_VOID_CNT
   ⟨0x10010C, 0x0, 1, 0x4000, 64, 0x0, 0x0, 0x0, 0x0, .plain⟩, -- HC_RFL_VOID_RUN
   ⟨0x100110, 0x0, 1, 0x4000, 64, 0x0, 0x0, 0x0, 0x0, .lo⟩, -- HC_RFL_VOID_LAST_LO
   ⟨0x100114, 0x0, 1, 0x4000, 64, 0x0, 0x0, 0x0, 0x0, .hi⟩, -- HC_RFL_VOID_LAST_HI
   ⟨0x100118, 0x0, 1, 0x4000, 64, 0x0, 0x0, 0x0, 0xFFFFFFFF, .plain⟩, -- HC_RFL_CHK_CNT
   ⟨0x100140, 0x0, 1, 0x4000, 64, 0x0, 0x1, 0x0, 0x0, .plain⟩, -- HC_NH_CFG
   ⟨0x100144, 0x0, 1, 0x4000, 64, 0x0, 0x0, 0x0, 0x0, .plain⟩, -- HC_NH_CMD
   ⟨0x100148, 0x0, 1, 0x4000, 64, 0x0, 0xFFFFFFFF, 0x0, 0x0, .lo⟩, -- HC_NH_AT_LO
   ⟨0x10014C, 0x0, 1, 0x4000, 64, 0x0, 0xFF, 0x0, 0x0, .hi⟩, -- HC_NH_AT_HI
   ⟨0x100150, 0x0, 1, 0x4000, 64, 0x0, 0x0, 0x0, 0x0, .plain⟩, -- HC_NH_STS
   ⟨0x100154, 0x0, 1, 0x4000, 64, 0x0, 0x0, 0x0, 0xFFFFFFFF, .plain⟩, -- HC_NH_LOST
   ⟨0x100158, 0x0, 1, 0x4000, 64, 0x0, 0x0, 0x0, 0xFFFFFFFF, .plain⟩, -- HC_NH_STALE
   ⟨0x100180, 0x0, 1, 0x4000, 64, 0x0, 0x0, 0x0, 0x0, .plain⟩, -- HC_CAL_SET
   ⟨0x100184, 0x0, 1, 0x4000, 64, 0x0, 0x3, 0x0, 0x0, .plain⟩, -- HC_CAL_SET_NEXT
   ⟨0x100188, 0x0, 1, 0x4000, 64, 0x0, 0xFFFFFFFF, 0x0, 0x0, .lo⟩, -- HC_CAL_SET_AT_LO
   ⟨0x10018C, 0x0, 1, 0x4000, 64, 0x0, 0xFF, 0x0, 0x0, .hi⟩, -- HC_CAL_SET_AT_HI
   ⟨0x100190, 0x0, 1, 0x4000, 64, 0x8, 0xFFFF003B, 0x0, 0x0, .plain⟩, -- HC_CAL_TCFG
   ⟨0x100194, 0x0, 1, 0x4000, 64, 0x3E803E8, 0xFFFFFFFF, 0x0, 0x0, .plain⟩, -- HC_CAL_THERM
   ⟨0x100198, 0x0, 1, 0x4000, 64, 0xD6B, 0xFFFF, 0x0, 0x0, .plain⟩, -- HC_CAL_BETA
   ⟨0x10019C, 0x0, 1, 0x4000, 64, 0x0, 0x0, 0x0, 0x0, .plain⟩, -- HC_CAL_TEMP
   ⟨0x1001A0, 0x0, 1, 0x4000, 64, 0x0, 0x0, 0x0, 0x0, .plain⟩, -- HC_CAL_GSET
   ⟨0x1001A4, 0x0, 1, 0x4000, 64, 0x0, 0x0, 0x0, 0x0, .plain⟩, -- HC_CAL_OSET
   ⟨0x1001A8, 0x0, 1, 0x4000, 64, 0x0, 0x0, 0xF, 0x0, .plain⟩] -- HC_CAL_STS

def regRows10 : List RegRow := regRows10_0 ++ regRows10_1

def regRows40 : List RegRow :=
  [⟨0x400000, 0x4000, 64, 0x4, 1024, 0x0, 0x0, 0x0, 0x0, .plain⟩, -- NH_STATE
   ⟨0x401000, 0x4000, 64, 0x4, 512, 0x0, 0x0, 0x0, 0x0, .plain⟩, -- NH_PATCH
   ⟨0x401800, 0x4000, 64, 0x4, 512, 0x0, 0x0, 0x0, 0x0, .plain⟩, -- NH_PATCH_NEXT
   ⟨0x402000, 0x4000, 64, 0x4, 2048, 0x0, 0x0, 0x0, 0x0, .plain⟩] -- NH_GATE

/-- The rows of the block that an address lies in (R28). -/
def regRowsOf (a : Nat) : List RegRow :=
  if a ≥ 0x400000 then (if a < 0x500000 then regRows40 else [])
  else if a ≥ 0x100000 then (if a < 0x200000 then regRows10 else [])
  else match a / 0x10000 with
    | 0 => regRows00
    | 1 => regRows01
    | 2 => regRows02
    | 3 => regRows03
    | 4 => regRows04
    | 5 => regRows05
    | 6 => regRows06
    | 7 => regRows07
    | 8 => regRows08
    | 9 => regRows09
    | 10 => regRows0A
    | 11 => regRows0B
    | 12 => regRows0C
    | _ => []

/-- A row holds an address: the address is the row's base moved by whole strides within the instance counts. -/
def RegRow.holds (r : RegRow) (a : Nat) : Bool :=
  if a < r.base then false
  else
    let o := a - r.base
    let i := if r.n1 = 1 then 0 else o / r.s1
    let o2 := if r.n1 = 1 then o else o % r.s1
    let j := if r.n2 = 1 then 0 else o2 / r.s2
    let o3 := if r.n2 = 1 then o2 else o2 % r.s2
    i < r.n1 && j < r.n2 && o3 == 0

/-- The row of the register at a byte address; none at a reserved offset. -/
def regRow (a : Nat) : Option RegRow := (regRowsOf a).find? (fun r => r.holds a)

/-- The value a register holds after a power-on or hard reset (R9), 0 at a reserved offset (R8). -/
def regReset (a : Nat) : Word :=
  match regRow a with
  | some r => BitVec.ofNat 32 r.reset
  | none => 0

end Sys2Proof.Machine
end

