-- ==== Sys2Proof/Machine/Tbl.lean ====
section
/-! DEFINITION. Sparse tables in one canonical form: a list of (key, value) pairs, keys strictly rising, no entry equal
to what an unlisted key reads as. The registers, the page store and the per-instance state are held so. -/

namespace Sys2Proof.Machine

/-- Read a table: the entry of the key, or what an unlisted key reads as. -/
def tget {α : Type} (dflt : Nat → α) : List (Nat × α) → Nat → α
  | [], k => dflt k
  | (k', v) :: t, k => if k = k' then v else tget dflt t k

/-- Take a key's entry away. -/
def tdrop {α : Type} : List (Nat × α) → Nat → List (Nat × α)
  | [], _ => []
  | (k', v') :: t, k => if k = k' then tdrop t k else (k', v') :: tdrop t k

/-- Put an entry in its place among rising keys. -/
def tins {α : Type} : List (Nat × α) → Nat → α → List (Nat × α)
  | [], k, v => [(k, v)]
  | (k', v') :: t, k, v =>
    if k < k' then (k, v) :: (k', v') :: t
    else if k = k' then (k, v) :: t
    else (k', v') :: tins t k v

/-- Write a table, keeping the canonical form: what an unlisted key reads as is not listed. -/
def tput {α : Type} [DecidableEq α] (dflt : Nat → α) (t : List (Nat × α)) (k : Nat) (v : α) : List (Nat × α) :=
  if v = dflt k then tdrop t k else tins t k v

/-- Replace one entry by a function of it. -/
def tmod {α : Type} [DecidableEq α] (dflt : Nat → α) (t : List (Nat × α)) (k : Nat) (f : α → α) : List (Nat × α) :=
  tput dflt t k (f (tget dflt t k))

/-- Every key of a table lies above a bound, keys rise, and no entry equals its default. -/
def twfFrom {α : Type} [DecidableEq α] (dflt : Nat → α) : Option Nat → List (Nat × α) → Bool
  | _, [] => true
  | b, (k, v) :: t =>
    (match b with | none => true | some b => decide (b < k)) && decide (v ≠ dflt k) && twfFrom dflt (some k) t

/-- The canonical form. -/
def twf {α : Type} [DecidableEq α] (dflt : Nat → α) (t : List (Nat × α)) : Bool := twfFrom dflt none t

/-- The page store: the bytes that differ from zero, by page store address, and the granules (address / 128) whose
check bits are uncorrectable (R212). Zero is what the initialisation pass leaves everywhere (R215). -/
structure Store where
  cells : List (Nat × Byte)
  bad : List (Nat × Bool)
  deriving DecidableEq, Repr

/-- An unlisted byte reads as zero (R215). -/
def zeroByte : Nat → Byte := fun _ => 0

/-- An unlisted granule is good. -/
def goodGran : Nat → Bool := fun _ => false

/-- The canonical form of the page store. -/
def Store.wf (m : Store) : Bool := twf zeroByte m.cells && twf goodGran m.bad

/-- One byte of the page store. -/
def Store.byte (m : Store) (a : Nat) : Byte := tget zeroByte m.cells a

/-- The granule of an address is uncorrectable. -/
def Store.isBad (m : Store) (g : Nat) : Bool := tget goodGran m.bad g

/-- Write one byte. -/
def Store.setByte (m : Store) (a : Nat) (b : Byte) : Store := { m with cells := tput zeroByte m.cells a b }

/-- Mark a granule. -/
def Store.setBad (m : Store) (g : Nat) (v : Bool) : Store := { m with bad := tput goodGran m.bad g v }

/-- Write bytes from an address upwards. -/
def Store.setBytes (m : Store) : Nat → List Byte → Store
  | _, [] => m
  | a, b :: t => Store.setBytes (m.setByte a b) (a + 1) t

/-- Read `n` bytes from an address upwards. -/
def Store.bytes (m : Store) (a n : Nat) : List Byte := (List.range n).map (fun i => m.byte (a + i))

/-- Some granule of a range is uncorrectable. -/
def Store.anyBad (m : Store) (a n : Nat) : Bool :=
  n ≠ 0 && (List.range ((a + n - 1) / 128 + 1 - a / 128)).any (fun i => m.isBad (a / 128 + i))

/-- An empty page store: what the initialisation pass leaves. -/
def Store.empty : Store := ⟨[], []⟩

end Sys2Proof.Machine
end

