-- ==== Sys2Proof/Machine/StA.lean ====
section
/-! DEFINITION. Hidden state of the memory controllers, the engines, the time base, the host ports, the check units and
the power controller (chapters 08, 09, 13, 14, 15 and 17): what those chapters give the machine beside their registers. -/

namespace Sys2Proof.Machine

/-- One request in a memory channel's queue (R216): its tag, its granule (channel address / 128), how many younger
requests have passed it (R218), whether it belongs to its row's open group (R217), and for a read the granule's data and
flag as the order of entry gives them. -/
structure MemReq where
  tag : Nat
  write : Bool
  gran : Nat
  passed : Nat
  urgent : Bool
  grouped : Bool
  data : List Byte
  ue : Bool
  deriving DecidableEq, Repr

/-- A training, retraining or frequency change in progress (R221 to R226): what it is and the steps still to run. -/
inductive TrainKind where
  | idle | initial | fast | retrain | freq
  deriving DecidableEq, Repr

/-- Hidden state of one memory channel (chapter 08). -/
structure Dch where
  queue : List MemReq := []
  postponed0 : Int := 0
  postponed1 : Int := 0
  hot0 : Bool := false
  hot1 : Bool := false
  train : TrainKind := .idle
  nextBin : Option Nat := none
  selfRefReq : Bool := false
  handoverStep : Bool := false
  ceWin : Nat := 0
  ceWinAt : Nat := 0
  oscAt : Nat := 0
  idleAt0 : Nat := 0
  idleAt1 : Nat := 0
  scrubGran : Nat := 0
  cl : Nat := 0
  trcd : Nat := 0
  trp : Nat := 0
  modeRegs : List Nat := []
  deriving DecidableEq, Repr

/-- The work of a compression engine (R249 to R252): settings latched at START, bytes consumed, bytes written and the
points at which a FLUSH took effect. -/
structure CxSt where
  cfg : Word := 0
  line : Word := 0
  src : Nat := 0
  slen : Nat := 0
  dst : Nat := 0
  dlen : Nat := 0
  stream : List Byte := []
  flushes : List Nat := []
  flushBusy : Bool := false
  finishing : Bool := false
  use : Nat := 0
  deriving DecidableEq, Repr

/-- The state of the time base (chapter 13): per domain two accumulators in units of 2^-32 ns (R334, R337), the tick of
the last servo write (R338), the handover offset H in units of 2^-32 ns (R339) and the selected domain. -/
structure TimeSt where
  a0 : Nat := 0
  b0 : Nat := 0
  a1 : Nat := 0
  b1 : Nat := 0
  servo0 : Nat := 0
  servo1 : Nat := 0
  servoPaused : Bool := false
  h : Int := 0
  sel : Bool := false
  deriving DecidableEq, Repr

/-- Hidden state of one trigger unit: its target was still ahead when it last considered a new one, the tick of that (R347),
the GPIO pulse in progress (R350) and the windows it has opened, by target time (R352). -/
structure TrgSt where
  ahead : Bool := false
  at_ : Nat := 0
  pulseEnd : Option Nat := none
  windows : List Nat := []
  deriving DecidableEq, Repr

/-- One capture entry: time in units of 2^-16 ns and P (R351). -/
structure CapEntry where
  time : Nat
  pos : Int
  deriving DecidableEq, Repr

/-- One transmit timestamp (R345): tag, domain, time in units of 2^-16 ns. -/
structure TxStamp where
  tag : Nat
  dom : Nat
  time : Nat
  deriving DecidableEq, Repr

/-- A Sash session (R360). -/
structure Session where
  port : Nat
  num : Nat
  client : Nat
  ver : Nat
  lastSeq : Option Nat
  lastResp : List Byte
  at_ : Nat
  deriving DecidableEq, Repr

/-- The session that holds or waits for the Latch (R362). -/
structure Holder where
  port : Nat
  session : Nat
  client : Nat
  deriving DecidableEq, Repr

/-- The states of a Hatch (R369). -/
inductive HatchState where
  | empty | filling | full
  deriving DecidableEq, Repr

/-- Hidden state of one Hatch: its state, its sender or filler, the sender's epoch at GO, the receiver of the message in
it, the fate of the last message, and the ticks of the last write and of GO. -/
structure Hatch where
  st : HatchState := .empty
  sport : Nat := 0
  sepoch : Nat := 0
  rxport : Nat := 0
  last : Nat := 0
  wrAt : Nat := 0
  goAt : Nat := 0
  deriving DecidableEq, Repr

/-- An event the firmware has to post on HT7 (R378): its code, its time and its detail words. -/
structure FwEvent where
  code : Nat
  ns : Nat
  sec : Nat
  detail : List Word
  deriving DecidableEq, Repr

/-- An entry of the Hatch message log (R379): the event is 0 for a posting, else the LAST code of the disposal. -/
structure LogEntry where
  hatch : Nat
  event : Nat
  port : Nat
  epoch : Nat
  ns : Nat
  sec : Nat
  words : List Word
  deriving DecidableEq, Repr

/-- The telemetry set (R380). -/
structure TelemSet where
  period : Nat := 0
  addrs : List Nat := []
  seq : Nat := 0
  /-- the tick of the last pass -/
  at_ : Nat := 0
  deriving DecidableEq, Repr

/-- State of the host ports (chapter 14). -/
structure HostSt where
  sessions : List Session := []
  holder : Option Holder := none
  /-- the holder is the other chip's, mirrored from it (R412, R416) -/
  foreign : Bool := false
  lease : Nat := 0
  leaseEnd : Nat := 0
  waiting : Option (Holder × Nat) := none
  hatch : List (Nat × Hatch) := []
  epoch : List (Nat × Nat) := []
  replies : List (Nat × Nat × List Word) := []
  events : List FwEvent := []
  eventsLost : Nat := 0
  /-- the ring of the message log by slot, and the entries written (R379) -/
  log : List (Nat × LogEntry) := []
  logN : Nat := 0
  telem : TelemSet := {}
  lastObj : Option (List Byte) := none
  captures : List (Nat × Nat) := []
  holds : List (Nat × Option Word) := []
  deriving DecidableEq, Repr

/-- Parameters of a check unit latched at START, and its buffer operation (R385, R387). -/
structure CuSt where
  cfg : Word := 0
  poly : Nat := 0
  init : Nat := 0
  xorout : Nat := 0
  goAt : Nat := 0
  deriving DecidableEq, Repr

/-- Supply, boot and power states (chapter 17). -/
structure PwrSt where
  /-- the part is held in reset (R427); VIN is above the lockout; the undervoltage warning is in force (R424, R426) -/
  held : Bool := false
  vin : Bool := true
  uvWarn : Bool := false
  /-- the ticks of the latest rail faults; the rails stay off until VIN has fallen (R425) -/
  railTry : List Nat := []
  railsOff : Bool := false
  /-- FIRST in the boot record of the flash (R432); the tick of reset release; the slots rejected in this boot -/
  bootB : Bool := false
  releaseAt : Nat := 0
  slotTried : Nat := 0
  /-- the accepted image; the body of its geometry block, and of its network block (R50, R399, R434) -/
  image : List Byte := []
  geom : List Byte := []
  net : List Byte := []
  /-- the state being entered, a wake cause that came during the entry, the state a wake left (R437, R438) -/
  target : Nat := 0
  wakeAfter : Bool := false
  wakeKind : Nat := 0
  /-- an ARM and writes of PWR_ISLc held until Hover (R438, R441) -/
  armHeld : Bool := false
  heldIsl : List (Nat × Word) := []
  /-- the scheduled wake in device time; the tick of the last automatic choice (R439); no signal on the Tether lanes since -/
  wakeAt : Option Nat := none
  evalAt : Nat := 0
  tethQuietAt : Nat := 0
  deriving DecidableEq, Repr

end Sys2Proof.Machine
end

