-- ==== Sys2Proof/Machine/StB.lean ====
section
/-! DEFINITION. Hidden state of the pacing logic (chapter 03) and of the discrete inputs' conditioning chains (R59 to R62). -/

namespace Sys2Proof.Machine

/-- The conditioning chain of one discrete input. Levels after polarity; `raw` is the pin. -/
structure InSt where
  /-- the pin's level -/
  raw : Bool := false
  /-- the filtered level (R60) -/
  filt : Bool := false
  /-- the level last passed on to the consumer (R62) -/
  passed : Bool := false
  /-- a change being filtered: tick of the raw transition, eighth of that tick, FILT in force (R60, R351) -/
  change : Option (Nat × Nat × Nat) := none
  /-- the time of that raw transition in device time, Main and Reserve, in 2^-16 ns (R351) -/
  times : List Nat := []
  /-- the tick the active level was accepted and the MAX_ACTIVE in force then (R61) -/
  activeAt : Option (Nat × Nat) := none
  /-- the tick the inactive level was accepted and the RELEASE in force then (R61) -/
  inactiveAt : Option (Nat × Nat) := none
  /-- the tick on which the open gap closes (R62) -/
  gapEnd : Option Nat := none
  deriving DecidableEq, Repr

/-- One position source: its accumulated counts × ratio, its reference offset, the ratio in force (all in 2^-32 line), its
signed count, and the stamp of its last count. -/
structure SrcSt where
  pos : Int := 0
  off : Int := 0
  ratio : Nat := 4294967296
  cnt : Int := 0
  tc : Nat := 0
  zlast : Option Int := none
  deriving DecidableEq, Repr

/-- A stretch of the loop's course that has ended: its first tick, p, v and pc there, P's bound, and COAST (R67, R70). -/
structure PacPiece where
  k0 : Nat
  p0 : Int
  v : Int
  pc : Int
  held : Int
  lim : Int
  deriving DecidableEq, Repr

/-- The tracking loop (R67 to R77): p in 2^-32 line, v in 2^-16 line/s. `p0` is p at tick `k0`; p moves with v from there. -/
structure PacSt where
  p0 : Int := 0
  k0 : Nat := 0
  v : Int := 0
  held : Int := 0
  pc : Int := 0
  tc : Nat := 0
  use : Nat := 0
  adj : Int := 0
  acq : Nat := 0
  lockN : Nat := 0
  hwmCnt : Int := 0
  hwmPos : Int := 0
  hwm : Int := 0
  zarm : Bool := false
  restore : Bool := false
  est : Int := 0
  estPrev : Int := 0
  nbk : Nat := 0
  nprim : Nat := 0
  vLast : Nat := 0
  lastAny : Nat := 0
  lastUpd : Nat := 0
  advAt : Nat := 0
  bkSeen : Bool := false
  /-- the stretches of the last 4,096 ticks, latest first, for positions at stamped ticks (R60, R80) -/
  hist : List PacPiece := []
  deriving DecidableEq, Repr

end Sys2Proof.Machine
end

