-- ==== Sys2Proof/Machine/StC.lean ====
section
/-! DEFINITION. Hidden state of the firing sequencers, the Louvre links, the waveform outputs, the raster flow and the
Tether link (chapters 04 to 07): what those chapters give the machine beside their registers. -/

namespace Sys2Proof.Machine

/-! ## Raster flow (chapter 07) -/

/-- An open job (R170 to R173). `bits` is the bits per nozzle, `last` is L_last (2^40 - 1 while open-ended), `state` the
code of R173, `front` the front line F, `resume` the line of a RESUME that has not started yet. -/
structure Job where
  id : Nat
  bits : Nat
  autoarm : Bool
  last : Nat
  mask : Nat
  state : Nat
  front : Option Nat
  resume : Option Nat
  deriving DecidableEq, Repr

/-- The header of a segment (R175). -/
structure SegHdr where
  job : Nat
  chan : Nat
  method : Nat
  bits : Nat
  noz : Nat
  first : Nat
  lines : Nat
  clen : Nat
  deriving DecidableEq, Repr

/-- A segment (R175 to R185): the model's number for it, its TAG, its RESEND flag, the length committed, whether its LAST frame has committed, the
extents it occupies in order, its header once checked, whether it is eligible for decoding, whether it is only discarded
until its LAST frame, and the tick at which it was kept across a link-down. -/
structure Seg where
  id : Nat
  tag : Nat
  resend : Bool
  len : Nat
  closed : Bool
  ext : List Nat
  hdr : Option SegHdr
  ready : Bool
  drop : Bool
  keptAt : Option Nat
  deriving DecidableEq, Repr

/-- What has become of one check block of a channel (R192, R196): nothing received, rejected or abandoned, held, in an
engine, released, voided, or awaiting the answer to a REREQ. -/
inductive BlkState where
  | none_ | missing | held | engine | released | voided | awaiting (req : Nat)
  deriving DecidableEq, Repr

/-- One check block of a channel's job: its state, the REREQs made for it, the cause a void of it would have (R195), the
segment that supplies it, its lines, and whether it was checked in advance (R194). -/
structure Blk where
  st : BlkState := .none_
  tries : Nat := 0
  cause : Nat := 1
  src : Nat := 0
  lines : Nat := 64
  checked : Bool := false
  deriving DecidableEq, Repr

/-- A released job line in a channel's line buffer (R188 to R190): its nozzle values and its row checks. -/
structure LineBuf where
  line : Nat
  vals : List Nat
  checks : List Nat
  deriving DecidableEq, Repr

/-- A run of voided lines (R199): first line, lines, cause, tick of its first line, its job. -/
structure VoidRun where
  first : Nat
  count : Nat
  cause : Nat
  at_ : Nat
  job : Nat
  deriving DecidableEq, Repr

/-- What an engine of the pool is doing (R192, R194, R248). -/
inductive EngWork where
  | idle
  | decode (chan key : Nat)
  | verify (chan key : Nat)
  | object
  deriving DecidableEq, Repr

/-- One decompression engine: its work, its start, the rates of its last blocks in 2^-16 byte per cycle (R197). -/
structure Eng where
  work : EngWork := .idle
  since : Nat := 0
  rates : List Nat := []
  retired : Bool := false
  deriving DecidableEq, Repr

/-- The raster flow as a whole. -/
structure RasSt where
  jobs : List Job := []
  segs : List Seg := []
  eng : List (Nat × Eng) := []
  /-- REREQs outstanding: identifier, channel, key of the block (R196); the next identifier, the next segment number -/
  reqs : List (Nat × Nat × Nat) := []
  reqNext : Nat := 0
  segNext : Nat := 0
  progressAt : Nat := 0
  deriving DecidableEq, Repr

/-! ## Louvre and waveforms (chapter 05) -/

/-- A bank image being sent or waiting for READY (R124 to R126): target bank, its bytes, the offset sent, whether it
carries a pending change, and its ARMWIN and ALIGN. -/
structure BankImg where
  bank : Nat
  bytes : List Byte
  sent : Nat
  change : Bool
  armwin : Nat
  align : Nat
  deriving DecidableEq, Repr

/-- A decided strobe that leaves DELAY ticks after its decision (R86). -/
structure Strobe where
  at_ : Nat
  line : Nat
  live : Bool
  wfa : Nat
  wfb : Nat
  deriving DecidableEq, Repr

/-- The body of a line on the data lanes (R113): its line, its end, the checks and values it was built from. -/
structure Body where
  line : Nat
  endAt : Nat
  crc : Nat
  data : Bool
  bank : Nat
  deriving DecidableEq, Repr

/-- The latched timing of a channel (R99): HC_FIR_CFG, HC_FIR_MININT, HC_ALIGN and HC_LVR_CFG.ALIGN. -/
structure Timing where
  cfg : Word := 64
  minInt : Nat := 3200
  align : Word := 0
  lvr : Nat := 0
  deriving DecidableEq, Repr

/-- Hidden state of one head channel. -/
structure HcSt where
  /-- the pending channel line, while the channel has one (R85) -/
  m : Option Nat := none
  /-- the first tick on which the pending line can be decided (R90) -/
  pendAt : Nat := 0
  /-- the tick of the last decision (R86) and the first tick on which condition 2 held for the pending line (R88) -/
  kPrev : Option Nat := none
  due : Option Nat := none
  /-- the last channel line fired in this job or pass (R54, R125) -/
  lastFired : Option Nat := none
  lat : Timing := {}
  winAt : Nat := 0
  winN : Nat := 0
  /-- D(c) in force at job start (R55) -/
  dStart : Int := 0
  strobes : List Strobe := []
  hold : Bool := false
  holdAt : Nat := 0
  body : Option Body := none
  /-- the tick from which 8 idle characters are counted (R113) -/
  idleAt : Nat := 0
  /-- tick of entry to the link state, of the start of link start, of the last valid status frame, of return-lane errors -/
  stateAt : Nat := 0
  startAt : Nat := 0
  frameAt : Nat := 0
  errs : List Nat := []
  ver : Nat := 0
  image : Option BankImg := none
  /-- the pending configuration as armed: WAV_SEL, the two GREY words, the class words (R125) -/
  nextConf : List Word := []
  /-- the bank in force, whether a line frame has used one since it was loaded, its ARMWIN and ALIGN -/
  bank : Nat := 0
  armwin : Nat := 0
  balign : Nat := 0
  /-- a prepared bank waits for its line (change) -/
  ready : Bool := false
  /-- a bank must be brought into force before the armed job or pass starts (R126) -/
  prep : Bool := false
  /-- a waveform in progress: tick of its strobe, and its two indices; trims waiting for rest (R129, R132) -/
  wave : Option (Nat × Nat × Nat) := none
  trimA : Option Word := none
  trimB : Option Word := none
  /-- the trims in force -/
  trimInA : Word := 0
  trimInB : Word := 0
  /-- the rest codes in force (R133) -/
  restA : Nat := 0
  restB : Nat := 0
  /-- line buffer, voided lines still to come due, blocks, void runs, consecutive voids (R187 to R200) -/
  lines : List LineBuf := []
  voids : List Nat := []
  blks : List (Nat × Blk) := []
  run : Option VoidRun := none
  ended : List VoidRun := []
  voidN : Nat := 0
  /-- the highest job line released (R269) -/
  rMax : Option Nat := none
  /-- the channel restarts at a line after an island reset (R24) -/
  restart : Option Nat := none
  deriving DecidableEq, Repr

/-! ## Firing (chapter 04) -/

/-- A station record of the geometry (R50): kind, index, in-web offset in sub-lines as a signed value (R80). -/
structure Station where
  kind : Nat
  index : Nat
  offset : Int
  deriving DecidableEq, Repr

/-- A described pass (R96). -/
structure Pass where
  pass : Nat
  rev : Bool
  first : Nat
  last : Nat
  deriving DecidableEq, Repr

/-- One line record (R409): channel, disposition, channel line, body CRC, void cause, tick of the decision. -/
structure LineRec where
  chan : Nat
  disp : Nat
  line : Nat
  crc : Nat
  cause : Nat
  at_ : Nat
  deriving DecidableEq, Repr

/-- The values a channel fired for one job line by one of its lines, other rows as 0 (R293): the job and its bits. -/
structure Fired where
  job : Nat
  bits : Nat
  chan : Nat
  line : Nat
  vals : List Nat
  deriving DecidableEq, Repr

/-- The firing sequencer's global hidden state. -/
structure FirSt where
  s : Int := 0
  heldArm : Bool := false
  armed : Option Pass := none
  active : Option Pass := none
  held : Option Pass := none
  lastPass : Option Nat := none
  npass : Nat := 0
  /-- the channels of the running job or active pass -/
  chans : List Nat := []
  /-- bits per nozzle of the running job or pass -/
  bits : Nat := 1
  /-- the tick of the last stop, for causes on the same tick (R92) -/
  stopAt : Nat := 0
  /-- line records still to be compared (R409), and what was fired for the expected image (R293) -/
  recs : List LineRec := []
  fired : List Fired := []
  /-- the jobs that have started, in order: identifier, bits and S (R80, for the camera grid of R283) -/
  starts : List (Nat × Nat × Int) := []
  deriving DecidableEq, Repr

/-! ## Tether (chapter 06) -/

/-- One lane's receiver: the tick of entry to its state, and the tick and LANE of its last valid MARKER. -/
structure LaneSt where
  at_ : Nat := 0
  mark : Option (Nat × Nat) := none
  deriving DecidableEq, Repr

/-- A frame waiting to be sent or kept for replay: virtual channel, type, payload; a kept frame has its SEQ. -/
structure TxFrame where
  vc : Nat
  type : Nat
  seq : Nat
  payload : List Byte
  deriving DecidableEq, Repr

/-- The hidden state of the Tether link, or of the Bridle link as far as it follows Tether (R396). -/
structure TethSt where
  /-- lanes by number, 16 and 17 for the two Bridle lanes -/
  lane : List (Nat × LaneSt) := []
  /-- the Bridle link's state in the codes of TTH_STS.LINK -/
  phase : Nat := 0
  /-- frames waiting for credit and replay room, oldest first, and the replay buffer, oldest first -/
  wait : List TxFrame := []
  kept : List TxFrame := []
  txSeq : Nat := 0
  rxSeq : Nat := 0
  /-- a frame has been accepted since link-up (R162) -/
  acked : Bool := false
  nak : Bool := false
  nakAt : Nat := 0
  ackAt : Nat := 0
  /-- transmit credit per virtual channel: LIMIT and CONSUMED; receive LIMIT granted and sent, and units received -/
  limit : List (Nat × Nat) := []
  used : List (Nat × Nat) := []
  grant : List (Nat × Nat) := []
  sent : List (Nat × Nat) := []
  recv : List (Nat × Nat) := []
  creditAt : Nat := 0
  /-- replay: consecutive replays of the oldest frame, tick of the last ACK advance, of the last replay -/
  replays : Nat := 0
  ackAdv : Nat := 0
  replayAt : Option Nat := none
  replaySeq : Nat := 0
  /-- HELLO: entry tick, last OFFER sent, the CONFIRM sent and received, peer's RXMASK and MAXPAY, agreed payload -/
  helloAt : Nat := 0
  offerAt : Nat := 0
  sentConf : Option Nat := none
  gotConf : Option Nat := none
  verLowAt : Option Nat := none
  maxPay : Nat := 8192
  trainAt : Nat := 0
  /-- RESTRIPE: last sent and last received (EPOCH, mask), settled -/
  es : Nat := 0
  ms : Nat := 0
  er : Option (Nat × Nat) := none
  settled : Bool := false
  /-- settings latched at link-up (R169) -/
  cfg : Word := 0x00130406
  downAt : Nat := 0
  upAt : Nat := 0
  deriving DecidableEq, Repr

end Sys2Proof.Machine
end

