-- ==== Sys2Proof/Machine/StD.lean ====
section
/-! DEFINITION. Hidden state of nozzle health and the drop gates (chapter 10). -/

namespace Sys2Proof.Machine

/-- A decided change of a nozzle's state that waits for an update (R257, R269): the state named, its source of
FIR_NH_LAST, and the line of HC_NH_AT where AT_EN was set (R271). -/
structure NhChange where
  chan : Nat
  noz : Nat
  new : Nat
  src : Nat
  at_ : Option Nat
  deriving DecidableEq, Repr

/-- An update in flight (R269, R270): its changes, the channels it touches, its L_eff, the spread distance of its maps,
and whether it applies at once to whatever is released. -/
structure NhUpd where
  changes : List NhChange
  chans : List Nat
  leff : Nat
  reach : Nat
  atOnce : Bool
  deriving DecidableEq, Repr

/-- What nozzle health keeps of one nozzle beside NH_STATE: the internal sums of the three kinds, consecutive clears, and
the effective line of its latest change (R260, R261). -/
structure NozEv where
  missing : Nat := 0
  weak : Nat := 0
  deviated : Nat := 0
  clears : Nat := 0
  eff : Option Nat := none
  deriving DecidableEq, Repr

/-- A drop-gate test in progress (R263, R264): its channel, the nozzle under test, those still to come, strobes issued for it, the tick of the last strobe,
its window's crossing, the sums of times of flight and widths, the crossings, and an active edge whose width is open. -/
structure GateSt where
  run : Bool := false
  chan : Nat := 0
  noz : Nat := 0
  rest : List Nat := []
  strobes : Nat := 0
  closed : Nat := 0
  strobeAt : Option Nat := none
  nextAt : Nat := 0
  crossed : Bool := false
  openEdge : Option Nat := none
  crossings : Nat := 0
  tofSum : Nat := 0
  widthSum : Nat := 0
  deriving DecidableEq, Repr

/-- Nozzle health as a whole: changes waiting, the update in flight, the pending proposal (identifier, the tick its
hold ends, changes), the evidence kept by nozzle (channel × 4,096 + nozzle), and the spread distance of each channel's map. -/
structure NhSt where
  wait : List NhChange := []
  flight : Option NhUpd := none
  prop : Option (Nat × Nat × List NhChange) := none
  propNext : Nat := 1
  ev : List (Nat × NozEv) := []
  reach : List (Nat × Nat) := []
  gate : List (Nat × GateSt) := []
  recordAt : Nat := 0
  recordDue : Bool := false
  recordNow : Bool := false
  deriving DecidableEq, Repr

end Sys2Proof.Machine
end

