-- ==== Sys2Proof/Machine/StE.lean ====
section
/-! DEFINITION. Hidden state of calibration and of the Keel store (chapter 12). -/

namespace Sys2Proof.Machine

/-- One point of a calibration set: T in 1/16 °C and the four values in trim units (R310). -/
structure CalPoint where
  t : Int
  ga : Int
  oa : Int
  gb : Int
  ob : Int
  deriving DecidableEq, Repr

/-- A calibration set (R310): TREF in units of 10 ns, the rest codes and the points. -/
structure CalSet where
  tref : Nat := 0
  restA : Nat := 0
  restB : Nat := 0
  pts : List CalPoint := []
  deriving DecidableEq, Repr

/-- A running procedure (R315 to R319): what it was told, the trims to put back, its stage (1 measuring, 2 gate test,
3 waiting for its commit), what it has worked out so far, and how its commit ended. -/
structure CalProc where
  op : Nat
  chan : Nat
  set : Nat
  outputs : Nat
  gate : Nat
  trimA : Word
  trimB : Word
  stage : Nat
  /-- the outputs still to be measured, and the corrections found, by word of CAL_DAC (R316) -/
  todo : List Nat := []
  dac : List (Nat × Word) := []
  /-- the bandgap code of its check -/
  vref : Nat := 0
  /-- the class words found (R317) -/
  classes : List Word := []
  /-- the point under measurement, the set it will make, and the gate tests made (R318) -/
  point : Option CalPoint := none
  newSet : Option CalSet := none
  tests : Nat := 0
  committed : Option Bool := none
  deriving DecidableEq, Repr

/-- A record waiting for its commit: identifier, body, whether a second must pass first (R322, R324). -/
structure KeelReq where
  rid : Nat
  body : List Byte
  deferred : Bool
  deriving DecidableEq, Repr

/-- Calibration and Keel. -/
structure CalSt where
  proc : Option CalProc := none
  /-- the calibration sets, by channel × 4 + set -/
  sets : List (Nat × CalSet) := []
  /-- the Keel store's bytes that are not 0 (R320) -/
  keel : List (Nat × Byte) := []
  /-- commits asked for, in order, and the tick of each record's last commit -/
  commits : List KeelReq := []
  lastCommit : List (Nat × Nat) := []
  /-- ADC requests waiting: (input, A, trigger or 16 for the host) (R306) -/
  adc : List (Nat × Nat × Nat) := []
  /-- records flagged at start-up (R323, R326): torn, implausible; NOZZLE entries skipped -/
  torn : List Nat := []
  implaus : List Nat := []
  skipped : Nat := 0
  /-- the body of the DEVICE record: BOOTS, ON_HOURS, TORN_COUNT, LAST_TORN (R325) -/
  device : List Nat := [0, 0, 0, 0]
  deviceAt : Nat := 0
  /-- the tick of the last bandgap check, the 10 ms tick of the last evaluation (R307, R313) -/
  vrefAt : Nat := 0
  evalK : Nat := 0
  /-- the temperatures last received from the active chip, by channel; none where its source is faulty (R314) -/
  temps : List (Nat × Option Int) := []
  deriving DecidableEq, Repr

end Sys2Proof.Machine
end

