-- ==== Sys2Proof/Machine/StF.lean ====
section
/-! DEFINITION. Hidden state of the test logic (chapter 18). -/

namespace Sys2Proof.Machine

/-- A loop-back slot in use (R443, R445, R452): the tick of its entry, and its checker's latest bits: the correct ones in a
row, and whether each of the last 64 bits was in error, latest first. -/
structure LbSt where
  at_ : Nat := 0
  good : Nat := 0
  recent : List Bool := []
  deriving DecidableEq, Repr

/-- The test logic: slots; tests in progress, with their group and whether a START came while they ran (R446, R447, R452);
the JTAG instruction, IDCODE by default, the boundary cells as preloaded, whether a boundary scan has taken the outputs, and the
STATUS and DATA that SASHREG captures (R448 to R450). -/
structure TestSt where
  lb : List (Nat × LbSt) := []
  bistRun : Option Nat := none
  bistAgain : Bool := false
  mramRun : Bool := false
  mramAgain : Bool := false
  ir : Nat := 1
  boundary : List Bool := []
  scanned : Bool := false
  sashDone : Option (Nat × Nat) := none
  deriving DecidableEq, Repr

end Sys2Proof.Machine
end

