-- ==== Sys2Proof/Machine/StG.lean ====
section
/-! DEFINITION. Hidden state of the camera ports and of the panes (chapter 11). -/

namespace Sys2Proof.Machine

/-- A received camera line: its row in the frame, and its pixels (none where a short line has none, R286). -/
structure CamLine where
  row : Nat
  px : List (Option Nat)
  deriving DecidableEq, Repr

/-- A frame: its number, generation and settings (R288), the grid it belongs to, its first grid line, its job with its bits,
its start (device time in units of 2^-32 ns), what was received and missed, and its flags (R284, R286, R290). -/
structure CamFrame where
  num : Nat
  gen : Nat
  set : List Word
  epoch : Nat
  y0 : Int
  job : Option (Nat × Nat)
  start : Nat
  lines : List CamLine := []
  missing : Nat := 0
  shortLines : Nat := 0
  longLines : Nat := 0
  long : Bool := false
  overrun : Bool := false
  deriving DecidableEq, Repr

/-- The camera line on the port: the frame's grid and row it belongs to, the samples of both taps, pixels in excess, and
whether an overrun drops the rest (R280, R281, R286). -/
structure CamOpen where
  epoch : Nat
  y : Int
  taps : List (Nat × Nat) := []
  long : Bool := false
  cut : Bool := false
  deriving DecidableEq, Repr

/-- A pane image with the piece sent so far, and its header fields (R299). -/
structure PaneImg where
  pane : Nat
  format : Nat
  frame : Nat
  gen : Nat
  bytes : List Byte
  sent : Nat
  deriving DecidableEq, Repr

/-- One camera port. -/
structure CamSt where
  lval : Bool := false
  fval : Bool := false
  pclkAt : Nat := 0
  cur : Option CamOpen := none
  /-- the grid: its S, the job it follows, its number, the job starts it has seen, the next grid line, the triggers outstanding, the last
  LTRIG (R283, R284) -/
  gridS : Int := 0
  job : Option (Nat × Nat) := none
  epoch : Nat := 0
  seen : Nat := 0
  nextY : Nat := 0
  trigs : List (Nat × Int × Nat) := []
  lastTrig : Option Nat := none
  /-- the next frame of framing 2 (R285) -/
  nextF : Nat := 0
  /-- frames open, closed frames whose record is due, the number of the next frame, the tick of the last line -/
  frames : List CamFrame := []
  closed : List CamFrame := []
  nextNum : Nat := 0
  lineAt : Nat := 0
  /-- LVAL rises of the open frame, and the mean interval of the last closed frame as sum and count (R288) -/
  rises : List Nat := []
  mean : Nat × Nat := (0, 0)
  /-- generations (R288): the last committed and its snapshot waiting (P and tick of the commit, a frame has started since),
  the one in use and its settings -/
  gen : Nat := 0
  commit : Option (List Word × Int × Nat × Bool) := none
  useGen : Nat := 0
  set : List Word := [0x00640050, 0x3FFF0000, 0x0FFF0000, 0x0FFF0000, 0x0FFF0000, 0x20102040, 0xC8001010, 0x00004000]
  /-- the shift of R295 in pixels and lines -/
  sx : Int := 0
  sy : Int := 0
  /-- the pulse in progress (R283, R285) -/
  pulseEnd : Option Nat := none
  /-- panes (R300, R301): images by age, GAP by pane, frames of the generation counted for the display pane -/
  panes : List PaneImg := []
  gap : List Nat := []
  dispGen : Option Nat := none
  dispN : Nat := 0
  deriving DecidableEq, Repr

end Sys2Proof.Machine
end

