-- ==== Sys2Proof/Machine/StH.lean ====
section
/-! DEFINITION. Hidden state of a chip of a pair, and of the guard that every chip has (chapter 16). -/

namespace Sys2Proof.Machine

/-- An agreed change (R415): its identifier, kind, channels, the line its own rule named, the line proposed now, the
proposals made, the tick of the last one, and its payload as numbers. -/
structure PairProp where
  id : Nat
  kind : Nat
  mask : Nat
  named : Nat
  line : Nat
  tries : Nat
  at_ : Nat
  payload : List Nat
  deriving DecidableEq, Repr

/-- The pair's hidden state. -/
structure PairSt where
  /-- PAIR_HB_IN: the tick of the last edge and the class of the last interval (R401) -/
  hbAt : Option Nat := none
  hbLast : Nat := 0
  /-- this chip's PAIR_ARB_N driver holds the line low (R402) -/
  arb : Bool := false
  /-- PAIR_ACT as driven, and whether this chip's own heartbeat has fallen silent (R394, R402) -/
  act : Bool := false
  silent : Bool := false
  /-- the ticks of the last BRD_KICK, of a RELINQUISH, and of the entry to SEEKING (R402, R403) -/
  kickAt : Nat := 0
  relinquishAt : Option Nat := none
  seekAt : Nat := 0
  /-- a lapse other than RELINQUISH has come: the soft reset that follows it, and no re-arm before a join (R402, R427) -/
  lapseAt : Option Nat := none
  needJoin : Bool := false
  /-- the start of a hold-off, and whether this chip has yielded (R403, R405) -/
  holdAt : Nat := 0
  yielded : Bool := false
  /-- STATE frames: the ticks of the last one received and sent (R397, R405); what the last one said of the peer -/
  rxAt : Option Nat := none
  txAt : Nat := 0
  peerSync : Nat := 0
  peerFront : Nat := 0
  peerTether : Bool := false
  /-- JOIN: the ticks of the last OFFER, and the CONFIRMs sent and received as version and reason (R398) -/
  offerAt : Nat := 0
  sentConf : Option (Nat × Nat) := none
  gotConf : Option (Nat × Nat) := none
  /-- agreed changes: those this chip has proposed, those proposed to it, the next identifier (R415) -/
  props : List PairProp := []
  asked : List PairProp := []
  propNext : Nat := 1
  /-- position synchronisation: waiting for the first, P at the last primary Z edge (R407) -/
  syncWait : Bool := false
  zP : Option Int := none
  /-- a detached standby: the tick, whether DETACH was the cause; a rejoin's join line, its snapshot, the channels that have
  disposed of it with matching records (R410) -/
  detachAt : Option Nat := none
  manual : Bool := false
  joinLine : Option Nat := none
  snap : Bool := false
  matched : List Nat := []
  /-- records received and not yet compared; consecutive ONESIDE results on the active, by channel; the last line the peer
  recorded as fired, by channel (R406, R409, R411) -/
  recs : List LineRec := []
  oneside : List (Nat × Nat) := []
  peerFired : List (Nat × Nat) := []
  /-- a swap: its line and its cause (R418), and the hold of PAIR_ARB_N after it (R417) -/
  swap : Option (Nat × Nat) := none
  swapHold : Option Nat := none
  lost : Bool := false
  /-- records asked of the standby at a join (R413) -/
  asking : List Nat := []
  deriving DecidableEq, Repr

end Sys2Proof.Machine
end

