-- ==== Sys2Proof/Machine/StOut.lean ====
section
/-! DEFINITION. What leaves the part: register access results, link frames and blocks, strobes, pin pulses, messages.
The list of these in `Dev.out` is the model's own record of the effects the spec states on the pins and links. -/

namespace Sys2Proof.Machine

/-- What a head channel's data lanes carry (R107 to R120). -/
inductive Lvr where
  | ts1 (ver : Nat)
  | ts2 (ver : Nat)
  | body (bytes : List Byte)
  | commit
  | commitBlank
  | abort
  deriving DecidableEq, Repr

/-- One thing that left the part. -/
inductive Out where
  /-- the result of a register access: port code, status code of R361, data -/
  | access (port status : Nat) (data : Word)
  /-- a Sash message sent on a port (R359) -/
  | sash (port : Nat) (msg : List Byte)
  /-- SERVICE port bytes (R358) -/
  | spi (bytes : List Byte)
  /-- read data returned to a page store requester: channel, tag, data, uncorrectable (R216, R211) -/
  | memData (dch tag : Nat) (data : List Byte) (ue : Bool)
  /-- a GPIO pin driven to a level at a tick (R350) -/
  | gpio (pin : Nat) (level : Bool) (at_ : Nat)
  /-- an Ethernet frame sent on a port (R344) -/
  | eth (port : Nat) (frame : List Byte)
  /-- an Ethernet frame delivered to the firmware with its timestamp in 2^-16 ns (R343) -/
  | ethRx (port : Nat) (time : Nat) (frame : List Byte)
  /-- a camera port's output, 0 LTRIG or 1 EXPOSE, driven to a level at a tick (R283, R285) -/
  | cam (port sig : Nat) (level : Bool) (at_ : Nat)
  /-- a character or body on a head channel's data lanes -/
  | louvre (chan : Nat) (sym : Lvr)
  /-- a fire strobe of a width in ticks, and the waveform indices that start with it (R86, R129) -/
  | strobe (chan : Nat) (line width wfa wfb : Nat)
  /-- a frame on the Tether link, from its TYPE to its CRC (R156) -/
  | tether (frame : List Byte)
  /-- a LINK message on the Tether link: KIND and the four ARG bytes from byte 2 as numbers (R161) -/
  | tetherLink (kind a b : Nat)
  /-- a RESTRIPE on the Tether link, or on the Bridle link (R153, R396) -/
  | restripe (brd : Bool) (epoch mask : Nat)
  /-- a message on the Bridle link: its TYPE of R397 and its fields as numbers -/
  | bridle (type : Nat) (fields : List Nat)
  /-- PAIR_ACT driven to a level (R394); the PAIR_ARB_N driver holds the line low or releases it (R402) -/
  | pairAct (level : Bool) (at_ : Nat)
  | pairArb (low : Bool) (at_ : Nat)
  /-- the firmware writes a whole image to a Kite slot of the boot flash (R432) -/
  | flash (slot : Nat) (image : List Byte)
  /-- a control-cycle event of a trigger posted to the firmware (R346) -/
  | cycle (trg : Nat)
  deriving DecidableEq, Repr

end Sys2Proof.Machine
end

