-- ==== Sys2Proof/Machine/State.lean ====
section
/-! DEFINITION. The state of the part: the queue of waiting commands, the page store, and everything else (`Dev`):
registers, hidden state by chapter, what has left the part, and the model's own counters. -/

namespace Sys2Proof.Machine

/-- What is fixed when the part is made and mounted: which part it is (R1), the rank pin of a pair and whether a pair is
wired (chapter 16). No command changes it. -/
structure Strap where
  spx32 : Bool := false
  grade : Bool := false
  rank : Bool := false
  paired : Bool := false
  deriving DecidableEq, Repr

/-- Everything but the queue and the page store. -/
structure Dev where
  /-- straps (R1, chapter 16) -/
  strap : Strap := {}
  /-- ticks of 1.25 ns since power-on (the model's own count of the time island's ticks, R334) -/
  now : Nat := 0
  /-- the registers, by byte address; an unlisted register holds its reset value -/
  regs : List (Nat × Word) := []
  /-- the counter of free values (the model's own) -/
  free : Nat := 0
  /-- what has left the pins, links and ports, oldest first (the model's own record) -/
  out : List Out := []
  /-- island gate (1) and reset (2) requests waiting for crossings to drain (R18) -/
  islReq : List (Nat × Nat) := []
  /-- chapter 03: inputs by number (0 to 31, the sources of R351), the four sources, the loop -/
  input : List (Nat × InSt) := []
  src : List (Nat × SrcSt) := []
  pac : PacSt := {}
  /-- chapter 02: the stations of the geometry -/
  stations : List Station := []
  /-- chapters 02, 04, 05, 07, by head channel -/
  hcs : List (Nat × HcSt) := []
  /-- chapter 04 -/
  fir : FirSt := {}
  /-- chapter 07 -/
  ras : RasSt := {}
  /-- chapter 06 -/
  teth : TethSt := {}
  /-- chapter 16: the Bridle link's lanes and mask, and the pair -/
  bl : TethSt := {}
  pair : PairSt := {}
  /-- chapter 08, by memory channel -/
  dch : List (Nat × Dch) := []
  /-- chapter 09, by compression engine -/
  cx : List (Nat × CxSt) := []
  /-- chapter 10 -/
  nh : NhSt := {}
  /-- chapter 11 -/
  cams : List (Nat × CamSt) := []
  /-- chapter 12 -/
  cal : CalSt := {}
  /-- chapter 13 -/
  time : TimeSt := {}
  trg : List (Nat × TrgSt) := []
  cap : List (Nat × List CapEntry) := []
  txq : List (Nat × List TxStamp) := []
  /-- chapter 14 -/
  host : HostSt := {}
  /-- chapter 15 -/
  cu : List (Nat × CuSt) := []
  /-- chapter 17 -/
  pwr : PwrSt := {}
  /-- chapter 18 -/
  test : TestSt := {}
  deriving DecidableEq, Repr

/-- The state: waiting commands first in, first out; the page store; the rest. -/
structure State where
  pending : List Instr := []
  mem : Store := ⟨[], []⟩
  dev : Dev := {}
  deriving DecidableEq, Repr

/-- The faults. -/
inductive Fault where
  /-- Raised by no command of this model: every command has an effect or is discarded as the spec says (safe). -/
  | none_
  deriving DecidableEq, Repr

/-- The refusals. -/
inductive Refusal where
  /-- Raised by Dispatch.lean for a command without a meaning (safe). -/
  | notModelled (mnemonic : String)
  deriving DecidableEq, Repr

/-- The machine right after a power-on reset: every register at its reset value (the tables of spec/), nothing waiting,
nothing in the page store, no boot stage entered (R429). -/
def State.reset : State := {}

end Sys2Proof.Machine
end

