-- ==== Sys2Proof/Machine/Ops.lean ====
section
/-! DEFINITION. The named operations over the registers and the tables of State, the access types of R9 and R10, fresh
values, and what is shared by every chapter: events for the firmware, islands (R13 to R24), ports. -/

namespace Sys2Proof.Machine

/-! ## Registers -/

/-- The stored value of a register. -/
def Dev.rd (d : Dev) (a : Nat) : Word := tget regReset d.regs a

/-- Store a register's value. -/
def Dev.wr (d : Dev) (a : Nat) (v : Word) : Dev := { d with regs := tput regReset d.regs a v }

/-- Store a number in a register. -/
def Dev.wrN (d : Dev) (a v : Nat) : Dev := d.wr a (BitVec.ofNat 32 v)

/-- The stored number of a register. -/
def Dev.rdN (d : Dev) (a : Nat) : Nat := (d.rd a).toNat

/-- A field of a register. -/
def Dev.get (d : Dev) (a : Nat) (f : Fld) : Nat := (d.rd a).fld f

/-- A one-bit field of a register. -/
def Dev.bit (d : Dev) (a : Nat) (f : Fld) : Bool := d.get a f != 0

/-- Set a field of a register. -/
def Dev.put (d : Dev) (a : Nat) (f : Fld) (v : Nat) : Dev := d.wr a ((d.rd a).setFld f v)

/-- Set a field of a register to 1: hardware sets an event flag (R10). -/
def Dev.flag (d : Dev) (a : Nat) (f : Fld) : Dev := d.put a f 1

/-- Set bit `i` of a register. -/
def Dev.flagBit (d : Dev) (a i : Nat) : Dev := d.put a ⟨i, 1⟩ 1

/-- Clear bit `i` of a register. -/
def Dev.clearBit (d : Dev) (a i : Nat) : Dev := d.put a ⟨i, 1⟩ 0

/-- Add to a saturating counter field. -/
def Dev.count (d : Dev) (a : Nat) (f : Fld) (n : Nat) : Dev := d.put a f (min (2 ^ f.width - 1) (d.get a f + n))

/-- A whole register as a field. -/
def whole : Fld := ⟨0, 32⟩

/-- The high and low halves of a register as fields. -/
def hiHalf : Fld := ⟨16, 16⟩
def loHalf : Fld := ⟨0, 16⟩

/-- A 64-bit value held in a _LO, _HI pair. -/
def Dev.rd64 (d : Dev) (lo hi : Nat) : Nat := d.rdN lo + 2 ^ 32 * d.rdN hi

/-- Store a value in a _LO, _HI pair. -/
def Dev.wr64 (d : Dev) (lo hi v : Nat) : Dev := (d.wrN lo v).wrN hi (v / 2 ^ 32)

/-- Do something when a condition holds. -/
def Dev.when (d : Dev) (c : Bool) (f : Dev → Dev) : Dev := if c then f d else d

/-- Apply a function once for each of a list of numbers. -/
def Dev.each (d : Dev) (l : List Nat) (f : Nat → Dev → Dev) : Dev := l.foldl (fun d i => f i d) d

/-! ## The access types of R9 -/

/-- The masks of a register, as numbers: (rw, w1c, rc). -/
def regMasks (a : Nat) : Nat × Nat × Nat :=
  match regRow a with
  | some r => (r.rw, r.w1c, r.rc)
  | none => (0, 0, 0)

/-- The kind of a register in a wider value (R11). -/
def regKind (a : Nat) : RegKind :=
  match regRow a with
  | some r => r.kind
  | none => .plain

/-- A write by the access types: RW bits take the written value, W1C bits clear where 1 is written (R9). -/
def Dev.typedWrite (d : Dev) (a : Nat) (v : Word) : Dev :=
  let (rw, w1c, _) := regMasks a
  let old := d.rdN a
  let kept := old &&& (0xFFFFFFFF ^^^ rw) &&& (0xFFFFFFFF ^^^ (w1c &&& v.toNat))
  d.wrN a (kept ||| (v.toNat &&& rw))

/-- The clearing half of a read: RC bits become 0 (R9). -/
def Dev.readClear (d : Dev) (a : Nat) : Dev :=
  let (_, _, rc) := regMasks a
  if rc = 0 then d else d.wrN a (d.rdN a &&& (0xFFFFFFFF ^^^ rc))

/-! ## Free values, output, time units -/

/-- A fresh free value (Config.freeNat), and the counter advanced. -/
def Dev.fresh (d : Dev) : Nat × Dev := (Config.freeNat d.free, { d with free := d.free + 1 })

/-- Something leaves the part. -/
def Dev.emit (d : Dev) (o : Out) : Dev := { d with out := d.out ++ [o] }

/-- Ticks of 1.25 ns in a time of `n` units. -/
def nsTicks (n : Nat) : Nat := n * 4 / 5
def usTicks (n : Nat) : Nat := n * 800
def msTicks (n : Nat) : Nat := n * 800000
def secTicks (n : Nat) : Nat := n * 800000000

/-- A function on the rest of the state, as a function on the state. -/
def State.onDev (s : State) (f : Dev → Dev) : State := { s with dev := f s.dev }

/-! ## Time (R332, R334, R339): values in units of 2^-32 ns -/

/-- The first accumulator of a domain. -/
def Dev.domTime (d : Dev) (dom : Nat) : Nat := if dom = 0 then d.time.a0 else d.time.a1

/-- The increment of a domain in units of 2^-32 ns. -/
def Dev.domInc (d : Dev) (dom : Nat) : Nat := d.rdN (TIM_D_INC_LO dom) + 2 ^ 32 * (d.rdN (TIM_D_INC_HI dom) % 16)

/-- The selected domain. -/
def Dev.selDom (d : Dev) : Nat := if d.time.sel then 1 else 0

/-- Device time: the selected domain plus H, never below 0 (R339). -/
def Dev.devTime (d : Dev) : Nat := ((d.domTime d.selDom : Int) + d.time.h).toNat

/-- Time in a trigger's or capture's domain: 0 device, 1 Main, 2 Reserve (R346). -/
def Dev.timeIn (d : Dev) (dom : Nat) : Nat :=
  if dom = 1 then d.domTime 0 else if dom = 2 then d.domTime 1 else d.devTime

/-- The seconds, nanoseconds and 16-bit fraction of a time (R332, R334: truncated). -/
def timeSec (t : Nat) : Nat := t / 2 ^ 32 / 1000000000
def timeNs (t : Nat) : Nat := t / 2 ^ 32 % 1000000000
def timeFrac (t : Nat) : Nat := t / 2 ^ 16 % 2 ^ 16

/-! ## The passing of time (R334, R341) -/

/-- One tick's slew of H toward 0: SLEW × 10⁻⁶ × INC, with 32 fraction bits (R341). -/
def Dev.slewStep (d : Dev) : Nat := d.get TIM_CFG TIM_CFG.SLEW * d.domInc d.selDom / 1000000

/-- `n` ticks of the two domains and of H (R334, R341). -/
def Dev.advanceTime (d : Dev) (n : Nat) : Dev :=
  let t := d.time
  let m := min t.h.natAbs (n * d.slewStep)
  let h := if 0 < t.h then t.h - m else t.h + m
  let t' := { t with
    a0 := t.a0 + n * d.domInc 0, b0 := t.b0 + n * d.domInc 0
    a1 := t.a1 + n * d.domInc 1, b1 := t.b1 + n * d.domInc 1
    h := h }
  { d with now := d.now + n, time := t' }.when (t.h != 0 && h == 0) (·.flag TIM_EVT TIM_EVT.SLEW_DONE)

/-- `n` ticks pass. Everything else that moves with time is a function of `now`. -/
def State.pass (s : State) (n : Nat) : State := s.onDev (·.advanceTime n)

/-! ## Events for the firmware (R378) -/

/-- The firmware has an event to post on HT7: it holds up to 256 in order, and counts those it drops (R378). -/
def Dev.notify (d : Dev) (code : Nat) (detail : List Word) : Dev :=
  let t := d.devTime
  if d.host.events.length < 256 then
    { d with host := { d.host with events := d.host.events ++ [⟨code, timeNs t, timeSec t, detail⟩] } }
  else { d with host := { d.host with eventsLost := d.host.eventsLost + 1 } }

/-! ## Islands (R12, R13, R22, R29, R440) -/

/-- Head channels that the part enables (R1). -/
def Dev.hcCount (d : Dev) : Nat := if d.strap.spx32 then 32 else 64

/-- Tether lanes that the part enables (R1). -/
def Dev.laneCount (d : Dev) : Nat := if d.strap.spx32 then 8 else 16

/-- An island takes accesses: the part is not held in reset, and the island is clocked, neither gated nor isolated nor asked to
be gated or reset (R18, R29). -/
def Dev.islUp (d : Dev) (code : Nat) : Bool :=
  !d.pwr.held && (code == 0 ||
    (d.bit (PWR_ISL code) PWR_ISL.RUNNING && !d.bit (PWR_ISL code) PWR_ISL.GATED && !d.bit (PWR_ISL code) PWR_ISL.ISOLATED &&
      !d.islReq.any (fun r => r.1 == code)))

/-- A function on the rest of the state that is the work of one island: only while that island runs. -/
def State.onIsl (s : State) (code : Nat) (f : Dev → Dev) : State := if s.dev.islUp code then s.onDev f else s

/-- The island's bit in GLB_ISL_FAULT or GLB_HC_FAULT0/1 (R22, R33). -/
def Dev.setFaultBit (d : Dev) (code : Nat) : Dev :=
  if 0x40 ≤ code then
    if code < 0x60 then d.flagBit GLB_HC_FAULT0 (code - 0x40) else d.flagBit GLB_HC_FAULT1 (code - 0x60)
  else if 1 ≤ code && code ≤ 7 then d.flagBit GLB_ISL_FAULT (code - 1) else d

/-- Mark an island isolated, set its fault bit and tell the firmware (R22); the record in GLB_FAULT_LAST is beside it. -/
def Dev.isolateMark (d : Dev) (code src : Nat) : Dev :=
  let d := d.put (PWR_ISL code) PWR_ISL.ISOLATED 1
  (d.setFaultBit code).notify 0x0001 [BitVec.ofNat 32 (code + 2 ^ 8 * src)]

/-- Record isolations in GLB_FAULT_LAST: the lowest island code, and COUNT by their number (R26, R35). -/
def Dev.faultLast (d : Dev) (code src n : Nat) : Dev :=
  let d := d.put GLB_FAULT_LAST GLB_FAULT_LAST.ISLAND code
  let d := d.put GLB_FAULT_LAST GLB_FAULT_LAST.SOURCE src
  d.count GLB_FAULT_LAST GLB_FAULT_LAST.COUNT n

/-- A channel that the part enables and that has a channel record (R2, R52). -/
def Dev.hasChannel (d : Dev) (c : Nat) : Bool := c < d.hcCount && d.bit (HC_GEOM_NOZ c) HC_GEOM_NOZ.USED

/-- The channels that have a record, in ascending order. -/
def Dev.channels (d : Dev) : List Nat := (List.range 64).filter d.hasChannel

/-! ## Address map (R28) -/

/-- What an address is to an access: outside every block, or in a block of an island, or of a head channel. -/
inductive Region where
  | none_
  | island (code : Nat)
  | channel (c : Nat)
  deriving DecidableEq, Repr

/-- The block an address lies in (R28, R230, R353). -/
def regionOf (a : Nat) : Region :=
  if 0x400000 ≤ a then (if a < 0x500000 then .channel ((a - 0x400000) / 0x4000) else .none_)
  else if 0x100000 ≤ a then (if a < 0x200000 then .channel ((a - 0x100000) / 0x4000) else .none_)
  else
    match a / 0x10000 with
    | 0 => .island 0
    | 1 => .island 0
    | 2 => .island 1
    | 3 => if a % 0x10000 < 0x800 then .island 3 else .island 4
    | 4 => .island 2
    | 5 => .island 0
    | 6 => if a % 0x10000 < 0x1000 then .island 6 else .island 7
    | 7 => .island 5
    | 8 => .island 0
    | 9 => .island 7
    | 10 => .island 0
    | 11 => .island 6
    | 12 => .island 0
    | _ => .none_

/-- How an access to an address fares before any other rule: an access error, no effect without error (R2), or allowed. -/
inductive Reach where
  | error
  | silent
  | ok
  deriving DecidableEq, Repr

/-- R2, R7, R29: alignment and width, the block, the island's state, and the channels and lanes that follow R2. -/
def Dev.reach (d : Dev) (a width : Nat) : Reach :=
  if a % 4 ≠ 0 || width ≠ 32 then .error
  else
    match regionOf a with
    | .none_ => .error
    | .island code =>
      if !d.islUp code then .error
      else if d.strap.spx32 && 0x20180 ≤ a && a < 0x20200 then .silent
      else .ok
    | .channel c => if !d.hasChannel c then .silent else if d.islUp (0x40 + c) then .ok else .error

/-! ## The pair (R397, R423) -/

/-- The chip's role (R423): 0 SINGLE, 1 SEEKING, 2 STANDBY, 3 ACTIVE, 4 REFUSED. -/
def Dev.role (d : Dev) : Nat := d.get BRD_STS BRD_STS.ROLE

/-- The chip is the ACTIVE, or the STANDBY, of a pair. -/
def Dev.activeOfPair (d : Dev) : Bool := d.role == 3
def Dev.standby (d : Dev) : Bool := d.role == 2

/-- The two chips have joined (R398). -/
def Dev.joined (d : Dev) : Bool := d.get BRD_STS BRD_STS.VER != 0

/-- This chip drives the outputs that a pair shares: every role but STANDBY, SEEKING and REFUSED (R394). -/
def Dev.drivesShared (d : Dev) : Bool := d.role == 0 || d.role == 3

/-- A camera output changes, where this chip drives it (R394). -/
def Dev.emitShared (d : Dev) (o : Out) : Dev := if d.drivesShared then d.emit o else d

/-- A message leaves on the Bridle link while the chips are joined (R397). -/
def Dev.brdSend (d : Dev) (type : Nat) (fields : List Nat) : Dev := if d.joined then d.emit (.bridle type fields) else d

/-- The active mirrors state to its standby (R412): what kind, and its values. -/
def Dev.mirror (d : Dev) (fields : List Nat) : Dev := if d.activeOfPair then d.brdSend 0x20 fields else d

/-- Change the pair's hidden state. -/
def Dev.modPair (d : Dev) (f : PairSt → PairSt) : Dev := { d with pair := f d.pair }

/-- An agreed change of a kind waits for its line on a channel (R415). -/
def Dev.awaiting (d : Dev) (kind c : Nat) : Bool := d.pair.props.any (fun p => p.kind == kind && p.mask.testBit c)

/-- A set of channels as a mask. -/
def chanMask (cs : List Nat) : Nat := cs.foldl (fun m c => m ||| 2 ^ c) 0

/-- The active proposes a change at the line that its own rule gives (R415); a new change of a kind on the same channels
replaces one that still waits. -/
def Dev.propose (d : Dev) (kind mask line : Nat) (payload : List Nat) : Dev :=
  if d.activeOfPair && d.joined then
    let id := d.pair.propNext
    let d := d.modPair (fun x => { x with
      propNext := if id = 65535 then 1 else id + 1
      props := x.props.filter (fun p => !(p.kind == kind && p.mask == mask)) ++ [⟨id, kind, mask, line, line, 1, d.now, payload⟩] })
    d.brdSend 0x04 ([id, kind, mask, line] ++ payload)
  else d

/-! ## Job gap (R224) -/

/-- A pass is armed or active (R97). -/
def Dev.passBusy (d : Dev) : Bool := d.bit FIR_STS FIR_STS.PASS_ARMED || d.bit FIR_STS FIR_STS.PASS_ACTIVE

end Sys2Proof.Machine
end

