-- ==== Sys2Proof/Machine/Links.lean ====
section
/-! DEFINITION. What starts by itself at boot and at a wake: the lanes of the Tether and Bridle links (R143 to R147), the head
links (R120), the training of the page store (R221); and the wake from a power state (R436, R438). -/

namespace Sys2Proof.Machine

/-! ## Per-channel hidden state -/

/-- A channel's hidden state. -/
def Dev.hc (d : Dev) (c : Nat) : HcSt := tget (fun _ => {}) d.hcs c

/-- Replace it. -/
def Dev.setHc (d : Dev) (c : Nat) (x : HcSt) : Dev := { d with hcs := tput (fun _ => {}) d.hcs c x }

/-- Change it by a function. -/
def Dev.modHc (d : Dev) (c : Nat) (f : HcSt → HcSt) : Dev := d.setHc c (f (d.hc c))

/-! ## The two links -/

/-- The hidden state of a link: the Bridle link, or the Tether link. -/
def Dev.lk (d : Dev) (b : Bool) : TethSt := if b then d.bl else d.teth

/-- Change it. -/
def Dev.modLk (d : Dev) (b : Bool) (f : TethSt → TethSt) : Dev :=
  if b then { d with bl := f d.bl } else { d with teth := f d.teth }

/-- A link's state in the codes of TTH_STS.LINK: 0 DOWN, 1 TRAIN, 2 HELLO, 3 UP. -/
def Dev.linkSt (d : Dev) (b : Bool) : Nat := if b then d.bl.phase else d.get TTH_STS TTH_STS.LINK

/-- Set it. -/
def Dev.setLinkSt (d : Dev) (b : Bool) (st : Nat) : Dev :=
  if b then (d.modLk true (fun x => { x with phase := st })).put BRD_STS BRD_STS.LINK (if st = 3 then 1 else 0)
  else d.put TTH_STS TTH_STS.LINK st

/-- Between the release of reset and the links and trims stage, and in the fault states, no link is started (R429, R431). -/
def Dev.linksHeld (d : Dev) : Bool := let s := d.get PWR_STS PWR_STS.STAGE; (1 ≤ s && s ≤ 5) || 8 ≤ s

/-- A link is enabled: TTH_CFG.EN, or a role other than SINGLE (R143, R423). -/
def Dev.linkEn (d : Dev) (b : Bool) : Bool := if b then d.role != 0 else d.bit TTH_CFG TTH_CFG.EN && !d.linksHeld

/-- The configuration latched at link-up: RATE, MIN_LANES, EQ_FIXED; fixed on the Bridle link (R169, R396). -/
def Dev.linkRate (d : Dev) (b : Bool) : Nat := if b then 1 else d.teth.cfg.fld TTH_CFG.RATE
def Dev.linkMin (d : Dev) (b : Bool) : Nat := if b then 1 else d.teth.cfg.fld TTH_CFG.MIN_LANES
def Dev.linkFixed (d : Dev) (b : Bool) : Bool := !b && d.teth.cfg.fld TTH_CFG.EQ_FIXED == 1

/-- The island of a link. -/
def linkIsland (b : Bool) : Nat := if b then 7 else 1

/-- A block time in thousandths of a tick (R140). -/
def blockTime (rate : Nat) : Nat :=
  match rate with
  | 0 => 8448
  | 1 => 5120
  | 2 => 4224
  | _ => 3300

/-- The blocks in a number of ticks, to the nearest. -/
def Dev.blocks (d : Dev) (b : Bool) (ticks : Nat) : Nat :=
  let bt := blockTime (d.linkRate b)
  (ticks * 1000 + bt / 2) / bt

/-- A time of `n` blocks has passed since a tick. -/
def Dev.blocksPast (d : Dev) (b : Bool) (t n : Nat) : Bool := decide (n * blockTime (d.linkRate b) ≤ (d.now - t) * 1000)

/-! ## Lanes (R143 to R147) -/

/-- The lanes of a link that the part enables. -/
def Dev.linkLanes (d : Dev) (b : Bool) : List Nat := if b then [16, 17] else List.range d.laneCount

/-- The link of a lane. -/
def laneLink (i : Nat) : Bool := 16 ≤ i

/-- The status register of a lane. -/
def laneSts (i : Nat) : Nat := if laneLink i then BRD_LANE_STS (i - 16) else TTH_LANE_STS i

/-- A lane's state: 0 OFF, 1 EQ, 2 HUNT, 3 LOCK, 4 ALIGNED, 5 ACTIVE, 6 FAILED. -/
def Dev.laneState (d : Dev) (i : Nat) : Nat := d.get (laneSts i) TTH_LANE_STS.STATE

/-- A lane's hidden state. -/
def Dev.laneSt (d : Dev) (i : Nat) : LaneSt := tget (fun _ => {}) (d.lk (laneLink i)).lane i

/-- Change it. -/
def Dev.modLane (d : Dev) (i : Nat) (f : LaneSt → LaneSt) : Dev :=
  d.modLk (laneLink i) (fun x => { x with lane := tmod (fun _ => {}) x.lane i f })

/-- A lane enters a state. -/
def Dev.setLane (d : Dev) (i st : Nat) : Dev :=
  (d.put (laneSts i) TTH_LANE_STS.STATE st).modLane i (fun x => { x with at_ := d.now, mark := none })

/-- A loop-back slot that is ENTERING or RUN uses an instance of an interface (R442, R451). -/
def Dev.looped (d : Dev) (iface inst : Nat) : Bool :=
  [0, 1, 2, 3].any (fun k =>
    let st := d.get (TST_LB_STS k) TST_LB_STS.STATE
    (st == 1 || st == 2) && d.get (TST_LB_CFG k) TST_LB_CFG.IF == iface && d.get (TST_LB_CFG k) TST_LB_CFG.INST == inst)

/-- The lane is in a loop-back. -/
def Dev.laneLooped (d : Dev) (i : Nat) : Bool := if laneLink i then d.looped 7 (i - 16) else d.looped 1 i

/-- A lane that is not DISABLE enters EQ, or HUNT at its fixed setting; a disabled one is OFF (R144, R147). -/
def Dev.laneStart (d : Dev) (i : Nat) : Dev :=
  let b := laneLink i
  if (!b && d.bit (TTH_LANE_CFG i) TTH_LANE_CFG.DISABLE) || d.laneLooped i then d.setLane i 0
  else if d.linkFixed b then (d.put (laneSts i) TTH_LANE_STS.CTLE (d.get (TTH_LANE_CFG i) TTH_LANE_CFG.CTLE)).setLane i 2
  else d.setLane i 1

/-- Every lane starts, and the link is in TRAIN (R143, R167). -/
def Dev.linkTrain (d : Dev) (b : Bool) : Dev :=
  let d := d.modLk b (fun x => { x with cfg := d.rd TTH_CFG, trainAt := d.now })
  (d.each (d.linkLanes b) (fun i d => d.laneStart i)).setLinkSt b 1

/-- The LANE number that a lane's MARKERs carry. -/
def Dev.laneNum (d : Dev) (i : Nat) : Nat := d.get (laneSts i) TTH_LANE_STS.LANE

/-! ## Head links (R120) -/

/-- Enter a link state. -/
def Dev.lvrState (d : Dev) (c st : Nat) : Dev :=
  (d.put (HC_LVR_STS c) HC_LVR_STS.STATE st).modHc c (fun x => { x with stateAt := d.now })

/-- Link start begins: TRAIN with TS1 (R120). -/
def Dev.lvrStart (d : Dev) (c : Nat) : Dev :=
  let d := (d.lvrState c 1).modHc c (fun x => { x with startAt := d.now, ver := 0 })
  d.emit (.louvre c (.ts1 (d.get (HC_LVR_CFG c) HC_LVR_CFG.VER_MAX)))

/-! ## Memory channels (R221) -/

/-- The channels in use. -/
def Dev.memChannels (d : Dev) : List Nat := (List.range 2).filter (fun n => d.bit (MEM_CFG n) MEM_CFG.PRESENT)

/-- The state of a memory channel. -/
def Dev.memCh (d : Dev) (n : Nat) : Dch := tget (fun _ => {}) d.dch n

/-- Replace the state of a memory channel. -/
def Dev.setMemCh (d : Dev) (n : Nat) (c : Dch) : Dev := { d with dch := tput (fun _ => {}) d.dch n c }

/-- Start training of a kind at a bin: state TRAIN, and the first step. -/
def Dev.startTraining (d : Dev) (n : Nat) (k : TrainKind) (bin step : Nat) : Dev :=
  let d := d.setMemCh n { d.memCh n with train := k }
  let d := d.put (MEM_STS n) MEM_STS.STATE (match k with | .retrain => 3 | .freq => 4 | .idle => 2 | _ => 1)
  let d := d.put (MEM_STS n) MEM_STS.BIN bin
  d.put (MEM_TRAIN n) MEM_TRAIN.STEP step

/-- The channel runs: training of any kind is over. -/
def Dev.memRun (d : Dev) (n : Nat) : Dev :=
  let d := d.setMemCh n { d.memCh n with train := .idle }
  (d.put (MEM_STS n) MEM_STS.STATE 2).put (MEM_TRAIN n) MEM_TRAIN.STEP 0

/-! ## Starting, and waking (R429, R436, R438) -/

/-- The Tether link, where it is enabled, starts: its lanes at once at their kept settings, or with an equaliser search; and
every enabled head link starts (R429, R436). -/
def Dev.linksStart (d : Dev) (kept : Bool) : Dev :=
  let d :=
    if !d.linkEn false then d
    else if kept then
      let d := d.modLk false (fun x => { x with cfg := d.rd TTH_CFG, trainAt := d.now })
      (d.each (d.linkLanes false) (fun i d => if d.bit (TTH_LANE_CFG i) TTH_LANE_CFG.DISABLE || d.laneLooped i then d.setLane i 0 else d.setLane i 2)).setLinkSt false 1
    else d.linkTrain false
  d.each d.channels (fun c d => if d.bit (HC_LVR_CFG c) HC_LVR_CFG.EN && d.islUp (0x40 + c) && !d.looped 2 c then d.lvrStart c else d)

/-- The codes of the islands that can be gated (R12). -/
def islandCodes : List Nat := [1, 2, 3, 4, 5, 6, 7] ++ (List.range 64).map (0x40 + ·)

/-- An island that has no use stays gated: an unused channel, a memory channel that is absent (R52, R206). -/
def Dev.islUnused (d : Dev) (code : Nat) : Bool :=
  (0x40 ≤ code && !d.hasChannel (code - 0x40)) || (code = 4 && !d.bit (MEM_CFG 1) MEM_CFG.PRESENT)

/-- An island is gated, or runs again unless its own GATE bit holds it or it has no use (R18, R436). -/
def Dev.islGate (d : Dev) (code : Nat) (on : Bool) : Dev :=
  if on then (d.put (PWR_ISL code) PWR_ISL.GATED 1).put (PWR_ISL code) PWR_ISL.RUNNING 0
  else if d.bit (PWR_ISL code) PWR_ISL.GATE || d.islUnused code || d.bit (PWR_ISL code) PWR_ISL.ISOLATED then d
  else (d.put (PWR_ISL code) PWR_ISL.GATED 0).put (PWR_ISL code) PWR_ISL.RUNNING 1

/-- A wake starts from Moored (3) or Furled (4): the islands run again; from Moored the links start, from Furled VDDQ is on
and fast training starts (R436, R228). -/
def Dev.wakeStart (d : Dev) (kind : Nat) : Dev :=
  let d := { d.put PWR_STS PWR_STS.STATE 6 with pwr := { d.pwr with wakeKind := kind, wakeAt := none, wakeAfter := false } }
  let d := d.each islandCodes (fun c d => d.islGate c false)
  if kind = 3 then d.linksStart true
  else
    let d := (d.flagBit PWR_RAIL 12).flagBit PWR_RAIL 4
    d.each d.memChannels (fun n d => d.startTraining n .fast (d.get (MEM_STS n) MEM_STS.BIN) 1)

/-- A wake cause arrives (R437, R438): Moored and Furled start to wake, an entry in progress wakes when it ends. -/
def Dev.wakeCause (d : Dev) : Dev :=
  let st := d.get PWR_STS PWR_STS.STATE
  if st = 3 || st = 4 then d.wakeStart st
  else if st = 5 then { d with pwr := { d.pwr with wakeAfter := true } }
  else d

end Sys2Proof.Machine
end

