-- ==== Sys2Proof/Machine/Access.lean ====
section
/-! DEFINITION. One register access: the checks that stand before every read and write (R2, R7, R29, R362), the status it
returns (R361), the Latch holder's lease (R364) and the wake that an access to a gated block causes (R438). -/

namespace Sys2Proof.Machine

/-- The STATUS values of R361 that an access can end in. -/
inductive Status where
  | ok | access | latch | full | notRx | urgent | session | version | badReq | busy
  deriving DecidableEq, Repr

/-- The code of a status (R361). -/
def Status.code : Status → Nat
  | .ok => 0 | .access => 1 | .latch => 2 | .full => 3 | .notRx => 4 | .urgent => 5
  | .session => 6 | .version => 7 | .badReq => 8 | .busy => 9

/-- The port is the latch holder's, for this session, and the lease has not run out (R362, R366). -/
def Dev.isHolder (d : Dev) (q : Req) : Bool :=
  match d.host.holder with
  | none => false
  | some h => !d.host.foreign && h.port == q.port.val && h.session == q.session && decide (d.now < d.host.leaseEnd)

/-- A write from FIRMWARE or JTAG needs no Latch; the forwarded writes on BRIDLE carry the active chip's Latch; a standby
takes writes from no other port (R362, R416). -/
def Dev.mayWrite (d : Dev) (q : Req) : Bool :=
  q.port.val == 0 || q.port.val == 6 || q.port.val == 4 || (!d.standby && d.isHolder q)

/-- A session in the format of OWN_HOLDER. -/
def Holder.word (h : Holder) : Word := BitVec.ofNat 32 (h.port + 256 * (h.session % 256) + 65536 * (h.client % 65536))

/-- The Latch as the active mirrors it: held, its holder, its lease (R412, R416). -/
def Dev.mirrorLatch (d : Dev) : Dev :=
  d.mirror [4, if d.host.holder.isSome then 1 else 0, (d.host.holder.map (fun h => h.word.toNat)).getD 0, d.host.lease]

/-- Each write by the holder restarts the lease (R364). -/
def Dev.renew (d : Dev) (q : Req) : Dev :=
  if d.isHolder q then
    let d : Dev := { d with host := { d.host with leaseEnd := d.now + msTicks d.host.lease } }
    d.mirrorLatch
  else d

/-! ## Values wider than 32 bits (R11) -/

/-- The number of a port's capture and hold registers for the pair at an address. -/
def portKey (q : Req) (a : Nat) : Nat := 2 ^ 24 * q.port.val + a

/-- The lower part that a write of _HI takes: what the port's hold register holds, else the _LO value in force (R11). -/
def Dev.lowPart (d : Dev) (q : Req) (lo : Nat) : Word := (tget (fun _ => none) d.host.holds (portKey q lo)).getD (d.rd lo)

/-- A write to _LO is held in the writing port's hold register (R11). -/
def Dev.holdLow (d : Dev) (q : Req) (lo : Nat) (v : Word) : Dev :=
  { d with host := { d.host with holds := tput (fun _ => none) d.host.holds (portKey q lo) (some v) } }

/-- A value is captured for a port, to be read at an address (R11, R290, R333). -/
def Dev.capture (d : Dev) (q : Req) (a : Nat) (v : Word) : Dev :=
  { d with host := { d.host with captures := tput (fun _ => 0) d.host.captures (portKey q a) v.toNat } }

/-- What a port's capture register holds, 0 while nothing has been captured since the last reset (R11). -/
def Dev.captured (d : Dev) (q : Req) (a : Nat) : Word := BitVec.ofNat 32 (tget (fun _ => 0) d.host.captures (portKey q a))

/-- The two parts of a wide value. -/
def wide (lo hi : Word) : Nat := lo.toNat + 2 ^ 32 * hi.toNat

/-- The registers whose writes need no Latch: OWN_REQ, OWN_CMD, the data and control registers of a Hatch (R362). -/
def latchFree (a : Nat) : Bool :=
  a == OWN_REQ || a == OWN_CMD ||
    (0x80100 ≤ a && a < 0x80500 && (a - 0x80100) % 0x80 ≤ 0x40)

/-- The island of an address is gated (R438: an access to a gated block). -/
def Dev.gatedAt (d : Dev) (a : Nat) : Bool :=
  match regionOf a with
  | .none_ => false
  | .island code => code ≠ 0 && d.bit (PWR_ISL code) PWR_ISL.GATED
  | .channel c => d.bit (PWR_ISL (0x40 + c)) PWR_ISL.GATED

/-- ACCESS_WAKE: with PWR_AUTO.ACCESS_WAKE set, any access to a gated block is a wake cause; it still fails (R438). -/
def Dev.accessWake (d : Dev) (a : Nat) : Dev :=
  if d.gatedAt a && d.bit PWR_AUTO PWR_AUTO.ACCESS_WAKE then d.wakeCause else d

/-- What a write does before its effect: refuse it with a status, let it pass without effect, or allow it. -/
inductive Verdict where
  | refuse (st : Status)
  | silent
  | allow
  deriving DecidableEq, Repr

/-- On a port that carries Sash, the session of an access is open there (R361). -/
def Dev.sessionOk (d : Dev) (q : Req) : Bool :=
  q.port.val == 0 || 5 ≤ q.port.val || d.host.sessions.any (fun x => x.port == q.port.val && x.num == q.session)

/-- The checks before a write (R2, R7, R29, R361, R362): the session and the address first, then the Latch. -/
def Dev.writeVerdict (d : Dev) (q : Req) (a width : Nat) : Verdict :=
  if !d.sessionOk q then .refuse .session else
  match d.reach a width with
  | .error => .refuse .access
  | .silent => if latchFree a || d.mayWrite q then .silent else .refuse .latch
  | .ok => if latchFree a || d.mayWrite q then .allow else .refuse .latch

/-- The writes of the latch holder that the active chip's firmware forwards to the standby (R416). -/
def forwarded (a : Nat) (v : Word) : Bool :=
  let blk := a / 0x10000
  let own := blk = 0 || blk = 1 || blk = 2 || blk = 3 || blk = 6 || blk = 9 || blk = 12 || (blk = 10 && a % 0x10000 < 0x800)
  let ch := (a - 0x100000) % 0x4000
  let arm := 0x100000 ≤ a && a < 0x200000 && v.bit 31 &&
    (a == HC_ROWDLY_AT_HI ((a - 0x100000) / 0x4000) || a == HC_LVR_BANK_AT_HI ((a - 0x100000) / 0x4000) ||
      a == HC_CAL_SET_AT_HI ((a - 0x100000) / 0x4000))
  let cmd := (0x100000 ≤ a && a < 0x200000 && ch == HC_NH_CMD 0 - 0x100000) || a == FIR_NH_CMD || a == FIR_CMD || a == CMP_RFL_CMD
  !own && !arm && !cmd && !latchFree a

/-- A write of the holder that succeeded goes to the standby's BRIDLE port (R416). -/
def Dev.forward (d : Dev) (q : Req) (a : Nat) (v : Word) : Dev :=
  if d.activeOfPair && d.isHolder q && forwarded a v then d.brdSend 0x02 [a, v.toNat] else d

/-- One write: the checks, then the effect and its status, then the holder's lease; a pair's active forwards it. -/
def State.write (s : State) (q : Req) (a : Nat) (v : Word) (f : State → State × Status) : State × Status :=
  match s.dev.writeVerdict q a 32 with
  | .refuse st => (s.onDev (·.accessWake a), st)
  | .silent => (s.onDev (·.renew q), .ok)
  | .allow =>
    let (s', st) := f (s.onDev (·.renew q))
    (if st = .ok then s'.onDev (·.forward q a v) else s', st)

/-- The result of an access leaves on the port (R356). -/
def State.report (r : State × Status) (q : Req) (v : Word) : State :=
  r.1.onDev (·.emit (.access q.port.val r.2.code v))

/-- A command register written through a port, its effect always in the same place: the access, then its report. -/
def State.command (s : State) (q : Req) (a : Nat) (v : Word) (f : Word → State → State) : State :=
  State.report (s.write q a v (fun s => (f v s, .ok))) q 0

/-- The same, for an effect on everything but the page store. -/
def State.devCommand (s : State) (q : Req) (a : Nat) (v : Word) (f : Word → Dev → Dev) : State :=
  s.command q a v (fun v s => s.onDev (f v))

/-- A write of a _HI register through a port: the effect takes the low word from the port's hold register (R11). -/
def State.highCommand (s : State) (q : Req) (lo hi : Nat) (v : Word) (f : Word → Word → Dev → Dev) : State :=
  s.devCommand q hi v (fun v d => f (d.lowPart q lo) v d)

end Sys2Proof.Machine
end

