-- ==== Sys2Proof/Machine/Plane.lean ====
section
/-! DEFINITION. The print plane (spec/02_print_plane.md): the geometry of a channel as its registers hold it, and the target
position of a channel line (R40 to R47). -/

namespace Sys2Proof.Machine

/-! ## Geometry (R41 to R49, R53) -/

/-- N, the nozzle count. -/
def Dev.nozzles (d : Dev) (c : Nat) : Nat := d.get (HC_GEOM_NOZ c) HC_GEOM_NOZ.NOZZLES

/-- The number of rows. -/
def Dev.rows (d : Dev) (c : Nat) : Nat := d.get (HC_GEOM_NOZ c) HC_GEOM_NOZ.ROWS + 1

/-- X(c). -/
def Dev.xOrigin (d : Dev) (c : Nat) : Nat := d.rdN (HC_GEOM_X c) % 2 ^ 18

/-- s, the stride in plane dots. -/
def Dev.stride (d : Dev) (c : Nat) : Nat := 2 ^ d.get (HC_GEOM_NOZ c) HC_GEOM_NOZ.STRIDE

/-- The colour plane. -/
def Dev.colour (d : Dev) (c : Nat) : Nat := d.get (HC_GEOM_NOZ c) HC_GEOM_NOZ.COLOUR

/-- k(r), the row offset in lines (R41). -/
def Dev.rowOff (d : Dev) (c r : Nat) : Nat :=
  let a := if r < 3 then HC_ROWOFF0 c else if r < 6 then HC_ROWOFF1 c else HC_ROWOFF2 c
  (d.rdN a / 2 ^ (10 * (r % 3))) % 1024

/-- The rows of a channel. -/
def Dev.rowList (d : Dev) (c : Nat) : List Nat := List.range (d.rows c)

/-- max k(r). -/
def Dev.maxOff (d : Dev) (c : Nat) : Nat := (d.rowList c).foldl (fun a r => max a (d.rowOff c r)) 0

/-- The row of a nozzle: interleaved, or blocked (R46). -/
def Dev.rowOf (d : Dev) (c n : Nat) : Nat :=
  if d.bit (HC_GEOM_NOZ c) HC_GEOM_NOZ.BLOCKED then n / (d.nozzles c / d.rows c) else n % d.rows c

/-- The plane dot of a nozzle (R45). -/
def Dev.dotOf (d : Dev) (c n : Nat) : Nat :=
  if d.bit (HC_GEOM_NOZ c) HC_GEOM_NOZ.MIRROR then d.xOrigin c + (d.nozzles c - 1 - n) * d.stride c
  else d.xOrigin c + n * d.stride c

/-- The nozzle of a channel at a plane dot, where it has one (R45, R266). -/
def Dev.nozzleAt (d : Dev) (c x : Nat) : Option Nat :=
  let off := x - d.xOrigin c
  if x < d.xOrigin c || off % d.stride c ≠ 0 || d.nozzles c ≤ off / d.stride c then none
  else if d.bit (HC_GEOM_NOZ c) HC_GEOM_NOZ.MIRROR then some (d.nozzles c - 1 - off / d.stride c)
  else some (off / d.stride c)

/-- D(c) in force, in sub-lines. -/
def Dev.rowDelay (d : Dev) (c : Nat) : Int := d.rdN (HC_ROWDLY c)

/-- The overlaps of a channel: (low channel, high channel), as the low channels' registers declare them (R48). -/
def Dev.overlapsOf (d : Dev) (c : Nat) : List (Nat × Nat) :=
  (d.channels.filter (fun l => d.bit (HC_OVL l) HC_OVL.VALID)).filterMap (fun l =>
    let h := d.get (HC_OVL l) HC_OVL.PARTNER
    if l = c || h = c then some (l, h) else none)

/-- The bytes of a raster line (R174). -/
def lineBytes (n b : Nat) : Nat := (n * b + 31) / 32 * 4

/-- The skew storage of a channel at b bits per nozzle, each row's share rounded up (R43, R191). -/
def Dev.skewBytes (d : Dev) (c b : Nat) : Nat :=
  (d.rowList c).foldl (fun a r => a + (d.nozzles c / d.rows c * b * d.rowOff c r + 7) / 8) 0

/-- The lead capacity Lc (R191). -/
def Dev.leadCap (d : Dev) (c b : Nat) : Nat := (131072 - d.skewBytes c b) / lineBytes (d.nozzles c) b

/-! ## Jobs, passes and pending lines (R39, R40, R84, R85, R96, R100) -/

/-- A field read as signed 16 bits. -/
def signed16 (w : Word) (high : Bool) : Int := signedOf 16 (w.toNat / (if high then 65536 else 1))

/-- Scan mode (R102). -/
def Dev.scan (d : Dev) : Bool := d.bit FIR_CFG FIR_CFG.SCAN

/-- The head job (R172). -/
def Dev.headJob (d : Dev) : Option Job := d.ras.jobs.head?

/-- The head job is RUNNING. -/
def Dev.jobRunning (d : Dev) : Bool := d.get FIR_STS FIR_STS.JOB == 2

/-- The active pass is a reverse pass. -/
def Dev.reverse (d : Dev) : Bool :=
  match d.fir.active with
  | none => false
  | some p => p.rev

/-- The channels fire: a job is RUNNING in web mode, a pass is active in scan mode (R85, condition 1). -/
def Dev.firingOn (d : Dev) : Bool := if d.scan then d.fir.active.isSome else d.jobRunning

/-- The first and last channel lines of a channel in the running job or active pass (R84, R96). -/
def Dev.lineRange (d : Dev) (c : Nat) : Option (Nat × Nat) :=
  if d.scan then d.fir.active.map (fun p => (p.first, p.last + d.maxOff c))
  else d.headJob.map (fun j => (j.resume.getD 0, j.last + d.maxOff c))

/-- The pending channel line of a channel, while it has one: inside the range of its job or pass (R84, R85). -/
def Dev.pending (d : Dev) (c : Nat) : Option Nat :=
  match (d.hc c).m, d.lineRange c with
  | some m, some (lo, hi) => if d.firingOn && d.fir.chans.contains c && lo ≤ m && m ≤ hi then some m else none
  | _, _ => none

/-- The job line that carries the number of a channel line: the pass number above it in scan mode (R39). -/
def Dev.jobLine (d : Dev) (m : Nat) : Nat :=
  match d.fir.active with
  | some p => if d.scan then p.pass * 1048576 + m else m
  | none => m

/-- Channel line m comes at or after a job line in the order of firing (R54). -/
def Dev.atOrAfter (d : Dev) (leff m : Nat) : Bool :=
  if d.scan then
    match d.fir.active with
    | none => false
    | some p =>
      leff / 1048576 < p.pass ||
        (leff / 1048576 == p.pass && (if p.rev then m ≤ leff % 1048576 else leff % 1048576 ≤ m))
  else decide (leff ≤ m)

/-- The effective line of an armed row delay change. -/
def Dev.rowDelayAt (d : Dev) (c : Nat) : Nat := d.rdN (HC_ROWDLY_AT_LO c) + 2 ^ 32 * (d.rdN (HC_ROWDLY_AT_HI c) % 256)

/-- D(c) for a channel line: an armed change counts from its line on (R54). -/
def Dev.delayFor (d : Dev) (c m : Nat) : Int :=
  if d.bit (HC_GEOM_STS c) HC_GEOM_STS.PENDING && d.atOrAfter (d.rowDelayAt c) m then d.rdN (HC_ROWDLY_NEXT c)
  else d.rowDelay c

/-- T(c, m) under a pass (R40): with the alignment offset latched for it (R99). -/
def Dev.passTarget (d : Dev) (c m : Nat) (p : Pass) : Int :=
  256 * (m : Int) + d.delayFor c m + signed16 (d.hc c).lat.align p.rev

/-- T(c, m), the target of a channel line (R40). -/
def Dev.target (d : Dev) (c m : Nat) : Int :=
  if d.scan then
    match d.fir.active with
    | none => 256 * (m : Int) + d.delayFor c m
    | some p => d.passTarget c m p
  else d.fir.s + 256 * (m : Int) + d.delayFor c m

/-- Condition 2 of R85 for a position. -/
def Dev.reached (d : Dev) (t pos : Int) : Bool := if d.reverse then decide (pos ≤ t) else decide (t ≤ pos)

/-- How far a position is past a target, in the direction of the pass (R88). -/
def Dev.lateness (d : Dev) (t pos : Int) : Int := if d.reverse then t - pos else pos - t

/-- The job line that row r prints at channel line m, where it has one (R42): inside the job or the pass. -/
def Dev.rowLine (d : Dev) (c m r : Nat) : Option Nat :=
  let k := d.rowOff c r
  if m < k then none
  else
    let l := m - k
    if d.scan then
      match d.fir.active with
      | none => none
      | some p => if p.first ≤ l && l ≤ p.last then some (p.pass * 1048576 + l) else none
    else
      match d.headJob with
      | none => none
      | some j => if l ≤ j.last && j.resume.getD 0 ≤ l then some l else none

/-- The job lines that a channel line carries, one for each row that has one. -/
def Dev.carried (d : Dev) (c m : Nat) : List Nat := ((d.rowList c).filterMap (d.rowLine c m)).eraseDups

/-- The job line whose first use is channel line m: of the row that fires first (R190). -/
def Dev.firstUsed (d : Dev) (c m : Nat) : Option Nat :=
  let k := if d.reverse then d.maxOff c else 0
  (d.rowList c).findSome? (fun r => if d.rowOff c r = k then d.rowLine c m r else none)

/-- The interlace mask consumes channel line m (R100). -/
def Dev.masked (d : Dev) (m : Nat) : Bool :=
  match d.fir.active with
  | none => false
  | some p => d.scan && d.fir.npass ≠ 0 && !(d.rdN (FIR_MASK (p.pass % d.fir.npass))).testBit (m % 8)

/-- The first unmasked channel line from m on, in the order of the pass (R100); beyond the range when there is none. -/
def Dev.unmaskedFrom (d : Dev) : Nat → Nat → Option Nat
  | 0, _ => none
  | fuel + 1, m =>
    if !d.masked m then some m
    else if d.reverse then (if m = 0 then none else d.unmaskedFrom fuel (m - 1))
    else d.unmaskedFrom fuel (m + 1)

/-- A channel's pending line becomes the first unmasked one from m on, from a tick on; `none` when every line is masked or
there is none. -/
def Dev.setPending (d : Dev) (c : Nat) (m : Option Nat) (at_ : Nat) : Dev :=
  d.modHc c (fun x => { x with m := m.bind (d.unmaskedFrom 9), pendAt := at_, due := none, body := none })

/-- The line after channel line m. -/
def Dev.nextLine (d : Dev) (m : Nat) : Option Nat :=
  if d.reverse then (if m = 0 then none else some (m - 1)) else some (m + 1)

/-- A number as the line of an optional one: one above it, 0 for none. -/
def lineAfter (x : Option Nat) : Nat :=
  match x with
  | some l => l + 1
  | none => 0

end Sys2Proof.Machine
end

