-- ==== Sys2Proof/Machine/PairCore.lean ====
section
/-! DEFINITION. What the chapters share with a pair of chips: roles and the pins that show them, detaching, the comparison of
line records, and the start of a swap (spec/16_bridle_pair.md, R394, R402 to R405, R409 to R411, R418). -/

namespace Sys2Proof.Machine

/-! ## Role, pins, sync state (R394, R402, R421, R423) -/

/-- The guard is armed (R402). -/
def Dev.guardOk (d : Dev) : Bool := d.bit BRD_STS BRD_STS.GUARD_OK

/-- The peer's role in BRD_PEER. -/
def Dev.peerRole (d : Dev) : Nat := d.get BRD_PEER ⟨8, 3⟩

/-- PAIR_ACT is high while the chip is ACTIVE and its guard armed; its PAIR_ARB_N driver holds the line low in the ACTIVE
role, and in the hold of a swap (R394, R402, R417). BRD_STS.ARB shows the line low while either chip is known to hold it. -/
def Dev.drivePins (d : Dev) : Dev :=
  let act := d.role == 3 && d.guardOk
  let arb := d.guardOk && !d.pair.silent && (d.role == 3 || d.pair.swapHold.isSome)
  let d := if act = d.pair.act then d else (d.emit (.pairAct act d.now)).modPair (fun x => { x with act := act })
  let d := if arb = d.pair.arb then d else (d.emit (.pairArb arb d.now)).modPair (fun x => { x with arb := arb })
  d.put BRD_STS BRD_STS.ARB (if arb || d.peerRole = 3 then 1 else 0)

/-- PAIR_ROLE: the role, the sync state, and the cause as the model numbers them. -/
def Dev.roleEvent (d : Dev) (cause : Nat) : Dev :=
  (d.flag BRD_EVT BRD_EVT.ROLE).notify 0x0100 [BitVec.ofNat 32 d.role, BitVec.ofNat 32 (d.get BRD_STS BRD_STS.SYNC), BitVec.ofNat 32 cause]

/-- The sync state: 0 DETACHED, 1 CATCHING, 2 IN_SYNC. -/
def Dev.sync (d : Dev) : Nat := d.get BRD_STS BRD_STS.SYNC

/-- The chip takes a role and a sync state. -/
def Dev.setRole (d : Dev) (role sync cause : Nat) : Dev :=
  if d.role = role && d.sync = sync then d.drivePins
  else
    let d := (d.put BRD_STS BRD_STS.ROLE role).put BRD_STS BRD_STS.SYNC sync
    (d.modPair (fun x => { x with silent := false })).drivePins.roleEvent cause

/-- A standby's sync state changes. -/
def Dev.setSync (d : Dev) (sync cause : Nat) : Dev := d.setRole d.role sync cause

/-- A standby detaches (R410): 1 DIVERGE, 2 LAG, 3 POSDIFF, 4 START, 5 CONFIG, 6 AGREE, 7 DETACH. -/
def Dev.detach (d : Dev) (cause : Nat) : Dev :=
  if !d.standby || d.sync = 0 then d
  else
    (d.modPair (fun x => { x with
      detachAt := some d.now, manual := cause == 7, joinLine := none, matched := [], snap := false })).setSync 0 cause

/-! ## Swaps (R417, R418) -/

/-- The lowest line not yet released on any of a set of channels (R415). -/
def Dev.unreleased (d : Dev) (mask : Nat) : Nat :=
  ((List.range 64).filter (fun c => mask.testBit c)).foldl (fun l c => max l (lineAfter (d.hc c).rMax)) 0

/-- The front line of the running job, 0 where it has none. -/
def Dev.frontOf (d : Dev) : Nat := (d.headJob.bind (·.front)).getD 0

/-- A swap is started at F + 2 × GUARD, or at a given line: 1 BRD_CMD.SWAP, 2 a handover of R225, 3 Tether loss, 4 R411. It is
refused unless the standby is IN_SYNC; one that is under way goes on. -/
def Dev.swapStart (d : Dev) (cause : Nat) (line : Option Nat) : Dev :=
  if !d.activeOfPair || d.pair.swap.isSome then d
  else if !d.joined || d.pair.peerSync ≠ 2 then d.flag BRD_EVT BRD_EVT.SWAP_REJ
  else
    let l := line.getD (d.frontOf + 2 * d.get BRD_LEAD BRD_LEAD.GUARD)
    (d.modPair (fun x => { x with swap := some (l, cause) })).propose 7 (chanMask d.fir.chans) l [cause]

/-! ## Comparing line records (R409, R411) -/

/-- BRD_LAST_DIFF: 0 DIVERGE, 1 TIMING, 2 ONESIDE on the active, 3 ONESIDE on the standby. -/
def Dev.lastDiff (d : Dev) (kind : Nat) (r : LineRec) : Dev :=
  (d.wrN BRD_LAST_DIFF_LO r.line).wrN BRD_LAST_DIFF_HI (r.line / 2 ^ 32 % 256 + r.chan * 256 + kind * 16384)

/-- A line record as two words. -/
def LineRec.words (r : LineRec) : List Word :=
  [BitVec.ofNat 32 (r.chan + r.disp * 256 + r.line % 65536 * 65536), BitVec.ofNat 32 (r.crc + r.cause * 65536)]

/-- Consecutive ONESIDE results of a channel on the active; VOID_SWAP of them start a swap (R411). -/
def Dev.onesideOn (d : Dev) (r : LineRec) : Dev :=
  let n := tget (fun _ => 0) d.pair.oneside r.chan + 1
  let d := d.modPair (fun x => { x with oneside := tput (fun _ => 0) x.oneside r.chan n })
  if d.activeOfPair && d.bit BRD_CFG BRD_CFG.AUTO_SWAP && n = d.get BRD_CFG BRD_CFG.VOID_SWAP then
    ((d.flag BRD_EVT BRD_EVT.ONESIDE).notify 0x0106
      [BitVec.ofNat 32 r.chan, BitVec.ofNat 32 r.line, BitVec.ofNat 32 n, 0]).swapStart 4 none
  else d

/-- A result other than ONESIDE on the active breaks the run of them. -/
def Dev.onesideOff (d : Dev) (c : Nat) : Dev := d.modPair (fun x => { x with oneside := tput (fun _ => 0) x.oneside c 0 })

/-- A standby that rejoins is IN_SYNC once every channel of the running job has a match at its join line or later (R410). -/
def Dev.matchAt (d : Dev) (r : LineRec) : Dev :=
  match d.pair.joinLine with
  | none => d
  | some l =>
    if !d.standby || d.sync ≠ 1 || r.line < l then d
    else
      let d := d.modPair (fun x => { x with matched := if x.matched.contains r.chan then x.matched else r.chan :: x.matched })
      if d.fir.chans.all (fun c => d.pair.matched.contains c) then
        (d.modPair (fun x => { x with joinLine := none, matched := [] })).setSync 2 0
      else d

/-- One comparison of a record of this chip with its peer's (R409). -/
def Dev.compareOne (d : Dev) (own peer : LineRec) : Dev :=
  let d := d.count BRD_CNT_CMP whole 1
  let (a, s) := if d.standby then (peer, own) else (own, peer)
  let fired (r : LineRec) : Bool := r.disp ≤ 1
  if !fired a && !fired s then d.onesideOff own.chan
  else if fired a != fired s then ((d.count BRD_CNT_DIFF BRD_CNT_DIFF.TIMING 1).lastDiff 1 own).onesideOff own.chan
  else if a.disp = 1 && s.disp = 0 then ((d.count BRD_CNT_ONE BRD_CNT_ONE.ONESIDE 1).lastDiff 2 own).onesideOn own
  else if a.disp = 0 && s.disp = 1 then ((d.count BRD_CNT_ONE loHalf 1).lastDiff 3 own).onesideOff own.chan
  else if a.crc = s.crc then (d.onesideOff own.chan).matchAt own
  else
    let d := (((d.count BRD_CNT_DIFF BRD_CNT_DIFF.DIVERGE 1).flag BRD_EVT BRD_EVT.DIVERGE).lastDiff 0 own).onesideOff own.chan
    (d.notify 0x0102 ([BitVec.ofNat 32 own.chan, BitVec.ofNat 32 own.line] ++ own.words ++ peer.words)).detach 1

/-- The pairs of records that have both come are compared and taken off (R409). -/
def Dev.compareRecs (d : Dev) : Dev :=
  d.fir.recs.foldl (fun d own =>
    match d.pair.recs.find? (fun r => r.chan == own.chan && r.line % 65536 == own.line % 65536) with
    | none => d
    | some peer =>
      let d := { d with
        fir := { d.fir with recs := d.fir.recs.erase own }, pair := { d.pair with recs := d.pair.recs.erase peer } }
      d.compareOne own peer) d

end Sys2Proof.Machine
end

