-- ==== Sys2Proof/Machine/MemCtl.lean ====
section
/-! DEFINITION. The page store memory controller (spec/08_page_store_memory.md): address mapping, SECDED reads and writes,
the request queue and its schedule, refresh, training, frequency changes, power-down, scrubbing, and its commands. -/

namespace Sys2Proof.Machine

/-! ## Geometry and address mapping (R204, R213, R214) -/

/-- Rank capacity in GiB by width and density (R204). -/
def rankGiB (x16 : Bool) (density : Nat) : Nat :=
  match x16, density with
  | true, 0 => 8 | true, 1 => 12 | true, _ => 16
  | false, 0 => 16 | false, 1 => 24 | false, _ => 32

/-- Capacity of one channel in bytes (R204, R205). -/
def Dev.chanCap (d : Dev) (n : Nat) : Nat :=
  rankGiB (d.bit (MEM_CFG n) MEM_CFG.WIDTH) (d.get (MEM_CFG n) MEM_CFG.DENSITY) * 2 ^ 30 *
    (if d.bit (MEM_CFG n) MEM_CFG.RANKS then 2 else 1)

/-- Capacity of the page store in bytes (R209). -/
def Dev.storeCap (d : Dev) : Nat := ((d.memChannels).map d.chanCap).sum

/-- The channel and the channel address of a page store address (R213). -/
def Dev.memMap (d : Dev) (x : Nat) : Nat × Nat :=
  if d.bit (MEM_CFG 1) MEM_CFG.PRESENT then
    let g := d.get (MEM_CFG 0) MEM_CFG.GRAIN + 8
    ((x / 2 ^ g) % 2, (x / 2 ^ (g + 1)) * 2 ^ g + x % 2 ^ g)
  else (0, x)

/-- The page store address of a channel address (the inverse of R213). -/
def Dev.memUnmap (d : Dev) (n a : Nat) : Nat :=
  if d.bit (MEM_CFG 1) MEM_CFG.PRESENT then
    let g := d.get (MEM_CFG 0) MEM_CFG.GRAIN + 8
    (a / 2 ^ g) * 2 ^ (g + 1) + n * 2 ^ g + a % 2 ^ g
  else a

/-- The fields of a channel address (R214). -/
structure MemAddr where
  byte : Nat
  granIdx : Nat
  group : Nat
  bank : Nat
  rank : Nat
  row : Nat
  deriving DecidableEq, Repr

/-- Decompose a channel address (R214). -/
def memFields (x16 two : Bool) (a : Nat) : MemAddr :=
  let gb := if x16 then 2 else 3
  let b0 := 9 + gb
  let b1 := b0 + 2
  let b2 := b1 + 4
  { byte := a % 128
    granIdx := (a / 128) % 4 + 4 * ((a / 2 ^ b1) % 16)
    group := (a / 2 ^ 9) % 2 ^ gb
    bank := (a / 2 ^ b0) % 4
    rank := if two then (a / 2 ^ b2) % 2 else 0
    row := a / 2 ^ (if two then b2 + 1 else b2) }

/-- The fields of a granule of a channel. -/
def Dev.granFields (d : Dev) (n gran : Nat) : MemAddr :=
  memFields (d.bit (MEM_CFG n) MEM_CFG.WIDTH) (d.bit (MEM_CFG n) MEM_CFG.RANKS) (gran * 128)

/-- Two granules lie in one row of one bank of one rank. -/
def Dev.sameRow (d : Dev) (n g1 g2 : Nat) : Bool :=
  let a := d.granFields n g1
  let b := d.granFields n g2
  a.group == b.group && a.bank == b.bank && a.rank == b.rank && a.row == b.row

/-! ## SECDED reads (R210, R211) -/

/-- The beats of a granule as received: beat `t` XOR its error mask (64 data bits, then 8 check bits), decoded (R211). -/
def decodeBeat (stored : List Byte) (err : Nat) : BeatResult :=
  let w := leNat stored
  hsiaoDecode (w ^^^ (err % 2 ^ 64)) (hsiaoCheck w ^^^ (err / 2 ^ 64 % 256))

/-- Error masks by beat; beats not listed arrive as stored. -/
def errOf (errs : List (Nat × Nat)) (t : Nat) : Nat :=
  match errs.find? (fun e => e.1 == t) with
  | some e => e.2
  | none => 0

/-- A granule decoded beat by beat. -/
def decodeGranule (stored : List Byte) (errs : List (Nat × Nat)) : List BeatResult :=
  (List.range 16).map (fun t => decodeBeat ((stored.drop (8 * t)).take 8) (errOf errs t))

/-- The bytes a decoded granule delivers. -/
def granuleBytes (bs : List BeatResult) : List Byte := bs.flatMap (fun b => leBytes 8 b.data)

/-- A beat result is uncorrectable. -/
def BeatResult.isUe : BeatResult → Bool
  | .uncorrectable _ _ => true
  | _ => false

/-- A beat result is a correction. -/
def BeatResult.isCe : BeatResult → Bool
  | .corrected _ _ => true
  | _ => false

/-- The syndrome of a beat result. -/
def BeatResult.synd : BeatResult → Nat
  | .clean _ => 0
  | .corrected _ s => s
  | .uncorrectable _ s => s

/-- The address registers' format: page store address, beat, syndrome, rank (R231). -/
def Dev.errAddr (d : Dev) (n gran beat synd lo hi : Nat) : Dev :=
  let x := d.memUnmap n (gran * 128)
  let r := (d.granFields n gran).rank
  (d.wrN lo x).wrN hi ((x / 2 ^ 32) % 16 + 2 ^ 8 * (synd % 256) + 2 ^ 16 * beat + 2 ^ 20 * r)

/-- A corrected error is counted and recorded (R211). -/
def Dev.recordCe (d : Dev) (n gran beat synd : Nat) : Dev :=
  let d := d.count (MEM_CE_CNT n) whole 1
  let d := d.errAddr n gran beat synd (MEM_CE_ADDR_LO n) (MEM_CE_ADDR_HI n)
  let d := d.flag (MEM_EVT n) MEM_EVT.CE
  { d with dch := tmod (fun _ => {}) d.dch n (fun c => { c with ceWin := c.ceWin + 1 }) }

/-- MEM_STS.QDEPTH follows the queue. -/
def Dev.setQueue (d : Dev) (n : Nat) (q : List MemReq) : Dev :=
  (d.setMemCh n { d.memCh n with queue := q }).put (MEM_STS n) MEM_STS.QDEPTH q.length

/-- Start a frequency change to a bin: drain, self-refresh, switch, fast training (R226). -/
def Dev.startFreq (d : Dev) (n bin : Nat) : Dev :=
  let d := d.setQueue n []
  let d := d.setMemCh n { d.memCh n with train := .freq, nextBin := none }
  let d := d.put (MEM_STS n) MEM_STS.STATE 4
  let d := d.put (MEM_STS n) MEM_STS.BIN bin
  d.put (MEM_TRAIN n) MEM_TRAIN.STEP 1

/-- Ask for a frequency change: at once, or after the training step that runs (R226). -/
def Dev.askFreq (d : Dev) (n bin : Nat) : Dev :=
  match (d.memCh n).train with
  | .idle => d.startFreq n bin
  | _ => d.setMemCh n { d.memCh n with nextBin := some bin }

/-- A step down to the next lower bin, or FLOOR at bin 0 (R225). -/
def Dev.stepDown (d : Dev) (n : Nat) : Dev :=
  let b := d.get (MEM_STS n) MEM_STS.BIN
  if b = 0 then (d.put (MEM_STS n) MEM_STS.FLOOR 1).put (MEM_STS n) MEM_STS.STEP_DUE 0
  else ((d.put (MEM_STS n) MEM_STS.STEP_DUE 0).flag (MEM_EVT n) MEM_EVT.STEPDOWN).askFreq n (b - 1)

/-- What R225 does on an uncorrectable error: retrain at a gap, step down at once, or hand over first. -/
def Dev.actOnUe (d : Dev) (n : Nat) : Dev :=
  if !d.bit (MEM_STS n) MEM_STS.DEGRADED then d.put (MEM_STS n) MEM_STS.RETRAIN_DUE 1
  else if d.activeOfPair then (d.setMemCh n { d.memCh n with handoverStep := true }).swapStart 2 none
  else d.stepDown n

/-- An uncorrectable error is counted, recorded and acted on; in the system region the firmware reports it (R211, R225). -/
def Dev.recordUe (d : Dev) (n gran beat synd : Nat) (scrub : Bool) : Dev :=
  let d := d.count (MEM_UE_CNT n) loHalf 1
  let d := d.when scrub (·.count (MEM_UE_CNT n) MEM_UE_CNT.SCRUB_UE 1)
  let d := d.errAddr n gran beat synd (MEM_UE_ADDR_LO n) (MEM_UE_ADDR_HI n)
  let d := d.flag (MEM_EVT n) MEM_EVT.UE
  let x := d.memUnmap n (gran * 128)
  let d := d.when (decide (x < 2 ^ 30)) (·.notify 0x0006 [BitVec.ofNat 32 x, BitVec.ofNat 32 (x / 2 ^ 32)])
  d.actOnUe n

/-- Count and record every beat of a decoded granule. -/
def Dev.recordBeats (d : Dev) (n gran : Nat) (scrub : Bool) (bs : List BeatResult) : Dev :=
  bs.zipIdx.foldl (fun d e =>
    if e.1.isCe then d.recordCe n gran e.2 e.1.synd
    else if e.1.isUe then d.recordUe n gran e.2 e.1.synd scrub
    else d) d

/-- A granule that the initialisation pass has not reached (R215). -/
def Dev.uninit (d : Dev) (n gran : Nat) : Bool :=
  !d.bit (MEM_STS n) MEM_STS.INIT_DONE && decide (d.rdN (MEM_INIT_PTR n) % 2 ^ 20 * 65536 ≤ gran * 128)

/-- A granule's bytes as the page store holds them (free where nothing has initialised them). -/
def granData (d : Dev) (m : Store) (n gran : Nat) : List Byte :=
  let x := d.memUnmap n (gran * 128)
  if d.uninit n gran then (List.range 128).map (fun i => if m.byte (x + i) = 0 then Config.uninitByte (x + i) else m.byte (x + i))
  else m.bytes x 128

/-- A read of a granule: the bytes delivered, whether they are flagged, and the effects on the store and the registers.
A granule marked bad, or never initialised, is uncorrectable with a syndrome the spec does not state. -/
def readGranule (d : Dev) (m : Store) (n gran : Nat) (errs : List (Nat × Nat)) (scrub writeBack : Bool) :
    Dev × Store × List Byte × Bool :=
  let x := d.memUnmap n (gran * 128)
  let stored := granData d m n gran
  let bs := decodeGranule stored errs
  if m.isBad (x / 128) || d.uninit n gran then
    let (f, d) := d.fresh
    (d.recordUe n gran (f % 16) (f / 16 % 256) scrub, m, stored, true)
  else
    let ue := bs.any BeatResult.isUe
    let d := d.recordBeats n gran scrub bs
    let data := granuleBytes bs
    let m := if !ue && writeBack && bs.any BeatResult.isCe then m.setBytes x data else m
    (d, m, data, ue)

/-! ## The queue and its schedule (R216 to R218) -/

/-- Some request is urgent: no group admits members meanwhile (R218). -/
def anyUrgent (q : List MemReq) : Bool := q.any (·.urgent)

/-- A request enters the queue; it joins its row's group while the group has a column command to issue and admits (R217). -/
def Dev.enqueue (d : Dev) (n : Nat) (r : MemReq) : Dev :=
  let q := (d.memCh n).queue
  let joins := q.any (fun o => o.grouped && d.sameRow n o.gran r.gran) && !anyUrgent q
  d.setQueue n (q ++ [{ r with grouped := joins }])

/-- The index of the request that the controller serves next: urgent ones oldest first, then row hits, then the oldest
(R218; the device timings are taken to allow it). -/
def nextIndex (q : List MemReq) : Nat :=
  match q.findIdx? (·.urgent) with
  | some i => i
  | none =>
    match q.findIdx? (·.grouped) with
    | some i => i
    | none => 0

/-- The older requests that a grant passes age; the one that 32 younger have passed becomes urgent (R218). -/
def ageOlder : Nat → List MemReq → List MemReq
  | 0, q => q
  | _ + 1, [] => []
  | i + 1, r :: t =>
    { r with passed := r.passed + 1, urgent := r.urgent || decide (32 ≤ r.passed + 1) } :: ageOlder i t

/-- Serve the next request: its row's group opens (every queued request of the row joins), and its column command goes. -/
def Dev.grant (d : Dev) (n : Nat) : Option (MemReq × Dev) :=
  let q := (d.memCh n).queue
  let i := nextIndex q
  match q[i]? with
  | none => none
  | some r =>
    let urgentBefore := (q.filter (·.urgent)).length
    let q := if r.grouped then q
      else q.map (fun o => if d.sameRow n o.gran r.gran && !anyUrgent q then { o with grouped := true } else o)
    let q := (if r.urgent then q else ageOlder i q).eraseIdx i
    let urgentAfter := (q.filter (·.urgent)).length + (if r.urgent then 1 else 0)
    let d := d.count (MEM_STARVE n) loHalf (urgentAfter - urgentBefore)
    let d := d.count (MEM_BW n) whole 1
    some (r, d.setQueue n q)

/-- Serve requests until a read is served; writes on the way retire. -/
def Dev.grantRead (d : Dev) (n : Nat) : Nat → Option (MemReq × Dev)
  | 0 => none
  | k + 1 =>
    match d.grant n with
    | none => none
    | some (r, d') => if r.write then d'.grantRead n k else some (r, d')

/-- A request for a rank ends that rank's power-down (R227). -/
def Dev.wakeRank (d : Dev) (n rank : Nat) : Dev :=
  let c := d.memCh n
  let d := d.setMemCh n (if rank = 0 then { c with idleAt0 := d.now } else { c with idleAt1 := d.now })
  d.clearBit (MEM_STS n) (24 + rank)

/-- Merge the bytes of a partial write into a granule (R212). -/
def mergeBytes (data : List Byte) (ws : List (Nat × Byte)) : List Byte :=
  ws.foldl (fun l w => if w.1 < 128 then l.set w.1 w.2 else l) data

/-- A write of a granule's bytes at its entry: whole granules as they stand, partial ones by read, merge, write (R212). -/
def storeWrite (d : Dev) (m : Store) (n gran : Nat) (ws : List (Nat × Byte)) (errs : List (Nat × Nat)) : Dev × Store :=
  let x := d.memUnmap n (gran * 128)
  if (List.range 128).all (fun i => ws.any (fun w => w.1 == i)) then
    (d, (m.setBytes x (mergeBytes (List.replicate 128 0) ws)).setBad (x / 128) false)
  else
    let (d, m, data, ue) := readGranule d m n gran errs false false
    let m := m.setBytes x (mergeBytes data ws)
    (d, if ue then m.setBad (x / 128) true else m)

/-- A request reaches a channel (R216): it needs room in the queue and a channel that serves; a write's bytes take their
place in the granule in order of entry, and a read keeps the bytes that order gives it. -/
def memRequest (n tag x : Nat) (write : Bool) (ws : List (Nat × Byte)) (errs : List (Nat × Nat)) (s : State) : State :=
  let d := s.dev
  let (ch, a) := d.memMap x
  let st := d.get (MEM_STS n) MEM_STS.STATE
  if ch ≠ n || !d.bit (MEM_CFG n) MEM_CFG.PRESENT || !d.islUp (3 + n) || d.chanCap n ≤ a then s
  else if 64 ≤ (d.memCh n).queue.length || st = 0 || st = 6 || d.looped 4 n then s
  else
    let gran := a / 128
    let d := d.wakeRank n (d.granFields n gran).rank
    if write then
      let (d, m) := storeWrite d s.mem n gran ws errs
      { s with mem := m, dev := d.enqueue n ⟨tag, true, gran, 0, false, false, [], false⟩ }
    else
      let bad := s.mem.isBad (d.memUnmap n (gran * 128) / 128) || d.uninit n gran
      { s with dev := d.enqueue n ⟨tag, false, gran, 0, false, false, granData d s.mem n gran, bad⟩ }

/-- The next read returns, as received from the devices with these error masks (R211, R216). -/
def memReadReturn (n : Nat) (errs : List (Nat × Nat)) (s : State) : State :=
  if !s.dev.islUp (3 + n) || s.dev.get (MEM_STS n) MEM_STS.STATE ≠ 2 then s
  else
    match s.dev.grantRead n 65 with
    | none => s
    | some (r, d) =>
      let x := d.memUnmap n (r.gran * 128)
      if r.ue then
        let (f, d) := d.fresh
        let d := d.recordUe n r.gran (f % 16) (f / 16 % 256) false
        { s with dev := d.emit (.memData n r.tag r.data true) }
      else
        let bs := decodeGranule r.data errs
        let ue := bs.any BeatResult.isUe
        let d := d.recordBeats n r.gran false bs
        let data := granuleBytes bs
        let newer := (d.memCh n).queue.any (fun o => o.write && o.gran == r.gran)
        let m := if !ue && !newer && bs.any BeatResult.isCe then s.mem.setBytes x data else s.mem
        { s with mem := m, dev := d.emit (.memData n r.tag data ue) }

/-! ## Initialisation, refresh, temperature (R215, R220) -/

/-- The initialisation pass starts: the devices hold nothing valid (R215). -/
def Dev.initStart (d : Dev) (n : Nat) : Dev :=
  ((d.wrN (MEM_INIT_PTR n) 0).put (MEM_STS n) MEM_STS.INIT_DONE 0)

/-- The initialisation pass of a channel ends (R215). -/
def initPassDone (n : Nat) (d : Dev) : Dev :=
  if d.get (MEM_STS n) MEM_STS.STATE = 0 || d.get (MEM_STS n) MEM_STS.STATE = 6 || d.bit (MEM_STS n) MEM_STS.INIT_DONE then d
  else
    let d := d.wrN (MEM_INIT_PTR n) (min (2 ^ 20 - 1) (d.chanCap n / 65536))
    (d.put (MEM_STS n) MEM_STS.INIT_DONE 1).flag (MEM_EVT n) MEM_EVT.INIT_DONE

/-- A refresh of a rank falls due (R220): postponed while requests are queued, at most 4 times; the fifth closes the
rank's groups and is issued. On an idle rank it is issued, or pulled in. -/
def refresh (n rank : Nat) (pullIn : Bool) (d : Dev) : Dev :=
  let st := d.get (MEM_STS n) MEM_STS.STATE
  if st = 0 || st = 5 || st = 6 then d
  else
    let c := d.memCh n
    let busy := c.queue.any (fun r => (d.granFields n r.gran).rank == rank)
    let p := if rank = 0 then c.postponed0 else c.postponed1
    let setP (c : Dch) (v : Int) : Dch := if rank = 0 then { c with postponed0 := v } else { c with postponed1 := v }
    if pullIn then (if busy || p ≤ -4 then d else d.setMemCh n (setP c (p - 1)))
    else if busy && p < 4 then d.setMemCh n (setP c (p + 1))
    else
      let close := c.queue.map (fun r => if (d.granFields n r.gran).rank == rank then { r with grouped := false } else r)
      let d := d.setMemCh n { (setP c (if busy then 4 else 0)) with queue := close }
      d.clearBit (MEM_STS n) (24 + rank)

/-- MR4 of a rank's devices is read: whether any reports double refresh (R220). -/
def mr4Read (n rank : Nat) (double : Bool) (d : Dev) : Dev :=
  let c := d.memCh n
  let c := if rank = 0 then { c with hot0 := double } else { c with hot1 := double }
  (d.setMemCh n c).put (MEM_STS n) MEM_STS.HOT (if c.hot0 || c.hot1 then 1 else 0)

/-! ## Training (R221 to R226) -/

/-- No bin works: the channel is FAILED (R222). -/
def Dev.memFail (d : Dev) (n step : Nat) : Dev :=
  let d := d.setMemCh n { d.memCh n with train := .idle }
  let d := d.put (MEM_STS n) MEM_STS.STATE 6
  let d := (d.put (MEM_TRAIN n) MEM_TRAIN.FAIL_STEP step).put (MEM_TRAIN n) MEM_TRAIN.STEP 0
  d.flag (MEM_EVT n) MEM_EVT.TRAIN_FAIL

/-- A start-up training that fails at bin 0 ends start-up with a memory fault (R222, R431); on a running device the
channel is isolated (R226). -/
def Dev.memFault (d : Dev) (n step : Nat) : Dev :=
  let d := d.memFail n step
  if d.get PWR_STS PWR_STS.STAGE = 5 then (d.put PWR_STS PWR_STS.STAGE 9).put PWR_STS PWR_STS.STATE 7
  else (d.isolateMark (3 + n) 0).faultLast (3 + n) 0 1

/-- A training ends: with a working setting the channel runs, otherwise it steps down a bin or fails (R221, R222). -/
def trainingDone (n : Nat) (ok : Bool) (failStep : Nat) (d : Dev) : Dev :=
  match (d.memCh n).train with
  | .initial | .fast =>
    if ok then d.memRun n
    else
      let b := d.get (MEM_STS n) MEM_STS.BIN
      let d := d.put (MEM_TRAIN n) MEM_TRAIN.FAIL_STEP failStep
      if b = 0 then d.memFault n failStep
      else (d.flag (MEM_EVT n) MEM_EVT.STEPDOWN).startTraining n .initial (b - 1) 1
  | _ => d

/-- One training step of the sequence ends: the next step, or a waiting frequency change takes over (R221, R226). -/
def trainingStepDone (n : Nat) (d : Dev) : Dev :=
  let c := d.memCh n
  let step := d.get (MEM_TRAIN n) MEM_TRAIN.STEP
  match c.train with
  | .idle => d
  | k =>
    match c.nextBin with
    | some b => if k = .freq then d.put (MEM_TRAIN n) MEM_TRAIN.STEP (min 8 (step + 1)) else d.startFreq n b
    | none =>
      if c.selfRefReq then
        (d.setMemCh n { c with train := .idle, selfRefReq := false, queue := [] }).put (MEM_STS n) MEM_STS.STATE 5
      else d.put (MEM_TRAIN n) MEM_TRAIN.STEP (min 8 (step + 1))

/-- Signed field of MEM_DRIFT. -/
def Dev.drift (d : Dev) (n : Nat) : Int := signedOf 16 (d.rdN (MEM_DRIFT n))

/-- Clamp to the range of a signed 16-bit field. -/
def sat16 (x : Int) : Int := max (-32768) (min 32767 x)

/-- The DQS interval oscillator of a rank has run: the drift adds up, and beyond the threshold a retraining is due (R223). -/
def dqsOscillator (n : Nat) (ps : Int) (d : Dev) : Dev :=
  if d.get (MEM_STS n) MEM_STS.STATE ≠ 2
      || d.now < (d.memCh n).oscAt + msTicks (d.get (MEM_RETRAIN_CFG n) MEM_RETRAIN_CFG.OSC_PERIOD) then d
  else
    let v := sat16 (d.drift n + ps)
    let d := d.wrN (MEM_DRIFT n) (unsignedOf 16 v)
    let d := d.setMemCh n { d.memCh n with oscAt := d.now }
    d.when (decide (d.get (MEM_RETRAIN_CFG n) MEM_RETRAIN_CFG.DRIFT_TH < v.natAbs)) (·.put (MEM_STS n) MEM_STS.RETRAIN_DUE 1)

/-- A job gap: no job ARMED or RUNNING, no pass armed or active (R224). -/
def Dev.jobGap (d : Dev) : Bool :=
  let j := d.get FIR_STS FIR_STS.JOB
  j ≠ 1 && j ≠ 2 && !d.passBusy

/-- Retraining starts (R224): steps 6 to 8 on each rank. -/
def Dev.startRetrain (d : Dev) (n : Nat) : Dev := d.startTraining n .retrain (d.get (MEM_STS n) MEM_STS.BIN) 6

/-- The first job gap with a retraining due (R224). -/
def retrainAtGap (n : Nat) (d : Dev) : Dev :=
  if d.jobGap && d.bit (MEM_STS n) MEM_STS.RETRAIN_DUE && d.get (MEM_STS n) MEM_STS.STATE = 2 then d.startRetrain n else d

/-- A command the channel refuses: OFF, FAILED or isolated (R232). -/
def Dev.memCmdDead (d : Dev) (n : Nat) : Bool :=
  let st := d.get (MEM_STS n) MEM_STS.STATE
  st == 0 || st == 6 || d.bit (PWR_ISL (3 + n)) PWR_ISL.ISOLATED

/-- The command register of a memory channel: SETBIN before RETRAIN (R226, R232). -/
def memCmdWrite (n : Nat) (v : Word) (d : Dev) : Dev :=
  if v.bit 0 || v.bit 1 then
    if d.memCmdDead n then d.flag (MEM_EVT n) MEM_EVT.CMD_REJ
    else if v.bit 1 then
      let bin := v.fld MEM_CMD.BIN
      if d.get (MEM_CFG n) MEM_CFG.BIN_MAX < bin then d.flag (MEM_EVT n) MEM_EVT.CMD_REJ else d.askFreq n bin
    else
      match (d.memCh n).train with
      | .idle => d.startRetrain n
      | _ => d
  else d

/-- A retraining ends: its settings, or those in force before it (R224). -/
def retrainDone (n : Nat) (ok : Bool) (failStep : Nat) (d : Dev) : Dev :=
  match (d.memCh n).train with
  | .retrain =>
    let d := (d.put (MEM_STS n) MEM_STS.RETRAIN_DUE 0).wrN (MEM_DRIFT n) 0
    let d := d.memRun n
    let d := if ok then
        ((d.count (MEM_TRAIN n) MEM_TRAIN.RETRAINS 1).flag (MEM_EVT n) MEM_EVT.RETRAINED).put (MEM_STS n) MEM_STS.DEGRADED 0
      else
        ((d.put (MEM_STS n) MEM_STS.DEGRADED 1).flag (MEM_EVT n) MEM_EVT.TRAIN_FAIL).put (MEM_TRAIN n) MEM_TRAIN.FAIL_STEP failStep
    match (d.memCh n).nextBin with
    | some b => d.startFreq n b
    | none => d
  | _ => d

/-- A window of corrected errors ends (R225). -/
def ceWindow (n : Nat) (d : Dev) : Dev :=
  let c := d.memCh n
  if d.now < c.ceWinAt + secTicks (d.get (MEM_CE_CFG n) MEM_CE_CFG.WINDOW) then d else
  let many := decide (d.get (MEM_CE_CFG n) MEM_CE_CFG.THRESH < c.ceWin)
  let d := d.setMemCh n { c with ceWin := 0, ceWinAt := d.now }
  d.when many (fun d =>
    let d := d.flag (MEM_EVT n) MEM_EVT.CE_RATE
    if d.bit (MEM_STS n) MEM_STS.DEGRADED then d.put (MEM_STS n) MEM_STS.STEP_DUE 1
    else d.put (MEM_STS n) MEM_STS.RETRAIN_DUE 1)

/-- A step down that waited for a job gap, or for the chip to become standby (R225). -/
def stepDownAtGap (n : Nat) (d : Dev) : Dev :=
  let c := d.memCh n
  if d.bit (MEM_STS n) MEM_STS.STEP_DUE && d.jobGap then d.stepDown n
  else if c.handoverStep && !d.activeOfPair then (d.setMemCh n { c with handoverStep := false }).stepDown n
  else d

/-- A frequency change ends: with a setting the channel runs at its bin, otherwise R222 applies from there down (R226). -/
def freqDone (n : Nat) (ok : Bool) (failStep : Nat) (d : Dev) : Dev :=
  match (d.memCh n).train with
  | .freq =>
    if ok then
      let d := (d.memRun n).flag (MEM_EVT n) MEM_EVT.FREQ_DONE
      let d := (d.put (MEM_STS n) MEM_STS.RETRAIN_DUE 0).wrN (MEM_DRIFT n) 0
      match (d.memCh n).nextBin with
      | some b => d.startFreq n b
      | none => d
    else
      let b := d.get (MEM_STS n) MEM_STS.BIN
      let d := d.put (MEM_TRAIN n) MEM_TRAIN.FAIL_STEP failStep
      if b = 0 then d.memFault n failStep
      else (d.flag (MEM_EVT n) MEM_EVT.STEPDOWN).startTraining n .freq (b - 1) 1
  | _ => d

/-! ## Power-down, self-refresh, scrubbing (R227 to R229) -/

/-- A rank with no queued request for IDLE × 100 ns enters power-down; IDLE = 0 disables it (R227). -/
def powerDown (n rank : Nat) (d : Dev) : Dev :=
  let idle := d.get (MEM_PD_CFG n) MEM_PD_CFG.IDLE
  let c := d.memCh n
  let since := if rank = 0 then c.idleAt0 else c.idleAt1
  if idle = 0 || d.get (MEM_STS n) MEM_STS.STATE ≠ 2 || c.queue.any (fun r => (d.granFields n r.gran).rank == rank)
      || d.now < since + idle * 80 then d
  else d.flagBit (MEM_STS n) (24 + rank)

/-- Entry to Moored: groups closed, queue drained, self-refresh; after the training step that runs (R228, R226). -/
def Dev.selfRefresh (d : Dev) (n : Nat) : Dev :=
  match (d.memCh n).train with
  | .idle => (d.setQueue n []).put (MEM_STS n) MEM_STS.STATE 5
  | _ => d.setMemCh n { d.memCh n with selfRefReq := true }

/-- One patrol read (R229): the granule at the position, corrected and written back; the position moves on and wraps. -/
def scrub (n : Nat) (errs : List (Nat × Nat)) (s : State) : State :=
  let d := s.dev
  if !d.islUp (3 + n) || !d.bit (MEM_SCRUB_CFG n) MEM_SCRUB_CFG.EN || d.get (MEM_STS n) MEM_STS.STATE ≠ 2 then s
  else
    let g := (d.memCh n).scrubGran
    if d.uninit n g then { s with dev := d.setMemCh n { d.memCh n with scrubGran := 0 } }
    else
      let (d, m, _, _) := readGranule d s.mem n g errs true true
      let d := d.count (MEM_BW n) whole 1
      let top := d.chanCap n / 128
      let g' := if top ≤ g + 1 then 0 else g + 1
      let d := d.setMemCh n { d.memCh n with scrubGran := g' }
      let d := d.put (MEM_SCRUB_POS n) ⟨0, 23⟩ (g' * 128 / 4096)
      let d := d.when (g' == 0) (fun d =>
        (d.count (MEM_SCRUB_POS n) ⟨24, 8⟩ 1).flag (MEM_EVT n) MEM_EVT.SCRUB_PASS)
      { s with mem := m, dev := d }

/-! ## Direct page store accesses of the engines -/

/-- The bytes an engine reads from the page store, and whether a granule of them is uncorrectable (R211). -/
def storeRead (d : Dev) (m : Store) (x n : Nat) : List Byte × Bool :=
  let gs := if n = 0 then [] else (List.range ((x + n - 1) / 128 + 1 - x / 128)).map (fun i => x / 128 + i)
  let ue := gs.any (fun g =>
    let (ch, a) := d.memMap (g * 128)
    m.isBad g || d.uninit ch (a / 128) || !d.bit (MEM_CFG ch) MEM_CFG.PRESENT || !d.islUp (3 + ch))
  (m.bytes x n, ue)

/-- An engine writes bytes to the page store with fresh check bits (R212: whole granules heal, parts keep their flag). -/
def storePut (m : Store) (x : Nat) (bs : List Byte) : Store :=
  let n := bs.length
  let m := m.setBytes x bs
  let first := (x + 127) / 128
  let last := (x + n) / 128
  (List.range (last - first)).foldl (fun m i => m.setBad (first + i) false) m

/-- A range lies wholly in the system region: the first GiB of the page store (R181; its place is the model's choice). -/
def inSystem (x n : Nat) : Bool := decide (x + n ≤ 2 ^ 30)

/-! ## The meanings -/

/-- MEM_REQUEST (R216, R212). -/
def execMemRequest (n : Fin 2) (tag x : Nat) (write : Bool) (ws : List (Nat × Byte)) (errs : List (Nat × Nat)) (s : State) :
    Host.Outcome State Fault Refusal := .next (memRequest n.val tag x write ws errs s)

/-- MEM_READ_RETURN (R211, R216). -/
def execMemReadReturn (n : Fin 2) (errs : List (Nat × Nat)) (s : State) : Host.Outcome State Fault Refusal :=
  .next (memReadReturn n.val errs s)

/-- INIT_PASS_DONE (R215). -/
def execInitPassDone (n : Fin 2) (s : State) : Host.Outcome State Fault Refusal := .next (s.onIsl (3 + n.val) (initPassDone n.val))

/-- REFRESH (R220). -/
def execRefresh (n rank : Fin 2) (pullIn : Bool) (dt : Nat) (s : State) : Host.Outcome State Fault Refusal :=
  .next ((s.pass dt).onIsl (3 + n.val) (refresh n.val rank.val pullIn))

/-- MR4_READ (R220). -/
def execMr4Read (n rank : Fin 2) (double : Bool) (dt : Nat) (s : State) : Host.Outcome State Fault Refusal :=
  .next ((s.pass dt).onIsl (3 + n.val) (mr4Read n.val rank.val double))

/-- MEM_TRAINING_STEP_DONE (R221, R226). -/
def execMemTrainingStepDone (n : Fin 2) (s : State) : Host.Outcome State Fault Refusal :=
  .next (s.onIsl (3 + n.val) (trainingStepDone n.val))

/-- DQS_OSCILLATOR (R223). -/
def execDqsOscillator (n : Fin 2) (ps : Int) (dt : Nat) (s : State) : Host.Outcome State Fault Refusal :=
  .next ((s.pass dt).onIsl (3 + n.val) (dqsOscillator n.val ps))

/-- RETRAIN_AT_GAP (R224). -/
def execRetrainAtGap (n : Fin 2) (s : State) : Host.Outcome State Fault Refusal := .next (s.onIsl (3 + n.val) (retrainAtGap n.val))

/-- MEM_CMD_RETRAIN: a write of MEM_CMD with RETRAIN = 1 (R224, R232). -/
def execMemCmdRetrain (q : Req) (n : Fin 2) (s : State) : Host.Outcome State Fault Refusal :=
  .next (s.devCommand q (MEM_CMD n.val) 1 (memCmdWrite n.val))

/-- RETRAIN_DONE (R224). -/
def execRetrainDone (n : Fin 2) (ok : Bool) (failStep : Nat) (s : State) : Host.Outcome State Fault Refusal :=
  .next (s.onIsl (3 + n.val) (retrainDone n.val ok failStep))

/-- CE_WINDOW (R225). -/
def execCeWindow (n : Fin 2) (dt : Nat) (s : State) : Host.Outcome State Fault Refusal := .next ((s.pass dt).onIsl (3 + n.val) (ceWindow n.val))

/-- STEP_DOWN_AT_GAP (R225). -/
def execStepDownAtGap (n : Fin 2) (s : State) : Host.Outcome State Fault Refusal := .next (s.onIsl (3 + n.val) (stepDownAtGap n.val))

/-- SETBIN: a write of MEM_CMD with SETBIN = 1 and a bin (R226, R232). -/
def execSetbin (q : Req) (n : Fin 2) (bin : Fin 8) (s : State) : Host.Outcome State Fault Refusal :=
  .next (s.devCommand q (MEM_CMD n.val) (BitVec.ofNat 32 (2 + 16 * bin.val)) (memCmdWrite n.val))

/-- POWER_DOWN (R227). -/
def execPowerDown (n rank : Fin 2) (dt : Nat) (s : State) : Host.Outcome State Fault Refusal :=
  .next ((s.pass dt).onIsl (3 + n.val) (powerDown n.val rank.val))

/-- SCRUB (R229). -/
def execScrub (n : Fin 2) (errs : List (Nat × Nat)) (dt : Nat) (s : State) : Host.Outcome State Fault Refusal :=
  .next (scrub n.val errs (s.pass dt))

end Sys2Proof.Machine
end

