-- ==== Sys2Proof/Machine/Pacing.lean ====
section
/-! DEFINITION. Web pacing (spec/03_web_pacing.md): the tracking loop, counts, reversal and backlash, encoder loss and the
backup, the advance counter, and the PAC_ command registers. Edges reach these functions from the conditioning chains. -/

namespace Sys2Proof.Machine

/-- a / b rounded to the nearest integer, half away from zero (R67). -/
def rdiv (a : Int) (b : Nat) : Int :=
  let q : Int := ((2 * a.natAbs + b) / (2 * b) : Nat)
  if 0 ≤ a then q else -q

/-- A job is active: ARMED or RUNNING (R58, R80). -/
def Dev.jobActive (d : Dev) : Bool := d.get FIR_STS FIR_STS.JOB == 1 || d.get FIR_STS FIR_STS.JOB == 2

/-- A pass is active (R97). -/
def Dev.passActive (d : Dev) : Bool := d.bit FIR_STS FIR_STS.PASS_ACTIVE

/-- A job is active, or in scan mode a pass is active: pacing writes are refused (R58, R72). -/
def Dev.pacBusy (d : Dev) : Bool := if d.scan then d.passActive else d.jobActive

/-- The printing direction in which P is monotonic: 1 in web mode, the pass's in a pass, 0 outside one (R70). -/
def Dev.mono (d : Dev) : Int :=
  if !d.scan then 1 else if d.passActive then (if d.bit FIR_STS FIR_STS.PASS_DIR then -1 else 1) else 0

/-- One of the four sources: ENC0, ENC1, STEP0, STEP1. -/
def Dev.source (d : Dev) (i : Nat) : SrcSt := tget (fun _ => {}) d.src i

/-- Replace a source. -/
def Dev.setSource (d : Dev) (i : Nat) (x : SrcSt) : Dev := { d with src := tput (fun _ => {}) d.src i x }

/-- The ratio registers of a source, in 2^-32 line per count (R57). -/
def Dev.ratioReg (d : Dev) (i : Nat) : Nat :=
  match i with
  | 0 => d.rd64 PAC_RATIO_ENC0_LO PAC_RATIO_ENC0_HI
  | 1 => d.rd64 PAC_RATIO_ENC1_LO PAC_RATIO_ENC1_HI
  | 2 => d.rd64 PAC_RATIO_STEP0_LO PAC_RATIO_STEP0_HI
  | _ => d.rd64 PAC_RATIO_STEP1_LO PAC_RATIO_STEP1_HI

/-- The measured position of a source at its latest count: its counts by its ratio plus its reference offset (R67). -/
def Dev.measured (d : Dev) (i : Nat) : Int := (d.source i).pos + (d.source i).off

/-- The loop's measured position: the source in use, and on the backup the estimate frozen at the switch (R67, R76). -/
def Dev.loopMeasured (d : Dev) : Int := d.measured d.pac.use + d.pac.adj

/-- The advance of p in n ticks: v × n × 1.25 ns, in 2^-32 line (R67). -/
def advOf (v : Int) (n : Nat) : Int := rdiv (v * n * 32) 390625

/-- COAST counts of the source in use, in 2^-32 line (R67). -/
def Dev.coastLimit (d : Dev) : Int := d.get PAC_LOSS PAC_LOSS.COAST * (d.source d.pac.use).ratio

/-- p at a tick of a stretch: moved by v since its start, never more than COAST counts beyond pc in the direction of v
(R67). -/
def PacPiece.pAt (x : PacPiece) (t : Nat) : Int :=
  let p := x.p0 + advOf x.v (t - x.k0)
  if 0 < x.v then min p (max x.p0 (x.pc + x.lim))
  else if x.v < 0 then max p (min x.p0 (x.pc - x.lim))
  else p

/-- The loop's present stretch. -/
def Dev.piece (d : Dev) : PacPiece := ⟨d.pac.k0, d.pac.p0, d.pac.v, d.pac.pc, d.pac.held, d.coastLimit⟩

/-- p now (R67). -/
def Dev.pNow (d : Dev) : Int := d.piece.pAt d.now

/-- P from p: floor(256 × p), never back against the printing direction (R70). -/
def Dev.publishFrom (d : Dev) (held p : Int) : Int :=
  let raw := Int.fdiv p 16777216
  if d.mono = 0 then raw else if 0 < d.mono then max held raw else min held raw

/-- P from p in the present stretch. -/
def Dev.publish (d : Dev) (p : Int) : Int := d.publishFrom d.pac.held p

/-- The position counter P, in sub-lines (R70, R71). -/
def Dev.P (d : Dev) : Int := d.publish d.pNow

/-- The furthest position reached, in sub-lines (PAC_HWM). -/
def Dev.hwm (d : Dev) : Int := if d.mono = 0 then d.pac.hwm else d.P

/-- P at a tick: in the present stretch, or in an earlier one that is kept. -/
def Dev.PAt (d : Dev) (t : Nat) : Int :=
  if d.pac.k0 ≤ t then d.publish (d.piece.pAt t)
  else
    match d.pac.hist.find? (fun x => x.k0 ≤ t) with
    | some x => d.publishFrom x.held (x.pAt t)
    | none => d.publish d.pac.p0

/-- The first number of a range at which a property holds, where it holds from there on and at the end. -/
def firstFrom (f : Nat → Bool) : Nat → Nat → Nat → Nat
  | 0, _, hi => hi
  | fuel + 1, lo, hi =>
    if f lo then lo
    else
      let mid := (lo + hi) / 2
      if hi ≤ lo + 1 then hi else if f mid then firstFrom f fuel lo mid else firstFrom f fuel mid hi

/-- The first tick on which condition 2 of R85 held for a channel's line since it became pending, once it has held (R88). -/
def Dev.dueOf (d : Dev) (c : Nat) : Option Nat :=
  match (d.hc c).due, d.pending c with
  | some t, _ => some t
  | none, none => none
  | none, some m =>
    let t := d.target c m
    if (d.hc c).pendAt ≤ d.now && d.reached t d.P then
      some (firstFrom (fun k => d.reached t (d.PAt k)) 64 (max d.pac.k0 (d.hc c).pendAt) d.now)
    else none

/-- Keep the ticks on which condition 2 first held, before the loop's course changes. -/
def Dev.markDue (d : Dev) : Dev := d.each (d.hcs.map (·.1)) (fun c d => d.modHc c (fun x => { x with due := d.dueOf c }))

/-- Move the loop's anchor to now, with p and v as they stand. -/
def Dev.anchor (d : Dev) : Dev :=
  let p := d.pNow
  let d := d.markDue
  let hist := if d.pac.k0 = d.now then d.pac.hist else d.piece :: d.pac.hist
  let keep := hist.takeWhile (fun x => d.now ≤ x.k0 + 4096)
  { d with pac := { d.pac with
    held := d.publish p, k0 := d.now, p0 := p, hist := keep ++ (hist.drop keep.length).take 1 } }

/-- Set p from now on. -/
def Dev.setP (d : Dev) (p : Int) : Dev := let d := d.anchor; { d with pac := { d.pac with p0 := p } }

/-- Set v from now on. -/
def Dev.setV (d : Dev) (v : Int) : Dev := let d := d.anchor; { d with pac := { d.pac with v := v } }

/-- The pacing state of PAC_STS. -/
def Dev.pacState (d : Dev) : Nat := d.get PAC_STS PAC_STS.STATE

/-- Enter a pacing state. -/
def Dev.setPacState (d : Dev) (n : Nat) : Dev := d.put PAC_STS PAC_STS.STATE n

/-- Clear LOCK; clearing it while it is set sets LOCKLOST (R69). -/
def Dev.unlock (d : Dev) : Dev :=
  let d' := { d with pac := { d.pac with lockN := 0 } }
  if d.bit PAC_STS PAC_STS.LOCK then (d'.put PAC_STS PAC_STS.LOCK 0).flag PAC_EVT PAC_EVT.LOCKLOST else d'

/-- A refusal of a pacing command or write (R58, R72, R77). -/
def Dev.pacReject (d : Dev) (why : Nat) : Dev := (d.flag PAC_EVT PAC_EVT.CMDREJ).put PAC_STS PAC_STS.REJ_WHY why

/-- Start an acquisition (R69). -/
def Dev.acquire (d : Dev) : Dev :=
  let d := (d.setPacState 1).unlock
  { d with pac := { d.pac with acq := 0 } }

/-- The backup source of PAC_CFG.BKP (R56). -/
def Dev.backup (d : Dev) : Option Nat :=
  match d.get PAC_CFG PAC_CFG.BKP with
  | 1 => some 0
  | 2 => some 1
  | _ => none

/-- The ratios written take effect (R58). -/
def Dev.refreshRatios (d : Dev) : Dev :=
  d.each [0, 1, 2, 3] (fun i d => d.setSource i { d.source i with ratio := d.ratioReg i })

/-! ## Counts (R66, R69, R73, R76, R78) -/

/-- The advance source's index (R78). -/
def advSource (code : Nat) : Option Nat :=
  match code with
  | 1 => some 2
  | 2 => some 3
  | 3 => some 1
  | _ => none

/-- A count of the advance source adds its ratio × 256, rounded to the nearest unit; IDLE waits SETTLE anew (R78). -/
def Dev.advanceCount (d : Dev) (i : Nat) (dir : Int) : Dev :=
  if advSource (d.get PAC_ADV_CFG PAC_ADV_CFG.SRC) = some i then
    let step := rdiv (d.ratioReg i * 256) 4294967296
    let d := d.wrN PAC_ADV (unsignedOf 32 ((d.rdN PAC_ADV : Int) + dir * step))
    { d.put PAC_ADV_CFG PAC_ADV_CFG.IDLE 0 with pac := { d.pac with advAt := d.now } }
  else d

/-- The backup offset estimate at a primary count: 1/256 of the way toward d, and DIV on excess divergence (R76). -/
def Dev.offsetEstimate (d : Dev) (prim bk stamp : Nat) : Dev :=
  if !d.pac.bkSeen then d
  else
    let b := d.source bk
    let diff := d.measured prim - (d.measured bk + (if b.tc ≤ stamp then advOf d.pac.v (stamp - b.tc) else -advOf d.pac.v (b.tc - stamp)))
    let dev := diff - d.pac.est
    let est := rdiv (d.pac.est * 256 + dev) (256 * 16777216) * 16777216
    let d := d.when (decide (d.get PAC_LOSS PAC_LOSS.DIV_TOL * 4294967296 < dev.natAbs)) (fun d =>
      (d.flag PAC_EVT PAC_EVT.DIV).count PAC_ERRCNT PAC_ERRCNT.DIV_CNT 1)
    let d := { d with pac := { d.pac with estPrev := d.pac.est, est := est } }
    d.wrN PAC_OFFSET (unsignedOf 32 (Int.fdiv est 16777216))

/-- The table of R73 for a backward count, or a count that does not pass the furthest one, at a depth in counts. -/
def Dev.backlash (d : Dev) (back : Bool) (depth : Nat) : Dev :=
  let w := d.get PAC_BACKLASH PAC_BACKLASH.WINDOW
  let st := d.pacState
  let d :=
    if st = 1 || st = 2 then
      let d := d.setV 0
      let d := { d with pac := { d.pac with pc := d.pac.hwmPos } }
      let d := d.count PAC_REV PAC_REV.COUNT 1
      if w < depth then (d.flag PAC_EVT PAC_EVT.REVERSE).setPacState 4 else d.setPacState 3
    else if st = 3 && back && w < depth then (d.flag PAC_EVT PAC_EVT.REVERSE).setPacState 4
    else d
  if d.get PAC_REV PAC_REV.DEPTH < depth then d.put PAC_REV PAC_REV.DEPTH (min depth 65535) else d

/-- A count of the source in use: the acquisition's steps, the furthest count, reversal, or the loop's new pc and tc. -/
def Dev.loopCount (d : Dev) (dir : Int) (stamp : Nat) : Dev :=
  let d := d.put PAC_STS PAC_STS.DIR (if dir < 0 then 1 else 0)
  let d := d.when (d.pacState == 5 || d.pacState == 6) (·.acquire)
  let mono := d.mono
  let rel := (d.source d.pac.use).cnt * mono
  let passes := mono ≠ 0 && decide (d.pac.hwmCnt < rel)
  if mono ≠ 0 && !passes && (decide (dir * mono < 0) || d.pacState == 3 || d.pacState == 4) then
    let d := d.backlash (decide (dir * mono < 0)) (d.pac.hwmCnt - rel).natAbs
    { d with pac := { d.pac with vLast := d.pac.v.natAbs } }
  else
    let m := d.loopMeasured
    let d := if passes then { d with pac := { d.pac with hwmCnt := rel, hwmPos := m } } else d
    let d := d.when (passes && (d.pacState == 3 || d.pacState == 4)) (·.acquire)
    let d :=
      if d.pacState = 1 then
        if d.pac.acq = 0 then
          let d := (d.setP m).setV 0
          { d with pac := { d.pac with acq := 1, pc := m, tc := stamp } }
        else
          let q := m - d.pac.pc
          let dt := stamp - d.pac.tc
          let d := d.anchor
          let d := { d with pac := { d.pac with pc := m, tc := stamp } }
          if dt = 0 then d else (d.setV (rdiv (q * 800000000) (65536 * dt))).setPacState 2
      else
        let d := d.anchor
        { d with pac := { d.pac with pc := m, tc := stamp } }
    { d with pac := { d.pac with vLast := d.pac.v.natAbs } }

/-- One count of a source, forward (1) or backward (-1), with its stamp (R60, R66). -/
def Dev.sourceCount (d : Dev) (i : Nat) (dir : Int) (stamp : Nat) : Dev :=
  let x := d.source i
  let d := d.setSource i { x with cnt := x.cnt + dir, pos := x.pos + dir * x.ratio, tc := stamp }
  let d := d.wrN (PAC_CNT i) (unsignedOf 32 (x.cnt + dir))
  let d := d.advanceCount i dir
  if !d.bit PAC_CFG PAC_CFG.EN then d
  else
    let prim := d.get PAC_CFG PAC_CFG.SRC
    let onBk := d.bit PAC_STS PAC_STS.ON_BACKUP
    let d := if i = prim || some i = d.backup then { d with pac := { d.pac with lastAny := d.now } } else d
    let d := match d.backup with
      | some bk =>
        if i = prim then
          let d := d.offsetEstimate prim bk stamp
          if onBk then { d with pac := { d.pac with nprim := d.pac.nprim + 1 } } else d
        else d
      | none => d
    if i = d.pac.use then
      let d := if onBk then d else { d with pac := { d.pac with nbk := 0 } }
      d.loopCount dir stamp
    else if some i = d.backup && !onBk then { d with pac := { d.pac with nbk := d.pac.nbk + 1, bkSeen := true } }
    else d

/-! ## The loop update (R67 to R69) -/

/-- kp for a bandwidth, as a 40-bit integer over 2^51: 2 × 0.7071 × 2π × 25 Hz × 1.28 µs, times 2^BW (R68). -/
def kpOf (bw : Nat) : Nat := 640280769851 * 2 ^ bw

/-- ki for a bandwidth, as a 40-bit integer over 2^64: (2π × 25 Hz × 1.28 µs)², times 4^BW (R68). -/
def kiOf (bw : Nat) : Nat := 745726224366 * 4 ^ bw

/-- The arithmetic of one update: pm, e, then v and p, each rounded half away from zero (R67); LOCK follows |e| (R69). -/
def Dev.loopStep (d : Dev) : Dev :=
  let c := d.pac
  let lim := d.coastLimit
  let ext := if d.pacState = 2 then max (-lim) (min lim (advOf c.v (d.now - c.tc))) else 0
  let p := d.pNow
  let e := c.pc + ext - p
  let bw := d.get PAC_CFG PAC_CFG.BW
  let v' := c.v + rdiv ((kiOf bw : Int) * e * 781250) (2 ^ 80)
  let p' := p + rdiv ((kpOf bw : Int) * e) (2 ^ 51)
  let d := (d.setP p').setV v'
  let d := { d with pac := { d.pac with p0 := p' } }
  let d := d.wrN PAC_ERR (unsignedOf 32 (max (-2147483648) (min 2147483647 (rdiv e 16777216))))
  if 1073741824 ≤ e.natAbs then d.unlock
  else if e.natAbs < 268435456 then
    let n := d.pac.lockN + 1
    let d := { d with pac := { d.pac with lockN := n } }
    if 64 ≤ n then d.put PAC_STS PAC_STS.LOCK 1 else d
  else { d with pac := { d.pac with lockN := 0 } }

/-- An update falls due every 1,024 ticks (R67). -/
def loopUpdate (d : Dev) : Dev :=
  if !d.bit PAC_CFG PAC_CFG.EN || d.now < d.pac.lastUpd + 1024 then d
  else
    let d := { d with pac := { d.pac with lastUpd := d.now } }.refreshRatios
    let st := d.pacState
    if st = 2 || st = 3 || st = 4 then d.loopStep else d

/-! ## Loss, stop, backup (R74 to R77) -/

/-- The conditioned level of the GPIO named in EXP_GPIO. -/
def Dev.expLevel (d : Dev) : Bool := (tget (fun _ => ({} : InSt)) d.input (16 + d.get PAC_CFG PAC_CFG.EXP_GPIO)).passed

/-- Motion is expected during the primary's silence (R74). -/
def Dev.motionExpected (d : Dev) : Bool :=
  (!d.bit PAC_STS PAC_STS.ON_BACKUP && decide (0 < d.pac.nbk)) ||
    (d.bit PAC_CFG PAC_CFG.EXP_EN && d.expLevel) ||
    decide (d.rdN PAC_VMIN * 65536 ≤ d.pac.vLast)

/-- Row 1 of R75: a backup is configured and has made SWITCH_N counts since the primary's last. -/
def Dev.switchDue (d : Dev) : Bool :=
  d.bit PAC_CFG PAC_CFG.EN && !d.bit PAC_STS PAC_STS.ON_BACKUP && d.backup.isSome &&
    decide (d.get PAC_LOSS PAC_LOSS.SWITCH_N ≤ d.pac.nbk) && d.pacState ≠ 0 && d.pacState ≠ 5 && d.pacState ≠ 6

/-- Rows 2 and 3 of R75: no count on any configured encoder for LOSS.TIME µs, and row 1 does not hold. -/
def Dev.silent (d : Dev) : Bool :=
  d.bit PAC_CFG PAC_CFG.EN && !d.switchDue && d.pacState ≠ 0 && d.pacState ≠ 5 && d.pacState ≠ 6 &&
    decide (d.pac.lastAny + usTicks (d.get PAC_LOSS PAC_LOSS.TIME) ≤ d.now)

/-- The switch to the backup: its measured position plus the estimate from before the primary's last count (R76). -/
def backupSwitch (d : Dev) : Dev :=
  if !d.switchDue then d
  else
    match d.backup with
    | none => d
    | some bk =>
      let d := d.anchor
      let d := { d with pac := { d.pac with adj := d.pac.adj + d.pac.estPrev, use := bk, nprim := 0 } }
      let d := { d with pac := { d.pac with pc := d.loopMeasured, tc := (d.source bk).tc } }
      (d.put PAC_STS PAC_STS.ON_BACKUP 1).flag PAC_EVT PAC_EVT.SWITCH

/-- LOST: v = 0, P holds, LOCK clears (R69, R75); whether LOSS_STOP stops the job is the firing sequencer's. -/
def Dev.lossEnter (d : Dev) : Dev := (((d.flag PAC_EVT PAC_EVT.LOSS).setPacState 6).unlock).setV 0

/-- STOPPED: the same without a loss (R75). -/
def mediumStopped (d : Dev) : Dev :=
  if d.silent && !d.motionExpected then
    let d := (((d.flag PAC_EVT PAC_EVT.STOP).setPacState 5).unlock).setV 0
    d.when d.activeOfPair (·.brdSend 0x07 [2, d.get PAC_CFG PAC_CFG.SRC, unsignedOf 56 d.P])
  else d

/-- A RESTORE waiting for its update: refused until the primary has made 256 counts since the switch (R77). -/
def restoreApply (d : Dev) : Dev :=
  if !d.pac.restore then d
  else
    let d := { d with pac := { d.pac with restore := false } }
    if !d.bit PAC_STS PAC_STS.ON_BACKUP then d
    else if d.pac.nprim < 256 then d.pacReject 2
    else
      let prim := d.get PAC_CFG PAC_CFG.SRC
      let d := d.anchor
      let d := { d with pac := { d.pac with adj := d.pac.adj - d.pac.est, use := prim, nbk := 0 } }
      let d := { d with pac := { d.pac with pc := d.loopMeasured, tc := (d.source prim).tc } }
      d.put PAC_STS PAC_STS.ON_BACKUP 0

/-! ## ZERO and the commands of PAC_CMD (R72, R77) -/

/-- PAC_PRESET as a position: signed in scan mode, unsigned in web mode (R38). -/
def Dev.preset (d : Dev) : Int :=
  let x := d.rd64 PAC_PRESET_LO PAC_PRESET_HI % 2 ^ 56
  if d.scan then signedOf 56 x else x

/-- ZERO: P, p and the furthest position become the preset; the reference offsets shift with p (R72). -/
def Dev.zeroNow (d : Dev) : Dev :=
  let x := d.preset
  let d := d.anchor
  let delta := x * 16777216 - d.pac.p0
  let d := d.each [0, 1, 2, 3] (fun i d => d.setSource i { d.source i with off := (d.source i).off + delta })
  let d := { d with pac := { d.pac with
    p0 := x * 16777216, held := x, pc := d.pac.pc + delta, hwm := x } }
  { d with pac := { d.pac with
    hwmPos := d.loopMeasured
    hwmCnt := (d.source d.pac.use).cnt * (if d.mono = 0 then 1 else d.mono) } }

/-- ZERO, unless a job or pass is active (R72). -/
def pacZero (d : Dev) : Dev := if d.jobActive || d.passActive then d.pacReject 1 else d.zeroNow

/-- ZARM: preset at the next active Z edge of the primary encoder (R72). -/
def pacZarm (d : Dev) : Dev := if d.jobActive || d.passActive then d.pacReject 1 else { d with pac := { d.pac with zarm := true } }

/-- ZDISARM cancels a ZARM (R72). -/
def pacZdisarm (d : Dev) : Dev := { d with pac := { d.pac with zarm := false } }

/-- RESTORE: refused without a backup, without effect on the primary, otherwise waits for the next update (R77). -/
def pacRestore (d : Dev) : Dev :=
  if d.backup.isNone then d.pacReject 3
  else if !d.bit PAC_STS PAC_STS.ON_BACKUP then d
  else { d with pac := { d.pac with restore := true } }

/-- A write of PAC_CMD: ZDISARM, ZERO, ZARM, RESTORE in that order (R72). -/
def pacCmdWrite (v : Word) (d : Dev) : Dev :=
  let d := d.when (v.bit 3) pacZdisarm
  let d := d.when (v.bit 0) pacZero
  let d := d.when (v.bit 1) pacZarm
  d.when (v.bit 2) pacRestore

/-- An active Z edge of an encoder, after the counts of its tick: the measurement of R66, then an armed preset (R72). -/
def Dev.zEdge (d : Dev) (e : Nat) : Dev :=
  let x := d.source e
  let cpr := d.get PAC_ZCPR PAC_ZCPR.CPR
  let d :=
    if cpr = 0 then d
    else
      let d := match x.zlast with
        | none => d
        | some z =>
          let net := x.cnt - z
          let d := d.wrN (if e = 0 then PAC_ZMEAS0 else PAC_ZMEAS1) (unsignedOf 24 net)
          d.when (decide (1 < (net - cpr).natAbs)) (·.flag PAC_EVT PAC_EVT.ZERR)
      d.setSource e { d.source e with zlast := some x.cnt }
  if d.pac.zarm && d.get PAC_CFG PAC_CFG.SRC == e then ({ d with pac := { d.pac with zarm := false } }).zeroNow else d

/-! ## PAC_CFG and the other writes with an effect (R56 to R58, R74, R75, R78) -/

/-- Pacing is enabled: the counter starts at 0, the reference offsets make every measured position 0, and the loop
acquires (R67, R69, R72, R76). -/
def Dev.pacEnable (d : Dev) : Dev :=
  let d := d.refreshRatios
  let d := d.each [0, 1, 2, 3] (fun i d => let x := d.source i; d.setSource i { x with off := -x.pos, zlast := none })
  let use := d.get PAC_CFG PAC_CFG.SRC
  let d := { d with pac := { d.pac with
    use := use, adj := 0, p0 := 0, v := 0, held := 0, pc := 0, k0 := d.now, tc := d.now, lastAny := d.now, lastUpd := d.now
    nbk := 0, nprim := 0, vLast := 0, est := 0, estPrev := 0, bkSeen := false, restore := false, hwm := 0, hwmPos := 0
    hwmCnt := (d.source use).cnt * d.mono } }
  let d := d.wr PAC_OFFSET 0
  (d.put PAC_STS PAC_STS.ON_BACKUP 0).acquire

/-- Pacing is disabled: the loop stops, LOCK clears (R69). -/
def Dev.pacDisable (d : Dev) : Dev := (((d.setV 0).setPacState 0).unlock).put PAC_STS PAC_STS.ON_BACKUP 0

/-- A change of source or backup with EN = 1: p, v, P, state and LOCK stay; the new primary's offset makes its measured
position p; a newly configured backup's estimate starts at 0 (R58). -/
def Dev.sourceChange (d : Dev) (newBackup : Bool) : Dev :=
  let s := d.get PAC_CFG PAC_CFG.SRC
  let d := d.anchor
  let d :=
    if s ≠ d.pac.use || d.bit PAC_STS PAC_STS.ON_BACKUP then
      let p := d.pac.p0
      let old := (d.source d.pac.use).cnt
      let x := d.source s
      let d := d.setSource s { x with off := p - x.pos }
      let d := { d with pac := { d.pac with
        use := s, adj := 0, pc := p, tc := d.now, hwmCnt := d.pac.hwmCnt + (x.cnt - old) * d.mono } }
      d.put PAC_STS PAC_STS.ON_BACKUP 0
    else d
  if newBackup then
    ({ d with pac := { d.pac with est := 0, estPrev := 0, nbk := 0, bkSeen := false } }).wr PAC_OFFSET 0
  else d

/-- The check that PAC_VMIN and COAST allow EN = 1 (R74, R75), for a primary and its ratio register. -/
def Dev.enCheck (d : Dev) (src : Nat) : Bool :=
  decide (2 * d.ratioReg src * 1000000 ≤ d.rdN PAC_VMIN * d.get PAC_LOSS PAC_LOSS.TIME * 4294967296) &&
    decide (d.get PAC_LOSS PAC_LOSS.SWITCH_N < d.get PAC_LOSS PAC_LOSS.COAST)

/-- A write of PAC_CFG (R56, R58, R74, R75). -/
def pacCfgWrite (v : Word) (d : Dev) : Dev :=
  let en := v.fld PAC_CFG.EN
  let src := v.fld PAC_CFG.SRC
  let bkp := v.fld PAC_CFG.BKP
  let oldEn := d.get PAC_CFG PAC_CFG.EN
  let oldSrc := d.get PAC_CFG PAC_CFG.SRC
  let oldBkp := d.get PAC_CFG PAC_CFG.BKP
  let adv := advSource (d.get PAC_ADV_CFG PAC_ADV_CFG.SRC)
  if bkp = 3 || (bkp ≠ 0 && bkp - 1 = src) || adv = some src || (bkp ≠ 0 && adv = some (bkp - 1)) then d.pacReject 4
  else
    let changes := en ≠ oldEn || src ≠ oldSrc || bkp ≠ oldBkp
    let blocked := changes && d.pacBusy
    let d := d.when blocked (·.pacReject 1)
    let badEn := !blocked && en = 1 && oldEn = 0 && !d.enCheck src
    let d := d.when badEn (·.pacReject 5)
    let keep := blocked || badEn
    let w := if keep then ((v.setFld PAC_CFG.EN oldEn).setFld PAC_CFG.SRC oldSrc).setFld PAC_CFG.BKP oldBkp else v
    let d := d.typedWrite PAC_CFG w
    if keep then d
    else if en = 1 && oldEn = 0 then d.pacEnable
    else if en = 0 && oldEn = 1 then d.pacDisable
    else if en = 1 && changes then d.sourceChange (bkp ≠ 0 && bkp ≠ oldBkp)
    else d

/-- A write of both halves of a ratio pair: 0 leaves the previous ratio; with pacing disabled it acts at once (R57, R58). -/
def ratioWrite (i lo hi : Nat) (v : Nat) (d : Dev) : Dev :=
  if v % 2 ^ 48 = 0 then d
  else
    let d := d.wr64 lo hi (v % 2 ^ 48)
    if d.bit PAC_CFG PAC_CFG.EN then d else d.setSource i { d.source i with ratio := v % 2 ^ 48 }

/-- ZERO of the advance counter (R78). -/
def Dev.advZero (d : Dev) : Dev := d.wr PAC_ADV 0

/-- A write of PAC_ADV_CFG (R58, R78). -/
def pacAdvCfgWrite (v : Word) (d : Dev) : Dev :=
  let old := d.get PAC_ADV_CFG PAC_ADV_CFG.SRC
  let src := v.fld PAC_ADV_CFG.SRC
  let d := d.when (v.bit 2) (·.advZero)
  let conflict := match advSource src with
    | none => false
    | some i => i == d.get PAC_CFG PAC_CFG.SRC || some i == d.backup
  let blocked := src ≠ old && d.pacBusy
  let d := d.when blocked (·.pacReject 1)
  let d := d.when (!blocked && conflict) (·.pacReject 4)
  if blocked || conflict then d.typedWrite PAC_ADV_CFG (v.setFld PAC_ADV_CFG.SRC old)
  else
    let d := d.typedWrite PAC_ADV_CFG v
    { d.put PAC_ADV_CFG PAC_ADV_CFG.IDLE 0 with pac := { d.pac with advAt := d.now } }

/-- A write of PAC_ENC_CFG: decoding code 3 sets 0 (R63). -/
def pacEncCfgWrite (v : Word) (d : Dev) : Dev :=
  let v := if v.fld PAC_ENC_CFG.ENC0_DEC = 3 then v.setFld PAC_ENC_CFG.ENC0_DEC 0 else v
  let v := if v.fld PAC_ENC_CFG.ENC1_DEC = 3 then v.setFld PAC_ENC_CFG.ENC1_DEC 0 else v
  d.typedWrite PAC_ENC_CFG v

/-- SETTLE µs have passed without a count of the advance source (R78). -/
def advIdle (d : Dev) : Dev :=
  if d.pac.advAt + usTicks (d.get PAC_ADV_CFG PAC_ADV_CFG.SETTLE) ≤ d.now then d.put PAC_ADV_CFG PAC_ADV_CFG.IDLE 1 else d

/-! ## The meanings -/

/-- LOOP_UPDATE (R67 to R69). -/
def execLoopUpdate (dt : Nat) (s : State) : Host.Outcome State Fault Refusal := .next ((s.pass dt).onIsl 6 loopUpdate)

/-- PACING_ENABLE: a write of PAC_CFG with EN = 1. -/
def execPacingEnable (q : Req) (v : Word) (s : State) : Host.Outcome State Fault Refusal :=
  .next (s.devCommand q PAC_CFG (v.setFld PAC_CFG.EN 1) pacCfgWrite)

/-- PACING_DISABLE: a write of PAC_CFG with EN = 0. -/
def execPacingDisable (q : Req) (v : Word) (s : State) : Host.Outcome State Fault Refusal :=
  .next (s.devCommand q PAC_CFG (v.setFld PAC_CFG.EN 0) pacCfgWrite)

/-- SOURCE_CHANGE: a write of PAC_CFG that changes SRC or BKP (R56, R58). -/
def execSourceChange (q : Req) (src bkp : Fin 4) (s : State) : Host.Outcome State Fault Refusal :=
  .next (s.devCommand q PAC_CFG (((s.dev.rd PAC_CFG).setFld PAC_CFG.SRC src.val).setFld PAC_CFG.BKP bkp.val) pacCfgWrite)

/-- ZERO (R72). -/
def execZero (q : Req) (s : State) : Host.Outcome State Fault Refusal := .next (s.devCommand q PAC_CMD 1 pacCmdWrite)

/-- ZARM (R72). -/
def execZarm (q : Req) (s : State) : Host.Outcome State Fault Refusal := .next (s.devCommand q PAC_CMD 2 pacCmdWrite)

/-- ZDISARM (R72). -/
def execZdisarm (q : Req) (s : State) : Host.Outcome State Fault Refusal := .next (s.devCommand q PAC_CMD 8 pacCmdWrite)

/-- Z_PRESET: the Z edge for which ZARM was armed, after the counts of its tick (R72, R66). -/
def execZPreset (e : Fin 2) (dt : Nat) (s : State) : Host.Outcome State Fault Refusal :=
  .next ((s.pass dt).onIsl 6 (·.zEdge e.val))

/-- RESTORE (R77). -/
def execRestore (q : Req) (s : State) : Host.Outcome State Fault Refusal := .next (s.devCommand q PAC_CMD 4 pacCmdWrite)

/-- RESTORE_APPLY: the update at which a RESTORE is performed or refused (R77). -/
def execRestoreApply (dt : Nat) (s : State) : Host.Outcome State Fault Refusal := .next ((s.pass dt).onIsl 6 restoreApply)

/-- BACKUP_SWITCH (R75, R76). -/
def execBackupSwitch (dt : Nat) (s : State) : Host.Outcome State Fault Refusal := .next ((s.pass dt).onIsl 6 backupSwitch)

/-- MEDIUM_STOPPED (R75). -/
def execMediumStopped (dt : Nat) (s : State) : Host.Outcome State Fault Refusal := .next ((s.pass dt).onIsl 6 mediumStopped)

/-- ADV_IDLE (R78). -/
def execAdvIdle (dt : Nat) (s : State) : Host.Outcome State Fault Refusal := .next ((s.pass dt).onIsl 6 advIdle)

/-- ADV_ZERO: a write of PAC_ADV_CFG with ZERO = 1 (R78). -/
def execAdvZero (q : Req) (s : State) : Host.Outcome State Fault Refusal := .next (s.devCommand q PAC_ADV_CFG (s.dev.rd PAC_ADV_CFG) (fun _ => Dev.advZero))

end Sys2Proof.Machine
end

