-- ==== Sys2Proof/Machine/JobCore.lean ====
section
/-! DEFINITION. What jobs, firing and the links share: frames waiting for Tether (R160), the JOB frames of the part (R170),
job states (R173), line records (R409), stopping a job (R92), and what a channel sends when a line is not fired (R115). -/

namespace Sys2Proof.Machine

/-! ## Frames for the RIP (R157, R160) -/

/-- The Tether link is UP. -/
def Dev.tethUp (d : Dev) : Bool := d.get TTH_STS TTH_STS.LINK == 3

/-- The negotiated version, 0 while not UP (R152). -/
def Dev.tethVer (d : Dev) : Nat := d.get TTH_STS TTH_STS.VER

/-- A frame waits to be sent on a virtual channel (R160: producers wait). -/
def Dev.sendFrame (d : Dev) (vc type : Nat) (payload : List Byte) : Dev :=
  { d with teth := { d.teth with wait := d.teth.wait ++ [⟨vc, type, 0, payload⟩] } }

/-- The 24-byte body of a JOB frame (R170). -/
def jobBody (op arg chan refOp job line count mask : Nat) : List Byte :=
  leBytes 1 op ++ leBytes 1 arg ++ leBytes 1 chan ++ leBytes 1 refOp ++ leBytes 4 job ++ leBytes 5 line ++ leBytes 1 0 ++
    leBytes 2 count ++ leBytes 8 mask

/-- The undefined value of F and the open-ended L_last (R170). -/
def noLine : Nat := 2 ^ 40 - 1

/-- The front line of a job as frames and CMP_FRONT show it. -/
def Job.frontOr (j : Job) : Nat := j.front.getD noLine

/-- RESULT (R171). -/
def Dev.sendResult (d : Dev) (op job reason : Nat) : Dev := d.sendFrame 0 3 (jobBody 0x81 reason 0 op job 0 0 0)

/-- STATE (R173). -/
def Dev.sendState (d : Dev) (j : Job) : Dev := d.sendFrame 0 3 (jobBody 0x82 j.state 0 0 j.id j.frontOr 0 0)

/-! ## Jobs (R172, R173) -/

/-- Change an open job. -/
def Dev.modJob (d : Dev) (id : Nat) (f : Job → Job) : Dev :=
  { d with ras := { d.ras with jobs := d.ras.jobs.map (fun j => if j.id = id then f j else j) } }

/-- An open job by its identifier. -/
def Dev.jobOf (d : Dev) (id : Nat) : Option Job := d.ras.jobs.find? (fun j => j.id == id)

/-- An open job as STATE and MIRROR frames carry it (R397, R412): identifier, bits, AUTOARM, L_last, channels, state, one
above F, and S. -/
def Dev.jobFields (d : Dev) (j : Job) : List Nat :=
  [j.id, j.bits, if j.autoarm then 1 else 0, j.last, j.mask, j.state, lineAfter j.front, unsignedOf 56 d.fir.s]

/-- The active mirrors a job at each change (R412). -/
def Dev.mirrorJob (d : Dev) (id : Nat) : Dev :=
  match d.jobOf id with
  | some j => d.mirror (3 :: d.jobFields j)
  | none => d

/-- The code of FIR_STS.JOB for a job state of R173: one less, DONE as 4. -/
def firJob (state : Nat) : Nat := if state = 5 then 4 else if state = 6 then 0 else state - 1

/-- The running job leaves RUNNING: an update in flight applies at once to whatever is released afterwards
(R270), and the nozzle record is due (R274). -/
def Dev.nhLeave (d : Dev) : Dev :=
  { d with nh := { d.nh with flight := d.nh.flight.map (fun u => { u with atOnce := true }), recordNow := true } }

/-- A job enters a state: a STATE frame is sent, and FIR_STS.JOB follows the head job (R173); it keeps
its value while a new head is only QUEUED. -/
def Dev.setJobState (d : Dev) (id st : Nat) : Dev :=
  let d := d.modJob id (fun j => { j with state := st })
  let d := match d.jobOf id with
    | some j => (d.sendState j).mirrorJob id
    | none => d
  let was := d.get FIR_STS FIR_STS.JOB
  let d := if d.headJob.map (·.id) = some id && st ≠ 1 then d.put FIR_STS FIR_STS.JOB (firJob st) else d
  let now := d.get FIR_STS FIR_STS.JOB
  d.when ((was == 1 || was == 2) && now != 1 && now != 2) Dev.nhLeave

/-- The channels of a job, in ascending order (R170). -/
def Job.chans (j : Job) : List Nat := (List.range 64).filter (fun c => j.mask.testBit c)

/-- The key of a check block: its job and its number (R177). -/
def blkKey (job blk : Nat) : Nat := job * 2 ^ 34 + blk

/-- A check block of a channel. -/
def Dev.blk (d : Dev) (c key : Nat) : Blk := tget (fun _ => {}) (d.hc c).blks key

/-- Change a check block. -/
def Dev.modBlk (d : Dev) (c key : Nat) (f : Blk → Blk) : Dev :=
  d.modHc c (fun x => { x with blks := tmod (fun _ => {}) x.blks key f })

/-- The segments of a job are freed; open ones are discarded until their LAST frame (R185). -/
def Dev.freeJob (d : Dev) (id : Nat) : Dev :=
  let of (g : Seg) : Bool := g.hdr.map (·.job) == some id
  let segs := (d.ras.segs.filter (fun g => !(of g && g.closed))).map (fun g =>
    if of g then { g with ext := [], ready := false, drop := true } else g)
  let d := { d with ras := { d.ras with segs := segs } }
  let d := { d with ras := { d.ras with
    reqs := d.ras.reqs.filter (fun r => r.2.2 / 2 ^ 34 != id)
    eng := d.ras.eng.map (fun (e : Nat × Eng) => match e.2.work with
      | .decode _ k => if k / 2 ^ 34 = id then (e.1, { e.2 with work := .idle }) else e
      | .verify _ k => if k / 2 ^ 34 = id then (e.1, { e.2 with work := .idle }) else e
      | _ => e) } }
  d.each (d.hcs.map (·.1)) (fun c d => d.modHc c (fun x => { x with blks := x.blks.filter (fun (b : Nat × Blk) => b.1 / 2 ^ 34 != id) }))

/-- An open run ends (R199). -/
def Dev.endRun (d : Dev) (c : Nat) : Dev :=
  match (d.hc c).run with
  | none => d
  | some r => d.modHc c (fun x => { x with run := none, ended := x.ended ++ [r] })

/-- The head's line buffers, pending lines and bodies are given up, and its void runs end. -/
def Dev.clearChannels (d : Dev) : Dev :=
  d.each (d.hcs.map (·.1)) (fun c d => (d.endRun c).modHc c (fun x => { x with
    m := none, due := none, body := none, lines := [], voids := [], rMax := none, restart := none }))

/-! ## Lines that leave or do not leave (R115, R409) -/

/-- A head channel's link is UP. -/
def Dev.lvrUp (d : Dev) (c : Nat) : Bool := d.get (HC_LVR_STS c) HC_LVR_STS.STATE == 3

/-- A character on the data lanes: 8 idle characters are counted from its end (R113). -/
def Dev.lvrSend (d : Dev) (c : Nat) (x : Lvr) : Dev :=
  if d.lvrUp c then (d.emit (.louvre c x)).modHc c (fun h => { h with idleAt := d.now + 10 }) else d

/-- ABORT: the body of the pending line is discarded (R115). -/
def Dev.lvrAbort (d : Dev) (c : Nat) : Dev := (d.lvrSend c .abort).modHc c (fun h => { h with body := none })

/-- A line record, kept and sent while a pair is joined, and compared with the peer's (R409). -/
def Dev.record (d : Dev) (c disp m crc cause : Nat) : Dev :=
  if d.joined then
    let d := d.brdSend 0x10 [c, disp, m, crc, cause]
    let e : Dev := { d with fir := { d.fir with recs := d.fir.recs ++ [⟨c, disp, m, crc, cause, d.now⟩] } }
    e.compareRecs
  else d

/-- The lines still pending on the firing channels are aborted and recorded as such (R92, R115, R409). -/
def Dev.abortLines (d : Dev) : Dev :=
  d.each d.fir.chans (fun c d =>
    match d.pending c with
    | none => d
    | some m => (d.lvrAbort c).record c 4 m 0 0)

/-- The active pass is over: P is held, and no channel has a pending line (R70, R98). -/
def Dev.endPass (d : Dev) : Dev :=
  let d := { d with pac := { d.pac with hwm := d.P } }.anchor
  let d := d.put FIR_STS FIR_STS.PASS_ACTIVE 0
  let d := { d with fir := { d.fir with active := none } }
  d.each d.fir.chans (fun c d => d.modHc c (fun x => { x with m := none, due := none, body := none }))

/-- A channel's timing is latched at an arming (R99), with D(c) for R55. -/
def Dev.latch (d : Dev) (c : Nat) : Dev :=
  d.modHc c (fun x => { x with
    dStart := d.rowDelay c
    lat := ⟨d.rd (HC_FIR_CFG c), d.get (HC_FIR_MININT c) HC_FIR_MININT.MIN_INT, d.rd (HC_ALIGN c),
      d.get (HC_LVR_CFG c) HC_LVR_CFG.ALIGN⟩ })

/-- A pass is armed: PASS_ARMED, and the timing of every channel is latched (R97, R99). -/
def Dev.armPass (d : Dev) (p : Pass) : Dev :=
  let d := { d.put FIR_STS FIR_STS.PASS_ARMED 1 with fir := { d.fir with armed := some p, held := none } }
  d.each d.channels (fun c d => d.latch c)

/-- A PASS_GO held behind an active pass arms when that pass ends (R98). -/
def Dev.armHeldPass (d : Dev) : Dev :=
  match d.fir.held with
  | none => d
  | some p => d.armPass p

/-- Strobes still to come are cut from the next tick on (R92, R98). -/
def Dev.cutStrobes (d : Dev) (c : Nat) : Dev :=
  d.modHc c (fun x => { x with strobes := x.strobes.filter (fun y => decide (y.at_ ≤ d.now)) })

/-- A running job stops (R92): no channel strobes from the next tick, STOP_WHY names the lowest cause of the tick. -/
def Dev.jobStop (d : Dev) (why : Nat) : Dev :=
  if d.jobRunning then
    let d := d.abortLines
    let d := if d.fir.active.isSome then d.endPass.armHeldPass else d
    let d := d.each d.fir.chans (fun c d => ((d.endRun c).cutStrobes c).modHc c (fun x => { x with m := none, due := none, body := none }))
    let d := { d with fir := { d.fir with stopAt := d.now } }
    let d := (d.put FIR_STS FIR_STS.STOP_WHY why).flag FIR_EVT FIR_EVT.STOPPED
    match d.headJob with
    | some j => d.setJobState j.id 4
    | none => d.put FIR_STS FIR_STS.JOB 3
  else if d.get FIR_STS FIR_STS.JOB = 3 && d.fir.stopAt = d.now then
    d.put FIR_STS FIR_STS.STOP_WHY (min why (d.get FIR_STS FIR_STS.STOP_WHY))
  else d

/-! ## LOSS (R75) -/

/-- LOSS: LOST, and the job stops when LOSS_STOP is set (R75, R92). -/
def lossEvent (d : Dev) : Dev :=
  if d.silent && d.motionExpected then
    d.lossEnter.when (d.bit PAC_CFG PAC_CFG.LOSS_STOP) (·.jobStop 4)
  else d

/-- LOSS (R75). -/
def execLoss (dt : Nat) (s : State) : Host.Outcome State Fault Refusal := .next ((s.pass dt).onIsl 6 lossEvent)

end Sys2Proof.Machine
end

