-- ==== Sys2Proof/Machine/Host.lean ====
section
/-! DEFINITION. Sessions, the Latch and the Hatches (spec/14_host_access.md, R360, R362 to R374). Sash messages, SPI
transactions and the firmware's messages are in later files. -/

namespace Sys2Proof.Machine

/-- Change the host ports' hidden state. -/
def Dev.modHost (d : Dev) (f : HostSt → HostSt) : Dev := { d with host := f d.host }

/-! ## The Latch (R362 to R366) -/

/-- The session that makes an access: its CLIENT tag is 0 on a port without sessions (R362). -/
def Dev.requester (d : Dev) (q : Req) : Holder :=
  match d.host.sessions.find? (fun x => x.port == q.port.val && x.num == q.session) with
  | some x => ⟨q.port.val, q.session, x.client⟩
  | none => ⟨q.port.val, q.session, 0⟩

/-- A change of holder is posted on the event Hatch (R366, R378). -/
def Dev.latchEvent (d : Dev) : Dev :=
  let w : Word := match d.host.holder with
    | some h => h.word
    | none => 0
  (d.notify 0x0008 [w]).mirrorLatch

/-- The Latch is given to a session with a lease, and an event flag is set. -/
def Dev.latchTo (d : Dev) (h : Holder) (lease : Nat) (evt : Fld) : Dev :=
  ((d.modHost (fun x => { x with holder := some h, foreign := false, lease := lease, leaseEnd := d.now + msTicks lease })).flag OWN_EVT evt).latchEvent

/-- The Latch is freed: it passes to the waiting request, if there is one (R365). -/
def Dev.latchFreed (d : Dev) : Dev :=
  match d.host.waiting with
  | some (h, l) => (d.modHost (fun x => { x with waiting := none })).latchTo h l OWN_EVT.GRANTED
  | none => (d.modHost (fun x => { x with holder := none, lease := 0, leaseEnd := 0 })).latchEvent

/-- The Latch is held: its lease has not run out (R365, R366). -/
def Dev.latchHeld (d : Dev) : Bool := d.host.holder.isSome && decide (d.now < d.host.leaseEnd)

/-- The lease has run out (R365). -/
def latchExpire (d : Dev) : Dev :=
  if d.host.holder.isSome && decide (d.host.leaseEnd ≤ d.now) && !(d.standby && d.host.foreign) then (d.flag OWN_EVT OWN_EVT.EXPIRED).latchFreed else d

/-- A write of OWN_REQ (R364); a Latch that a takeover or swap left reserved goes to its holder's CLIENT tag (R416). -/
def latchRequest (q : Req) (v : Word) (d : Dev) : Dev :=
  let d := latchExpire d
  let lease := max 10 (v.fld OWN_REQ.LEASE)
  let me := d.requester q
  match d.host.holder with
  | none => d.latchTo me lease OWN_EVT.GRANTED
  | some h =>
    if d.host.foreign && h.client = me.client then d.latchTo me lease OWN_EVT.GRANTED
    else if !d.host.foreign && h.port = me.port && h.session = me.session then
      d.modHost (fun x => { x with lease := lease, leaseEnd := d.now + msTicks lease })
    else (d.modHost (fun x => { x with waiting := some (me, lease) })).flag OWN_EVT OWN_EVT.DENIED

/-- OWN_CMD.SEIZE (R366): the length of its lease is a free value in the range of R364. -/
def latchSeize (q : Req) (d : Dev) : Dev × Status :=
  if q.port.val = 5 || q.port.val = 6 then
    let (x, d) := d.fresh
    (d.latchTo (d.requester q) (10 + x % 65526) OWN_EVT.SEIZED, .ok)
  else (d, .access)

/-- OWN_CMD.HANDOVER (R365): to the session that waits, when the command names it. -/
def latchHandover (q : Req) (v : Word) (d : Dev) : Dev × Status :=
  let d := latchExpire d
  if !d.isHolder q then (d, .latch)
  else
    match d.host.waiting with
    | none => (d, .access)
    | some (h, l) =>
      if h.port = v.fld OWN_CMD.TO_PORT && h.session % 256 = v.fld OWN_CMD.TO_SESSION && h.client % 65536 = v.fld OWN_CMD.TO_CLIENT
      then ((d.modHost (fun x => { x with waiting := none })).latchTo h l OWN_EVT.HANDED, .ok)
      else (d, .access)

/-- OWN_CMD.RELEASE by the holder (R365). -/
def latchRelease (q : Req) (d : Dev) : Dev :=
  let d := latchExpire d
  if d.isHolder q then (d.flag OWN_EVT OWN_EVT.RELEASED).latchFreed else d

/-- OWN_CMD.KEEP by the holder (R364). -/
def latchKeep (q : Req) (d : Dev) : Dev := (latchExpire d).renew q

/-- A write of OWN_CMD: the first of SEIZE, HANDOVER, RELEASE, KEEP that is set applies (R381). -/
def ownCmdWrite (q : Req) (v : Word) (d : Dev) : Dev × Status :=
  if v.bit 3 then latchSeize q d
  else if v.bit 2 then latchHandover q v d
  else if v.bit 0 then (latchRelease q d, .ok)
  else if v.bit 1 then (latchKeep q d, .ok)
  else (d, .ok)

/-! ## Hatches (R367 to R374) -/

/-- A Hatch. -/
def Dev.hatch (d : Dev) (n : Nat) : Hatch := tget (fun _ => {}) d.host.hatch n

/-- Replace it. -/
def Dev.setHatch (d : Dev) (n : Nat) (h : Hatch) : Dev :=
  d.modHost (fun x => { x with hatch := tput (fun _ => {}) x.hatch n h })

/-- A port's reset epoch (R373). -/
def Dev.epoch (d : Dev) (p : Nat) : Nat := tget (fun _ => 0) d.host.epoch p

/-- The 16 words of a Hatch. -/
def Dev.hatchWords (d : Dev) (n : Nat) : List Word := (List.range 16).map (fun i => d.rd (HAT_D n i))

/-- Put words into a Hatch from D0 upwards, the rest 0. -/
def Dev.putWords (d : Dev) (n : Nat) (ws : List Word) : Dev := d.each (List.range 16) (fun i d => d.wr (HAT_D n i) (ws.getD i 0))

/-- What an unwritten slot of the message log holds. -/
def emptyLog : Nat → LogEntry := fun _ => ⟨0, 0, 0, 0, 0, 0, []⟩

/-- An entry of the message log as the active mirrors it, with its number (R412). -/
def LogEntry.fields (e : LogEntry) (k : Nat) : List Nat :=
  [6, k, e.hatch, e.event, e.port, e.epoch, e.ns, e.sec] ++ e.words.map (·.toNat)

/-- An entry in the Hatch message log, a ring of 65,536 (R379). -/
def Dev.hatchLog (d : Dev) (n event port : Nat) : Dev :=
  let t := d.devTime
  let e : LogEntry := ⟨n, event, port, d.epoch port, timeNs t, timeSec t, d.hatchWords n⟩
  (d.modHost (fun x => { x with log := tput emptyLog x.log (x.logN % 65536) e, logN := x.logN + 1 })).mirror
    (e.fields d.host.logN)

/-- A Hatch becomes EMPTY with a fate for its message (R369, R373). -/
def Dev.hatchEmpty (d : Dev) (n last : Nat) : Dev :=
  let h := d.hatch n
  (d.hatchLog n last h.sport).setHatch n { h with st := .empty, last := last }

/-- The receiver of a message posted in a Hatch (R367). -/
def Dev.hatchReceiver (d : Dev) (n : Nat) : Nat :=
  if n < 4 then 0 else if n = 7 then d.get (HAT_CFG 7) HAT_CFG.RXPORT else (d.hatch n).rxport

/-- A Sash message from the SPX64 (R359). -/
def sashMsg (ver op status session seq addr count : Nat) (data : List Byte) : List Byte :=
  leBytes 1 ver ++ leBytes 1 op ++ leBytes 1 0 ++ leBytes 1 status ++ leBytes 2 session ++ leBytes 2 seq ++ leBytes 4 addr ++
    leBytes 2 count ++ leBytes 2 0 ++ data

/-- A Sash message leaves on a port: on Tether in a SASH frame (R157), else as a message of its own (R356). -/
def Dev.sashSend (d : Dev) (port : Nat) (msg : List Byte) : Dev :=
  if port = 1 then d.sendFrame 0 0x02 msg else d.emit (.sash port msg)

/-- NOTIFY to every session open on a port (R369). -/
def Dev.hatchNotify (d : Dev) (n port : Nat) : Dev :=
  (d.host.sessions.filter (fun x => x.port == port)).foldl (fun d x =>
    d.sashSend port (sashMsg x.ver 0xA0 0 x.num 0 (2 ^ n) 0 [])) d

/-- A message is posted: the Hatch is FULL (R369). -/
def Dev.hatchPost (d : Dev) (n port : Nat) : Dev :=
  let rx := d.hatchReceiver n
  let d := d.setHatch n { d.hatch n with st := .full, sport := port, sepoch := d.epoch port, rxport := rx, goAt := d.now }
  let d := d.hatchLog n 0 port
  if 4 ≤ n then d.hatchNotify n rx else d

/-- The firmware posts a message for a port on an outbound Hatch, when it is EMPTY. -/
def Dev.firmwarePost (d : Dev) (n rx : Nat) (ws : List Word) : Dev :=
  ((d.putWords n ws).setHatch n { d.hatch n with rxport := rx }).hatchPost n 0

/-- A data write to a Hatch (R367, R369 to R371). -/
def hatchWrite (q : Req) (n i : Nat) (v : Word) (d : Dev) : Dev × Status :=
  let h := d.hatch n
  let p := q.port.val
  let fill (d : Dev) : Dev :=
    ((d.putWords n []).wr (HAT_D n i) v).setHatch n { d.hatch n with st := .filling, sport := p, wrAt := d.now }
  if (4 ≤ n && p ≠ 0) || (n < 4 && p = 0) then (d, .access)
  else
    match h.st with
    | .empty => (fill d, .ok)
    | .filling =>
      if q.urgent && n < 4 then
        if h.sport = p then (d, .full)
        else if p = 6 || d.isHolder q then (fill ((d.put (HAT_STS n) HAT_STS.COLLIDE 1).hatchEmpty n 4), .ok)
        else (d, .urgent)
      else if h.sport = p then ((d.wr (HAT_D n i) v).setHatch n { h with wrAt := d.now }, .ok)
      else (d, .full)
    | .full =>
      if q.urgent && n < 4 && h.sport ≠ p then
        if p = 6 || d.isHolder q then (fill ((d.put (HAT_STS n) HAT_STS.COLLIDE 1).hatchEmpty n 4), .ok)
        else (d, .urgent)
      else (d, .full)

/-- CTRL.GO (R369, R370). -/
def hatchGo (q : Req) (n : Nat) (d : Dev) : Dev × Status :=
  let h := d.hatch n
  if h.st = .filling && h.sport = q.port.val then (d.hatchPost n q.port.val, .ok) else (d, .full)

/-- CTRL.ACK (R369). -/
def hatchAck (q : Req) (n : Nat) (d : Dev) : Dev × Status :=
  let h := d.hatch n
  if h.st ≠ .full then (d, .ok)
  else if h.rxport = q.port.val then (d.hatchEmpty n 1, .ok)
  else (d, .notRx)

/-- A write of HAT_n_CTRL: GO, then ACK; the first failure stands. -/
def hatchCtrl (q : Req) (n : Nat) (v : Word) (d : Dev) : Dev × Status :=
  let (d, st) := if v.bit 0 then hatchGo q n d else (d, .ok)
  if st ≠ .ok then (d, st) else if v.bit 1 then hatchAck q n d else (d, .ok)

/-- A FILLING Hatch without a write from its filler for 10 ms (R369). -/
def hatchFillTimeout (n : Nat) (d : Dev) : Dev :=
  let h := d.hatch n
  if h.st = .filling && decide (h.wrAt + msTicks 10 ≤ d.now) then d.hatchEmpty n 3 else d

/-- A check unit becomes FREE; a buffer operation in progress is abandoned (R386). -/
def Dev.cuFree (d : Dev) (k : Nat) : Dev := (d.put (CU_STS k) CU_STS.STATE 0).put (CU_STS k) CU_STS.OWNER 0

/-- The check units of a port become FREE when it resets (R386). -/
def Dev.cuPortReset (d : Dev) (p : Nat) : Dev :=
  d.each (List.range 8) (fun k d =>
    if d.get (CU_STS k) CU_STS.STATE ≠ 0 && d.get (CU_STS k) CU_STS.OWNER = p then d.cuFree k else d)

/-- A port resets (R373): its epoch increments, its check units are freed, messages for it are dropped and its fillings
abandoned. -/
def Dev.portReset (d : Dev) (p : Nat) : Dev :=
  let d := d.cuPortReset p
  let d := if p = 6 then d else d.modHost (fun x => { x with epoch := tput (fun _ => 0) x.epoch p ((d.epoch p + 1) % 256) })
  d.each (List.range 8) (fun n d =>
    let h := d.hatch n
    if h.st = .full && h.rxport = p then d.hatchEmpty n 2
    else if h.st = .filling && h.sport = p then d.hatchEmpty n 3
    else d)

/-- HAT_CMD.RESET (R373). -/
def hatchReset (q : Req) (d : Dev) : Dev := d.portReset q.port.val

/-! ## Sessions (R360) -/

/-- A session closes: its Latch is freed, its waiting request dropped (R360, R365). -/
def Dev.closeSession (d : Dev) (port num : Nat) : Dev :=
  let d := d.modHost (fun x => { x with
    sessions := x.sessions.filter (fun y => !(y.port == port && y.num == num))
    waiting := x.waiting.filter (fun w => !(w.1.port == port && w.1.session == num)) })
  match d.host.holder with
  | some h => if h.port = port && h.session = num then d.latchFreed else d
  | none => d

/-- A port's link goes down: its sessions close and it resets (R360, R373). -/
def Dev.portDown (d : Dev) (port : Nat) : Dev :=
  ((d.host.sessions.filter (fun x => x.port == port)).foldl (fun d x => d.closeSession port x.num) d).portReset port

/-- A session with no message for 5 s (R360). -/
def sessionTimeout (port num : Nat) (d : Dev) : Dev :=
  if d.host.sessions.any (fun x => x.port == port && x.num == num && decide (x.at_ + secTicks 5 ≤ d.now)) then
    d.closeSession port num
  else d

/-! ## Views -/

/-- OWN_STS, OWN_HOLDER, OWN_LEASE_LEFT and OWN_WAIT (R381). -/
def Dev.ownView (d : Dev) (a : Nat) : Word :=
  if a = OWN_STS then
    BitVec.ofNat 32 ((if d.host.holder.isNone then 1 else 0) + (if d.host.waiting.isSome then 2 else 0))
  else if a = OWN_HOLDER then
    match d.host.holder with
    | some h => h.word
    | none => 0
  else if a = OWN_LEASE_LEFT then
    if d.host.holder.isSome then BitVec.ofNat 32 ((d.host.leaseEnd - d.now + 799999) / 800000) else 0
  else
    match d.host.waiting with
    | some (h, _) => h.word
    | none => 0

/-- HAT_n_STS. -/
def Dev.hatchSts (d : Dev) (n : Nat) : Word :=
  let h := d.hatch n
  let st := match h.st with | .empty => 0 | .filling => 1 | .full => 2
  BitVec.ofNat 32 (h.rxport + 4096 * h.last + (if 4 ≤ n then 65536 else 0) + 131072 * d.get (HAT_STS n) HAT_STS.COLLIDE +
    262144 * st + 1048576 * h.sport + 16777216 * h.sepoch)

/-- HAT_n_AGE. -/
def Dev.hatchAge (d : Dev) (n : Nat) : Word :=
  let h := d.hatch n
  if h.st = .full then BitVec.ofNat 32 (min 0xFFFFFFFF ((d.now - h.goAt) / 800)) else 0

/-- HAT_SUMMARY. -/
def Dev.hatchSummary (d : Dev) : Word :=
  BitVec.ofNat 32 ((List.range 8).foldl (fun a n =>
    a + (if (d.hatch n).st = .full then 2 ^ n else 0) + 256 * (2 ^ n * d.get (HAT_STS n) HAT_STS.COLLIDE)) 0)

/-- A write of HAT_7_CFG (R381). -/
def hatchCfgWrite (n : Nat) (v : Word) (d : Dev) : Dev :=
  if n ≠ 7 then d
  else
    let p := v.fld HAT_CFG.RXPORT
    d.put (HAT_CFG 7) HAT_CFG.RXPORT (if p = 0 || p = 6 || p = 7 then 5 else p)

/-! ## The meanings -/

/-- A write that ends in a status. -/
def State.statusCommand (s : State) (q : Req) (a : Nat) (v : Word) (f : Word → Dev → Dev × Status) : State :=
  State.report (s.write q a v (fun s => let r := f v s.dev; ({ s with dev := r.1 }, r.2))) q 0

/-- SESSION_TIMEOUT (R360). -/
def execSessionTimeout (port : Fin 7) (num dt : Nat) (s : State) : Host.Outcome State Fault Refusal :=
  .next ((s.pass dt).onDev (sessionTimeout port.val num))

/-- LATCH_REQUEST (R364). -/
def execLatchRequest (q : Req) (v : Word) (s : State) : Host.Outcome State Fault Refusal :=
  .next (s.devCommand q OWN_REQ v (latchRequest q))

/-- LATCH_KEEP (R364). -/
def execLatchKeep (q : Req) (s : State) : Host.Outcome State Fault Refusal := .next (s.statusCommand q OWN_CMD 2 (ownCmdWrite q))

/-- LATCH_RELEASE (R365). -/
def execLatchRelease (q : Req) (s : State) : Host.Outcome State Fault Refusal := .next (s.statusCommand q OWN_CMD 1 (ownCmdWrite q))

/-- LATCH_HANDOVER (R365): the target's port, session and CLIENT. -/
def execLatchHandover (q : Req) (port : Fin 8) (session : Fin 256) (client : Fin 65536) (s : State) :
    Host.Outcome State Fault Refusal :=
  .next (s.statusCommand q OWN_CMD (BitVec.ofNat 32 (4 + 16 * port.val + 256 * session.val + 65536 * client.val)) (ownCmdWrite q))

/-- LATCH_SEIZE (R366). -/
def execLatchSeize (q : Req) (s : State) : Host.Outcome State Fault Refusal := .next (s.statusCommand q OWN_CMD 8 (ownCmdWrite q))

/-- LATCH_EXPIRE (R365). -/
def execLatchExpire (dt : Nat) (s : State) : Host.Outcome State Fault Refusal := .next ((s.pass dt).onDev latchExpire)

/-- HATCH_WRITE (R369). -/
def execHatchWrite (q : Req) (n : Fin 8) (i : Fin 16) (v : Word) (s : State) : Host.Outcome State Fault Refusal :=
  .next (s.statusCommand { q with urgent := false } (HAT_D n.val i.val) v (hatchWrite { q with urgent := false } n.val i.val))

/-- HATCH_GO (R369). -/
def execHatchGo (q : Req) (n : Fin 8) (s : State) : Host.Outcome State Fault Refusal :=
  .next (s.statusCommand q (HAT_CTRL n.val) 1 (hatchCtrl q n.val))

/-- HATCH_ACK (R369). -/
def execHatchAck (q : Req) (n : Fin 8) (s : State) : Host.Outcome State Fault Refusal :=
  .next (s.statusCommand q (HAT_CTRL n.val) 2 (hatchCtrl q n.val))

/-- HATCH_URGENT_WRITE (R371). -/
def execHatchUrgentWrite (q : Req) (n : Fin 8) (i : Fin 16) (v : Word) (s : State) : Host.Outcome State Fault Refusal :=
  .next (s.statusCommand { q with urgent := true } (HAT_D n.val i.val) v (hatchWrite { q with urgent := true } n.val i.val))

/-- HATCH_FILL_TIMEOUT (R369). -/
def execHatchFillTimeout (n : Fin 8) (dt : Nat) (s : State) : Host.Outcome State Fault Refusal :=
  .next ((s.pass dt).onDev (hatchFillTimeout n.val))

/-- HATCH_RESET: a write of HAT_CMD with RESET = 1 (R373). -/
def execHatchReset (q : Req) (s : State) : Host.Outcome State Fault Refusal := .next (s.devCommand q HAT_CMD 1 (fun _ => hatchReset q))

end Sys2Proof.Machine
end

