-- ==== Sys2Proof/Machine/Spool.lean ====
section
/-! DEFINITION. The bit stream of R234, the named decoding errors of R245, and the Spool decoder (R233 to R239, R244) and
encoder (R240, R250 with the order of preference of the worked encoding). -/

namespace Sys2Proof.Machine

/-- A coded stream as one number, least significant bit first (R234), and its length in bits. -/
structure BitStream where
  val : Nat
  len : Nat
  deriving DecidableEq, Repr

/-- The stream of a list of bytes (R234). -/
def bitStreamOf (bs : List Byte) : BitStream := ⟨leNat bs, 8 * bs.length⟩

/-- `n` bits from a bit position; none when the stream ends before them. -/
def BitStream.bits (s : BitStream) (pos n : Nat) : Option Nat :=
  if pos + n ≤ s.len then some ((s.val / 2 ^ pos) % 2 ^ n) else none

/-- The next byte boundary at or after a bit position. -/
def byteUp (pos : Nat) : Nat := (pos + 7) / 8 * 8

/-- The bits that remain in the current byte are 0 (R239). -/
def BitStream.padZero (s : BitStream) (pos : Nat) : Bool :=
  (s.val / 2 ^ pos) % 2 ^ (byteUp pos - pos) == 0

/-- The named errors of R245 (the code of each is its number in the table). -/
inductive DecErr where
  | badMode | storedLen | badCode | refBefore | badHuff | badSymbol | overrun | short | truncated
  | trailing | inputUe | crc
  deriving DecidableEq, Repr

/-- The code of a named error (R245). -/
def DecErr.code : DecErr → Nat
  | .badMode => 1 | .storedLen => 2 | .badCode => 3 | .refBefore => 4 | .badHuff => 5 | .badSymbol => 6
  | .overrun => 7 | .short => 8 | .truncated => 9 | .trailing => 10 | .inputUe => 11 | .crc => 12

/-- The outcome of a decode: the bytes written, the first error, and the bit position reached. -/
structure DecOut where
  out : Array Byte
  err : Option DecErr
  pos : Nat
  deriving DecidableEq, Repr

/-- bitlen(x): the number of bits needed to write x (R236). -/
def bitLen (x : Nat) : Nat := if x = 0 then 0 else Nat.log2 x + 1

/-- Append at most `room` bytes of a list: no byte past the raw size is written (R244). -/
def pushUpTo (out : Array Byte) (raw : Nat) : List Byte → Array Byte
  | [] => out
  | b :: t => if out.size < raw then pushUpTo (out.push b) raw t else out

/-- Copy `n` bytes one at a time from `dist` bytes back (R239), up to the raw size. -/
def copyBack (out : Array Byte) (raw dist : Nat) : Nat → Array Byte
  | 0 => out
  | n + 1 => if out.size < raw then copyBack (out.push (out.getD (out.size - dist) 0)) raw dist n else out

/-- The run length field of R238: its value and the position after it. -/
def spoolRun (s : BitStream) (pos : Nat) : Option (Nat × Nat) := do
  let n ← s.bits pos 4
  if n < 15 then return (n + 1, pos + 4)
  let n ← s.bits (pos + 4) 8
  if n < 255 then return (n + 16, pos + 12)
  let n ← s.bits (pos + 12) 11
  return (n + 271, pos + 23)

/-- The Spool dictionary and the previous string (R237): entry 262 + i is `dict[i]`. -/
structure SpoolDict where
  dict : Array (List Byte)
  prev : Option (List Byte)
  deriving DecidableEq, Repr

/-- The dictionary at the start of a block and after CLEAR (R237). -/
def SpoolDict.start : SpoolDict := ⟨#[], none⟩

/-- The number of the next entry (R236). -/
def SpoolDict.next (d : SpoolDict) : Nat := 262 + d.dict.size

/-- A string code with string `t` was read: create the entry it completes, and remember it (R237). -/
def SpoolDict.string (d : SpoolDict) (t : List Byte) : SpoolDict :=
  match d.prev with
  | some p => if d.next < 65536 then ⟨d.dict.push (p ++ t.take 1), some t⟩ else { d with prev := some t }
  | none => { d with prev := some t }

/-- A control code sets the previous string to none (R237). -/
def SpoolDict.control (d : SpoolDict) : SpoolDict := { d with prev := none }

/-- The string of a legal string code. -/
def SpoolDict.stringOf (d : SpoolDict) (c : Nat) : Option (List Byte) :=
  if c < 256 then some [BitVec.ofNat 8 c] else if 262 ≤ c then d.dict[c - 262]? else none

/-- The code loop of R239; fuel bounds the codes, each of which takes at least nine bits. -/
def spoolLoop (s : BitStream) (raw lb : Nat) : Nat → Nat → SpoolDict → Array Byte → DecOut
  | 0, pos, _, out => ⟨out, some .truncated, pos⟩
  | fuel + 1, pos, d, out =>
    let w := bitLen (d.next - 1)
    match s.bits pos w with
    | none => ⟨out, some .truncated, pos⟩
    | some c =>
      let p1 := pos + w
      if c = 256 then spoolLoop s raw lb fuel p1 .start out
      else if c = 257 then
        if !s.padZero p1 || byteUp p1 < s.len then ⟨out, some .trailing, p1⟩
        else if out.size < raw then ⟨out, some .short, p1⟩
        else ⟨out, none, p1⟩
      else if c = 258 then
        if !s.padZero p1 then ⟨out, some .trailing, p1⟩
        else spoolLoop s raw lb fuel (byteUp p1) d.control out
      else if c = 259 || c = 260 || c = 261 then
        match spoolRun s p1 with
        | none => ⟨out, some .truncated, p1⟩
        | some (n, p2) =>
          let dist := if c = 260 then 2 * lb else lb
          if c ≠ 261 && (dist = 0 || out.size < dist) then ⟨out, some .refBefore, p2⟩
          else
            let out' := if c = 261 then pushUpTo out raw (List.replicate n 0) else copyBack out raw dist n
            if out.size + n > raw then ⟨out', some .overrun, p2⟩
            else spoolLoop s raw lb fuel p2 d.control out'
      else
        match d.stringOf c with
        | none => ⟨out, some .badCode, p1⟩
        | some t =>
          let out' := pushUpTo out raw t
          if out.size + t.length > raw then ⟨out', some .overrun, p1⟩
          else spoolLoop s raw lb fuel p1 (d.string t) out'

/-- Decode one Spool block to exactly `raw` bytes (R233 to R239, R244). -/
def spoolDecode (coded : List Byte) (raw lb : Nat) : DecOut :=
  match coded with
  | [] => ⟨#[], some .truncated, 0⟩
  | m :: rest =>
    if m = 0 then
      if coded.length ≠ raw + 1 then ⟨#[], some .storedLen, 8⟩ else ⟨rest.toArray, none, 8 * coded.length⟩
    else if m = 1 then
      let r := spoolLoop (bitStreamOf rest) raw lb (8 * rest.length + 1) 0 .start #[]
      { r with pos := r.pos + 8 }
    else ⟨#[], some .badMode, 8⟩

/-! The encoder of CX0 and CX1 (R250). -/

/-- The bits of a value, least significant first (R234). -/
def bitsOf : Nat → Nat → List Bool
  | 0, _ => []
  | n + 1, x => (x % 2 == 1) :: bitsOf n (x / 2)

/-- Bytes of a list of bits, least significant first, the last byte padded with zero bits. -/
def packBits : List Bool → List Byte
  | [] => []
  | b0 :: b1 :: b2 :: b3 :: b4 :: b5 :: b6 :: b7 :: t =>
    let v (b : Bool) (k : Nat) := if b then 2 ^ k else 0
    BitVec.ofNat 8 (v b0 0 + v b1 1 + v b2 2 + v b3 3 + v b4 4 + v b5 5 + v b6 6 + v b7 7) :: packBits t
  | t => [BitVec.ofNat 8 (t.foldr (fun b a => 2 * a + (if b then 1 else 0)) 0)]

/-- The shortest run length field for `n` = 1 to 2,318 (R238). -/
def spoolRunBits (n : Nat) : List Bool :=
  if n < 16 then bitsOf 4 (n - 1)
  else if n < 271 then bitsOf 4 15 ++ bitsOf 8 (n - 16)
  else bitsOf 4 15 ++ bitsOf 8 255 ++ bitsOf 11 (n - 271)

/-- The codes of one run: full codes of 2,318, then the rest (R238). -/
def spoolRunCodes (w code : Nat) : Nat → Nat → List Bool
  | 0, _ => []
  | fuel + 1, n =>
    if n = 0 then []
    else if n ≤ 2318 then bitsOf w code ++ spoolRunBits n
    else bitsOf w code ++ spoolRunBits 2318 ++ spoolRunCodes w code fuel (n - 2318)

/-- The length of the zero run at a position. -/
def zeroRun (inp : Array Byte) (p : Nat) : Nat → Nat
  | 0 => 0
  | k + 1 => if p < inp.size && inp.getD p 1 == 0 then 1 + zeroRun inp (p + 1) k else 0

/-- The length of the match with the bytes `dist` back. -/
def backRun (inp : Array Byte) (dist p : Nat) : Nat → Nat
  | 0 => 0
  | k + 1 => if p < inp.size && dist ≤ p && inp.getD p 0 == inp.getD (p - dist) 0 then 1 + backRun inp dist (p + 1) k else 0

/-- The longest dictionary string at a position: its code and its string; a literal when no entry is longer. -/
def longestString (d : SpoolDict) (inp : Array Byte) (p : Nat) : Nat × List Byte :=
  let rest := (inp.toList.drop p)
  (d.dict.toList.zipIdx).foldl
    (fun (best : Nat × List Byte) e => if e.1.isPrefixOf rest && best.2.length < e.1.length then (262 + e.2, e.1) else best)
    ((inp.getD p 0).toNat, [inp.getD p 0])

/-- Zero bits up to a byte boundary. -/
def padBits (bs : List Bool) : List Bool := bs ++ List.replicate ((8 - bs.length % 8) % 8) false

/-- The tokens of a block in the order of preference, CLEAR when the dictionary becomes full (R250); at each of the flush
points the token ends and FLUSH follows, padded to a byte (R252); END at the end of the input where the block ends there. -/
def spoolTokens (inp : Array Byte) (lb : Nat) (fin : Bool) : Nat → List Nat → Nat → SpoolDict → List Bool → List Bool
  | 0, _, _, _, acc => acc
  | fuel + 1, stops, p, d, acc =>
    let w := bitLen (d.next - 1)
    let lim := stops.headD inp.size
    if lim ≤ p then
      match stops with
      | _ :: t => spoolTokens inp lb fin fuel t p d.control (padBits (acc ++ bitsOf w 258))
      | [] => if fin then acc ++ bitsOf w 257 else acc
    else if d.next = 65536 then spoolTokens inp lb fin fuel stops p .start (acc ++ bitsOf w 256)
    else
      let now := inp.extract 0 lim
      let z := zeroRun now p now.size
      let u1 := if lb = 0 then 0 else backRun now lb p now.size
      let u2 := if lb = 0 then 0 else backRun now (2 * lb) p now.size
      if 4 ≤ z then spoolTokens inp lb fin fuel stops (p + z) d.control (acc ++ spoolRunCodes w 261 (z + 1) z)
      else if 4 ≤ max u1 u2 then
        if u2 ≤ u1 then spoolTokens inp lb fin fuel stops (p + u1) d.control (acc ++ spoolRunCodes w 259 (u1 + 1) u1)
        else spoolTokens inp lb fin fuel stops (p + u2) d.control (acc ++ spoolRunCodes w 260 (u2 + 1) u2)
      else
        let (c, t) := longestString d now p
        spoolTokens inp lb fin fuel stops (p + t.length) (d.string t) (acc ++ bitsOf w c)

/-- The code stream of a block with its flush points, without its mode byte. -/
def spoolStream (inp : List Byte) (lb : Nat) (fin : Bool) (stops : List Nat) : List Byte :=
  packBits (spoolTokens inp.toArray lb fin (2 * inp.length + stops.length + 2) stops 0 .start [])

/-- The Spool block that CX0 and CX1 write: stored when the code stream would be longer than the raw size (R233, R250); a
block flushed meanwhile is coded, since its first bytes have been written (the model's choice). -/
def spoolEncode (inp : List Byte) (lb : Nat) (stops : List Nat) : List Byte :=
  let c := spoolStream inp lb true stops
  if c.length > inp.length && stops.isEmpty then 0 :: inp else 1 :: c

end Sys2Proof.Machine
end

