-- ==== Sys2Proof/Machine/Inflate.lean ====
section
/-! DEFINITION. The deflate decoder with the profile of R241, the header checks of R242 and the error order of R244. -/

namespace Sys2Proof.Machine

/-- A canonical Huffman code: the number of codes of each length 0 to 15, and the symbols in code order. -/
structure Huff where
  counts : List Nat
  symbols : List Nat
  deriving DecidableEq, Repr

/-- The code that a list of code lengths declares. -/
def huffOf (lens : List Nat) : Huff :=
  ⟨(List.range 16).map (fun l => lens.count l),
   (List.range 15).flatMap (fun l => (lens.zipIdx.filter (fun e => e.1 == l + 1)).map (·.2))⟩

/-- Codes left unused after all lengths: negative when over-subscribed, positive when incomplete (R242). -/
def huffLeft (h : Huff) : Int :=
  (h.counts.drop 1).foldl (fun (left : Int) (c : Nat) => 2 * left - (c : Int)) 1

/-- Over-subscription at any length (R242). -/
def huffOver (h : Huff) : Bool :=
  ((h.counts.drop 1).foldl (fun (a : Int × Bool) (c : Nat) => let l := 2 * a.1 - (c : Int); (l, a.2 || decide (l < 0))) (1, false)).2

/-- A complete code (R242). -/
def huffComplete (h : Huff) : Bool := !huffOver h && huffLeft h == 0

/-- The number of symbols that have a code. -/
def huffUsed (h : Huff) : Nat := h.symbols.length

/-- Exactly one code, of length 1 (R242). -/
def huffSingle (h : Huff) : Bool := huffUsed h == 1 && h.counts.getD 1 0 == 1

/-- Read one symbol, bit by bit. -/
inductive HuffRead where
  | sym (s pos : Nat)
  | unused (pos : Nat)
  | truncated
  deriving DecidableEq, Repr

/-- The canonical decoding loop over the lengths that remain. -/
def huffLoop (s : BitStream) (h : Huff) : List Nat → Nat → Nat → Nat → Nat → HuffRead
  | [], pos, _, _, _ => .unused pos
  | c :: cs, pos, code, first, index =>
    match s.bits pos 1 with
    | none => .truncated
    | some b =>
      let code := code + b
      if code < first + c then .sym (h.symbols.getD (index + (code - first)) 0) (pos + 1)
      else huffLoop s h cs (pos + 1) (2 * code) (2 * (first + c)) (index + c)

/-- Read one symbol; the unused one-bit pattern of a single code is reported at once (R242). -/
def huffRead (s : BitStream) (h : Huff) (pos : Nat) : HuffRead :=
  if huffSingle h then
    match s.bits pos 1 with
    | none => .truncated
    | some b => if b = 0 then .sym (h.symbols.getD 0 0) (pos + 1) else .unused (pos + 1)
  else huffLoop s h (h.counts.drop 1) pos 0 0 0

/-- Base length and extra bits of length symbols 257 to 285 (RFC 1951). -/
def lenBase : List (Nat × Nat) :=
  [(3,0),(4,0),(5,0),(6,0),(7,0),(8,0),(9,0),(10,0),(11,1),(13,1),(15,1),(17,1),(19,2),(23,2),(27,2),(31,2),
   (35,3),(43,3),(51,3),(59,3),(67,4),(83,4),(99,4),(115,4),(131,5),(163,5),(195,5),(227,5),(258,0)]

/-- Base distance and extra bits of distance symbols 0 to 29 (RFC 1951). -/
def distBase : List (Nat × Nat) :=
  [(1,0),(2,0),(3,0),(4,0),(5,1),(7,1),(9,2),(13,2),(17,3),(25,3),(33,4),(49,4),(65,5),(97,5),(129,6),(193,6),
   (257,7),(385,7),(513,8),(769,8),(1025,9),(1537,9),(2049,10),(3073,10),(4097,11),(6145,11),(8193,12),
   (12289,12),(16385,13),(24577,13)]

/-- The symbols of one compressed block, until end of block or an error; the flag says whether the block ended. -/
def inflateSymbols (s : BitStream) (lit dist : Huff) (raw : Nat) : Nat → Nat → Array Byte → DecOut
  | 0, pos, out => ⟨out, some .truncated, pos⟩
  | fuel + 1, pos, out =>
    match huffRead s lit pos with
    | .truncated => ⟨out, some .truncated, pos⟩
    | .unused p => ⟨out, some .badSymbol, p⟩
    | .sym c p1 =>
      if c = 256 then ⟨out, none, p1⟩
      else if c < 256 then
        if out.size < raw then inflateSymbols s lit dist raw fuel p1 (out.push (BitVec.ofNat 8 c))
        else ⟨out, some .overrun, p1⟩
      else if 286 ≤ c then ⟨out, some .badSymbol, p1⟩
      else
        let (lb, le) := lenBase.getD (c - 257) (0, 0)
        match s.bits p1 le with
        | none => ⟨out, some .truncated, p1⟩
        | some lx =>
          let p2 := p1 + le
          let n := lb + lx
          if huffUsed dist = 0 then ⟨out, some .badSymbol, p2⟩
          else
            match huffRead s dist p2 with
            | .truncated => ⟨out, some .truncated, p2⟩
            | .unused p => ⟨out, some .badSymbol, p⟩
            | .sym ds p3 =>
              if 30 ≤ ds then ⟨out, some .badSymbol, p3⟩
              else
                let (db, de) := distBase.getD ds (0, 0)
                match s.bits p3 de with
                | none => ⟨out, some .truncated, p3⟩
                | some dx =>
                  let p4 := p3 + de
                  let dd := db + dx
                  if out.size < dd then ⟨out, some .refBefore, p4⟩
                  else
                    let out' := copyBack out raw dd n
                    if out.size + n > raw then ⟨out', some .overrun, p4⟩
                    else inflateSymbols s lit dist raw fuel p4 out'

/-- The order in which code-length code lengths are sent (RFC 1951). -/
def clOrder : List Nat := [16, 17, 18, 0, 8, 7, 9, 6, 10, 5, 11, 4, 12, 3, 13, 2, 14, 1, 15]

/-- The fixed literal/length code (RFC 1951). -/
def fixedLit : Huff :=
  huffOf (List.replicate 144 8 ++ List.replicate 112 9 ++ List.replicate 24 7 ++ List.replicate 8 8)

/-- The fixed distance code (RFC 1951). -/
def fixedDist : Huff := huffOf (List.replicate 32 5)

/-- The code lengths of a dynamic header, in order, at most `total` of them (R242). -/
def readLens (s : BitStream) (cl : Huff) (total : Nat) : Nat → Nat → List Nat → Except DecErr (List Nat × Nat)
  | 0, pos, acc => .ok (acc, pos)
  | fuel + 1, pos, acc =>
    if total ≤ acc.length then .ok (acc, pos)
    else
      match huffRead s cl pos with
      | .truncated => .error .truncated
      | .unused _ => .error .badHuff
      | .sym c p1 =>
        if c < 16 then readLens s cl total fuel p1 (acc ++ [c])
        else
          let ex := if c = 16 then 2 else if c = 17 then 3 else 7
          match s.bits p1 ex with
          | none => .error .truncated
          | some x =>
            let n := if c = 16 then 3 + x else if c = 17 then 3 + x else 11 + x
            if c = 16 && acc.isEmpty then .error .badHuff
            else if total < acc.length + n then .error .badHuff
            else
              let v := if c = 16 then acc.getLastD 0 else 0
              readLens s cl total fuel (p1 + ex) (acc ++ List.replicate n v)

/-- The `n` three-bit code-length code lengths that a dynamic header sends. -/
def readClLens (s : BitStream) : Nat → Nat → List Nat → Option (List Nat)
  | 0, _, acc => some acc
  | n + 1, pos, acc =>
    match s.bits pos 3 with
    | none => none
    | some x => readClLens s n (pos + 3) (acc ++ [x])

/-- A dynamic header: the two codes and the position after it (R242). -/
def readDynamic (s : BitStream) (pos : Nat) : Except DecErr (Huff × Huff × Nat) :=
  match s.bits pos 14 with
  | none => .error .truncated
  | some h =>
    let hlit := h % 32
    let hdist := (h / 32) % 32
    let hclen := h / 1024
    if 29 < hlit || 29 < hdist then .error .badHuff
    else
      match readClLens s (hclen + 4) (pos + 14) [] with
      | none => .error .truncated
      | some cls =>
        let cl := huffOf ((List.range 19).map (fun sy => cls.getD (clOrder.idxOf sy) 0))
        if !huffComplete cl then .error .badHuff
        else
          let nl := hlit + 257
          let total := nl + hdist + 1
          match readLens s cl total (total + 1) (pos + 14 + 3 * (hclen + 4)) [] with
          | .error e => .error e
          | .ok (ls, p) =>
            let lit := huffOf (ls.take nl)
            let dist := huffOf (ls.drop nl)
            if (ls.getD 256 0) = 0 || !huffComplete lit then .error .badHuff
            else if !(huffComplete dist || huffSingle dist || huffUsed dist == 0) then .error .badHuff
            else .ok (lit, dist, p)

/-- The deflate blocks of a stream (R241). -/
def inflateBlocks (s : BitStream) (raw : Nat) : Nat → Nat → Array Byte → DecOut
  | 0, pos, out => ⟨out, some .truncated, pos⟩
  | fuel + 1, pos, out =>
    match s.bits pos 3 with
    | none => ⟨out, some .truncated, pos⟩
    | some h =>
      let final := h % 2 = 1
      let after (r : DecOut) : DecOut :=
        match r.err with
        | some _ => r
        | none => if final then r else inflateBlocks s raw fuel r.pos r.out
      match h / 2 with
      | 0 =>
        let p := byteUp (pos + 3)
        match s.bits p 32 with
        | none => ⟨out, some .truncated, p⟩
        | some x =>
          let len := x % 65536
          if len + x / 65536 ≠ 65535 then ⟨out, some .storedLen, p + 32⟩
          else if out.size + len > raw then
            ⟨pushUpTo out raw (leBytes len (s.val / 2 ^ (p + 32))), some .overrun, p + 32⟩
          else
            let have_ := min len ((s.len - (p + 32)) / 8)
            let out' := pushUpTo out raw (leBytes have_ (s.val / 2 ^ (p + 32)))
            if have_ < len then ⟨out', some .truncated, p + 32 + 8 * have_⟩
            else after ⟨out', none, p + 32 + 8 * len⟩
      | 1 => after (inflateSymbols s fixedLit fixedDist raw (s.len + 1) (pos + 3) out)
      | 2 =>
        match readDynamic s (pos + 3) with
        | .error e => ⟨out, some e, pos + 3⟩
        | .ok (lit, dist, p) => after (inflateSymbols s lit dist raw (s.len + 1) p out)
      | _ => ⟨out, some .badMode, pos + 3⟩

/-- Decode a bare deflate stream to at most `raw` bytes, with no check of what follows the final block. -/
def inflateRaw (coded : List Byte) (raw : Nat) : DecOut :=
  inflateBlocks (bitStreamOf coded) raw (8 * coded.length + 1) 0 #[]

/-- Decode one deflate block of raster to exactly `raw` bytes: TRAILING is checked before SHORT (R241, R244). -/
def inflateDecode (coded : List Byte) (raw : Nat) : DecOut :=
  let s := bitStreamOf coded
  let r := inflateRaw coded raw
  match r.err with
  | some _ => r
  | none =>
    if !s.padZero r.pos || byteUp r.pos < s.len then { r with err := some .trailing }
    else if r.out.size < raw then { r with err := some .short }
    else r

/-- The outcome of an object decode (R247): DONE with the output, or REJECTED with the byte count reached and the
bytes that were written. -/
structure ObjOut where
  done : Bool
  count : Nat
  out : List Byte
  deriving DecidableEq, Repr

/-- A zlib wrapper's two header bytes are legal (R247). -/
def zlibHeaderOk (b0 b1 : Nat) : Bool :=
  b0 % 16 == 8 && b0 / 16 ≤ 7 && (b1 / 32) % 2 == 0 && (256 * b0 + b1) % 31 == 0

/-- Decode an object: the wrapper's checks before any decoding, then the stream, then OCRC and Adler-32 (R246, R247). -/
def objectDecode (bs : List Byte) : ObjOut :=
  let reject (n : Nat) (o : Array Byte) : ObjOut := ⟨false, n, o.toList⟩
  if bs.length < 12 then reject 0 #[]
  else
    let method := leField bs 0 1
    let flags := leField bs 1 1
    let lb := leField bs 2 2
    let size := leField bs 4 4
    let ocrc := leField bs 8 4
    let body := bs.drop 12
    let zlib := flags % 2 == 1
    if size = 0 || 16777216 < size || 2 < method || 1 < flags || (zlib && method ≠ 2) then reject 0 #[]
    else if zlib && !(2 ≤ body.length && zlibHeaderOk (leField body 0 1) (leField body 1 1)) then reject 0 #[]
    else
      let r : DecOut :=
        if method = 0 then
          if body.length < size then ⟨(body.take size).toArray, some .truncated, 8 * body.length⟩
          else if size < body.length then ⟨(body.take size).toArray, some .trailing, 8 * size⟩
          else ⟨body.toArray, none, 8 * size⟩
        else if method = 1 then spoolDecode body size lb
        else if zlib then
          let c := body.drop 2
          let r := inflateRaw c size
          match r.err with
          | some _ => r
          | none =>
            let s := bitStreamOf c
            let p := byteUp r.pos
            if !s.padZero r.pos || p + 32 < s.len then { r with err := some .trailing }
            else if s.len < p + 32 then { r with err := some .truncated }
            else if r.out.size < size then { r with err := some .short }
            else if beBytes 4 (adler32 r.out.toList) ≠ (c.drop (p / 8)).take 4 then { r with err := some .crc }
            else r
        else inflateDecode body size
      match r.err with
      | some _ => reject r.out.size r.out
      | none => if crc32c r.out.toList = ocrc then ⟨true, size, r.out.toList⟩ else reject size r.out

end Sys2Proof.Machine
end

