-- ==== Sys2Proof/Machine/NozzleMap.lean ====
section
/-! DEFINITION. Nozzle states and patch maps (spec/10_nozzle_health.md, R256, R265 to R268), SPLIT forcing (R48), the packing
of a raster line (R110, R174) and its row checks (R188, R189). -/

namespace Sys2Proof.Machine

/-! ## Packing and row checks -/

/-- The values of N nozzles of b bits packed least significant bit first (R110, R174). -/
def unpackLine (n b : Nat) (bs : List Byte) : List Nat :=
  let x := leNat bs
  (List.range n).map (fun i => (x / 2 ^ (i * b)) % 2 ^ b)

/-- The packed image of a line: nozzle n in bits n × b on, padded with 0 to LEN bytes (R110). -/
def packLine (b len : Nat) (vals : List Nat) : List Byte :=
  leBytes len (vals.foldr (fun v acc => v % 2 ^ b + 2 ^ b * acc) 0)

/-- Q(r, l): the CRC of the image in which every nozzle not in row r is 0 (R188). -/
def Dev.rowCheck (d : Dev) (c b : Nat) (vals : List Nat) (r : Nat) : Nat :=
  let vs := (vals.zipIdx).map (fun (p : Nat × Nat) => if d.rowOf c p.2 = r then p.1 else 0)
  crcOf crc16Xmodem (packLine b (lineBytes (d.nozzles c) b) vs)

/-- The row checks of a line as decoded (R187, R188). -/
def Dev.rowChecks (d : Dev) (c b : Nat) (vals : List Nat) : List Nat := (d.rowList c).map (d.rowCheck c b vals)

/-- The check of the changes from one image to another, for one row (R189). -/
def Dev.diffCheck (d : Dev) (c b : Nat) (old new : List Nat) (r : Nat) : Nat :=
  d.rowCheck c b (List.zipWith (fun x y => x ^^^ y) old new) r

/-- The row checks after SPLIT forcing and the patch map, updated by difference (R189). -/
def Dev.updateChecks (d : Dev) (c b : Nat) (old new checks : List Nat) : List Nat :=
  (checks.zipIdx).map (fun (p : Nat × Nat) => p.1 ^^^ d.diffCheck c b old new p.2)

/-! ## States and actions (R256, R265, R276) -/

/-- The byte of a nozzle in NH_STATE: STATE, PIN, SCORE. -/
def nozFld (n : Nat) (f : Fld) : Fld := ⟨8 * (n % 4) + f.lo, f.width⟩

def fState : Fld := ⟨0, 3⟩
def fPin : Fld := ⟨3, 1⟩
def fScore : Fld := ⟨4, 4⟩

/-- A field of a nozzle's NH_STATE entry. -/
def Dev.noz (d : Dev) (c n : Nat) (f : Fld) : Nat := d.get (NH_STATE c (n / 4)) (nozFld n f)

/-- Set it. -/
def Dev.setNoz (d : Dev) (c n : Nat) (f : Fld) (v : Nat) : Dev := d.put (NH_STATE c (n / 4)) (nozFld n f) v

/-- The action of a nozzle in the map in force, or in the map of the update in flight (R276). -/
def Dev.action (d : Dev) (next : Bool) (c n : Nat) : Nat :=
  d.get (if next then NH_PATCH_NEXT c (n / 8) else NH_PATCH c (n / 8)) ⟨4 * (n % 8), 4⟩

/-- Set it. -/
def Dev.setAction (d : Dev) (next : Bool) (c n v : Nat) : Dev :=
  d.put (if next then NH_PATCH_NEXT c (n / 8) else NH_PATCH c (n / 8)) ⟨4 * (n % 8), 4⟩ v

/-- A plane dot lies in the overlap of a low and a high channel (R48). -/
def Dev.inOverlap (d : Dev) (l h x : Nat) : Bool := d.xOrigin h ≤ x && x < d.xOrigin h + d.get (HC_OVL l) HC_OVL.WIDTH

/-- The overlap of a nozzle's plane dot: (low, high), and the other channel. -/
def Dev.overlapAt (d : Dev) (c n : Nat) : Option (Nat × Nat × Nat) :=
  (d.overlapsOf c).findSome? (fun (p : Nat × Nat) =>
    if d.inOverlap p.1 p.2 (d.dotOf c n) then some (p.1, p.2, if p.1 = c then p.2 else p.1) else none)

/-- A nozzle owns its dot in a SPLIT overlap (`some true`), does not (`some false`), or lies in none (R48). -/
def Dev.ownsDot (d : Dev) (c n : Nat) : Option Bool :=
  match d.overlapAt c n with
  | none => none
  | some (l, h, _) =>
    if d.bit (HC_OVL l) HC_OVL.MODE then none
    else
      let low := d.dotOf c n - d.xOrigin h < d.get (HC_OVL l) HC_OVL.SPLIT
      some (if c = l then low else !low)

/-- The partner of a nozzle in a SPLIT overlap (R266). -/
def Dev.partner (d : Dev) (c n : Nat) : Option (Nat × Nat) :=
  match d.overlapAt c n with
  | none => none
  | some (l, _, o) => if d.bit (HC_OVL l) HC_OVL.MODE then none else (d.nozzleAt o (d.dotOf c n)).map (fun k => (o, k))

/-- A nozzle with HANDOVER under the states given (R265). -/
def Dev.handsOver (d : Dev) (st : Nat → Nat → Nat) (c n : Nat) : Bool :=
  3 ≤ st c n && d.bit FIR_NH_CFG FIR_NH_CFG.REDIST && d.ownsDot c n == some true &&
    (match d.partner c n with
      | none => false
      | some (o, k) => st o k ≤ 2)

/-- The action of a nozzle under the states given (R265). -/
def Dev.actionFor (d : Dev) (st : Nat → Nat → Nat) (c n : Nat) : Nat :=
  if 3 ≤ st c n then
    if !d.bit FIR_NH_CFG FIR_NH_CFG.REDIST then 5 else if d.handsOver st c n then 3 else 2
  else
    match d.partner c n with
    | some (o, k) =>
      if d.handsOver st o k then 4
      else if st c n = 2 && !d.bit FIR_NH_CFG FIR_NH_CFG.WEAK_ACT then 1 else 0
    | none => if st c n = 2 && !d.bit FIR_NH_CFG FIR_NH_CFG.WEAK_ACT then 1 else 0

/-! ## Applying a map to a line (R48, R267, R268) -/

/-- A nozzle is forced blank by SPLIT forcing, TAKEOVER exempt (R267, step 1). -/
def Dev.forced (d : Dev) (act : Nat → Nat) (c n : Nat) : Bool := act n ≠ 4 && d.ownsDot c n == some false

/-- The spread distance of the map in force on a channel, or of the update in flight (R268, R278). -/
def Dev.reachOf (d : Dev) (next : Bool) (c : Nat) : Nat :=
  match next, d.nh.flight with
  | true, some u => u.reach
  | _, _ => tget (fun _ => 2) d.nh.reach c

/-- The candidates of SPREAD for a nozzle, in order (R268): nozzles with NONE or BOOST, which are usable (R265). -/
def Dev.spreadTo (d : Dev) (act : Nat → Nat) (reach c n line : Nat) : List Nat :=
  let at_ (i : Nat) : List Nat :=
    let lo : List Nat := if i ≤ n then [n - i] else []
    if line % 2 = 0 then lo ++ [n + i] else (n + i) :: lo
  (((List.range reach).map (fun i => at_ (i + 1))).flatten).filter (fun k =>
    decide (k < d.nozzles c) && act k ≤ 1 && !d.forced act c k)

/-- Spread a value over the candidates; the values left, and the grey levels lost (R268). -/
def spreadValue (b : Nat) : List Nat → Nat → Array Nat → Array Nat × Nat
  | [], v, vals => (vals, v)
  | k :: t, v, vals =>
    let w := vals.getD k 0
    let g := min v (2 ^ b - 1 - w)
    spreadValue b t (v - g) (vals.setIfInBounds k (w + g))

/-- Masking of the nozzles in ascending order (R267, step 3). -/
def Dev.maskNozzles (d : Dev) (act : Nat → Nat) (reach c b line : Nat) : List Nat → Array Nat × Nat → Array Nat × Nat
  | [], r => r
  | n :: t, (vals, lost) =>
    let a := act n
    if a = 2 then
      let v := vals.getD n 0
      let (vals, rest) := spreadValue b (d.spreadTo act reach c n line) v (vals.setIfInBounds n 0)
      d.maskNozzles act reach c b line t (vals, lost + rest)
    else if a = 3 || a = 5 then d.maskNozzles act reach c b line t (vals.setIfInBounds n 0, lost)
    else d.maskNozzles act reach c b line t (vals, lost)

/-- The values of a line after SPLIT forcing and the patch map, and the grey levels lost (R267). -/
def Dev.patchLine (d : Dev) (next : Bool) (c b line : Nat) (vals : List Nat) : List Nat × Nat :=
  let act := d.action next c
  let v1 := (vals.zipIdx).map (fun (p : Nat × Nat) => if d.forced act c p.2 then 0 else p.1)
  let v2 := (v1.zipIdx).map (fun (p : Nat × Nat) => if act p.2 = 1 && p.1 ≠ 0 then min (p.1 + 1) (2 ^ b - 1) else p.1)
  let (v3, lost) := d.maskNozzles act (d.reachOf next c) c b line (List.range (d.nozzles c)) (v2.toArray, 0)
  (v3.toList, lost)

end Sys2Proof.Machine
end

