-- ==== Sys2Proof/Machine/Raster.lean ====
section
/-! DEFINITION. The raster flow (spec/07_raster_flow.md): the page store's extents, segments, check blocks and engines,
release, voids and re-requests. Jobs and their commands are in Firing.lean, which builds on this. -/

namespace Sys2Proof.Machine

/-! ## The page store's regions (R181, R183, R186) -/

/-- The expected-image region: 512 MiB when the geometry declares a camera. -/
def Dev.expRegion (d : Dev) : Nat := if d.stations.any (fun x => x.kind == 0) then 2 ^ 29 else 0

/-- The first address of the raster region. -/
def Dev.rasterBase (d : Dev) : Nat := 2 ^ 30 + d.expRegion

/-- The extents of the raster region. -/
def Dev.extTotal (d : Dev) : Nat := (d.storeCap - d.rasterBase) / 4096

/-- The extents in use. -/
def Dev.extUsed (d : Dev) : List Nat := d.ras.segs.flatMap (·.ext)

/-- The free extents. -/
def Dev.extFree (d : Dev) : Nat := d.extTotal - d.extUsed.length

/-- The free entries of the segment table. -/
def Dev.segFree (d : Dev) : Nat := 32768 - d.ras.segs.length

/-- The first `k` free extents from `i` on (which free extents are taken is the model's choice). -/
def freeFrom (used : List Nat) (total : Nat) : Nat → Nat → Nat → List Nat
  | 0, _, _ => []
  | fuel + 1, i, k =>
    if k = 0 || total ≤ i then []
    else if used.contains i then freeFrom used total fuel (i + 1) k
    else i :: freeFrom used total fuel (i + 1) (k - 1)

/-- A number kept by virtual channel. -/
def vcGet (t : List (Nat × Nat)) (v : Nat) : Nat := tget (fun _ => 0) t v

/-- Set it. -/
def vcPut (t : List (Nat × Nat)) (v x : Nat) : List (Nat × Nat) := tput (fun _ => 0) t v x

/-- Granted but unreceived units of VC1 (R183). -/
def Dev.vc1Out (d : Dev) : Nat := vcGet d.teth.grant 1 - vcGet d.teth.recv 1

/-- The most units of VC1 that may be granted and unreceived (R183). -/
def Dev.vc1Room (d : Dev) : Nat :=
  if d.segFree < 128 then 0 else min ((d.extFree * 4096 - 8388608) / 256) (d.rdN CMP_VC1_MAX % 2 ^ 24)

/-- CREDIT_HELD: the LIMIT may not advance by one unit (R183). -/
def Dev.creditHeld (d : Dev) : Bool := decide (d.vc1Room ≤ d.vc1Out)

/-! ## Segments in the page store (R175, R176, R181) -/

/-- The bytes of a segment from an offset, across its extents, and whether one of them is uncorrectable (R211). -/
def segRead (d : Dev) (m : Store) (ext : List Nat) : Nat → Nat → Nat → List Byte × Bool
  | 0, _, _ => ([], false)
  | fuel + 1, off, n =>
    if n = 0 then ([], false)
    else
      let k := min n (4096 - off % 4096)
      let (a, ua) := storeRead d m (d.rasterBase + ext.getD (off / 4096) 0 * 4096 + off % 4096) k
      let (b, ub) := segRead d m ext fuel (off + k) (n - k)
      (a ++ b, ua || ub)

/-- Write bytes of a segment from an offset, across its extents. -/
def segPut (d : Dev) (ext : List Nat) : Nat → Nat → List Byte → Store → Store
  | 0, _, _, m => m
  | fuel + 1, off, bs, m =>
    match bs with
    | [] => m
    | _ =>
      let k := min bs.length (4096 - off % 4096)
      segPut d ext fuel (off + k) (bs.drop k)
        (storePut m (d.rasterBase + ext.getD (off / 4096) 0 * 4096 + off % 4096) (bs.take k))

/-- Bytes `off` to `off + n - 1` of a segment. -/
def Seg.read (g : Seg) (d : Dev) (m : Store) (off n : Nat) : List Byte × Bool := segRead d m g.ext (n / 4096 + 2) off n

/-- A header's fields (R175). -/
def parseHdr (bs : List Byte) : SegHdr :=
  let f := leField bs 5 1
  { job := leField bs 0 4, chan := leField bs 4 1, method := f % 4, bits := f / 4 % 4 + 1, noz := leField bs 6 2
    first := leField bs 8 5, lines := leField bs 14 2, clen := leField bs 16 4 }

/-- The check blocks of a segment. -/
def SegHdr.blocks (h : SegHdr) : Nat := (h.lines + 63) / 64

/-- The lines of block `j` of a segment. -/
def SegHdr.blkLines (h : SegHdr) (j : Nat) : Nat := min 64 (h.lines - 64 * j)

/-- The keys of a segment's check blocks. -/
def SegHdr.keys (h : SegHdr) : List Nat := (List.range h.blocks).map (fun j => blkKey h.job (h.first / 64 + j))

/-- The total length of a segment (R175). -/
def SegHdr.total (h : SegHdr) : Nat := 32 + h.clen + 8 * h.blocks

/-- Change a segment. -/
def Dev.modSeg (d : Dev) (id : Nat) (f : Seg → Seg) : Dev :=
  { d with ras := { d.ras with segs := d.ras.segs.map (fun g => if g.id = id then f g else g) } }

/-- A segment by the model's number. -/
def Dev.segOf (d : Dev) (id : Nat) : Option Seg := d.ras.segs.find? (fun g => g.id == id)

/-- The space of a segment is freed: it goes when its LAST frame has come, and is discarded until then (R179, R185). -/
def Dev.dropSeg (d : Dev) (id : Nat) : Dev :=
  match d.segOf id with
  | none => d
  | some g =>
    if g.closed then { d with ras := { d.ras with segs := d.ras.segs.filter (fun g => g.id != id) } }
    else d.modSeg id (fun g => { g with ext := [], ready := false, drop := true })

/-- A segment is freed when every block it supplies has been released or voided (R185). -/
def Dev.reap (d : Dev) : Dev :=
  let done (g : Seg) : Bool :=
    match g.hdr with
    | none => false
    | some h => g.ready && h.keys.all (fun k =>
        let b := d.blk h.chan k
        b.src != g.id || b.st == .released || b.st == .voided)
  { d with ras := { d.ras with segs := d.ras.segs.filter (fun g => !done g) } }

/-! ## First use and slack (R190, R193) -/

/-- The channel line of a job line's first use in a pass (R190). -/
def Dev.firstUseIn (d : Dev) (c l : Nat) (rev : Bool) : Nat := if rev then l % 1048576 + d.maxOff c else l % 1048576

/-- The pass of a job line, active or armed (R193). -/
def Dev.passFor (d : Dev) (l : Nat) : Option Pass :=
  match d.fir.active, d.fir.armed with
  | some p, _ => if p.pass = l / 1048576 then some p else
    match d.fir.armed with
    | some q => if q.pass = l / 1048576 then some q else none
    | none => none
  | none, some q => if q.pass = l / 1048576 then some q else none
  | none, none => none

/-- The distance in sub-lines from P to a job line's first use; none while it is not known (R193). -/
def Dev.useDist (d : Dev) (c l : Nat) : Option Int :=
  if d.scan then
    (d.passFor l).map (fun p =>
      let t := d.passTarget c (d.firstUseIn c l p.rev) p
      if p.rev then d.P - t else t - d.P)
  else if d.jobRunning then some (d.fir.s + 256 * (l : Int) + d.delayFor c l - d.P)
  else none

/-- v', in 2^-16 line per second: |v|, or PAC_VMIN when lower (R193). -/
def Dev.speed (d : Dev) : Nat := max d.pac.v.natAbs (d.rdN PAC_VMIN * 65536)

/-- The time to a job line's first use in 2^-16 ns; none while it is unbounded (R193). -/
def Dev.useTime (d : Dev) (c l : Nat) : Option Int :=
  if d.speed = 0 then none else (d.useDist c l).map (fun x => x * (2 ^ 24 * 1000000000) / (d.speed : Int))

/-- A job line's first use has been disposed of (R179, R190). -/
def Dev.usedUp (d : Dev) (c l : Nat) : Bool :=
  if d.scan then
    let p := l / 1048576
    match d.fir.lastPass with
    | none => false
    | some q =>
      if p < q then true
      else if q < p then false
      else
        match d.pending c with
        | none => true
        | some m => if d.reverse then m < d.firstUseIn c l true else d.firstUseIn c l false < m
  else
    match d.pending c with
    | some m => l < m
    | none =>
      match (d.hc c).m, d.lineRange c with
      | some m, some (_, hi) => d.firingOn && hi < m && l < m
      | _, _ => false

/-! ## Lines of a channel (R187 to R195) -/

/-- A released line of a channel. -/
def Dev.lineOf (d : Dev) (c l : Nat) : Option LineBuf := (d.hc c).lines.find? (fun x => x.line == l)

/-- The key of a job line's check block for the head job. -/
def Dev.keyOf (d : Dev) (l : Nat) : Nat :=
  match d.headJob with
  | some j => blkKey j.id (l / 64)
  | none => l / 64

/-- A line is voided: on its own, or with its block (R195, R196). -/
def Dev.lineVoided (d : Dev) (c l : Nat) : Bool := (d.hc c).voids.contains l || (d.blk c (d.keyOf l)).st == .voided

/-- The cause of a void of a line not released at its first use (R195): the lines of its block that the segment does not hold
have none. -/
def Dev.lateCause (d : Dev) (c l : Nat) : Nat :=
  let b := d.blk c (d.keyOf l)
  if b.lines ≤ l % 64 then 1
  else match b.st with
  | .none_ => 1
  | .held | .engine | .released => 3
  | .missing | .voided | .awaiting _ => b.cause

/-- A void joins the open run of its cause where it is consecutive, or starts a new run (R199). -/
def Dev.joinRun (d : Dev) (c l cause : Nat) : Dev :=
  let fresh (d : Dev) : Dev := d.modHc c (fun x => { x with run := some ⟨l, 1, cause, d.now, (d.headJob.map (·.id)).getD 0⟩ })
  match (d.hc c).run with
  | none => fresh d
  | some r =>
    if r.cause = cause && r.count < 65535 && l = r.first + r.count then
      d.modHc c (fun x => { x with run := some { r with count := r.count + 1 } })
    else if r.cause = cause && r.count < 65535 && l + 1 = r.first then
      d.modHc c (fun x => { x with run := some { r with first := l, count := r.count + 1 } })
    else fresh (d.endRun c)

/-- Every engine in service is busy (R201). -/
def Dev.eng (d : Dev) (e : Nat) : Eng := tget (fun _ => {}) d.ras.eng e

/-- Replace an engine. -/
def Dev.setEng (d : Dev) (e : Nat) (x : Eng) : Dev := { d with ras := { d.ras with eng := tput (fun _ => {}) d.ras.eng e x } }

/-- Engines in service. -/
def Dev.engines (d : Dev) : List Nat := (List.range 16).filter (fun e => !(d.eng e).retired)

/-- No engine in service is idle. -/
def Dev.poolBusy (d : Dev) : Bool := d.engines.all (fun e => (d.eng e).work != .idle)

/-- A line of a channel is voided (R195, R199, R201); the pause of R200 follows. -/
def Dev.voidLine (d : Dev) (c l cause : Nat) : Dev :=
  let d := d.modHc c (fun x => { x with
    voids := if x.voids.contains l then x.voids else l :: x.voids
    lines := x.lines.filter (fun y => y.line != l)
    voidN := x.voidN + 1 })
  let d := d.count (HC_RFL_VOID_CNT c) whole 1
  let d := d.when (cause == 3 && d.poolBusy) (·.flag CMP_RFL_EVT CMP_RFL_EVT.POOL_SHORT)
  d.joinRun c l cause

/-- More consecutive voids than VOID_PAUSE stop the job (R200). -/
def Dev.voidPause (d : Dev) (c : Nat) : Dev :=
  let lim := d.get CMP_RFL_CFG CMP_RFL_CFG.VOID_PAUSE
  if lim ≠ 0 && lim < (d.hc c).voidN && d.jobRunning then
    ((d.jobStop 1).flag CMP_RFL_EVT CMP_RFL_EVT.PAUSED).flag (HC_RFL_EVT c) HC_RFL_EVT.RUNPAUSE
  else d

/-- A void run is reported: the oldest that has ended, or the open one 1 ms after its first line (R199). -/
def voidRunReport (c : Nat) (d : Dev) : Dev :=
  let report (r : VoidRun) (d : Dev) : Dev :=
    let d := d.sendFrame 0 3 (jobBody 0x84 r.cause c 0 r.job r.first r.count 0)
    let d := d.wrN (HC_RFL_VOID_LAST_LO c) (r.first % 2 ^ 32)
    let d := d.wrN (HC_RFL_VOID_LAST_HI c) (r.first / 2 ^ 32 % 256 + 256 * r.cause + 65536 * min 65535 r.count)
    let d := (d.flag (HC_RFL_EVT c) HC_RFL_EVT.VOID).flag CMP_RFL_EVT CMP_RFL_EVT.VOID
    d.notify 0x0002 [BitVec.ofNat 32 (c + 256 * r.cause), BitVec.ofNat 32 r.first, BitVec.ofNat 32 (r.first / 2 ^ 32),
      BitVec.ofNat 32 r.count]
  match (d.hc c).ended, (d.hc c).run with
  | r :: t, _ => report r (d.modHc c (fun x => { x with ended := t }))
  | [], some r => if r.at_ + msTicks 1 ≤ d.now then report r (d.modHc c (fun x => { x with run := none })) else d
  | [], none => d

/-! ## Failed blocks (R196) -/

/-- The channel of a job whose block key is given. -/
def keyLine (key : Nat) : Nat := key % 2 ^ 34 * 64

/-- A block is voided as a whole. -/
def Dev.voidBlk (d : Dev) (c key : Nat) : Dev :=
  (d.modBlk c key (fun b => { b with st := .voided })).reap

/-- A block that cannot be used is re-requested or voided (R196, step 1 and 3): its cause and the reason of the REREQ. -/
def Dev.requestOrVoid (d : Dev) (c key cause reason : Nat) : Dev :=
  let d := d.modBlk c key (fun b => { b with cause := cause })
  let b := d.blk c key
  let l := keyLine key
  let inTime := match d.useTime c l with
    | none => true
    | some t => decide ((d.get CMP_REREQ_CFG CMP_REREQ_CFG.MIN_SLACK : Int) * (65536 * 1000) ≤ t)
  if d.tethVer = 3 && d.bit CMP_RFL_CFG CMP_RFL_CFG.REREQ_EN && b.tries < d.get CMP_RFL_CFG CMP_RFL_CFG.REREQ_TRIES && inTime then
    let id := d.ras.reqNext % 65536
    let d := d.sendFrame 0 4 (leBytes 2 id ++ leBytes 1 c ++ leBytes 1 reason ++ leBytes 4 (key / 2 ^ 34) ++ leBytes 5 l ++
      leBytes 1 0 ++ leBytes 2 b.lines)
    let d := { d with ras := { d.ras with reqNext := id + 1, reqs := d.ras.reqs ++ [(id, c, key)] } }
    let d := (d.count CMP_REREQ_CNT CMP_REREQ_CNT.REREQ 1).flag CMP_RFL_EVT CMP_RFL_EVT.REREQ
    d.modBlk c key (fun b => { b with st := .awaiting id, tries := b.tries + 1, checked := false })
  else d.voidBlk c key

/-- A REREQ_NO: counted, and the block it names is voided (R196). -/
def rereqNo (reqId : Nat) (d : Dev) : Dev :=
  let d := (d.count CMP_REREQ_CNT CMP_REREQ_CNT.REREQ_NO 1).flag CMP_RFL_EVT CMP_RFL_EVT.REREQ_NO
  match d.ras.reqs.find? (fun r => r.1 == reqId) with
  | none => d
  | some (id, c, key) =>
    let d := { d with ras := { d.ras with reqs := d.ras.reqs.filter (fun r => r.1 != reqId) } }
    if (d.blk c key).st == .awaiting id then d.voidBlk c key else d

/-- The lines of a segment that is rejected or abandoned: no other segment supplies them (R179), or each block is requested
again (R159, R184, code 11). -/
def Dev.loseSeg (d : Dev) (g : Seg) (request : Bool) (cause reason : Nat) : Dev :=
  match g.hdr with
  | none => d
  | some h =>
    if (d.jobOf h.job).isNone then d
    else
      (List.range h.blocks).foldl (fun d j =>
        let key := blkKey h.job (h.first / 64 + j)
        let b := d.blk h.chan key
        if b.st == .none_ || (b.src = g.id && (b.st == .held || b.st == .missing || b.st == .engine)) then
          let d := d.modBlk h.chan key (fun b => { b with st := .missing, cause := cause, lines := h.blkLines j })
          if request then d.requestOrVoid h.chan key cause reason else d
        else d) d

/-- A segment is rejected (R179): CMP_SEGREJ, SEG_REJ, its space freed. -/
def Dev.rejectSeg (d : Dev) (id code : Nat) : Dev :=
  let d := d.count CMP_SEGREJ ⟨16, 16⟩ 1
  let d := (d.put CMP_SEGREJ ⟨0, 8⟩ code).flag CMP_RFL_EVT CMP_RFL_EVT.SEG_REJ
  match d.segOf id with
  | none => d
  | some g =>
    let d := if code = 1 || code = 2 || code = 3 || code = 9 then d else d.loseSeg g (code == 11) 5 2
    d.dropSeg id

/-- A segment is abandoned (R159, R184): its lines are treated as never received and requested again with reason 2. -/
def Dev.abandonSeg (d : Dev) (id : Nat) : Dev :=
  match d.segOf id with
  | none => d
  | some g => (d.loseSeg g true 5 2).dropSeg id

/-! ## Checks of a segment (R177, R179, R180) -/

/-- The lines of two segments of one channel meet. -/
def SegHdr.meets (a b : SegHdr) : Bool :=
  a.job == b.job && a.chan == b.chan && decide (a.first < b.first + b.lines) && decide (b.first < a.first + a.lines)

/-- Lines of a segment are held or received already, from another segment or in the line buffer (R179, code 9). -/
def Dev.overlapsHeld (d : Dev) (g : Seg) (h : SegHdr) : Bool :=
  d.ras.segs.any (fun o => o.id != g.id && !o.drop && (match o.hdr with
    | some k => k.meets h
    | none => false)) ||
    h.keys.any (fun k =>
      let b := d.blk h.chan k
      b.st == .released || b.st == .voided || b.st == .engine || b.st == .held)

/-- FIRST_LINE, LINES and the pass obey R177, as far as the segment itself shows in scan mode (R179, code 7). -/
def Dev.linesOk (d : Dev) (h : SegHdr) (last : Nat) : Bool :=
  let e := h.first + h.lines - 1
  h.first % 64 == 0 && 1 ≤ h.lines && h.lines ≤ 4096 &&
    (if d.scan then h.first / 1048576 == e / 1048576
     else h.lines % 64 == 0 || e == last) && decide (e ≤ last)

/-- The lowest header check that fails, 0 when none (R179). -/
def Dev.headerCode (d : Dev) (g : Seg) (bs : List Byte) : Nat :=
  let h := parseHdr bs
  if crc32c (bs.take 28) ≠ leField bs 28 4 then 1
  else if leField bs 13 1 ≠ 1 || leField bs 20 8 ≠ 0 || leField bs 5 1 / 16 ≠ 0 then 2
  else
    match d.jobOf h.job with
    | none => 3
    | some j =>
      if !j.mask.testBit h.chan || 64 ≤ h.chan then 4
      else if h.noz ≠ d.nozzles h.chan || h.bits ≠ j.bits then 5
      else if h.method = 3 || (h.method = 1 && d.tethVer < 3) then 6
      else if !d.linesOk h j.last then 7
      else if !g.resend && d.overlapsHeld g h then 9
      else if d.headJob.map (·.id) = some h.job && (List.range h.lines).all (fun i => d.usedUp h.chan (h.first + i)) then 10
      else 0

/-- The trailer of a segment: (BCRC, BLEN) of each block (R175). -/
def Seg.trailer (g : Seg) (d : Dev) (m : Store) (h : SegHdr) : List (Nat × Nat) :=
  let bs := (g.read d m (32 + h.clen) (8 * h.blocks)).1
  (List.range h.blocks).map (fun j => (leField bs (8 * j) 4, leField bs (8 * j + 4) 4))

/-- The raw size of a block. -/
def SegHdr.rawSize (h : SegHdr) (j : Nat) : Nat := h.blkLines j * lineBytes h.noz h.bits

/-- In scan mode, a short last block must end at FIR_PASS_LAST of its pass (R179, code 7). -/
def SegHdr.passOk (h : SegHdr) (p : Pass) : Bool :=
  h.first / 1048576 != p.pass || h.lines % 64 == 0 || (h.first + h.lines - 1) % 1048576 == p.last

/-- The lowest length check that fails, 0 when none (R179). -/
def Dev.lengthCode (d : Dev) (m : Store) (g : Seg) (h : SegHdr) : Nat :=
  let passBad := d.scan && (match d.passFor h.first with
    | some p => !h.passOk p
    | none => false)
  if passBad then 7
  else if g.len ≠ h.total then 8
  else
    let t := g.trailer d m h
    let bad (p : (Nat × Nat) × Nat) : Bool :=
      let raw := h.rawSize p.2
      (h.method == 0 && p.1.2 != raw) || decide (raw + 64 < p.1.2)
    if (t.map (·.2)).sum ≠ h.clen || (t.zipIdx).any bad then 8 else 0

/-- A segment that passes becomes eligible; a resent one supplies only the blocks re-requested and not yet voided (R180). -/
def Dev.commitSeg (d : Dev) (g : Seg) (h : SegHdr) : Dev :=
  let d := d.modSeg g.id (fun g => { g with ready := true })
  let d := (List.range h.blocks).foldl (fun d j =>
    let key := blkKey h.job (h.first / 64 + j)
    let b := d.blk h.chan key
    let take := match b.st with
      | .awaiting _ => true
      | .none_ | .missing => !g.resend
      | _ => false
    if take then
      let d := match b.st with
        | .awaiting id => { d with ras := { d.ras with reqs := d.ras.reqs.filter (fun r => r.1 != id) } }
        | _ => d
      d.modBlk h.chan key (fun b => { b with st := .held, src := g.id, lines := h.blkLines j, checked := false })
    else d) d
  d.reap

/-- Segments whose pass is armed are checked again (R179). -/
def Dev.checkPassSegs (d : Dev) (p : Pass) : Dev :=
  d.ras.segs.foldl (fun d g =>
    match g.hdr with
    | some h => if g.ready && !h.passOk p then d.rejectSeg g.id 7 else d
    | none => d) d

/-- A protocol error (R159): its code and count, and PROTO. -/
def Dev.protoErr (d : Dev) (code : Nat) : Dev :=
  ((d.count TTH_PROTO ⟨16, 16⟩ 1).put TTH_PROTO ⟨0, 8⟩ code).flag TTH_EVT TTH_EVT.PROTO

/-- The open segment with a TAG (R158). -/
def Dev.openSeg (d : Dev) (tag : Nat) : Option Seg := d.ras.segs.find? (fun g => g.tag == tag && !g.closed)

/-- The LAST frame of a segment has committed (R179). -/
def closeSeg (s : State) (id : Nat) : State :=
  let d := s.dev.modSeg id (fun g => { g with closed := true, keptAt := none })
  match d.segOf id with
  | none => { s with dev := d }
  | some g =>
    if g.drop then { s with dev := d.dropSeg id }
    else
      match g.hdr with
      | none => { s with dev := d.dropSeg id }
      | some h =>
        let code := d.lengthCode s.mem g h
        if code ≠ 0 then { s with dev := d.rejectSeg id code } else { s with dev := d.commitSeg g h }

/-- The payload of an accepted frame is stored; the header is checked once its 32 bytes are there (R179, R182, R183). -/
def storeFrame (s : State) (id : Nat) (bs : List Byte) : State :=
  match s.dev.segOf id with
  | none => s
  | some g =>
    let need := (g.len + bs.length + 4095) / 4096 - g.ext.length
    if s.dev.extFree < need then s.onDev (·.rejectSeg id 11)
    else
      let used := s.dev.extUsed
      let ext := g.ext ++ freeFrom used s.dev.extTotal (used.length + need + 1) 0 need
      let mem := segPut s.dev ext (bs.length / 4096 + 2) g.len bs s.mem
      let d := s.dev.modSeg id (fun g => { g with ext := ext, len := g.len + bs.length })
      let s := { s with mem := mem, dev := d }
      if g.hdr.isSome || g.len + bs.length < 32 then s
      else
        match s.dev.segOf id with
        | none => s
        | some g =>
          let hb := (g.read s.dev s.mem 0 32).1
          let code := s.dev.headerCode g hb
          let h := parseHdr hb
          let d := if code = 1 || code = 2 || code = 3 then s.dev else s.dev.modSeg id (fun g => { g with hdr := some h })
          { s with dev := if code ≠ 0 then d.rejectSeg id code else d }

/-- A SEGMENT frame is delivered (R158, R159, R182): FLAGS FIRST, LAST and RESEND, TAG, OFFSET, payload. -/
def segmentFrame (first last resend : Bool) (tag off : Nat) (bs : List Byte) (s : State) : State :=
  let d := s.dev
  if !d.islUp 2 then s
  else
  match d.openSeg tag with
  | some g =>
    if g.drop then
      (if last then s.onDev (fun d => (d.modSeg g.id (fun g => { g with closed := true })).dropSeg g.id) else s)
    else if first then s.onDev (fun d => (d.protoErr (if off = 0 then 8 else 6)).abandonSeg g.id)
    else
      let skip := g.len - off
      if off = g.len || (g.keptAt.isSome && off ≤ g.len) then
        let s := s.onDev (·.modSeg g.id (fun g => { g with keptAt := none }))
        let s := storeFrame s g.id (bs.drop skip)
        if last then closeSeg s g.id else s
      else
        let s := s.onDev (fun d => (d.protoErr 6).abandonSeg g.id)
        if last then s.onDev (fun d => (d.modSeg g.id (fun g => { g with closed := true })).dropSeg g.id) else s
  | none =>
    if !first || off ≠ 0 || bs.length < 32 then s.onDev (·.protoErr 6)
    else if 128 ≤ (d.ras.segs.filter (fun g => !g.closed)).length then s.onDev (·.protoErr 7)
    else
      let id := d.ras.segNext + 1
      let g : Seg := { id := id, tag := tag, resend := resend, len := 0, closed := false, ext := [], hdr := none
                       ready := false, drop := false, keptAt := none }
      let s := s.onDev (fun d => { d with ras := { d.ras with segNext := id, segs := d.ras.segs ++ [g] } })
      let s := storeFrame s id bs
      if last then closeSeg s id else s

/-- An open segment kept across a link-down is abandoned CMP_OPEN_KEEP ms after the next link-up (R184). -/
def openLost (tag : Nat) (d : Dev) : Dev :=
  match d.openSeg tag with
  | none => d
  | some g =>
    if g.keptAt.isSome && d.tethUp && decide (d.teth.upAt + msTicks (d.rdN CMP_OPEN_KEEP % 65536) ≤ d.now) then
      let d := (d.flag CMP_RFL_EVT CMP_RFL_EVT.OPEN_LOST).abandonSeg g.id
      { d with ras := { d.ras with segs := d.ras.segs.filter (fun x => x.id != g.id) } }
    else d

/-! ## Decoding (R187 to R194, R244, R245) -/

/-- The result of an engine's work on a block: its raw bytes, or the named error and the byte offset (R244, R245). -/
structure BlkOut where
  out : List Byte
  err : Option DecErr
  off : Nat
  deriving DecidableEq, Repr

/-- An engine decodes a block from its segment (R176, R187, R244). -/
def decodeBlk (d : Dev) (m : Store) (g : Seg) (h : SegHdr) (j : Nat) : BlkOut :=
  let t := g.trailer d m h
  let start := 32 + ((t.take j).map (·.2)).sum
  let (bcrc, blen) := t.getD j (0, 0)
  let (coded, ue) := g.read d m start blen
  let raw := h.rawSize j
  if ue then ⟨[], some .inputUe, 0⟩
  else
    let r : DecOut :=
      if h.method = 0 then ⟨coded.toArray, none, 8 * coded.length⟩
      else if h.method = 1 then spoolDecode coded raw (lineBytes h.noz h.bits)
      else inflateDecode coded raw
    match r.err with
    | some e => ⟨r.out.toList, some e, r.pos / 8⟩
    | none =>
      if crc32c r.out.toList = bcrc then ⟨r.out.toList, none, r.pos / 8⟩ else ⟨r.out.toList, some .crc, r.pos / 8⟩

/-- The lines of the lead area that are occupied (R191). -/
def Dev.leadUsed (d : Dev) (c : Nat) : Nat :=
  ((d.hc c).lines.filter (fun x => !d.usedUp c x.line)).length +
    (d.engines.map (fun e => match (d.eng e).work with
      | .decode c' k => if c' = c then (d.blk c k).lines else 0
      | _ => 0)).sum

/-- A channel has a block in an engine (HC_RFL_STS.DISPATCHED). -/
def Dev.inEngine (d : Dev) (c : Nat) : Bool :=
  d.engines.any (fun e => match (d.eng e).work with
    | .decode c' _ => c' == c
    | _ => false)

/-- The blocks of a channel in the order of first use, from the pending line on (R192). -/
def Dev.blkOrder (d : Dev) (c : Nat) (j : Job) : List Nat :=
  let span := d.leadCap c j.bits / 64 + 2
  if d.scan then
    match (if d.fir.active.isSome then d.fir.active else d.fir.armed) with
    | none => ((d.hc c).blks.filter (fun (b : Nat × Blk) => b.1 / 2 ^ 34 == j.id)).map (fun (b : Nat × Blk) => b.1 % 2 ^ 34)
    | some p =>
      let base := p.pass * 16384
      let hi := p.last / 64
      let lo := p.first / 64
      if p.rev then
        let top := match d.pending c with
          | some m => min hi ((m - d.maxOff c) / 64)
          | none => hi
        (List.range (min span (top + 1 - lo))).map (fun i => base + top - i)
      else
        let bot := match d.pending c with
          | some m => max lo (m / 64)
          | none => lo
        (List.range (min span (hi + 1 - bot))).map (fun i => base + bot + i)
  else
    let bot := match d.pending c with
      | some m => m / 64
      | none => j.resume.getD 0 / 64
    (List.range span).map (fun i => bot + i)

/-- The next block of a channel, where it is eligible for dispatch (R192). -/
def Dev.eligible (d : Dev) (c : Nat) : Option Nat :=
  match d.headJob with
  | none => none
  | some j =>
    let open_ (k : Nat) : Bool :=
      let b := d.blk c (blkKey j.id k)
      b.st != .released && b.st != .voided && b.st != .engine
    match (d.blkOrder c j).find? open_ with
    | none => none
    | some k =>
      let b := d.blk c (blkKey j.id k)
      let ready := match d.segOf b.src with
        | some g => g.ready
        | none => false
      if b.st == .held && ready && decide (d.leadUsed c + b.lines ≤ d.leadCap c j.bits) then some (blkKey j.id k) else none

/-- The nominal rate of a method in 2^-16 byte per cycle (R197). -/
def nominalRate (method : Nat) : Nat := if method = 2 then 65536 else 262144

/-- The mean rate of an engine in 2^-16 byte per cycle; the nominal rate before its first block (R197). -/
def Eng.rate (x : Eng) (method : Nat) : Nat :=
  if x.rates.isEmpty then nominalRate method else x.rates.sum / x.rates.length

/-- The free engines that may take raster work. -/
def Dev.freeEngines (d : Dev) : List Nat :=
  d.engines.filter (fun e => (d.eng e).work == .idle || (match (d.eng e).work with
    | .verify _ _ => true
    | _ => false))

/-- The fastest of some engines for a method, the lowest number among equals (the choice among equals is the model's). -/
def Dev.fastest (d : Dev) (method : Nat) : List Nat → Option Nat
  | [] => none
  | e :: t =>
    match d.fastest method t with
    | none => some e
    | some f => if (d.eng e).rate method < (d.eng f).rate method then some f else some e

/-- The method of a channel's block. -/
def Dev.blkMethod (d : Dev) (c key : Nat) : Nat :=
  match d.segOf (d.blk c key).src with
  | some g => (g.hdr.map (·.method)).getD 0
  | none => 0

/-- The first line of a block in the order of first use (R193). -/
def Dev.blkFirst (d : Dev) (c key : Nat) : Nat :=
  let l := keyLine key
  match d.passFor l with
  | some p => if d.scan && p.rev then l + (d.blk c key).lines - 1 else l
  | none => l

/-- The slack of an eligible block in 2^-16 ns; none when unbounded (R193). -/
def Dev.slack (d : Dev) (c key : Nat) : Option Int :=
  (d.useTime c (d.blkFirst c key)).map (fun t =>
    let bytes := (d.blk c key).lines * lineBytes (d.nozzles c) ((d.headJob.map (·.bits)).getD 1)
    let rate := match d.fastest (d.blkMethod c key) d.freeEngines with
      | some e => (d.eng e).rate (d.blkMethod c key)
      | none => 1
    t - (bytes * 5 * 2 ^ 32 / (4 * max 1 rate) : Nat))

/-- The eligible block with the least slack, the lower channel first among equals (R193). -/
def Dev.leastSlack (d : Dev) : List Nat → Option (Nat × Nat)
  | [] => none
  | c :: t =>
    match d.eligible c, d.leastSlack t with
    | none, r => r
    | some k, none => some (c, k)
    | some k, some (c', k') =>
      match d.slack c k, d.slack c' k' with
      | none, some _ => some (c', k')
      | some a, some b => if b < a then some (c', k') else some (c, k)
      | _, _ => some (c, k)

/-- BLOCK_DISPATCH (R192, R193): the least slack to the fastest free engine; advance verification gives way (R194). -/
def blockDispatch (d : Dev) : Dev :=
  match d.headJob with
  | none => d
  | some j =>
    match d.leastSlack j.chans with
    | none => d
    | some (c, key) =>
      match d.fastest (d.blkMethod c key) d.freeEngines with
      | none => d
      | some e =>
        let d := d.setEng e { d.eng e with work := .decode c key, since := d.now }
        d.modBlk c key (fun b => { b with st := .engine })

/-- An engine's rate is measured on a block: output bytes per cycle with input and output space (R197, R243).
GLB_CAP.DX_COUNT counts the engines in service. -/
def Dev.measure (d : Dev) (e method bytes cycles : Nat) : Dev :=
  let x := d.eng e
  let rates := (if cycles = 0 then x.rates else x.rates ++ [bytes * 65536 / cycles])
  let rates := rates.drop (rates.length - 16)
  let x := { x with work := .idle, rates := rates }
  let d := d.count (CMP_DX_BLKS e) whole 1
  if rates.length ≠ 0 && rates.sum / rates.length * 2 < nominalRate method then
    let d := d.setEng e { x with retired := true }
    (d.flag CMP_RFL_EVT CMP_RFL_EVT.RETIRED).flagBit CMP_DX_RETIRED e
  else d.setEng e x

/-- A named raster error (R245): CMP_DECERR, the block's first line and offset. -/
def Dev.decError (d : Dev) (e c key : Nat) (err : DecErr) (off : Nat) : Dev :=
  let d := d.count CMP_DECERR CMP_DECERR.COUNT 1
  let d := ((d.put CMP_DECERR CMP_DECERR.ENGINE e).put CMP_DECERR CMP_DECERR.CHANNEL c).put CMP_DECERR CMP_DECERR.CODE err.code
  let d := d.wrN CMP_DECERR_BLK_LO (keyLine key % 2 ^ 32)
  let d := d.wrN CMP_DECERR_BLK_HI (keyLine key / 2 ^ 32 % 256 + 256 * min off 16777215)
  d.count (HC_RFL_CHK_CNT c) ⟨0, 16⟩ 1

/-- The map of the update in flight applies to a line of a channel (R269). -/
def Dev.nextMap (d : Dev) (c l : Nat) : Bool :=
  match d.nh.flight with
  | some u => u.chans.contains c && (u.atOnce || (decide (u.leff ≤ l) && !d.awaiting 4 c))
  | none => false

/-- A verified line is released: row checks from the bytes as decoded, SPLIT forcing and the patch map, the checks updated
by difference (R187 to R190, R267). -/
def Dev.release (d : Dev) (c b l : Nat) (bs : List Byte) : Dev :=
  let vals := unpackLine (d.nozzles c) b bs
  let checks := d.rowChecks c b vals
  let (vals', lost) := d.patchLine (d.nextMap c l) c b l vals
  let checks' := d.updateChecks c b vals vals' checks
  let d := if lost = 0 then d else (d.count (HC_NH_LOST c) whole lost).flag FIR_NH_EVT FIR_NH_EVT.LOST
  d.modHc c (fun x => { x with
    lines := x.lines ++ [⟨l, vals', checks'⟩]
    rMax := some (match x.rMax with
      | some r => max r l
      | none => l) })

/-- A sound block is released: its lines that have not been voided meanwhile (R187, R190). -/
def Dev.releaseBlk (d : Dev) (c key b : Nat) (lines : Nat) (out : List Byte) : Dev :=
  let lb := lineBytes (d.nozzles c) b
  let d := d.modBlk c key (fun x => { x with st := .released })
  let d := (List.range lines).foldl (fun d i =>
    let l := keyLine key + i
    if (d.hc c).voids.contains l then d else d.release c b l ((out.drop (i * lb)).take lb)) d
  d.reap

/-- BLOCK_DECODE_DONE (R187, R196, R197, R245): the block an engine was given for firing ends. -/
def blockDecodeDone (e cycles : Nat) (s : State) : State :=
  match (s.dev.eng e).work with
  | .decode c key =>
    match s.dev.segOf (s.dev.blk c key).src with
    | none => s.onDev (fun d => d.setEng e { d.eng e with work := .idle })
    | some g =>
      match g.hdr with
      | none => s
      | some h =>
        let j := key % 2 ^ 34 - h.first / 64
        let r := decodeBlk s.dev s.mem g h j
        s.onDev (fun d =>
          let d := d.measure e h.method r.out.length cycles
          match r.err with
          | none => d.releaseBlk c key h.bits (h.blkLines j) r.out
          | some err =>
            let cause := if err = .inputUe then 4 else 2
            ((d.decError e c key err r.off).flag (HC_RFL_EVT c) HC_RFL_EVT.CHKFAIL).requestOrVoid c key cause 1)
  | _ => s

/-- The oldest committed block of the head job not yet checked (R194). -/
def Dev.oldestUnchecked (d : Dev) : Option (Nat × Nat) :=
  d.ras.segs.findSome? (fun g =>
    match g.hdr with
    | none => none
    | some h =>
      if !g.ready then none
      else
        (h.keys.find? (fun k =>
          let b := d.blk h.chan k
          b.src == g.id && b.st == .held && !b.checked &&
            !d.engines.any (fun e => (d.eng e).work == .verify h.chan k))).map (fun k => (h.chan, k)))

/-- ADVANCE_VERIFY (R194): an idle engine with no eligible block takes the oldest unchecked block. -/
def advanceVerify (e : Nat) (d : Dev) : Dev :=
  let any := match d.headJob with
    | some j => (d.leastSlack j.chans).isSome
    | none => false
  if any || !d.bit CMP_RFL_CFG CMP_RFL_CFG.AVERIFY_EN || (d.eng e).retired || (d.eng e).work != .idle then d
  else
    match d.oldestUnchecked with
    | none => d
    | some (c, k) => d.setEng e { d.eng e with work := .verify c k, since := d.now }

/-- ADVANCE_VERIFY_DONE (R194): the output is discarded, and a failure acts at once; the block is still checked again. -/
def advanceVerifyDone (e cycles : Nat) (s : State) : State :=
  match (s.dev.eng e).work with
  | .verify c key =>
    match s.dev.segOf (s.dev.blk c key).src with
    | none => s.onDev (fun d => d.setEng e { d.eng e with work := .idle })
    | some g =>
      match g.hdr with
      | none => s
      | some h =>
        let r := decodeBlk s.dev s.mem g h (key % 2 ^ 34 - h.first / 64)
        s.onDev (fun d =>
          let d := d.measure e h.method r.out.length cycles
          let d := d.modBlk c key (fun b => { b with checked := true })
          match r.err with
          | none => d.count CMP_AVERIFY_CNT ⟨0, 16⟩ 1
          | some err =>
            let d := (d.decError e c key err r.off).flag (HC_RFL_EVT c) HC_RFL_EVT.AVFAIL
            let d := (d.flag (HC_RFL_EVT c) HC_RFL_EVT.CHKFAIL).count CMP_AVERIFY_CNT ⟨16, 16⟩ 1
            d.requestOrVoid c key (if err = .inputUe then 4 else 2) 1)
  | _ => s

/-- ENGINE_ABANDON (R198): 20 µs of refused credit at a stretch abandon the block, which becomes eligible again. -/
def engineAbandon (e : Nat) (d : Dev) : Dev :=
  match (d.eng e).work with
  | .decode c key =>
    if (d.eng e).since + usTicks 20 ≤ d.now then
      let d := d.setEng e { d.eng e with work := .idle }
      (d.modBlk c key (fun b => { b with st := .held })).flag (HC_RFL_EVT c) HC_RFL_EVT.ABANDON
    else d
  | _ => d

/-- Everything of the page store is lost with a memory island: its blocks void or are requested with reason 3 (R25, R196). -/
def Dev.memoryLost (d : Dev) : Dev :=
  let lost := d.ras.segs.filter (fun g => !g.drop && !g.ext.isEmpty)
  lost.foldl (fun d g => (d.loseSeg g true 4 3).dropSeg g.id) d

/-- The voids and lines of a channel that no later channel line carries are forgotten; what the line buffer keeps (R42). -/
def Dev.forget (d : Dev) (c m : Nat) : Dev :=
  let keep (l : Nat) : Bool :=
    match d.fir.active with
    | none => m ≤ l + d.maxOff c
    | some p =>
      if l / 1048576 ≠ p.pass then p.pass < l / 1048576
      else if p.rev then l % 1048576 ≤ m else m ≤ l % 1048576 + d.maxOff c
  d.modHc c (fun x => { x with lines := x.lines.filter (fun y => keep y.line), voids := x.voids.filter keep })

/-! ## The meanings -/

/-- SEGMENT: an accepted SEGMENT frame (R182). -/
def execSegment (first last resend : Bool) (tag off : Nat) (bs : List Byte) (s : State) : Host.Outcome State Fault Refusal :=
  .next (segmentFrame first last resend tag off bs s)

/-- OPEN_LOST (R184). -/
def execOpenLost (tag dt : Nat) (s : State) : Host.Outcome State Fault Refusal := .next ((s.pass dt).onIsl 2 (openLost tag))

/-- BLOCK_DISPATCH (R193). -/
def execBlockDispatch (dt : Nat) (s : State) : Host.Outcome State Fault Refusal := .next ((s.pass dt).onIsl 2 blockDispatch)

/-- BLOCK_DECODE_DONE (R187): the cycles are those with input and output space (R197). -/
def execBlockDecodeDone (e : Fin 16) (cycles dt : Nat) (s : State) : Host.Outcome State Fault Refusal :=
  .next (if (s.pass dt).dev.islUp 2 then blockDecodeDone e.val cycles (s.pass dt) else s.pass dt)

/-- ADVANCE_VERIFY (R194). -/
def execAdvanceVerify (e : Fin 16) (dt : Nat) (s : State) : Host.Outcome State Fault Refusal :=
  .next ((s.pass dt).onIsl 2 (advanceVerify e.val))

/-- ADVANCE_VERIFY_DONE (R194). -/
def execAdvanceVerifyDone (e : Fin 16) (cycles dt : Nat) (s : State) : Host.Outcome State Fault Refusal :=
  .next (if (s.pass dt).dev.islUp 2 then advanceVerifyDone e.val cycles (s.pass dt) else s.pass dt)

/-- ENGINE_ABANDON (R198). -/
def execEngineAbandon (e : Fin 16) (dt : Nat) (s : State) : Host.Outcome State Fault Refusal :=
  .next ((s.pass dt).onIsl 2 (engineAbandon e.val))

/-- REREQ_NO (R196). -/
def execRereqNo (reqId : Nat) (s : State) : Host.Outcome State Fault Refusal := .next (s.onDev (rereqNo reqId))

/-- VOID_RUN_REPORT (R199). -/
def execVoidRunReport (c : Fin 64) (dt : Nat) (s : State) : Host.Outcome State Fault Refusal :=
  .next ((s.pass dt).onIsl 2 (voidRunReport c.val))

end Sys2Proof.Machine
end

