-- ==== Sys2Proof/Machine/Engines.lean ====
section
/-! DEFINITION. Object decodes and the compression engines CX0 and CX1 (spec/09_spool.md, R246 to R255). -/

namespace Sys2Proof.Machine

/-! ## Objects (R246 to R248, R255) -/

/-- CMP_OBJ_STS.RESULT: 0 IDLE, 1 WAITING, 2 BUSY, 3 DONE, 4 REJECTED, 5 CANCELLED (R254). -/
def Dev.objResult (d : Dev) : Nat := d.get CMP_OBJ_STS CMP_OBJ_STS.RESULT

/-- Set the result, and the bytes output so far. -/
def Dev.setObj (d : Dev) (r count : Nat) : Dev := d.wrN CMP_OBJ_STS (r + 16 * (count % 2 ^ 25))

/-- The engine that works on the object. -/
def Dev.objEngine (d : Dev) : Option Nat := d.engines.find? (fun e => (d.eng e).work == .object)

/-- The engine goes back to the pool. -/
def Dev.objFree (d : Dev) : Dev :=
  match d.objEngine with
  | some e => d.setEng e { d.eng e with work := .idle }
  | none => d

/-- The highest-numbered engine in service, unless it decodes a block for firing (R248); a verification gives way (R194). -/
def Dev.objPick (d : Dev) : Option Nat :=
  match d.engines.getLast? with
  | some e =>
    match (d.eng e).work with
    | .decode _ _ => none
    | _ => some e
  | none => none

/-- An object starts on its engine, or waits. -/
def Dev.objBegin (d : Dev) (may : Bool) : Dev :=
  match may, d.objPick with
  | true, some e => (d.setEng e { d.eng e with work := .object, since := d.now }).setObj 2 0
  | _, _ => d.setObj 1 0

/-- OBJ_START (R248): it waits while a job is RUNNING, unless RUN_OK. -/
def objStart (d : Dev) : Dev :=
  if d.objResult = 1 || d.objResult = 2 then d
  else d.objBegin (!d.jobRunning || d.bit CMP_OBJ_CFG CMP_OBJ_CFG.RUN_OK)

/-- OBJ_WAIT_END (R248): the next job gap, or with RUN_OK an engine that has become free. -/
def objWaitEnd (d : Dev) : Dev :=
  if d.objResult = 1 then d.objBegin (d.jobGap || d.bit CMP_OBJ_CFG CMP_OBJ_CFG.RUN_OK) else d

/-- OBJ_CANCEL (R248). -/
def objCancel (d : Dev) : Dev :=
  if d.objResult = 1 || d.objResult = 2 then d.objFree.put CMP_OBJ_STS CMP_OBJ_STS.RESULT 5 else d

/-- A write of CMP_OBJ_CMD; CANCEL acts before START (the model's order). -/
def objCmdWrite (v : Word) (d : Dev) : Dev := (d.when (v.bit 1) objCancel).when (v.bit 0) objStart

/-- Writes to CMP_OBJ_ from any port but the firmware are refused (R254). -/
def objOnly (q : Req) (f : Dev → Dev) (d : Dev) : Dev × Status := if q.port.val = 0 then (f d, .ok) else (d, .access)

/-- The other CMP_OBJ_ registers hold while an object is WAITING or BUSY (R255). -/
def objRegWrite (q : Req) (a : Nat) (v : Word) : Dev → Dev × Status :=
  objOnly q (fun d => if d.objResult = 1 || d.objResult = 2 then d else d.typedWrite a v)

/-- Bytes of which the spec says nothing, for every value of the counter. -/
def Dev.freshBytes (d : Dev) : Nat → List Byte × Dev
  | 0 => ([], d)
  | n + 1 =>
    let (v, d) := d.fresh
    let (t, d) := Dev.freshBytes d n
    (BitVec.ofNat 8 v :: t, d)

/-- The bytes before the first granule that reads uncorrectable, and whether there is one (R211, R244). -/
def readToBad (d : Dev) (m : Store) (x : Nat) : Nat → Nat → List Byte → List Byte × Bool
  | 0, _, acc => (acc, false)
  | fuel + 1, n, acc =>
    if n = 0 then (acc, false)
    else
      let k := min n (128 - x % 128)
      let (bs, ue) := storeRead d m x k
      if ue then (acc, true) else readToBad d m (x + k) fuel (n - k) (acc ++ bs)

/-- OBJ_DONE (R247): the object's engine ends; a rejected object leaves its destination undefined. -/
def objDone (s : State) : State :=
  let d := s.dev
  if d.objResult ≠ 2 || !d.islUp 2 then s
  else
    let n := d.get CMP_OBJ_SLEN ⟨0, 25⟩
    let src := d.rd64 CMP_OBJ_SRC_LO CMP_OBJ_SRC_HI
    let dst := d.rd64 CMP_OBJ_DST_LO CMP_OBJ_DST_HI
    let (bs, ue) := readToBad d s.mem src (n / 128 + 2) n []
    let r := objectDecode bs
    if r.done && !ue then
      { s with mem := storePut s.mem dst r.out, dev := d.objFree.setObj 3 r.count }
    else
      let (junk, d) := d.freshBytes r.count
      { s with mem := storePut s.mem dst junk, dev := d.objFree.setObj 4 r.count }

/-! ## CX0 and CX1 (R249 to R255) -/

/-- The hidden state of a compression engine. -/
def Dev.cxSt (d : Dev) (k : Nat) : CxSt := tget (fun _ => {}) d.cx k

/-- Replace it. -/
def Dev.setCx (d : Dev) (k : Nat) (x : CxSt) : Dev := { d with cx := tput (fun _ => {}) d.cx k x }

/-- CMP_CXk_STS.STATE: 0 IDLE, 1 BUSY, 2 DONE, 3 OVERFLOW, 4 ABORTED (R254). -/
def Dev.cxState (d : Dev) (k : Nat) : Nat := d.get (CMP_CX_STS k) CMP_CX_STS.STATE

/-- A refused write or command (R252, R255). -/
def Dev.cxReject (d : Dev) (k : Nat) : Dev := d.flag (CMP_CX_EVT k) CMP_CX_EVT.CMD_REJ

/-- The blocks of an input: whole without BLOCKED, else by BLOCK_LINES × LB bytes (R249). -/
def cutBlocks (n : Nat) : Nat → List Byte → List (List Byte)
  | 0, _ => []
  | fuel + 1, bs => if bs.length ≤ n then [bs] else bs.take n :: cutBlocks n fuel (bs.drop n)

/-- A deflate stream with its flushes: each ends its stretch and adds an empty stored block (R252). -/
def deflateStretch (cfg : Nat) (before inp : List Byte) (fin : Bool) : List Nat → List Byte
  | [] => if fin then Config.deflatePart cfg before inp true else []
  | p :: t =>
    let k := p - before.length
    Config.deflatePart cfg before (inp.take k) false ++ [0x00, 0x00, 0xFF, 0xFF] ++
      deflateStretch cfg (before ++ inp.take k) (inp.drop k) fin t

/-- One coded unit: a Spool block, or a deflate stream (R249 to R252). -/
def cxUnit (x : CxSt) (inp : List Byte) (fin : Bool) (stops : List Nat) : List Byte :=
  if x.cfg.fld CMP_CX_CFG.METHOD = 2 then deflateStretch x.cfg.toNat [] inp fin stops
  else if fin then spoolEncode inp (x.line.fld CMP_CX_LINE.LB) stops
  else if stops.isEmpty then [] else 1 :: spoolStream inp (x.line.fld CMP_CX_LINE.LB) false stops

/-- The coded units of a BLOCKED input; only the last may be still open. -/
def cxUnits (x : CxSt) (fin : Bool) (stops : List Nat) : Nat → List (List Byte) → List Byte
  | _, [] => []
  | at_, [b] => cxUnit x b fin ((stops.filter (fun p => at_ < p)).map (· - at_))
  | at_, b :: t =>
    cxUnit x b true ((stops.filter (fun p => at_ < p && p ≤ at_ + b.length)).map (· - at_)) ++
      cxUnits x fin stops (at_ + b.length) t

/-- The output of an engine for the input consumed: ended by FINISH, or up to its last flush (R249 to R252). -/
def cxOutput (x : CxSt) (inp : List Byte) (fin : Bool) : List Byte :=
  let size := x.line.fld CMP_CX_LINE.BLOCK_LINES * x.line.fld CMP_CX_LINE.LB
  if x.cfg.fld CMP_CX_CFG.BLOCKED = 1 && size ≠ 0 then cxUnits x fin x.flushes 0 (cutBlocks size (inp.length + 1) inp)
  else if x.cfg.fld CMP_CX_CFG.ZLIB = 1 && x.cfg.fld CMP_CX_CFG.METHOD = 2 && x.cfg.fld CMP_CX_CFG.BLOCKED = 0 then
    [0x78, 0x9C] ++ cxUnit x inp fin x.flushes ++ (if fin then beBytes 4 (adler32 inp) else [])
  else cxUnit x inp fin x.flushes

/-- The input of an engine: SLEN bytes of the page store, or the coding pane stream so far (R249). -/
def cxInput (x : CxSt) (s : State) : List Byte :=
  if x.cfg.fld CMP_CX_CFG.STREAM = 1 then x.stream else (storeRead s.dev s.mem x.src x.slen).1

/-- CX_START (R249, R252, R254). -/
def cxStart (k : Nat) (d : Dev) : Dev :=
  let m := d.get (CMP_CX_CFG k) CMP_CX_CFG.METHOD
  if d.cxState k = 1 || m = 0 || m = 3 then d.cxReject k
  else
    let d := d.setCx k { d.cxSt k with
      cfg := d.rd (CMP_CX_CFG k), line := d.rd (CMP_CX_LINE k)
      src := d.rd64 (CMP_CX_SRC_LO k) (CMP_CX_SRC_HI k), slen := d.rdN (CMP_CX_SLEN k)
      dst := d.rd64 (CMP_CX_DST_LO k) (CMP_CX_DST_HI k), dlen := d.rdN (CMP_CX_DLEN k)
      stream := [], flushes := [], flushBusy := false, finishing := false }
    ((d.put (CMP_CX_STS k) CMP_CX_STS.STATE 1).wr (CMP_CX_OUT k) 0).wr (CMP_CX_IN k) 0

/-- CX_FLUSH (R252): merged into one in progress; refused while not BUSY and after FINISH. -/
def cxFlush (k : Nat) (d : Dev) : Dev :=
  if d.cxState k ≠ 1 || (d.cxSt k).finishing then d.cxReject k else d.setCx k { d.cxSt k with flushBusy := true }

/-- CX_FINISH (R252). -/
def cxFinish (k : Nat) (d : Dev) : Dev :=
  if d.cxState k ≠ 1 then d.cxReject k else d.setCx k { d.cxSt k with finishing := true }

/-- CX_ABORT (R252). -/
def cxAbort (k : Nat) (d : Dev) : Dev := if d.cxState k = 1 then d.put (CMP_CX_STS k) CMP_CX_STS.STATE 4 else d

/-- A write of CMP_CXk_CMD (R252): ABORT acts alone, FINISH with FLUSH is FINISH; the others judge the state before it. -/
def cxCmdWrite (q : Req) (k : Nat) (v : Word) (d : Dev) : Dev :=
  if d.bit (CMP_CX_STS k) CMP_CX_STS.ASSIGNED && q.port.val ≠ 0 then d.cxReject k
  else if v.bit 3 then cxAbort k d
  else
    let d := if v.bit 2 then cxFinish k d else if v.bit 1 then cxFlush k d else d
    d.when (v.bit 0) (cxStart k)

/-- A write of an engine's other settings (R252, R254, R255). -/
def cxRegWrite (q : Req) (k a : Nat) (v : Word) (d : Dev) : Dev :=
  if d.cxState k = 1 || (d.bit (CMP_CX_STS k) CMP_CX_STS.ASSIGNED && q.port.val ≠ 0) then d.cxReject k
  else if a = CMP_CX_CFG k then
    d.typedWrite a ((v.setFld CMP_CX_CFG.NICE (max 8 (min 258 (v.fld CMP_CX_CFG.NICE)))).setFld CMP_CX_CFG.DEPTH
      (max 1 (min 64 (v.fld CMP_CX_CFG.DEPTH))))
  else if a = CMP_CX_LINE k then
    d.typedWrite a (v.setFld CMP_CX_LINE.BLOCK_LINES (max 1 (min 4096 (v.fld CMP_CX_LINE.BLOCK_LINES))))
  else d.typedWrite a v

/-- What an engine has written so far: the bytes and its two counters. -/
def cxPut (k consumed : Nat) (out : List Byte) (s : State) : State :=
  { s with
    mem := storePut s.mem (s.dev.cxSt k).dst out
    dev := (s.dev.wrN (CMP_CX_OUT k) out.length).wrN (CMP_CX_IN k) consumed }

/-- CX_FLUSHED (R252): with the bytes consumed when the flush took effect. -/
def cxFlushed (k consumed : Nat) (s : State) : State :=
  let x := s.dev.cxSt k
  let inp := (cxInput x s).take consumed
  if s.dev.cxState k ≠ 1 || !s.dev.islUp 2 || !x.flushBusy || (x.flushes.getLast?.getD 0) > inp.length then s
  else
    let x := { x with flushes := x.flushes ++ [inp.length], flushBusy := false }
    let out := cxOutput x inp false
    if x.dlen < out.length then s
    else (cxPut k inp.length out (s.onDev (fun d => d.setCx k x))).onDev (·.flag (CMP_CX_EVT k) CMP_CX_EVT.FLUSHED)

/-- CX_DONE (R249, R252): FINISH has been handled and all input is consumed. -/
def cxDone (k : Nat) (s : State) : State :=
  let x := s.dev.cxSt k
  let inp := cxInput x s
  let out := cxOutput x inp true
  if s.dev.cxState k ≠ 1 || !s.dev.islUp 2 || !x.finishing || x.dlen < out.length then s
  else
    (cxPut k inp.length out s).onDev (fun d =>
      let d := d.when x.flushBusy (·.flag (CMP_CX_EVT k) CMP_CX_EVT.FLUSHED)
      ((d.setCx k { x with flushBusy := false }).put (CMP_CX_STS k) CMP_CX_STS.STATE 2).flag (CMP_CX_EVT k) CMP_CX_EVT.DONE)

/-- CX_OVERFLOW (R249): the output for the input consumed would pass DLEN; how much of it was written is not stated. -/
def cxOverflow (k consumed : Nat) (s : State) : State :=
  let x := s.dev.cxSt k
  let inp := (cxInput x s).take consumed
  let out := cxOutput x inp true
  if s.dev.cxState k ≠ 1 || !s.dev.islUp 2 || out.length ≤ x.dlen then s
  else
    let (n, d) := s.dev.fresh
    (cxPut k inp.length (out.take (n % (x.dlen + 1))) { s with dev := d }).onDev (fun d =>
      (d.put (CMP_CX_STS k) CMP_CX_STS.STATE 3).flag (CMP_CX_EVT k) CMP_CX_EVT.OVERFLOW)

/-! ## The meanings -/

/-- OBJ_START (R248, R254). -/
def execObjStart (q : Req) (s : State) : Host.Outcome State Fault Refusal :=
  .next (s.statusCommand q CMP_OBJ_CMD 1 (fun v => objOnly q (objCmdWrite v)))

/-- OBJ_WAIT_END (R248). -/
def execObjWaitEnd (dt : Nat) (s : State) : Host.Outcome State Fault Refusal := .next ((s.pass dt).onIsl 2 objWaitEnd)

/-- OBJ_DONE (R247). -/
def execObjDone (dt : Nat) (s : State) : Host.Outcome State Fault Refusal := .next (objDone (s.pass dt))

/-- OBJ_CANCEL (R248, R254). -/
def execObjCancel (q : Req) (s : State) : Host.Outcome State Fault Refusal :=
  .next (s.statusCommand q CMP_OBJ_CMD 2 (fun v => objOnly q (objCmdWrite v)))

/-- CX_START (R249). -/
def execCxStart (q : Req) (k : Fin 2) (s : State) : Host.Outcome State Fault Refusal :=
  .next (s.devCommand q (CMP_CX_CMD k.val) 1 (cxCmdWrite q k.val))

/-- CX_FLUSH (R252). -/
def execCxFlush (q : Req) (k : Fin 2) (s : State) : Host.Outcome State Fault Refusal :=
  .next (s.devCommand q (CMP_CX_CMD k.val) 2 (cxCmdWrite q k.val))

/-- CX_FLUSHED (R252). -/
def execCxFlushed (k : Fin 2) (consumed dt : Nat) (s : State) : Host.Outcome State Fault Refusal :=
  .next (cxFlushed k.val consumed (s.pass dt))

/-- CX_FINISH (R252). -/
def execCxFinish (q : Req) (k : Fin 2) (s : State) : Host.Outcome State Fault Refusal :=
  .next (s.devCommand q (CMP_CX_CMD k.val) 4 (cxCmdWrite q k.val))

/-- CX_ABORT (R252). -/
def execCxAbort (q : Req) (k : Fin 2) (s : State) : Host.Outcome State Fault Refusal :=
  .next (s.devCommand q (CMP_CX_CMD k.val) 8 (cxCmdWrite q k.val))

/-- CX_DONE (R249). -/
def execCxDone (k : Fin 2) (dt : Nat) (s : State) : Host.Outcome State Fault Refusal := .next (cxDone k.val (s.pass dt))

/-- CX_OVERFLOW (R249). -/
def execCxOverflow (k : Fin 2) (consumed dt : Nat) (s : State) : Host.Outcome State Fault Refusal :=
  .next (cxOverflow k.val consumed (s.pass dt))

end Sys2Proof.Machine
end

