-- ==== Sys2Proof/Machine/Check.lean ====
section
/-! DEFINITION. The check units (spec/15_check_units.md, R382 to R392). -/

namespace Sys2Proof.Machine

/-- A unit's latched parameters. -/
def Dev.cuSt (d : Dev) (k : Nat) : CuSt := tget (fun _ => {}) d.cu k

/-- Replace them. -/
def Dev.setCu (d : Dev) (k : Nat) (x : CuSt) : Dev := { d with cu := tput (fun _ => {}) d.cu k x }

/-- The state of a unit: 0 FREE, 1 OPEN, 2 BUSY, 3 DONE (R385). -/
def Dev.cuState (d : Dev) (k : Nat) : Nat := d.get (CU_STS k) CU_STS.STATE

/-- WIDTH of a CFG value. -/
def cuWidth (cfg : Word) : Nat := cfg.fld CU_CFG.WIDTH + 1

/-- The parameters in force (R382, R385). -/
def CuSt.params (x : CuSt) : CrcParams :=
  ⟨cuWidth x.cfg, x.poly, x.init, x.cfg.fld CU_CFG.REFIN == 1, x.cfg.fld CU_CFG.REFOUT == 1, x.xorout⟩

/-- reg (R382). -/
def Dev.cuReg (d : Dev) (k : Nat) : Nat := d.rd64 (CU_STATE_LO k) (CU_STATE_HI k)

/-- Replace reg. -/
def Dev.setCuReg (d : Dev) (k v : Nat) : Dev := d.wr64 (CU_STATE_LO k) (CU_STATE_HI k) v

/-- What RESULT reads (R382). -/
def Dev.cuResult (d : Dev) (k : Nat) : Nat := crcResult (d.cuSt k).params (d.cuReg k)

/-- A write or command is refused: REJ (R383, R386, R391). -/
def Dev.cuRej (d : Dev) (k : Nat) : Dev := (d.flag (CU_STS k) CU_STS.REJ).flagBit CHK_EVT k

/-- The bytes of a unit's buffer data, its check bytes, and what its mode reads (R387). -/
def Dev.cuLen (d : Dev) (k : Nat) : Nat := d.get (CU_BUF_LEN k) CU_BUF_LEN.LEN
def Dev.cuC (d : Dev) (k : Nat) : Nat := (cuWidth (d.cuSt k).cfg + 7) / 8
def Dev.cuMode (d : Dev) (k : Nat) : Nat := (d.cuSt k).cfg.fld CU_CFG.MODE
def Dev.cuTotal (d : Dev) (k : Nat) : Nat := d.cuLen k + if 2 ≤ d.cuMode k then d.cuC k else 0
def Dev.cuAddr (d : Dev) (k : Nat) : Nat := d.rdN (CU_BUF_LO k) + 2 ^ 32 * (d.rdN (CU_BUF_HI k) % 16)

/-- The bytes a BUSY unit has had time for: one in 5 ns. -/
def Dev.cuTime (d : Dev) (k : Nat) : Nat := min (d.cuTotal k) ((d.now - (d.cuSt k).goAt) / 4)

/-- CU_START (R383, R385). -/
def cuStart (port k : Nat) (d : Dev) : Dev :=
  let cfg := d.rd (CU_CFG k)
  let poly := d.rd64 (CU_POLY_LO k) (CU_POLY_HI k)
  let init := d.rd64 (CU_INIT_LO k) (CU_INIT_HI k)
  let xorout := d.rd64 (CU_XOR_LO k) (CU_XOR_HI k)
  let w := 2 ^ cuWidth cfg
  if d.cuState k = 2 || w ≤ poly || w ≤ init || w ≤ xorout then d.cuRej k
  else
    let d := ((d.put (CU_STS k) CU_STS.STATE 1).put (CU_STS k) CU_STS.OWNER port).setCuReg k init
    ((d.put (CU_STS k) CU_STS.MATCH 0).put (CU_STS k) CU_STS.MISMATCH 0).setCu k ⟨cfg, poly, init, xorout, 0⟩

/-- CU_GO (R387). -/
def cuGo (k : Nat) (d : Dev) : Dev :=
  if d.cuState k ≠ 1 || d.cuLen k = 0 || d.cuMode k = 0 || !inSystem (d.cuAddr k) (d.cuLen k + d.cuC k) then d.cuRej k
  else
    let d := (d.put (CU_STS k) CU_STS.MATCH 0).put (CU_STS k) CU_STS.MISMATCH 0
    ((d.put (CU_STS k) CU_STS.STATE 2).wr (CU_BYTES k) 0).setCu k { d.cuSt k with goAt := d.now }

/-- The bytes a unit reads from the page store, up to an uncorrectable granule (R211). -/
def Dev.cuRead (d : Dev) (m : Store) (k n : Nat) : List Byte × Bool := readToBad d m (d.cuAddr k) (n / 128 + 2) n []

/-- What a unit has read enters reg and BYTES; the check bytes do not enter reg (R387). -/
def Dev.cuFed (d : Dev) (k : Nat) (bs : List Byte) : Dev :=
  (d.setCuReg k (crcFeed (d.cuSt k).params (d.cuReg k) (bs.take (d.cuLen k)))).wrN (CU_BYTES k) bs.length

/-- CU_ABORT: at the next byte boundary the unit is OPEN with reg as it stands; nothing is written (R387). -/
def cuAbort (k : Nat) (s : State) : State :=
  s.onDev (fun d => (d.cuFed k (d.cuRead s.mem k (d.cuTime k)).1).put (CU_STS k) CU_STS.STATE 1)

/-- A write of CHK_CUk_CMD: ABORT, RELEASE, START, GO in that order, and only the first that applies (R386, R388). -/
def cuCmdWrite (q : Req) (k : Nat) (v : Word) (s : State) : State :=
  let d := s.dev
  let st := d.cuState k
  let owner := st = 0 || d.get (CU_STS k) CU_STS.OWNER = q.port.val
  let mayFree := owner || q.port.val = 6 || d.isHolder q
  if owner && v.bit 3 && st = 2 then cuAbort k s
  else if mayFree && v.bit 1 && st ≠ 0 then (if st = 2 then cuAbort k s else s).onDev (·.cuFree k)
  else if !owner then s.onDev (·.cuRej k)
  else if v.bit 0 then s.onDev (cuStart q.port.val k)
  else if v.bit 2 then s.onDev (cuGo k)
  else s

/-- The bytes of a DIN write in feed order (R384). -/
def dinBytes (n : Nat) (v : Word) (msFirst : Bool) : List Byte := checkBytes n v.toNat msFirst

/-- CU_DIN: 1, 2 or 4 bytes (R384, R385). -/
def cuDin (k n : Nat) (v : Word) (d : Dev) : Dev :=
  if d.cuState k ≠ 1 then d.cuRej k
  else d.setCuReg k (crcFeed (d.cuSt k).params (d.cuReg k) (dinBytes n v ((d.cuSt k).cfg.fld CU_CFG.ORDER == 1)))

/-- CU_STATE_WRITE: reg is replaced in an OPEN unit (R385). -/
def cuStateWrite (k v : Nat) (d : Dev) : Dev :=
  if d.cuState k ≠ 1 then d.cuRej k else d.setCuReg k (v % 2 ^ cuWidth (d.cuSt k).cfg)

/-- A write of any other register of a unit that the access types describe: none while BUSY (R386). -/
def cuRegWrite (k : Nat) (f : Dev → Dev) (d : Dev) : Dev := if d.cuState k = 2 then d.cuRej k else f d

/-- A write of a unit's register by a port: only the owner's acts while the unit is not FREE (R386). -/
def cuOwned (q : Req) (k : Nat) (f : Dev → Dev) (d : Dev) : Dev :=
  if d.cuState k = 0 || d.get (CU_STS k) CU_STS.OWNER = q.port.val then f d else d.cuRej k

/-- CU_BUFFER_DONE: the buffer has been read (R387). -/
def cuBufferDone (k : Nat) (s : State) : State :=
  let d := s.dev
  if d.cuState k ≠ 2 then s
  else
    let (bs, bad) := d.cuRead s.mem k (d.cuTotal k)
    if d.now < (d.cuSt k).goAt + 4 * bs.length then s
    else
      let e := (d.cuFed k bs).put (CU_STS k) CU_STS.STATE 3
      let c := d.cuC k
      let want := checkBytes c (e.cuResult k) ((d.cuSt k).cfg.fld CU_CFG.OUTBE == 1)
      if bad then { s with dev := (e.flag (CU_STS k) CU_STS.FAULT).flagBit CHK_EVT (8 + k) }
      else if d.cuMode k = 1 then { s with dev := e, mem := storePut s.mem (d.cuAddr k + d.cuLen k) want }
      else if bs.drop (d.cuLen k) = want then
        { s with
          dev := e.put (CU_STS k) CU_STS.MATCH 1
          mem := if d.cuMode k = 3 then storePut s.mem (d.cuAddr k + d.cuLen k) (List.replicate c 0) else s.mem }
      else { s with dev := (e.put (CU_STS k) CU_STS.MISMATCH 1).flagBit CHK_EVT (8 + k) }

/-! ## Views (R391) -/

/-- CHK_SUM. -/
def Dev.chkSum (d : Dev) : Word :=
  BitVec.ofNat 32 ((List.range 8).foldl (fun a k =>
    a + (if d.cuState k = 0 then 2 ^ k else 0) + (if d.cuState k = 3 then 2 ^ (8 + k) else 0)) 0)

/-- CHK_CUk_BYTES while an operation runs. -/
def Dev.cuBytes (d : Dev) (k : Nat) : Word := if d.cuState k = 2 then BitVec.ofNat 32 (d.cuTime k) else d.rd (CU_BYTES k)

/-! ## The meanings -/

/-- CU_START (R385). -/
def execCuStart (q : Req) (k : Fin 8) (s : State) : Host.Outcome State Fault Refusal :=
  .next (s.command q (CU_CMD k.val) 1 (cuCmdWrite q k.val))

/-- The address of a DIN register by its size code. -/
def dinAddr (k size : Nat) : Nat := CU_DIN8 k + 4 * size

/-- CU_DIN: size 0, 1 or 2 for DIN8, DIN16, DIN32 (R384). -/
def execCuDin (q : Req) (k : Fin 8) (size : Fin 3) (v : Word) (s : State) : Host.Outcome State Fault Refusal :=
  .next (s.devCommand q (dinAddr k.val size.val) v (fun v => cuOwned q k.val (cuDin k.val (2 ^ size.val) v)))

/-- CU_STATE_WRITE: a write of _HI with the low word from the port's hold register (R385, R11). -/
def execCuStateWrite (q : Req) (k : Fin 8) (v : Word) (s : State) : Host.Outcome State Fault Refusal :=
  .next (s.highCommand q (CU_STATE_LO k.val) (CU_STATE_HI k.val) v (fun lo hi => cuOwned q k.val (cuStateWrite k.val (wide lo hi))))

/-- CU_GO (R387). -/
def execCuGo (q : Req) (k : Fin 8) (s : State) : Host.Outcome State Fault Refusal :=
  .next (s.command q (CU_CMD k.val) 4 (cuCmdWrite q k.val))

/-- CU_BUFFER_DONE (R387). -/
def execCuBufferDone (k : Fin 8) (dt : Nat) (s : State) : Host.Outcome State Fault Refusal := .next (cuBufferDone k.val (s.pass dt))

/-- CU_ABORT (R387). -/
def execCuAbort (q : Req) (k : Fin 8) (s : State) : Host.Outcome State Fault Refusal :=
  .next (s.command q (CU_CMD k.val) 8 (cuCmdWrite q k.val))

/-- CU_RELEASE (R386). -/
def execCuRelease (q : Req) (k : Fin 8) (s : State) : Host.Outcome State Fault Refusal :=
  .next (s.command q (CU_CMD k.val) 2 (cuCmdWrite q k.val))

end Sys2Proof.Machine
end

