-- ==== Sys2Proof/Machine/Image.lean ====
section
/-! DEFINITION. Image arithmetic of the inspection pipeline: demosaic, darkness, statistics, column map, expected classes,
registration and streak detection (spec/11_inspection.md, R289 to R297). Pure functions of pixels and settings. -/

namespace Sys2Proof.Machine

/-! ## Demosaic (R289) -/

/-- The rows of a frame by number; a missing row is none, and so is a missing pixel. -/
abbrev Img := Array (Option (Array (Option Nat)))

/-- A row has been received. -/
def Img.has (g : Img) (i : Nat) : Bool := (g.getD i none).isSome

/-- A pixel of a received row. -/
def Img.px (g : Img) (i j : Nat) : Option Nat := (g.getD i none).bind (fun r => r.getD j none)

/-- An index mirrored about the nearest edge: −1 to 1, −2 to 2, and the same at the far edge. -/
def mirrorIdx (n : Nat) (k : Int) : Nat :=
  if k < 0 then (-k).toNat else if (n : Int) ≤ k then (2 * ((n : Int) - 1) - k).toNat else k.toNat

/-- The row that stands for the one `dy` away from a received row: itself, or its mirror image about the edge of the frame
or of the missing lines. -/
def Img.rowFor (g : Img) (i : Nat) (dy : Int) : Option Nat :=
  let t := mirrorIdx g.size (i + dy)
  if g.has t then some t
  else
    let half := mirrorIdx g.size (i + dy / 2)
    let e : Int := if dy % 2 = 0 && g.has half then half else i
    let t' := mirrorIdx g.size (2 * e - (i + dy))
    if g.has t' then some t' else none

/-- A site's place: its row and column, none where no line stands for it. -/
def Img.site (g : Img) (w i : Nat) (dy : Int) (j : Nat) (dx : Int) : Option (Nat × Nat) :=
  (g.rowFor i dy).map (fun r => (r, mirrorIdx w (j + dx)))

/-- The value at a site; where no pixel stands for it the spec states none. -/
def Img.val (g : Img) (w i : Nat) (dy : Int) (j : Nat) (dx : Int) : Int :=
  match (g.site w i dy j dx).bind (fun p => g.px p.1 p.2) with
  | some v => v
  | none => Config.unstated 1 (i * 65536 + j) % 4096

/-- The colour of a site, 0 R, 1 G, 2 B, by the pattern and the parities of row and column. -/
def siteColour (mosaic pi pj : Nat) : Nat :=
  let k := pi % 2 * 2 + pj % 2
  if mosaic = 1 then [0, 1, 1, 2].getD k 0
  else if mosaic = 2 then [1, 0, 2, 1].getD k 0
  else if mosaic = 3 then [1, 2, 0, 1].getD k 0
  else if mosaic = 4 then [2, 1, 1, 0].getD k 0
  else Config.unstated 2 (mosaic * 4 + k) % 3

/-- A 12-bit result, rounded and clamped. -/
def clamp12 (x : Int) : Int := max 0 (min 4095 x)

/-- What a demosaic needs: the pixels, the width, the pattern and the parity of row 0. -/
structure Mosaic where
  img : Img
  w : Nat
  kind : Nat
  par : Nat
  deriving DecidableEq, Repr

/-- The colour of a site of a frame. -/
def Mosaic.colour (m : Mosaic) (i j : Nat) : Nat := siteColour m.kind (i + m.par) j

/-- Green at a site: its own value, or interpolated along the smaller gradient. -/
def Mosaic.green (m : Mosaic) (i j : Nat) : Int :=
  let v := m.img.val m.w i 0 j 0
  if m.colour i j = 1 then v
  else
    let at_ (dy dx : Int) : Int := m.img.val m.w i dy j dx
    let gh := ((at_ 0 (-1) - at_ 0 1).natAbs + (2 * v - at_ 0 (-2) - at_ 0 2).natAbs : Nat)
    let gv := ((at_ (-1) 0 - at_ 1 0).natAbs + (2 * v - at_ (-2) 0 - at_ 2 0).natAbs : Nat)
    let h := 8 * (at_ 0 (-1) + at_ 0 1) + 4 * (2 * v - at_ 0 (-2) - at_ 0 2)
    let u := 8 * (at_ (-1) 0 + at_ 1 0) + 4 * (2 * v - at_ (-2) 0 - at_ 2 0)
    clamp12 (rdiv (if gh < gv then h else if gv < gh then u else (h + u) / 2) 16)

/-- The colour difference at a neighbouring site: its value less green there. -/
def Mosaic.diff (m : Mosaic) (i : Nat) (dy : Int) (j : Nat) (dx : Int) : Int :=
  match m.img.site m.w i dy j dx with
  | some p => m.img.val m.w i dy j dx - m.green p.1 p.2
  | none => m.img.val m.w i dy j dx - (Config.unstated 3 (i * 65536 + j) % 4096 : Nat)

/-- R, G and B of a received pixel. -/
def Mosaic.rgb (m : Mosaic) (i j : Nat) : Option (Int × Int × Int) :=
  match m.img.px i j with
  | none => none
  | some v =>
    if m.kind = 0 then some (v, v, v)
    else
      let g := m.green i j
      let across := clamp12 (rdiv (2 * g + m.diff i 0 j (-1) + m.diff i 0 j 1) 2)
      let down := clamp12 (rdiv (2 * g + m.diff i (-1) j 0 + m.diff i 1 j 0) 2)
      let diag := clamp12 (rdiv (4 * g + m.diff i (-1) j (-1) + m.diff i (-1) j 1 + m.diff i 1 j (-1) + m.diff i 1 j 1) 4)
      match m.colour i j with
      | 0 => some (v, g, diag)
      | 2 => some (diag, g, v)
      | _ => if m.colour i (j + 1) = 0 then some (across, g, down) else some (down, g, across)

/-- A frame after demosaic. -/
abbrev Rgb := Array (Option (Array (Option (Int × Int × Int))))

/-- Every pixel of a frame. -/
def Mosaic.all (m : Mosaic) : Rgb :=
  ((List.range m.img.size).map (fun i =>
    if m.img.has i then some ((List.range m.w).map (fun j => m.rgb i j)).toArray else none)).toArray

/-! ## Darkness (R289) -/

/-- Y = (R + 2G + B) / 4, rounded down. -/
def luma (p : Int × Int × Int) : Int := (p.1 + 2 * p.2.1 + p.2.2) / 4

/-- WHITE and BLACK of R, G and B. -/
abbrev Levels := (Int × Int × Int) × (Int × Int × Int)

/-- Darkness as numerator over a common denominator; with WHITE not above BLACK the spec states none. -/
def darkness (white black v : Int) : Int :=
  if white ≤ black then (Config.unstated 4 v.toNat % 2 : Nat) else max 0 (min (white - black) (white - v))

/-- The denominator of a darkness. -/
def darkDen (white black : Int) : Nat := if white ≤ black then 1 else (white - black).toNat

/-- The darkness of luminance at each received pixel. -/
def darkRows (lv : Levels) (g : Rgb) : Array (Option (Array (Option Int))) :=
  g.map (fun r => r.map (fun r => r.map (fun p => p.map (fun p => darkness (luma lv.1) (luma lv.2) (luma p)))))

/-! ## Statistics (R290) -/

/-- MEAN in 1/16 code, MIN, MAX and CLIP of one colour; with no pixel the spec states none of the first three. -/
def statOf (what : Nat) (vs : List Int) : Nat × Nat × Nat × Nat :=
  match vs with
  | [] => (Config.unstated 5 what % 65536, Config.unstated 6 what % 65536, Config.unstated 7 what % 65536, 0)
  | v :: t =>
    ((16 * vs.sum / (vs.length : Int)).toNat, (t.foldl min v).toNat, (t.foldl max v).toNat,
      min 65535 (vs.filter (fun x => x == 4095)).length)

/-- The values of the pixels within the window. -/
def windowPixels (g : Rgb) (first last : Nat) : List (Int × Int × Int) :=
  g.toList.flatMap (fun r => match r with
    | none => []
    | some r => ((r.toList.take (last + 1)).drop first).filterMap id)

/-! ## The column map (R291) -/

/-- The camera coordinate of a plane coordinate in 1/256 dot, as a pixel number rounded down, on rising knots. -/
def mapInverse (knots : Array Int) (seg : Nat) (x : Int) : Int :=
  let below := (List.range 32).filter (fun i => knots.getD i 0 ≤ x)
  let i := below.getLast?.getD 0
  let k := knots.getD i 0
  (i * seg : Nat) + (x - k) * seg / (knots.getD (i + 1) 0 - k)

/-- The pixel that a plane dot's centre maps into. -/
def pixelOf (knots : List Int) (w : Nat) (dot : Int) : Option Nat :=
  let up := match knots with
    | a :: b :: _ => decide (a < b)
    | _ => true
  let ks := (if up then knots else knots.map (fun x => -x)).toArray
  let u := mapInverse ks (w / 32) (if up then 256 * dot + 128 else -(256 * dot + 128))
  if 0 ≤ u && u < w then some u.toNat else none

/-- The plane dot of a camera coordinate in 1/16 pixel. -/
def dotAt (knots : List Int) (w : Nat) (u16 : Int) : Int :=
  let seg := w / 32
  let i := if u16 < 0 then 0 else min 31 (u16 / 16 / seg).toNat
  let k := knots.getD i 0
  let step := knots.getD (i + 1) 0 - k
  (16 * seg * k + step * (u16 - 16 * (i * seg : Nat))) / (16 * seg * 256)

/-- The plane dots that may lie under the camera. -/
def dotRange (knots : List Int) : List Int :=
  let lo := knots.foldl min (knots.headD 0) / 256 - 1
  let hi := knots.foldl max (knots.headD 0) / 256 + 1
  (List.range (hi - lo + 1).toNat).map (fun (k : Nat) => lo + (k : Int))

/-! ## The expected image (R292, R293) -/

/-- Values fired into one grid line: pixel, plane, value. -/
abbrev Drops := List (Nat × Nat × Nat)

/-- The class of a pixel: the values fired per plane, the full value of the footprint, D0 and the weights w_k × 512. -/
def expClass (d0 : Nat) (weights : List Int) (sums : List Nat) (fullValue place : Nat) : Nat :=
  if fullValue = 0 then Config.unstated 8 place % 4
  else
    let den : Int := 255 * 512 * fullValue
    let add := (weights.zip sums).foldl (fun (a : Int) p => a + p.1 * (min p.2 fullValue : Nat)) 0
    let n := max 0 (min den (512 * fullValue * d0 + 255 * add))
    ((6 * n + den) / (2 * den)).toNat

/-- The classes of one grid line: dots per pixel, job lines of the grid line, 2^b − 1. -/
def expRow (d0 : Nat) (weights : List Int) (w : Nat) (dots : Array Nat) (lines top y : Nat) (drops : Drops) : Array Nat :=
  let sums := drops.foldl (fun (a : Array (Array Nat)) p => a.modify p.1 (fun r => r.modify p.2.1 (· + p.2.2)))
    (Array.replicate w (Array.replicate 8 0))
  ((List.range w).map (fun x =>
    expClass d0 weights (sums.getD x #[]).toList (top * lines * dots.getD x 0) (y * 65536 + x))).toArray

/-! ## Registration (R295) -/

/-- The integer square root, bit by bit. -/
def isqrtFrom (n : Nat) : Nat → Nat → Nat
  | 0, r => r
  | k + 1, r => isqrtFrom n k (if (r + 2 ^ k) * (r + 2 ^ k) ≤ n then r + 2 ^ k else r)

/-- The integer square root. -/
def isqrt (n : Nat) : Nat := isqrtFrom n (Nat.log2 n / 2 + 1) 0

/-- The normalised correlation of mean-removed values in 2^-20, none where a side does not vary. -/
def correlation (ps : List (Int × Int)) : Option Int :=
  let n : Int := ps.length
  let sa := (ps.map (·.1)).sum
  let sb := (ps.map (·.2)).sum
  let cov := n * (ps.map (fun p => p.1 * p.2)).sum - sa * sb
  let va := n * (ps.map (fun p => p.1 * p.1)).sum - sa * sa
  let vb := n * (ps.map (fun p => p.2 * p.2)).sum - sb * sb
  if va * vb = 0 then none
  else
    let r : Int := isqrt (cov.natAbs * cov.natAbs * 2 ^ 40 / (va * vb).natAbs)
    some (if cov < 0 then -r else r)

/-- A profile: a value for each place that has one. -/
abbrev Profile := Array (Option Int)

/-- The correlation of a measured profile with an expected one shifted by `s`. -/
def corrAt (a b : Profile) (s : Int) : Option Int :=
  correlation ((List.range a.size).filterMap (fun (x : Nat) =>
    let k := (x : Int) - s
    if k < 0 then none
    else match a.getD x none, b.getD k.toNat none with
      | some u, some v => some (u, v)
      | _, _ => none))

/-- The better of two shifts: the higher correlation, then the nearer to 0. -/
def betterShift (best : Option (Int × Int)) (s : Int) (c : Option Int) : Option (Int × Int) :=
  match best, c with
  | _, none => best
  | none, some c => some (s, c)
  | some b, some c => if b.2 < c then some (s, c) else some b

/-- The shifts within a search distance, nearest to 0 first. -/
def shifts (n : Nat) : List Int := 0 :: (List.range n).flatMap (fun (k : Nat) => [-((k : Int) + 1), (k : Int) + 1])

/-- The best shift in 1/16 and its correlation in 2^-20, refined by a parabola. -/
def bestShift (a b : Profile) (search : Nat) : Option (Int × Int) :=
  match (shifts search).foldl (fun best s => betterShift best s (corrAt a b s)) none with
  | none => none
  | some (s, c) =>
    let fine := match corrAt a b (s - 1), corrAt a b (s + 1) with
      | some l, some r => let den := 2 * (2 * c - l - r); if 0 < den then rdiv (16 * (r - l)) den.toNat else 0
      | _, _ => 0
    some (16 * s + fine, c)

/-- The mean of values with a fixed scale, none of none. -/
def profileMean (vs : List Int) : Option Int := if vs.isEmpty then none else some (2 ^ 20 * vs.sum / vs.length)

/-! ## Streaks (R296) -/

/-- What the detector accumulates over one column: lines compared, light and dark deviations and their sums in sixths of the
darkness unit, and the darkness of R, G and B. -/
structure ColAcc where
  n : Nat := 0
  aL : Nat := 0
  sL : Int := 0
  aD : Nat := 0
  sD : Int := 0
  cR : Int := 0
  cG : Int := 0
  cB : Int := 0
  deriving DecidableEq, Repr

/-- The boundaries of a class in sixths (R292). -/
def classLo (c : Nat) : Int := [0, 1, 3, 5].getD c 0
def classHi (c : Nat) : Int := [1, 3, 5, 6].getD c 0

/-- One compared pixel joins its column: darkness `m` over `den`, its class, the darkness of the colours. -/
def ColAcc.add (a : ColAcc) (den devTh c : Nat) (m r g b : Int) : ColAcc :=
  let light := classLo c * den - 6 * m
  let dark := 6 * m - classHi c * den
  let isL := (devTh * 6 * den : Nat) ≤ 256 * light
  let isD := (devTh * 6 * den : Nat) ≤ 256 * dark
  { n := a.n + 1
    aL := a.aL + (if isL then 1 else 0), sL := a.sL + (if isL then light else 0)
    aD := a.aD + (if isD then 1 else 0), sD := a.sD + (if isD then dark else 0)
    cR := a.cR + r, cG := a.cG + g, cB := a.cB + b }

/-- The deviating lines of a column, of the light or of the dark kind. -/
def ColAcc.count (a : ColAcc) (dark : Bool) : Nat := if dark then a.aD else a.aL

/-- q(a) ≤ q(b), strictly or not, as fractions; a column with no line has q = 0. -/
def qLe (dark : Bool) (a b : ColAcc) : Bool := a.count dark * max 1 b.n ≤ b.count dark * max 1 a.n

/-- The column is a dip (R296). -/
def isDip (cols : Array ColAcc) (dark : Bool) (x : Nat) : Bool :=
  let q := cols.getD x {}
  let l := if x = 0 then {} else cols.getD (x - 1) {}
  let r := cols.getD (x + 1) {}
  q.n ≠ 0 && q.n ≤ 16 * q.count dark && qLe dark l q && !qLe dark q r

/-- The centre of a dip in 1/16 pixel (R296). -/
def dipCentre (cols : Array ColAcc) (dark : Bool) (x : Nat) : Int :=
  let q := cols.getD x {}
  let l := if x = 0 then {} else cols.getD (x - 1) {}
  let r := cols.getD (x + 1) {}
  let ql := l.count dark * max 1 q.n * max 1 r.n
  let q0 := q.count dark * max 1 l.n * max 1 r.n
  let qr := r.count dark * max 1 l.n * max 1 q.n
  16 * x + 8 + rdiv (16 * ((qr : Int) - ql)) (ql + q0 + qr)

/-- The depth of a dip is at least MISS_TH / 256 (R296). -/
def deepDip (a : ColAcc) (dark : Bool) (den missTh : Nat) : Bool :=
  decide ((missTh * 6 * den * a.count dark : Nat) ≤ 256 * (if dark then a.sD else a.sL))

/-- The cosine of two colour vectors in 2^-20 (R297); of a zero vector the spec states none. -/
def cosine (a b : Int × Int × Int) : Int :=
  let dot := a.1 * b.1 + a.2.1 * b.2.1 + a.2.2 * b.2.2
  let na := (a.1 * a.1 + a.2.1 * a.2.1 + a.2.2 * a.2.2).natAbs
  let nb := (b.1 * b.1 + b.2.1 * b.2.1 + b.2.2 * b.2.2).natAbs
  if na * nb = 0 then (Config.unstated 9 0 % 1048576 : Nat)
  else
    let r : Int := isqrt (dot.natAbs * dot.natAbs * 2 ^ 40 / (na * nb))
    if dot < 0 then -r else r

end Sys2Proof.Machine
end

