-- ==== Sys2Proof/Machine/CalEval.lean ====
section
/-! DEFINITION. Trims and their evaluation (spec/12_calibration_keel.md, R308 to R313), and how a running procedure ends
early (R315). -/

namespace Sys2Proof.Machine

/-- A calibration set of a channel. -/
def Dev.calSet (d : Dev) (c k : Nat) : CalSet := tget (fun _ => {}) d.cal.sets (c * 4 + k)

/-- Replace it. -/
def Dev.setCalSet (d : Dev) (c k : Nat) (x : CalSet) : Dev :=
  { d with cal := { d.cal with sets := tput (fun _ => {}) d.cal.sets (c * 4 + k) x } }

/-- A value between two points, rounded half away from zero (R313). -/
def interp (g0 g1 t t0 t1 : Int) : Int := g0 + rdiv ((g1 - g0) * (t - t0)) (t1 - t0).toNat

/-- The values of a point list at a temperature (R313); an empty list gives 0 (R310). -/
def evalPoints : List CalPoint → Int → CalPoint
  | [], t => ⟨t, 0, 0, 0, 0⟩
  | [p], _ => p
  | p :: q :: rest, t =>
    if t ≤ p.t then p
    else if t < q.t then
      ⟨t, interp p.ga q.ga t p.t q.t, interp p.oa q.oa t p.t q.t, interp p.gb q.gb t p.t q.t, interp p.ob q.ob t p.t q.t⟩
    else evalPoints (q :: rest) t

/-- Two signed 12-bit fields in the format of WAV_TRIM and HC_CAL_GSET. -/
def pair12 (high low : Int) : Word := BitVec.ofNat 32 (unsignedOf 12 low + 65536 * unsignedOf 12 high)

/-- The signed low and high 12-bit fields of such a word. -/
def low12 (w : Word) : Int := signedOf 12 w.toNat
def high12 (w : Word) : Int := signedOf 12 (w.toNat / 65536)

/-- A write of a trim register waits for the output's next rest sample (R132). -/
def wavTrimWrite (c : Nat) (b : Bool) (v : Word) (d : Dev) : Dev :=
  let d := d.typedWrite (if b then WAV_TRIM_B c else WAV_TRIM_A c) v
  let w := d.rd (if b then WAV_TRIM_B c else WAV_TRIM_A c)
  d.modHc c (fun x => if b then { x with trimB := some w } else { x with trimA := some w })

/-- A trim from its two parts, clamped (R308). -/
def Dev.putTrim (d : Dev) (c : Nat) (b : Bool) (gset oset : Int) : Dev :=
  let dac := d.rd (CAL_DAC (2 * c + if b then 1 else 0))
  let g := low12 dac + gset
  let o := high12 dac + oset
  let cl (x : Int) : Int := max (-2048) (min 2047 x)
  let d := wavTrimWrite c b (pair12 (cl o) (cl g)) d
  if cl g ≠ g || cl o ≠ o then (d.flag (HC_CAL_STS c) HC_CAL_STS.CLAMP).flag CAL_EVT CAL_EVT.TRIMCLAMP else d

/-- The trims of a channel from Gset and Oset as they stand (R308). -/
def Dev.putTrims (d : Dev) (c : Nat) : Dev :=
  let g := d.rd (HC_CAL_GSET c)
  let o := d.rd (HC_CAL_OSET c)
  (d.putTrim c false (low12 g) (low12 o)).putTrim c true (high12 g) (high12 o)

/-- Evaluate a channel with the set in force at the temperature of HC_CAL_TEMP (R311, R313). -/
def Dev.calEval (d : Dev) (c : Nat) : Dev :=
  let pts := (d.calSet c (d.rdN (HC_CAL_SET c) % 4)).pts
  let t := signedOf 16 (d.rdN (HC_CAL_TEMP c))
  let p := evalPoints pts t
  let out := match pts.head?, pts.getLast? with
    | some a, some b => decide (t < a.t) || decide (b.t < t)
    | _, _ => false
  let d := if out then (d.flag (HC_CAL_STS c) HC_CAL_STS.OOR).flag CAL_EVT CAL_EVT.OOR else d
  let d := (d.wr (HC_CAL_GSET c) (pair12 p.gb p.ga)).wr (HC_CAL_OSET c) (pair12 p.ob p.oa)
  d.putTrims c

/-- Rest codes written to WAV_REST: they take effect at once outside a job or pass, else at the next start (R133). -/
def wavRestWrite (c : Nat) (v : Word) (d : Dev) : Dev :=
  let d := d.typedWrite (WAV_REST c) v
  if d.jobActive || d.passActive then d
  else d.modHc c (fun x => { x with restA := d.get (WAV_REST c) WAV_REST.REST_A, restB := d.get (WAV_REST c) WAV_REST.REST_B })

/-- A set change applies: the channel is evaluated with the new set, whose rest codes are written to WAV_REST (R311). -/
def Dev.calSetApply (d : Dev) (c : Nat) : Dev :=
  let k := d.rdN (HC_CAL_SET_NEXT c) % 4
  let d := (d.wrN (HC_CAL_SET c) k).put (HC_CAL_STS c) HC_CAL_STS.PENDING 0
  let x := d.calSet c k
  wavRestWrite c (BitVec.ofNat 32 (x.restA + 65536 * x.restB)) (d.calEval c)

/-- A procedure ends without success: the state, the event, CAL_RESULT, and the trims it had changed (R315). -/
def Dev.calEnd (d : Dev) (state reason step out : Nat) (meas : Int) (evt : Fld) : Dev :=
  let d := (d.put CAL_STS CAL_STS.STATE state).flag CAL_EVT evt
  let d := d.wrN CAL_RESULT (unsignedOf 16 meas + 65536 * (out % 16) + 1048576 * (step % 16) + 16777216 * reason)
  match d.cal.proc with
  | none => d
  | some p =>
    let d := { d with cal := { d.cal with proc := none } }
    if state = 5 || 3 < p.op then d else wavTrimWrite p.chan true p.trimB (wavTrimWrite p.chan false p.trimA d)

/-- A running procedure is aborted (R315). -/
def Dev.calAbort (d : Dev) : Dev :=
  if d.cal.proc.isSome then d.calEnd 4 18 (d.get CAL_STS CAL_STS.STEP) 0 0 CAL_EVT.ABORTED else d

/-- A running procedure fails with a reason (R315). -/
def Dev.calFail (d : Dev) (reason out : Nat) (meas : Int) : Dev :=
  d.calEnd 3 reason (d.get CAL_STS CAL_STS.STEP) out meas CAL_EVT.FAILED

/-- A gate test ends ABORTED (R263): the nozzle under test takes result 0; a procedure it belongs to ends with it (R315). -/
def Dev.gateAbort (d : Dev) (k : Nat) (link : Bool) : Dev :=
  let g : GateSt := tget (fun _ => {}) d.nh.gate k
  if !g.run then d
  else
    let d := d.put (FIR_GATE_STS k) FIR_GATE_STS.STATE 3
    let d := { d with nh := { d.nh with gate := tput (fun _ => {}) d.nh.gate k {} } }
    let d := d.put (NH_GATE g.chan (g.noz / 2)) ⟨16 * (g.noz % 2), 16⟩ 0
    match d.cal.proc with
    | some p => if (p.op = 2 || p.op = 3) && p.gate = k then (if link then d.calFail 5 0 0 else d.calAbort) else d
    | none => d

/-- The gate tests of a channel end with its link (R263). -/
def Dev.gateLink (d : Dev) (c : Nat) : Dev :=
  d.each [0, 1] (fun k d => if (tget (fun _ => ({} : GateSt)) d.nh.gate k).chan = c then d.gateAbort k true else d)

/-- Every gate test ends (R263). -/
def Dev.gatesEnd (d : Dev) : Dev := d.each [0, 1] (fun k d => d.gateAbort k false)

end Sys2Proof.Machine
end

