-- ==== Sys2Proof/Machine/Louvre.lean ====
section
/-! DEFINITION. The Louvre link and the drive waveforms (spec/05_louvre_waveforms.md): link start, status frames, HOLD, bank
images and bank changes, line bodies, waveform tables and their checks, trims at rest. -/

namespace Sys2Proof.Machine

/-! ## Waveforms (R128 to R133) -/

/-- The segments of waveform `w` of an output before the first with DUR = 0 (R128). -/
def Dev.waveSegs (d : Dev) (c : Nat) (b : Bool) (w : Nat) : List Word :=
  ((List.range 32).map (fun s => d.rd (WAV_SEG c ((if b then 512 else 0) + 32 * w + s)))).takeWhile
    (fun v => v.fld WAV_SEG.DUR != 0)

/-- The length L of a waveform in samples. -/
def waveLen (segs : List Word) : Nat := (segs.map (fun v => v.fld WAV_SEG.DUR)).sum

/-- Sample j of a waveform from a rest code (R129). -/
def waveSample (rest : Nat) : List Word → Nat → Nat → Nat
  | [], _, _ => rest
  | v :: t, prev, j =>
    let dur := v.fld WAV_SEG.DUR
    let lvl := v.fld WAV_SEG.LEVEL
    if j ≤ dur then ((prev : Int) + rdiv (((lvl : Int) - prev) * j) dur).toNat else waveSample rest t lvl (j - dur)

/-- The DAC code of a waveform at sample j: the rest code at sample 0 and after sample L (R129). -/
def waveCode (rest : Nat) (segs : List Word) (j : Nat) : Nat :=
  if j = 0 || waveLen segs < j then rest else waveSample rest segs rest j

/-- The slot's START and END in samples, 0 and 0 when absent (R130). -/
def slotOf (segs : List Word) (k : Nat) : Nat × Nat :=
  let idx := (List.range segs.length).filter (fun i => (segs.getD i 0).fld WAV_SEG.SLOT == k)
  match idx.head?, idx.getLast? with
  | some a, some b => (waveLen (segs.take a), waveLen (segs.take (b + 1)))
  | _, _ => (0, 0)

/-- The output voltage for a code under a trim is outside 0 to 2.000 V, with VREFIN at 2.500 V (R132). -/
def clips (trim : Word) (code : Nat) : Bool :=
  let v : Int := 2000 * 2048 * (code : Int) * (16384 + low12 trim) + high12 trim * 100 * 268435456
  decide (v < 0) || decide (2000 * 2048 * 268435456 < v)

/-- CLIP when an output is clamped at one of its codes (R132). -/
def Dev.clipCheck (d : Dev) (c : Nat) (trim : Word) (codes : List Nat) : Dev :=
  d.when (codes.any (clips trim)) (·.flag (WAV_STS c) WAV_STS.CLIP)

/-- An output is at rest: no strobe's waveform is running on it (R129). -/
def Dev.atRest (d : Dev) (c : Nat) (b : Bool) : Bool :=
  match (d.hc c).wave with
  | none => true
  | some (t, wa, wb) => decide (t + 8 * waveLen (d.waveSegs c b (if b then wb else wa)) < d.now)

/-- TRIM_APPLY: a pending trim takes effect at the first rest sample (R132). -/
def trimApply (c : Nat) (b : Bool) (d : Dev) : Dev :=
  let x := d.hc c
  match (if b then x.trimB else x.trimA) with
  | none => d
  | some w =>
    if !d.atRest c b then d
    else
      let d := d.modHc c (fun x => if b then { x with trimB := none, trimInB := w } else { x with trimA := none, trimInA := w })
      d.clipCheck c w [if b then x.restB else x.restA]

/-- WAV_SEG_WRITE: a waveform selected, or selected by a pending change, is not written (R136). -/
def wavSegWrite (c i : Nat) (v : Word) (d : Dev) : Dev :=
  let b := 512 ≤ i
  let w := i % 512 / 32
  let sel := d.get (WAV_SEL c) (if b then WAV_SEL.WFB else WAV_SEL.WFA)
  let nxt := d.get (WAV_SEL_NEXT c) (if b then WAV_SEL_NEXT.WFB else WAV_SEL_NEXT.WFA)
  if sel = w || (nxt = w && d.bit (HC_LVR_STS c) HC_LVR_STS.PENDING) then d.flag (WAV_STS c) WAV_STS.BUSYWR
  else d.typedWrite (WAV_SEG c i) v

/-! ## Checks on waveforms (R135) -/

/-- The slot masks of grey values 1 to 7 in a configuration's two GREY words. -/
def greyMask (g0 g1 : Word) (v : Nat) : Nat :=
  if v = 0 then 0 else if v ≤ 4 then g0.toNat / 2 ^ (8 * (v - 1)) % 256 else g1.toNat / 2 ^ (8 * (v - 5)) % 256

/-- The first failing segment of a waveform, 31 for the whole; none when it passes (R135). -/
def waveFault (segs : List Word) (rest ieff : Nat) (needed : List Nat) : Option Nat :=
  if segs.isEmpty then some 31
  else
    let slot (i : Nat) : Nat := (segs.getD i 0).fld WAV_SEG.SLOT
    let badAt (i : Nat) : Bool :=
      (i + 1 == segs.length && (segs.getD i 0).fld WAV_SEG.LEVEL != rest) ||
        (slot i != 0 && (i = 0 || slot (i - 1) != slot i) &&
          ((List.range i).any (fun k => slot k == slot i) || decide (waveLen (segs.take i) < 15)))
    match (List.range segs.length).find? badAt with
    | some i => some i
    | none =>
      if ieff * 5 < (waveLen segs * 10 + 500) * 4 then some 31
      else if needed.any (fun k => !(List.range segs.length).any (fun i => slot i == k)) then some 31
      else none

/-- The slots named by the grey values of b bits. -/
def neededSlots (g0 g1 : Word) (b : Nat) : List Nat :=
  let m := (List.range (2 ^ b)).foldl (fun a v => a ||| greyMask g0 g1 v) 0
  (List.range 8).filterMap (fun i => if m.testBit i then some (i + 1) else none)

/-- The check of a whole configuration: output and segment of the first failure (R135). -/
def Dev.confFault (d : Dev) (c ieff b : Nat) (conf : List Word) (restA restB : Nat) : Option (Bool × Nat) :=
  let sel := conf.getD 0 0
  let need := neededSlots (conf.getD 1 0) (conf.getD 2 0) b
  let classB := (conf.drop 3).any (· != 0)
  match waveFault (d.waveSegs c false (sel.fld WAV_SEL.WFA)) restA ieff need with
  | some i => some (false, i)
  | none =>
    match waveFault (d.waveSegs c true (sel.fld WAV_SEL.WFB)) restB ieff (if classB then need else []) with
    | some i => some (true, i)
    | none => none

/-- TABLE_ERR with its output and segment (R135). -/
def Dev.tableErr (d : Dev) (c : Nat) (f : Bool × Nat) : Dev :=
  ((d.flag (WAV_STS c) WAV_STS.TABLE_ERR).put (WAV_STS c) WAV_STS.ERR_OUT (if f.1 then 1 else 0)).put (WAV_STS c) WAV_STS.ERR_SEG f.2

/-- The configuration in force, and the pending one: WAV_SEL, GREY and CLASS (R125). -/
def Dev.confNow (d : Dev) (c : Nat) : List Word :=
  [d.rd (WAV_SEL c), d.rd (WAV_GREY0 c), d.rd (WAV_GREY1 c)] ++ (List.range 128).map (fun j => d.rd (WAV_CLASS c j))
def Dev.confNext (d : Dev) (c : Nat) : List Word :=
  [d.rd (WAV_SEL_NEXT c), d.rd (WAV_GREY_NEXT0 c), d.rd (WAV_GREY_NEXT1 c)] ++
    (List.range 128).map (fun j => d.rd (WAV_CLASS_NEXT c j))

/-- A link has a feature that a class map or a number of bits needs (R121, R122). -/
def Dev.lvrFeature (d : Dev) (c bits : Nat) (classB : Bool) : Bool :=
  let v2 := (d.hc c).ver == 2
  let caps := d.get (HC_LVR_ID c) HC_LVR_ID.CAPS
  (bits ≤ 2 || (v2 && caps % 2 == 1)) && (!classB || (v2 && caps / 2 == 1))

/-! ## Bank images (R116, R123, R126) -/

/-- ARMWIN in units of 10 ns (R116). -/
def armWin (delay : Nat) : Nat := (delay * 5 + 400 + 39) / 40

/-- ARMWIN and ALIGN for an image: the latched values while a job or pass is armed or running, else as written (R126). -/
def Dev.bankTiming (d : Dev) (c : Nat) : Nat × Nat :=
  if d.jobActive || d.passBusy then (armWin ((d.hc c).lat.cfg.fld HC_FIR_CFG.DELAY), (d.hc c).lat.lvr)
  else (armWin (d.get (HC_FIR_CFG c) HC_FIR_CFG.DELAY), d.get (HC_LVR_CFG c) HC_LVR_CFG.ALIGN)

/-- The bits per nozzle a bank's GREY serves (R126). -/
def Dev.bankBits (d : Dev) (c : Nat) : Nat :=
  if (d.hc c).ver = 2 && d.get (HC_LVR_ID c) HC_LVR_ID.CAPS % 2 = 1 then 3 else 2

/-- The bytes of a bank image (R123). -/
def Dev.bankBytes (d : Dev) (c armwin align : Nat) (conf : List Word) : List Byte :=
  let sel := conf.getD 0 0
  let slots (segs : List Word) : List Byte :=
    (List.range 7).flatMap (fun k => let (a, b) := slotOf segs (k + 1); leBytes 2 a ++ leBytes 2 b)
  let head := leBytes 1 1 ++ leBytes 1 (d.bankBits c) ++ leBytes 2 (d.nozzles c) ++ leBytes 2 armwin ++ leBytes 1 align ++ leBytes 1 0
  let grey := (List.range 8).flatMap (fun v => leBytes 1 (greyMask (conf.getD 1 0) (conf.getD 2 0) v))
  let body := head ++ grey ++ slots (d.waveSegs c false (sel.fld WAV_SEL.WFA)) ++
    slots (d.waveSegs c true (sel.fld WAV_SEL.WFB)) ++ leBytes 4 0
  if (d.hc c).ver = 2 then body ++ (conf.drop 3).flatMap (fun w => leBytes 4 w.toNat) else body

/-- A bank image starts to be sent (R124): of the pending configuration, or of the one in force. -/
def Dev.startImage (d : Dev) (c bank : Nat) (change : Bool) : Dev :=
  let (aw, al) := d.bankTiming c
  let bytes := d.bankBytes c aw al (if change then (d.hc c).nextConf else d.confNow c)
  d.modHc c (fun x => { x with image := some ⟨bank, bytes, 0, change, aw, al⟩, ready := false })

/-- The idle bank: the other one, or bank 0 in version 1 (R121). -/
def Dev.idleBank (d : Dev) (c : Nat) : Nat := if (d.hc c).ver = 2 then 1 - (d.hc c).bank else 0

/-- A pending change applies: its bank and waveforms are in force (R125). -/
def Dev.bankApply (d : Dev) (c : Nat) : Dev :=
  let x := d.hc c
  match x.image with
  | none => d
  | some im =>
    let conf := x.nextConf
    let d := ((d.wr (WAV_SEL c) (conf.getD 0 0)).wr (WAV_GREY0 c) (conf.getD 1 0)).wr (WAV_GREY1 c) (conf.getD 2 0)
    let d := d.each (List.range 128) (fun j d => d.wr (WAV_CLASS c j) (conf.getD (3 + j) 0))
    let la := waveLen (d.waveSegs c false ((conf.getD 0 0).fld WAV_SEL.WFA))
    let lb := waveLen (d.waveSegs c true ((conf.getD 0 0).fld WAV_SEL.WFB))
    let d := (d.wrN (WAV_LEN c) (la % 65536 + 65536 * (lb % 65536))).put (HC_LVR_STS c) HC_LVR_STS.PENDING 0
    d.modHc c (fun x => { x with
      bank := im.bank, armwin := im.armwin, balign := im.align, image := none, ready := false, nextConf := [] })

/-- L_eff of a bank change. -/
def Dev.bankAt (d : Dev) (c : Nat) : Nat := d.rdN (HC_LVR_BANK_AT_LO c) + 2 ^ 32 * (d.rdN (HC_LVR_BANK_AT_HI c) % 256)

/-- The bits per nozzle of the head job, else those the bank serves (the b of R135). -/
def Dev.checkBits (d : Dev) (c : Nat) : Nat := (d.headJob.map (·.bits)).getD (d.bankBits c)

/-- BANK_ARM (R125): version 1 only outside a job or pass, then the checks, then the image for the idle bank. -/
def bankArm (c : Nat) (d : Dev) : Dev :=
  let busy := d.jobActive || d.passBusy
  let conf := d.confNext c
  let classB := (conf.drop 3).any (· != 0)
  let reject (d : Dev) : Dev :=
    ((d.flag (HC_LVR_EVT c) HC_LVR_EVT.BANK_REJ).put (HC_LVR_STS c) HC_LVR_STS.PENDING 0).modHc c
      (fun x => { x with nextConf := [], ready := false, image := x.image.filter (fun im => !im.change) })
  if d.lvrUp c && (d.hc c).ver = 1 && busy then d.flag (HC_LVR_EVT c) HC_LVR_EVT.BANK_REJ
  else if d.lvrUp c && !d.lvrFeature c 1 classB then reject d
  else
    match d.confFault c (d.get (HC_FIR_MININT_EFF c) ⟨0, 20⟩) (d.checkBits c) conf (d.hc c).restA (d.hc c).restB with
    | some f => reject (d.tableErr c f)
    | none =>
      let d := (d.put (HC_LVR_STS c) HC_LVR_STS.PENDING 1).modHc c (fun x => { x with nextConf := conf, ready := false })
      let d := d.propose 2 (2 ^ c) (d.bankAt c) (conf.map (·.toNat))
      if d.lvrUp c && !(d.hc c).prep then d.startImage c (d.idleBank c) true else d

/-- One write of HC_LVR_BANK_AT_HI (R125). -/
def bankAtWrite (c : Nat) (lo v : Word) (d : Dev) : Dev :=
  let d := (d.wr (HC_LVR_BANK_AT_LO c) lo).typedWrite (HC_LVR_BANK_AT_HI c) v
  d.when (v.bit 31) (bankArm c)

/-- A body on the data lanes (R109). -/
def bodyBytes (type flags tag noz : Nat) (payload : List Byte) (crc : Nat) : List Byte :=
  leBytes 1 type ++ leBytes 1 flags ++ leBytes 2 tag ++ leBytes 2 noz ++ leBytes 2 payload.length ++ leBytes 4 0 ++ payload ++
    leBytes 2 crc ++ leBytes 2 0

/-- The first 12 bytes of a body. -/
def bodyHead (type flags tag noz len : Nat) : List Byte :=
  leBytes 1 type ++ leBytes 1 flags ++ leBytes 2 tag ++ leBytes 2 noz ++ leBytes 2 len ++ leBytes 4 0

/-- Ticks of a body of a payload length: 12.5 ns a character (R106, R109). -/
def bodyTicks (len : Nat) : Nat := 10 * (len / 4 + 6)

/-- No body is on the lanes. -/
def Dev.lanesFree (d : Dev) (c : Nat) : Bool :=
  match (d.hc c).body with
  | none => true
  | some b => b.endAt ≤ d.now

/-- BANK_IMAGE_PIECE (R124): the next piece, when it and its gap end before the previous decision plus I_eff. -/
def bankImagePiece (c : Nat) (d : Dev) : Dev :=
  match (d.hc c).image with
  | none => d
  | some im =>
    let st := d.get (HC_LVR_STS c) HC_LVR_STS.STATE
    let piece := (im.bytes.drop im.sent).take 256
    let fits := match d.pending c, (d.hc c).kPrev with
      | some _, some k => decide (d.now + bodyTicks piece.length + 80 < k + d.get (HC_FIR_MININT_EFF c) ⟨0, 20⟩)
      | _, _ => true
    if piece.isEmpty || (st ≠ 2 && st ≠ 3) || !d.lanesFree c || !fits then d
    else
      let last := im.bytes.length ≤ im.sent + piece.length
      let flags := 2 * im.bank + (if last then 1 else 0)
      let head := bodyHead 2 flags im.sent (d.nozzles c) piece.length
      let d := d.emit (.louvre c (.body (bodyBytes 2 flags im.sent (d.nozzles c) piece (crcOf crc16Ibm3740 (head ++ piece)))))
      d.modHc c (fun x => { x with
        image := some { im with sent := im.sent + piece.length }, idleAt := d.now + bodyTicks piece.length })

/-! ## The link (R118 to R120) -/

/-- The tracked HOLD of the head bridge; the longest HOLD in µs when it ends (R118). -/
def Dev.setHold (d : Dev) (c : Nat) (on : Bool) : Dev :=
  let x := d.hc c
  if on = x.hold then d
  else
    let d := (d.put (HC_FIR_STS c) HC_FIR_STS.HOLD (if on then 1 else 0)).modHc c (fun x => { x with hold := on, holdAt := d.now })
    if on then d
    else
      let us := min 65535 ((d.now - x.holdAt) / 800)
      if d.get (HC_LVR_HOLDCNT c) hiHalf < us then d.put (HC_LVR_HOLDCNT c) hiHalf us else d

/-- The link goes down (R119): DOWN, the gate tests of the channel end (R263), the outputs stay at rest. -/
def Dev.lvrDown (d : Dev) (c : Nat) : Dev :=
  let d := (d.flag (HC_LVR_EVT c) HC_LVR_EVT.DOWN).put (HC_LVR_STS c) HC_LVR_STS.VER 0
  let d := (d.lvrState c 0).modHc c (fun x => { x with
    body := none, image := none, ready := false, prep := false, errs := [], ver := 0, wave := none })
  (d.setHold c false).gateLink c

/-- A write of HC_LVR_CFG (R120, R137): the clamps of VER_MAX and STB_W; EN starts the link or turns it off. -/
def lvrCfgWrite (c : Nat) (v : Word) (d : Dev) : Dev :=
  let vm := v.fld HC_LVR_CFG.VER_MAX
  let v := if vm = 1 || vm = 2 then v else v.setFld HC_LVR_CFG.VER_MAX 2
  let v := if v.fld HC_LVR_CFG.STB_W < 16 then v.setFld HC_LVR_CFG.STB_W 16 else v
  let was := d.bit (HC_LVR_CFG c) HC_LVR_CFG.EN
  let d := d.typedWrite (HC_LVR_CFG c) v
  let en := v.fld HC_LVR_CFG.EN = 1
  if en && !was then (if d.linksHeld then d else d.lvrStart c)
  else if !en && was then (if d.lvrUp c then d.lvrDown c else d.lvrState c 0)
  else d

/-- HC_LVR_CMD.RESTART (R119). -/
def lvrRestart (c : Nat) (d : Dev) : Dev := if d.bit (HC_LVR_CFG c) HC_LVR_CFG.EN then d.lvrDown c else d

/-- LVR_STATUS_TIMEOUT (R119). -/
def lvrStatusTimeout (c : Nat) (d : Dev) : Dev :=
  if d.lvrUp c && decide ((d.hc c).frameAt + usTicks 20 ≤ d.now) then d.lvrDown c else d

/-- Return-lane code errors: counted; 4 or more within 1 µs take the link down (R119). -/
def lvrCodeErrors (c n : Nat) (d : Dev) : Dev :=
  if n = 0 || !d.bit (HC_LVR_CFG c) HC_LVR_CFG.EN then d
  else
    let d := (d.count (HC_LVR_ERRCNT c) hiHalf n).flag (HC_LVR_EVT c) HC_LVR_EVT.CODEERR
    let errs := ((d.hc c).errs.filter (fun t => d.now < t + usTicks 1)) ++ List.replicate (min n 4) d.now
    let d := d.modHc c (fun x => { x with errs := errs })
    if 4 ≤ errs.length && d.get (HC_LVR_STS c) HC_LVR_STS.STATE = 3 then d.lvrDown c else d

/-- A training sequence from the bridge while the link is UP (R119). -/
def lvrBridgeTraining (c : Nat) (d : Dev) : Dev := if d.lvrUp c then d.lvrDown c else d

/-- LINK_START_RETRY: 100 µs after a link-down (R119). -/
def linkStartRetry (c : Nat) (d : Dev) : Dev :=
  if d.bit (HC_LVR_CFG c) HC_LVR_CFG.EN && d.islUp (0x40 + c) && !d.linksHeld && !d.looped 2 c && d.get (HC_LVR_STS c) HC_LVR_STS.STATE = 0 &&
      decide ((d.hc c).stateAt + usTicks 100 ≤ d.now) then d.lvrStart c else d

/-- LINK_START_FAILED: not UP within 10 ms (R120). -/
def linkStartFailed (c : Nat) (d : Dev) : Dev :=
  let st := d.get (HC_LVR_STS c) HC_LVR_STS.STATE
  if (st = 1 || st = 2) && decide ((d.hc c).startAt + msTicks 10 ≤ d.now) then d.lvrState c 4 else d

/-- FAILED_RETRY: every 100 ms while FAILED and enabled (R120). -/
def failedRetry (c : Nat) (d : Dev) : Dev :=
  if d.bit (HC_LVR_CFG c) HC_LVR_CFG.EN && d.get (HC_LVR_STS c) HC_LVR_STS.STATE = 4 &&
      decide ((d.hc c).stateAt + msTicks 100 ≤ d.now) then d.lvrStart c else d

/-- BRIDGE_TS: the bridge's VER_MAX, CAPS, NMAX and ID; refused when NMAX is below N (R120). -/
def bridgeTs (c verMax caps nmax id : Nat) (d : Dev) : Dev :=
  if d.get (HC_LVR_STS c) HC_LVR_STS.STATE ≠ 1 then d
  else
    let d := d.wrN (HC_LVR_ID c) (caps % 4 + 4 * (nmax % 16384) + 65536 * (id % 65536))
    if nmax < d.nozzles c then d.lvrState c 4
    else
      let ver := min verMax (d.get (HC_LVR_CFG c) HC_LVR_CFG.VER_MAX)
      (d.modHc c (fun x => { x with ver := ver })).emit (.louvre c (.ts2 ver))

/-- TS2_ECHO: the same VER moves link start to CONFIG with the image of bank 0 (R120). -/
def ts2Echo (c ver : Nat) (d : Dev) : Dev :=
  if d.get (HC_LVR_STS c) HC_LVR_STS.STATE = 1 && (d.hc c).ver = ver && ver ≠ 0 then (d.lvrState c 2).startImage c 0 false
  else d

/-- The link is UP (R120): a pending bank change is sent now. -/
def Dev.lvrGoUp (d : Dev) (c : Nat) (im : BankImg) : Dev :=
  let d := (d.lvrState c 3).flag (HC_LVR_EVT c) HC_LVR_EVT.UP
  let d := d.put (HC_LVR_STS c) HC_LVR_STS.VER (d.hc c).ver
  let d := d.modHc c (fun x => { x with
    bank := im.bank, armwin := im.armwin, balign := im.align, image := none, ready := false, idleAt := d.now, frameAt := d.now })
  if d.bit (HC_LVR_STS c) HC_LVR_STS.PENDING then d.startImage c (d.idleBank c) true else d

/-- A status frame after the last piece shows the target bank ready, or not (R124 to R126). -/
def Dev.bankReady (d : Dev) (c flags : Nat) : Dev :=
  match (d.hc c).image with
  | none => d
  | some im =>
    if im.sent < im.bytes.length || (d.hc c).ready then d
    else if !flags.testBit (4 + im.bank) then d.modHc c (fun x => { x with image := some { im with sent := 0 } })
    else if d.get (HC_LVR_STS c) HC_LVR_STS.STATE = 2 then d.lvrGoUp c im
    else if im.change then
      let d := d.modHc c (fun x => { x with ready := true })
      if d.jobActive || d.passActive then d else d.bankApply c
    else
      let d := d.modHc c (fun x => { x with
        bank := im.bank, armwin := im.armwin, balign := im.align, image := none, prep := false })
      if d.bit (HC_LVR_STS c) HC_LVR_STS.PENDING then d.startImage c (d.idleBank c) true else d

/-- STATUS_FRAME: the 12 bytes of a status frame (R117, R118). -/
def statusFrame (c : Nat) (bs : List Byte) (d : Dev) : Dev :=
  let st := d.get (HC_LVR_STS c) HC_LVR_STS.STATE
  if st ≠ 2 && st ≠ 3 then d
  else if bs.length ≠ 12 || leField bs 0 1 ≠ 0x81 || crcOf crc16Ibm3740 (bs.take 10) ≠ leField bs 10 2 then
    d.flag (HC_LVR_EVT c) HC_LVR_EVT.RETCRC
  else
    let fl := leField bs 1 1
    let d := d.modHc c (fun x => { x with frameAt := d.now })
    let bit (i : Nat) : Nat := if fl.testBit i then 1 else 0
    let d := ((d.put (HC_LVR_STS c) HC_LVR_STS.HEAD_PRESENT (bit 1)).put (HC_LVR_STS c) HC_LVR_STS.HEAD_FAULT (bit 2)).put
      (HC_LVR_STS c) HC_LVR_STS.OVERTEMP (bit 3)
    let d := d.wrN (HC_LVR_TEMP c) (leField bs 4 2)
    let d := d.wrN (HC_LVR_HSTAT c) (leField bs 8 2 + 65536 * leField bs 2 2)
    let d := d.count (HC_LVR_ERRCNT c) HC_LVR_ERRCNT.CRCERR (leField bs 6 1)
    let d := d.count (HC_LVR_MISS c) HC_LVR_MISS.MISS (leField bs 7 1)
    let d := d.when (leField bs 6 1 != 0) (·.flag (HC_LVR_EVT c) HC_LVR_EVT.BRIDGE_ERR)
    (d.setHold c (fl.testBit 0)).bankReady c fl

/-- HOLD_ON (R118). -/
def holdOn (c : Nat) (d : Dev) : Dev :=
  if d.lvrUp c then (d.count (HC_LVR_HOLDCNT c) HC_LVR_HOLDCNT.HOLD_ON 1).setHold c true else d

/-- HOLD_OFF (R118). -/
def holdOff (c : Nat) (d : Dev) : Dev := d.setHold c false

/-! ## Bodies (R110 to R113, R188) -/

/-- H(m): the CRC of the body's first 12 bytes followed by LEN zero bytes (R188). -/
def headCheck (head : List Byte) (len : Nat) : Nat := crcOf crc16Ibm3740 (head ++ leBytes len 0)

/-- Every job line a channel line carries is released or voided (R190). -/
def Dev.lineReleased (d : Dev) (c m : Nat) : Bool :=
  (d.carried c m).all (fun l => (d.lineOf c l).isSome || d.lineVoided c l)

/-- The nozzle values of a channel line: each row from its job line, 0 where it has none or it is voided (R42, R110). -/
def Dev.lineValues (d : Dev) (c m : Nat) : List Nat :=
  let rows := (d.rowList c).map (fun r => match d.rowLine c m r with
    | some l => if d.lineVoided c l then none else d.lineOf c l
    | none => none)
  (List.range (d.nozzles c)).map (fun n =>
    match rows.getD (d.rowOf c n) none with
    | some b => b.vals.getD n 0
    | none => 0)

/-- The XOR of the row checks that a channel line carries (R188). -/
def Dev.lineCheck (d : Dev) (c m : Nat) : Nat :=
  (d.rowList c).foldl (fun a r =>
    match d.rowLine c m r with
    | some l => if d.lineVoided c l then a else
      match d.lineOf c l with
      | some b => a ^^^ b.checks.getD r 0
      | none => a
    | none => a) 0

/-- Some row of a channel line carries released data. -/
def Dev.lineData (d : Dev) (c m : Nat) : Bool :=
  (d.carried c m).any (fun l => (d.lineOf c l).isSome && !d.lineVoided c l)

/-- The bank a line's body names: a prepared change from its line on (R125). -/
def Dev.bankFor (d : Dev) (c m : Nat) : Nat :=
  let x := d.hc c
  match x.image with
  | some im => if x.ready && im.change && !d.awaiting 2 c && d.atOrAfter (d.bankAt c) m then im.bank else x.bank
  | none => x.bank

/-- BODY_SEND (R113): the pending line's body starts, once the gap, the release and the mask allow. -/
def bodySend (c : Nat) (d : Dev) : Dev :=
  match d.pending c with
  | none => d
  | some m =>
    if !d.lvrUp c || (d.hc c).body.isSome || d.masked m || d.now < (d.hc c).idleAt + 80 || !d.lineReleased c m || !d.lineData c m
    then d
    else
      let b := d.fir.bits
      let len := lineBytes (d.nozzles c) b
      let bank := d.bankFor c m
      let flags := 2 * bank + (if d.reverse then 4 else 0) + 8 * (b - 1)
      let head := bodyHead 1 flags (m % 65536) (d.nozzles c) len
      let crc := headCheck head len ^^^ d.lineCheck c m
      let bytes := bodyBytes 1 flags (m % 65536) (d.nozzles c) (packLine b len (d.lineValues c m)) crc
      ((d.put (HC_LVR_STS c) HC_LVR_STS.BANK bank).emit (.louvre c (.body bytes))).modHc c (fun x => { x with
        body := some ⟨m, d.now + bodyTicks len, crc, true, bank⟩ })

/-! ## The meanings -/

/-- LVR_STATUS_TIMEOUT (R119). -/
def execLvrStatusTimeout (c : Fin 64) (dt : Nat) (s : State) : Host.Outcome State Fault Refusal :=
  .next ((s.pass dt).onDev (lvrStatusTimeout c.val))

/-- LVR_CODE_ERRORS: code errors that arrive on one tick (R119). -/
def execLvrCodeErrors (c : Fin 64) (n dt : Nat) (s : State) : Host.Outcome State Fault Refusal :=
  .next ((s.pass dt).onIsl (0x40 + c.val) (lvrCodeErrors c.val n))

/-- LVR_BRIDGE_TRAINING (R119). -/
def execLvrBridgeTraining (c : Fin 64) (dt : Nat) (s : State) : Host.Outcome State Fault Refusal :=
  .next ((s.pass dt).onIsl (0x40 + c.val) (lvrBridgeTraining c.val))

/-- LVR_RESTART (R119). -/
def execLvrRestart (q : Req) (c : Fin 64) (s : State) : Host.Outcome State Fault Refusal :=
  .next (s.devCommand q (HC_LVR_CMD c.val) 1 (fun _ => lvrRestart c.val))

/-- LINK_START_RETRY (R119). -/
def execLinkStartRetry (c : Fin 64) (dt : Nat) (s : State) : Host.Outcome State Fault Refusal :=
  .next ((s.pass dt).onIsl (0x40 + c.val) (linkStartRetry c.val))

/-- LVR_ENABLE: a write of HC_LVR_CFG with EN = 1 (R120). -/
def execLvrEnable (q : Req) (c : Fin 64) (v : Word) (s : State) : Host.Outcome State Fault Refusal :=
  .next (s.devCommand q (HC_LVR_CFG c.val) (v.setFld HC_LVR_CFG.EN 1) (lvrCfgWrite c.val))

/-- BRIDGE_TS (R120). -/
def execBridgeTs (c : Fin 64) (verMax caps nmax id dt : Nat) (s : State) : Host.Outcome State Fault Refusal :=
  .next ((s.pass dt).onIsl (0x40 + c.val) (bridgeTs c.val verMax caps nmax id))

/-- TS2_ECHO (R120). -/
def execTs2Echo (c : Fin 64) (ver dt : Nat) (s : State) : Host.Outcome State Fault Refusal :=
  .next ((s.pass dt).onIsl (0x40 + c.val) (ts2Echo c.val ver))

/-- LINK_START_FAILED (R120). -/
def execLinkStartFailed (c : Fin 64) (dt : Nat) (s : State) : Host.Outcome State Fault Refusal :=
  .next ((s.pass dt).onIsl (0x40 + c.val) (linkStartFailed c.val))

/-- FAILED_RETRY (R120). -/
def execFailedRetry (c : Fin 64) (dt : Nat) (s : State) : Host.Outcome State Fault Refusal :=
  .next ((s.pass dt).onIsl (0x40 + c.val) (failedRetry c.val))

/-- BANK_ARM: a write of HC_LVR_BANK_AT_HI with ARM = 1 and the line's high byte; its low part from the port's hold register (R125, R11). -/
def execBankArm (q : Req) (c : Fin 64) (hi : Fin 256) (s : State) : Host.Outcome State Fault Refusal :=
  .next (s.highCommand q (HC_LVR_BANK_AT_LO c.val) (HC_LVR_BANK_AT_HI c.val) (BitVec.ofNat 32 (2 ^ 31 + hi.val)) (bankAtWrite c.val))

/-- BANK_IMAGE_PIECE (R124). -/
def execBankImagePiece (c : Fin 64) (dt : Nat) (s : State) : Host.Outcome State Fault Refusal :=
  .next ((s.pass dt).onIsl (0x40 + c.val) (bankImagePiece c.val))

/-- WAV_TRIM_WRITE (R132). -/
def execWavTrimWrite (q : Req) (c : Fin 64) (b : Bool) (v : Word) (s : State) : Host.Outcome State Fault Refusal :=
  .next (s.devCommand q (if b then WAV_TRIM_B c.val else WAV_TRIM_A c.val) v (wavTrimWrite c.val b))

/-- TRIM_APPLY (R132). -/
def execTrimApply (c : Fin 64) (b : Bool) (dt : Nat) (s : State) : Host.Outcome State Fault Refusal :=
  .next ((s.pass dt).onDev (trimApply c.val b))

/-- WAV_SEG_WRITE (R136). -/
def execWavSegWrite (q : Req) (c : Fin 64) (i : Fin 1024) (v : Word) (s : State) : Host.Outcome State Fault Refusal :=
  .next (s.devCommand q (WAV_SEG c.val i.val) v (wavSegWrite c.val i.val))

/-- STATUS_FRAME (R117). -/
def execStatusFrame (c : Fin 64) (bs : List Byte) (dt : Nat) (s : State) : Host.Outcome State Fault Refusal :=
  .next ((s.pass dt).onIsl (0x40 + c.val) (statusFrame c.val bs))

/-- HOLD_ON (R118). -/
def execHoldOn (c : Fin 64) (dt : Nat) (s : State) : Host.Outcome State Fault Refusal := .next ((s.pass dt).onIsl (0x40 + c.val) (holdOn c.val))

/-- HOLD_OFF (R118). -/
def execHoldOff (c : Fin 64) (dt : Nat) (s : State) : Host.Outcome State Fault Refusal := .next ((s.pass dt).onIsl (0x40 + c.val) (holdOff c.val))

/-- BODY_SEND (R113). -/
def execBodySend (c : Fin 64) (dt : Nat) (s : State) : Host.Outcome State Fault Refusal := .next ((s.pass dt).onIsl (0x40 + c.val) (bodySend c.val))

end Sys2Proof.Machine
end

