-- ==== Sys2Proof/Machine/Time.lean ====
section
/-! DEFINITION. The time base, the Ethernet ports and the capture units (spec/13_time.md, R332 to R345, R351, R352, R355). The
trigger units are in Trig.lean. -/

namespace Sys2Proof.Machine

/-- Change the time base's hidden state. -/
def Dev.modTime (d : Dev) (f : TimeSt → TimeSt) : Dev := { d with time := f d.time }

/-! ## Domains (R334 to R338) -/

/-- INC at its limits of ±1,000 ppm, in 2^-32 ns (R334). -/
def incMin : Nat := 5363340411
def incMax : Nat := 5374077829

/-- A servo write of a domain: its holdover timer restarts and HOLD clears (R338). -/
def Dev.servoWrite (d : Dev) (dom : Nat) : Dev :=
  (d.modTime (fun t => if dom = 0 then { t with servo0 := d.now } else { t with servo1 := d.now })).put (TIM_D_STS dom) TIM_D_STS.HOLD 0

/-- A write of TIM_Dd_INC_HI with the low word held (R334). -/
def incWrite (dom v : Nat) (d : Dev) : Dev :=
  let v := v % 2 ^ 36
  let w := max incMin (min incMax v)
  let d := d.when (w != v) (·.flag TIM_EVT TIM_EVT.INCCLAMP)
  (d.wr64 (TIM_D_INC_LO dom) (TIM_D_INC_HI dom) w).servoWrite dom

/-- Set a domain's time, first and second accumulator. -/
def Dev.setDomain (d : Dev) (dom a b : Nat) : Dev :=
  d.modTime (fun t => if dom = 0 then { t with a0 := a, b0 := b } else { t with a1 := a, b1 := b })

/-- The second accumulator of a domain (R337). -/
def Dev.domSecond (d : Dev) (dom : Nat) : Nat := if dom = 0 then d.time.b0 else d.time.b1

/-- A trigger unit's hidden state. -/
def Dev.trgSt (d : Dev) (n : Nat) : TrgSt := tget (fun _ => {}) d.trg n

/-- Replace it. -/
def Dev.setTrg (d : Dev) (n : Nat) (x : TrgSt) : Dev := { d with trg := tput (fun _ => {}) d.trg n x }

/-- A trigger's target in units of 2^-32 ns (R346). -/
def Dev.trgTarget (d : Dev) (n : Nat) : Nat :=
  (((d.rdN (TRG_T_SEC_LO n) + 2 ^ 32 * (d.rdN (TRG_T_SEC_HI n) % 65536)) * 1000000000 + d.rdN (TRG_T_NS n)) * 65536 +
    d.rdN (TRG_T_FRAC n) % 65536) * 65536

/-- Time has jumped in a domain: an armed trigger whose target it has passed is late (R347). -/
def Dev.trgJump (d : Dev) : Dev :=
  d.each (List.range 16) (fun n d =>
    if d.bit (TRG_STS n) TRG_STS.ARMED then
      d.setTrg n { d.trgSt n with ahead := decide (d.timeIn (d.get (TRG_CFG n) TRG_CFG.DOM) < d.trgTarget n), at_ := d.now }
    else d)

/-- The time domain state that the active mirrors (R412). -/
def Dev.mirrorTime (d : Dev) : Dev :=
  d.mirror [5, d.selDom, unsignedOf 96 d.time.h, d.time.a0, d.time.a1]

/-- TIM_Dd_CMD.SET (R335, R337). -/
def domainSet (dom : Nat) (d : Dev) : Dev :=
  let ns := d.get (TIM_D_SET_NS dom) TIM_D_SET_NS.NS
  if 1000000000 ≤ ns then d.flag TIM_EVT TIM_EVT.CMDREJ
  else
    let sec := d.rdN (TIM_D_SET_SEC_LO dom) + 2 ^ 32 * (d.rdN (TIM_D_SET_SEC_HI dom) % 65536)
    let t := (sec * 1000000000 + ns) * 2 ^ 32
    let back := dom = d.selDom && t < d.domTime dom
    let d := (((d.setDomain dom t t).put (TIM_D_STS dom) TIM_D_STS.CNTERR 0).servoWrite dom).trgJump.mirrorTime
    d.when back (·.flag TIM_EVT TIM_EVT.BACKSTEP)

/-- TIM_Dd_CMD.STEP (R335). -/
def domainStep (dom : Nat) (d : Dev) : Dev :=
  let adj : Int := signedOf 32 (d.rdN (TIM_D_ADJ dom)) * 2 ^ 32
  let a : Int := d.domTime dom + adj
  if a < 0 then d.flag TIM_EVT TIM_EVT.CMDREJ
  else
    let d := (d.setDomain dom a.toNat (d.domSecond dom + adj).toNat).servoWrite dom |>.trgJump.mirrorTime
    d.when (dom = d.selDom && adj < 0) (·.flag TIM_EVT TIM_EVT.BACKSTEP)

/-- A write of TIM_Dd_CMD (R335). -/
def domainCmd (dom : Nat) (v : Word) (d : Dev) : Dev :=
  if v.bit 0 then domainSet dom d else if v.bit 1 then domainStep dom d else d

/-- A domain has CNTERR, or is in holdover. -/
def Dev.domFaulty (d : Dev) (dom : Nat) : Bool := d.bit (TIM_D_STS dom) TIM_D_STS.CNTERR
def Dev.domHold (d : Dev) (dom : Nat) : Bool := d.bit (TIM_D_STS dom) TIM_D_STS.HOLD

/-- Device time moves to the other domain without a step, or is refused (R340). -/
def timeSwitch (d : Dev) : Dev :=
  let old := d.selDom
  let new := 1 - old
  let h : Int := d.domTime old + d.time.h - d.domTime new
  if 2 ^ 63 ≤ h.natAbs || d.domFaulty new then d.flag TIM_EVT TIM_EVT.SWREJ
  else
    let d := (d.modTime (fun t => { t with h := h, sel := !t.sel })).flag TIM_EVT TIM_EVT.SWITCH
    if d.activeOfPair then d.brdSend 0x09 [new] else d

/-- The two accumulators of a domain no longer agree (R337); a standby does not switch on it (R414). -/
def cntErr (dom : Nat) (errA errB : Int) (d : Dev) : Dev :=
  let a := ((d.domTime dom : Int) + errA).toNat
  let b := ((d.domSecond dom : Int) + errB).toNat
  let d := d.setDomain dom a b
  if a = b then d
  else
    let d := (d.put (TIM_D_STS dom) TIM_D_STS.CNTERR 1).flag TIM_EVT TIM_EVT.CNTERR
    if !d.standby && dom = d.selDom && d.bit TIM_CFG TIM_CFG.AUTO_FAIL && !d.domFaulty (1 - dom) then timeSwitch d else d

/-- SERVO_TMO ms without a servo write (R338); a standby does not switch on it (R414). -/
def holdover (dom : Nat) (d : Dev) : Dev :=
  let tmo := d.get (TIM_D_CFG dom) TIM_D_CFG.SERVO_TMO
  let at_ := if dom = 0 then d.time.servo0 else d.time.servo1
  if tmo ≠ 0 && !d.domHold dom && decide (at_ + msTicks tmo ≤ d.now) then
    let d := (d.put (TIM_D_STS dom) TIM_D_STS.HOLD 1).flag TIM_EVT TIM_EVT.HOLDOVER
    let o := 1 - dom
    if !d.standby && dom = d.selDom && d.bit TIM_CFG TIM_CFG.AUTO_HOLD && !d.domHold o && !d.domFaulty o then timeSwitch d else d
  else d

/-- TIM_CMD.CLEAR_H (R341). -/
def clearH (d : Dev) : Dev :=
  (d.modTime (fun t => { t with h := 0 })).trgJump.mirrorTime.when (decide (0 < d.time.h)) (·.flag TIM_EVT TIM_EVT.BACKSTEP)

/-- A write of TIM_CMD. -/
def timCmdWrite (v : Word) (d : Dev) : Dev := (d.when (v.bit 0) timeSwitch).when (v.bit 1) clearH

/-- TIM_CFG with SLEW from 1 to 10,000 (R353). -/
def timCfgWrite (v : Word) (d : Dev) : Dev :=
  d.typedWrite TIM_CFG (v.setFld TIM_CFG.SLEW (max 1 (min 10000 (v.fld TIM_CFG.SLEW))))

/-! ## Ethernet (R342 to R345, R355) -/

/-- An Ethernet port's link goes down: DOWN, its sessions close, its epoch increments (R342, R360, R373). -/
def Dev.ethDown (d : Dev) (p : Nat) : Dev :=
  let up := d.bit (ETH_STS p) ETH_STS.LINK
  let d := ((d.put (ETH_STS p) ETH_STS.LINK 0).put (ETH_STS p) ETH_STS.PCS_LOCK 0).put (ETH_STS p) ETH_STS.AN_DONE 0
  if up then (d.flag (ETH_EVT p) ETH_EVT.DOWN).portDown (2 + p) else d

/-- A write of ETH_p_CFG takes the link down and restarts it (R355). -/
def ethCfgWrite (p : Nat) (v : Word) (d : Dev) : Dev := (d.ethDown p).typedWrite (ETH_CFG p) v

/-- The link comes up (R342). -/
def ethLinkUp (p : Nat) (rf : Bool) (d : Dev) : Dev :=
  if d.bit (ETH_CFG p) ETH_CFG.EN && !d.bit (ETH_STS p) ETH_STS.LINK && d.islUp 7 && !d.looped 6 p then
    let an := d.bit (ETH_CFG p) ETH_CFG.MODE && d.bit (ETH_CFG p) ETH_CFG.AN
    let d := ((d.put (ETH_STS p) ETH_STS.LINK 1).put (ETH_STS p) ETH_STS.PCS_LOCK 1).put (ETH_STS p) ETH_STS.AN_DONE (if an then 1 else 0)
    (d.put (ETH_STS p) ETH_STS.REMOTE_FAULT (if rf then 1 else 0)).flag (ETH_EVT p) ETH_EVT.UP
  else d

/-- The link goes down (R342). -/
def ethLinkDown (p : Nat) (rf : Bool) (d : Dev) : Dev :=
  if d.bit (ETH_STS p) ETH_STS.LINK then (d.ethDown p).put (ETH_STS p) ETH_STS.REMOTE_FAULT (if rf then 1 else 0) else d

/-- A time at the pins of a port in 2^-16 ns: its timestamp domain at an eighth of a tick from now, plus a latency
register (R343). -/
def Dev.ethTime (d : Dev) (p lat : Nat) (eighth : Int) : Nat :=
  let dom := d.get (ETH_CFG p) ETH_CFG.TSDOM
  let t : Int := d.domTime dom + Int.fdiv (eighth * d.domInc dom) 8
  (Int.fdiv t 65536 + signedOf 32 (d.rdN lat)).toNat

/-- A received frame is timestamped and delivered to the firmware (R343). -/
def ethFrameRx (p : Nat) (eighth : Int) (frame : List Byte) (d : Dev) : Dev :=
  if d.bit (ETH_STS p) ETH_STS.LINK && frame.length ≤ 9216 then
    d.emit (.ethRx p (d.ethTime p (ETH_LAT_RX p) eighth) frame)
  else d

/-- Replace bytes of a frame from an offset. -/
def patchBytes (frame : List Byte) (off : Nat) (bs : List Byte) : List Byte :=
  if off + bs.length ≤ frame.length then frame.take off ++ bs ++ frame.drop (off + bs.length) else frame

/-- The number of bytes, most significant first, in a frame. -/
def beField (frame : List Byte) (off n : Nat) : Nat := leNat ((frame.drop off).take n).reverse

/-- One-step insertion: originTimestamp and correctionField at their offsets; the UDP checksum of IPv4 becomes 0 (R344). -/
def oneStepFrame (frame : List Byte) (t origin corr : Nat) : List Byte :=
  let ty := beField frame 12 2
  if ty ≠ 0x88F7 && ty ≠ 0x0800 then frame
  else
    let ns := t / 65536
    let f := patchBytes frame origin (beBytes 6 (ns / 1000000000) ++ beBytes 4 (ns % 1000000000))
    let f := patchBytes f corr (beBytes 8 (beField f corr 8 + t % 65536))
    let ihl := (frame.getD 14 0).toNat % 16 * 4
    if ty = 0x0800 && (frame.getD 23 0) = 17 then patchBytes f (14 + ihl + 6) [0, 0] else f

/-- The transmit timestamp queue of a port (R345). -/
def Dev.txQueue (d : Dev) (p : Nat) : List TxStamp := tget (fun _ => []) d.txq p

/-- Replace it. -/
def Dev.setTxq (d : Dev) (p : Nat) (q : List TxStamp) : Dev := { d with txq := tput (fun _ => []) d.txq p q }

/-- A timestamp enters the queue, or is dropped (R345). -/
def Dev.txStamp (d : Dev) (p tag dom time : Nat) : Dev :=
  if 16 ≤ (d.txQueue p).length then (d.flag (ETH_EVT p) ETH_EVT.OVERFLOW).count (ETH_TXQ_CNT p) ETH_TXQ_CNT.DROPPED 1
  else d.setTxq p (d.txQueue p ++ [⟨tag, dom, time⟩])

/-- A frame is transmitted (R344), or was not sent because the link went down or it was discarded (R345). -/
def ethFrameTx (p : Nat) (eighth : Int) (twoStep : Option Nat) (oneStep : Option (Nat × Nat)) (sent : Bool) (frame : List Byte)
    (d : Dev) : Dev :=
  if !sent || !d.bit (ETH_STS p) ETH_STS.LINK then
    if twoStep.isSome then (d.count (ETH_TXQ_CNT p) ETH_TXQ_CNT.ABORTED 1).flag (ETH_EVT p) ETH_EVT.TXABORT else d
  else
    let t := d.ethTime p (ETH_LAT_TX p) eighth
    let f := match oneStep with
      | some (o, c) => oneStepFrame frame t o c
      | none => frame
    let d := d.emit (.eth p f)
    match twoStep with
    | some tag => d.txStamp p (tag % 65536) (d.get (ETH_CFG p) ETH_CFG.TSDOM) t
    | none => d

/-- A write of ETH_p_TXQ_CMD: FLUSH empties, POP removes the head (R345). -/
def txqCmd (p : Nat) (v : Word) (d : Dev) : Dev :=
  if v.bit 1 then d.setTxq p [] else if v.bit 0 then d.setTxq p ((d.txQueue p).drop 1) else d

/-! ## Captures (R351, R352) -/

/-- A capture unit's FIFO. -/
def Dev.capq (d : Dev) (n : Nat) : List CapEntry := tget (fun _ => []) d.cap n

/-- Replace it. -/
def Dev.setCapq (d : Dev) (n : Nat) (q : List CapEntry) : Dev := { d with cap := tput (fun _ => []) d.cap n q }

/-- The times of an event at an eighth of the present tick: device time, Main and Reserve, in 2^-16 ns, half up (R351). -/
def Dev.eventTimes (d : Dev) (j : Nat) : List Nat :=
  let at_ (t inc : Nat) : Nat := (8 * t + j * inc + 8 * 32768) / (8 * 65536)
  [at_ d.devTime (d.domInc d.selDom), at_ (d.domTime 0) (d.domInc 0), at_ (d.domTime 1) (d.domInc 1)]

/-- A captured time lies in an open window of a trigger (R352). -/
def Dev.inWindow (d : Dev) (trg len t : Nat) : Bool :=
  (d.trgSt trg).windows.any (fun w => decide (w ≤ t) && decide (t < w + len * 4096))

/-- One capture unit sees an event of its source (R351, R352). -/
def Dev.capUnit (d : Dev) (n : Nat) (times : List Nat) (pos : Int) : Dev :=
  let t := times.getD (d.get (CAP_CFG n) CAP_CFG.DOM) 0
  if d.bit (CAP_CFG n) CAP_CFG.WIN_EN &&
      !d.inWindow (d.get (CAP_CFG n) CAP_CFG.WIN_TRG) (d.rdN (CAP_WINLEN n)) t then
    (d.flag (CAP_STS n) CAP_STS.OUTSIDE).count (CAP_CNT n) CAP_CNT.OUTSIDE 1
  else if 8 ≤ (d.capq n).length then (d.flag (CAP_STS n) CAP_STS.OVERFLOW).count (CAP_CNT n) CAP_CNT.DROPPED 1
  else d.setCapq n (d.capq n ++ [⟨t, pos⟩])

/-- An event of a source: pin edges by their direction, the others regardless of EDGE (R351). -/
def Dev.capEvent (d : Dev) (src : Nat) (active : Bool) (times : List Nat) (tick : Nat) : Dev :=
  d.each (List.range 16) (fun n d =>
    let e := d.get (CAP_CFG n) CAP_CFG.EDGE
    let hit := 32 ≤ src || e = 3 || (e = 1 && active) || (e = 2 && !active)
    if d.bit (CAP_CFG n) CAP_CFG.EN && d.get (CAP_CFG n) CAP_CFG.SRC = src && hit then d.capUnit n times (d.PAt tick) else d)

/-- A write of CAPn_CFG: a windowed unit whose domain differs from its trigger's is not enabled (R352). -/
def capCfgWrite (n : Nat) (v : Word) (d : Dev) : Dev :=
  let bad := v.bit 31 && v.bit 12 && v.fld CAP_CFG.DOM ≠ d.get (TRG_CFG (v.fld CAP_CFG.WIN_TRG)) TRG_CFG.DOM
  let d := d.typedWrite (CAP_CFG n) (if bad then v.setFld CAP_CFG.EN 0 else v)
  d.when bad (·.flag (CAP_STS n) CAP_STS.REFUSED)

/-- A write of CAPn_CMD (R351). -/
def capCmd (n : Nat) (v : Word) (d : Dev) : Dev :=
  if v.bit 1 then d.setCapq n [] else if v.bit 0 then d.setCapq n ((d.capq n).drop 1) else d

/-! ## The meanings -/

/-- INC_WRITE: a write of TIM_Dd_INC_HI, the low word from the port's hold register (R334, R11). -/
def execIncWrite (q : Req) (dom : Fin 2) (v : Word) (s : State) : Host.Outcome State Fault Refusal :=
  .next (s.highCommand q (TIM_D_INC_LO dom.val) (TIM_D_INC_HI dom.val) v (fun lo hi => incWrite dom.val (wide lo hi)))

/-- DOMAIN_SET (R335). -/
def execDomainSet (q : Req) (dom : Fin 2) (s : State) : Host.Outcome State Fault Refusal :=
  .next (s.devCommand q (TIM_D_CMD dom.val) 1 (domainCmd dom.val))

/-- DOMAIN_STEP (R335). -/
def execDomainStep (q : Req) (dom : Fin 2) (s : State) : Host.Outcome State Fault Refusal :=
  .next (s.devCommand q (TIM_D_CMD dom.val) 2 (domainCmd dom.val))

/-- CNTERR: the errors the two accumulators have taken (R337). -/
def execCnterr (dom : Fin 2) (errA errB : Int) (dt : Nat) (s : State) : Host.Outcome State Fault Refusal :=
  .next ((s.pass dt).onIsl 6 (cntErr dom.val errA errB))

/-- HOLDOVER (R338). -/
def execHoldover (dom : Fin 2) (dt : Nat) (s : State) : Host.Outcome State Fault Refusal :=
  .next ((s.pass dt).onIsl 6 (holdover dom.val))

/-- TIME_SWITCH (R340). -/
def execTimeSwitch (q : Req) (s : State) : Host.Outcome State Fault Refusal := .next (s.devCommand q TIM_CMD 1 timCmdWrite)

/-- CLEAR_H (R341). -/
def execClearH (q : Req) (s : State) : Host.Outcome State Fault Refusal := .next (s.devCommand q TIM_CMD 2 timCmdWrite)

/-- SLEW_DONE: the ticks on which H slews to 0 (R341). -/
def execSlewDone (dt : Nat) (s : State) : Host.Outcome State Fault Refusal := .next (s.pass dt)

/-- ETH_FRAME_RX (R343). -/
def execEthFrameRx (p : Fin 2) (eighth : Int) (frame : List Byte) (dt : Nat) (s : State) : Host.Outcome State Fault Refusal :=
  .next ((s.pass dt).onIsl 7 (ethFrameRx p.val eighth frame))

/-- ETH_FRAME_TX (R344). -/
def execEthFrameTx (p : Fin 2) (eighth : Int) (twoStep : Option Nat) (oneStep : Option (Nat × Nat)) (sent : Bool)
    (frame : List Byte) (dt : Nat) (s : State) : Host.Outcome State Fault Refusal :=
  .next ((s.pass dt).onIsl 7 (ethFrameTx p.val eighth twoStep oneStep sent frame))

/-- TXQ_POP (R345). -/
def execTxqPop (q : Req) (p : Fin 2) (s : State) : Host.Outcome State Fault Refusal :=
  .next (s.devCommand q (ETH_TXQ_CMD p.val) 1 (txqCmd p.val))

/-- TXQ_FLUSH (R345). -/
def execTxqFlush (q : Req) (p : Fin 2) (s : State) : Host.Outcome State Fault Refusal :=
  .next (s.devCommand q (ETH_TXQ_CMD p.val) 2 (txqCmd p.val))

/-- ETH_CFG_WRITE (R355). -/
def execEthCfgWrite (q : Req) (p : Fin 2) (v : Word) (s : State) : Host.Outcome State Fault Refusal :=
  .next (s.devCommand q (ETH_CFG p.val) v (ethCfgWrite p.val))

/-- ETH_LINK_UP (R342). -/
def execEthLinkUp (p : Fin 2) (rf : Bool) (dt : Nat) (s : State) : Host.Outcome State Fault Refusal :=
  .next ((s.pass dt).onIsl 7 (ethLinkUp p.val rf))

/-- ETH_LINK_DOWN (R342). -/
def execEthLinkDown (p : Fin 2) (rf : Bool) (dt : Nat) (s : State) : Host.Outcome State Fault Refusal :=
  .next ((s.pass dt).onIsl 7 (ethLinkDown p.val rf))

/-- CAP_POP (R351). -/
def execCapPop (q : Req) (n : Fin 16) (s : State) : Host.Outcome State Fault Refusal :=
  .next (s.devCommand q (CAP_CMD n.val) 1 (capCmd n.val))

/-- CAP_FLUSH (R351). -/
def execCapFlush (q : Req) (n : Fin 16) (s : State) : Host.Outcome State Fault Refusal :=
  .next (s.devCommand q (CAP_CMD n.val) 2 (capCmd n.val))

end Sys2Proof.Machine
end

