-- ==== Sys2Proof/Machine/TetherLink.lean ====
section
/-! DEFINITION. The Tether link below its frames (spec/06_tether.md, R139 to R155, R167, R169): lanes, HELLO, RESTRIPE, link up
and link down. Lane numbers 16 and 17 are the two lanes of the Bridle link, which follows the same rules (R396). -/

namespace Sys2Proof.Machine

/-! ## Masks -/

/-- The mask of the lane numbers whose lanes satisfy a property. -/
def Dev.maskOf (d : Dev) (b : Bool) (p : Nat → Bool) : Nat :=
  (d.linkLanes b).foldl (fun m i => if p i then m ||| 2 ^ d.laneNum i else m) 0

/-- The lanes ALIGNED or ACTIVE at the receiver (RXMASK, A of R153). -/
def Dev.rxMask (d : Dev) (b : Bool) : Nat := d.maskOf b (fun i => d.laneState i == 4 || d.laneState i == 5)

/-- The number of lanes in a mask. -/
def popCount (m : Nat) : Nat := ((List.range 16).filter (fun i => m.testBit i)).length

/-! ## Link down (R167) -/

/-- What a link-down does beyond the lanes (R167, R184): open segments are kept from now, sessions close, the port resets. -/
def Dev.linkDrop (d : Dev) (b : Bool) : Dev :=
  let d := d.modLk b (fun x => { x with
    kept := [], txSeq := 0, rxSeq := 0, acked := false, nak := false, limit := [], used := [], grant := [], sent := [], recv := []
    replays := 0, replayAt := none, sentConf := none, gotConf := none, verLowAt := none, es := 0, ms := 0, er := none
    settled := false, downAt := d.now })
  if b then
    let d := (d.flag BRD_EVT BRD_EVT.LINK_DOWN).put BRD_STS BRD_STS.DEGRADED 0
    ((d.put BRD_STS BRD_STS.VER 0).put BRD_PEER ⟨0, 1⟩ 0).portDown 4
  else
    let d := ((d.flag TTH_EVT TTH_EVT.DOWN).wrN TTH_STS (d.get TTH_STS TTH_STS.LINK)).wr TTH_MASK 0
    let d := { d with ras := { d.ras with segs := d.ras.segs.map (fun (g : Seg) => if g.closed then g else { g with keptAt := some d.now }) } }
    d.portDown 1

/-- The link goes down: its lanes retrain after 1 ms (R167). -/
def Dev.linkDown (d : Dev) (b : Bool) : Dev := (d.linkDrop b).setLinkSt b 0

/-- The link fails to come up without having been up: every lane retrains after 1 ms (R147, R151). -/
def Dev.linkFail (d : Dev) (b : Bool) : Dev :=
  (d.modLk b (fun x => { x with downAt := d.now, sentConf := none, gotConf := none, es := 0, ms := 0, er := none })).setLinkSt b 0

/-- The transmitters and receivers are off (R147, R167). -/
def Dev.lanesOff (d : Dev) (b : Bool) : Dev := d.each (d.linkLanes b) (fun i d => d.setLane i 0)

/-- Isolation of the link's island takes the link down and its lanes off (R167). -/
def Dev.linkIsolated (d : Dev) (b : Bool) : Dev := ((if d.linkSt b = 0 then d else d.linkDown b).lanesOff b).modLk b (fun x => { x with downAt := d.now })

/-! ## RESTRIPE and link up (R153 to R155) -/

/-- The units granted on each virtual channel at a tick: 256 on VC0, the room of R183 on VC1; a LIMIT never falls (R164, R165). -/
def Dev.grantCredit (d : Dev) : Dev :=
  let x := d.teth
  let g0 := vcGet x.recv 0 + 256
  let g1 := max (vcGet x.grant 1) (vcGet x.recv 1 + d.vc1Room)
  { d with teth := { x with grant := vcPut (vcPut x.grant 0 g0) 1 g1 } }

/-- The bytes of a frame with its CRC (R156). -/
def TxFrame.bytes (f : TxFrame) : List Byte :=
  let h := leBytes 1 f.type ++ leBytes 1 (if f.type = 1 then 0x80 else 0) ++ leBytes 2 f.seq ++ leBytes 2 f.payload.length ++
    leBytes 2 0 ++ leBytes 4 0 ++ leBytes 4 0 ++ f.payload
  h ++ leBytes 4 (crc32c h)

/-- A replay starts from a sequence number (R163). -/
def Dev.replayFrom (d : Dev) (seq : Nat) (timeout : Bool) : Dev :=
  let again := d.teth.kept.dropWhile (fun f => f.seq != seq)
  if again.isEmpty then d
  else
    let d := again.foldl (fun d f => d.emit (.tether f.bytes)) d
    let d := ((d.count TTH_CNT_TX hiHalf 1).when timeout (·.count TTH_CNT_TX loHalf 1)).flag TTH_EVT TTH_EVT.REPLAY
    d.modLk false (fun x => { x with replays := x.replays + 1, replayAt := some d.now, replaySeq := seq, ackAdv := d.now })

/-- The restripe has settled: the first time, the link is UP; later, both ends replay (R151, R153, R155). -/
def Dev.linkSettled (d : Dev) (b : Bool) : Dev :=
  let x := d.lk b
  let d := d.modLk b (fun x => { x with settled := true })
  let first := d.linkSt b ≠ 3
  let d := d.each (d.linkLanes b) (fun i d =>
    if d.laneState i = 4 && x.ms.testBit (d.laneNum i) then d.put (laneSts i) TTH_LANE_STS.STATE 5 else d)
  let n := popCount x.ms
  let degraded := decide (n < ((d.linkLanes b).filter (fun i => d.laneState i != 0)).length)
  let d := d.setLinkSt b 3
  if b then
    (d.put BRD_STS BRD_STS.DEGRADED (if degraded then 1 else 0)).modLk true (fun y => { y with upAt := if first then d.now else y.upAt })
  else
    let d := ((d.put TTH_STS TTH_STS.EPOCH x.es).put TTH_STS TTH_STS.LANES n).put TTH_STS TTH_STS.DEGRADED (if degraded then 1 else 0)
    let d := d.put TTH_MASK loHalf x.ms
    if first then
      let d := (d.flag TTH_EVT TTH_EVT.UP).put TTH_STS TTH_STS.VER (x.sentConf.getD 0)
      (d.modLk false (fun y => { y with upAt := d.now, ackAt := d.now, creditAt := d.now, ackAdv := d.now })).grantCredit
    else
      match d.teth.kept.head? with
      | some f => d.replayFrom f.seq false
      | none => d

/-- A RESTRIPE is sent (R153); a mask below MIN_LANES takes the link down (R154). -/
def Dev.sendRestripe (d : Dev) (b : Bool) (e m : Nat) : Dev :=
  if popCount m < d.linkMin b then d.linkDown b
  else
    let e := e % 256
    let d := (d.modLk b (fun x => { x with es := e, ms := m, settled := false })).emit (.restripe b e m)
    if (d.lk b).er = some (e, m) then d.linkSettled b else d

/-- A RESTRIPE arrives, in a block of its own or in a newer MARKER (R146, R153). -/
def restripe (b : Bool) (e m : Nat) (d : Dev) : Dev :=
  let st := d.linkSt b
  let old := match (d.lk b).er with
    | some (o, _) => decide (128 ≤ (e + 256 - o) % 256)
    | none => false
  if (st ≠ 2 && st ≠ 3) || old then d
  else
    let d := d.modLk b (fun x => { x with er := some (e, m) })
    let x := d.lk b
    if x.ms = 0 then d
    else
      let a := d.rxMask b
      let ahead := (e + 256 - x.es) % 256
      if e = x.es && m = x.ms then (if x.settled then d else d.linkSettled b)
      else if 1 ≤ ahead && ahead ≤ 127 then d.sendRestripe b e (m &&& (x.ms &&& a))
      else if e = x.es then d.sendRestripe b (x.es + 1) (m &&& x.ms &&& a)
      else d

/-- An ACTIVE lane is lost (R153, R154): version 3 and Bridle restripe over the rest, versions 1 and 2 go down. -/
def Dev.activeLost (d : Dev) (b : Bool) : Dev :=
  if !b && d.tethVer < 3 then d.linkDown b
  else
    let d := if b then d else (d.flag TTH_EVT TTH_EVT.LANE_LOST).put TTH_STS TTH_STS.DEGRADED 1
    let x := d.lk b
    d.sendRestripe b (x.es + 1) (x.ms &&& d.rxMask b)

/-- A lane loses lock or alignment (R145 to R147). -/
def Dev.laneLost (d : Dev) (i to_ : Nat) : Dev :=
  let st := d.laneState i
  let b := laneLink i
  let d := if b then d else d.count (TTH_LANE_ERR i) TTH_LANE_ERR.LOCKLOSS 1
  let d := d.setLane i to_
  if st = 5 && d.linkSt b = 3 then d.activeLost b else d

/-! ## The events of a lane -/

/-- The longest run of passing settings, the lower of two equally long: its first and last (R144). -/
def bestRun (pass : Nat) : Option (Nat × Nat) :=
  let runs := (List.range 16).flatMap (fun a => (List.range 16).filterMap (fun z =>
    if a ≤ z && ((List.range (z + 1 - a)).all (fun k => pass.testBit (a + k))) then some (a, z) else none))
  runs.foldl (fun (best : Option (Nat × Nat)) (r : Nat × Nat) => match best with
    | none => some r
    | some x => if x.2 - x.1 < r.2 - r.1 then some r else best) none

/-- The equaliser search ends with the settings that passed (R144). -/
def eqSearchDone (i pass : Nat) (d : Dev) : Dev :=
  let b := laneLink i
  if d.laneState i ≠ 1 || !d.blocksPast b (d.laneSt i).at_ 1179648 then d
  else
    let d := if b then d else d.wrN (TTH_LANE_EQ i) (pass % 65536)
    match bestRun (pass % 65536) with
    | some (x, y) =>
      let d := (d.put (laneSts i) TTH_LANE_STS.CTLE ((x + y) / 2)).put (laneSts i) TTH_LANE_STS.EQ_FAIL 0
      d.setLane i 2
    | none =>
      let d := d.flag (laneSts i) TTH_LANE_STS.EQ_FAIL
      let d := if b then d else d.flag TTH_EVT TTH_EVT.EQ_FAIL
      d.setLane i 6

/-- 64 consecutive valid sync headers (R145). -/
def blockLock (i : Nat) (d : Dev) : Dev := if d.laneState i = 2 then d.setLane i 3 else d

/-- 16 invalid headers of 64, or a loss of signal; the invalid headers are counted (R145). -/
def lockLoss (i bad : Nat) (d : Dev) : Dev :=
  let st := d.laneState i
  let d := if laneLink i || st < 3 || st = 6 then d else d.count (TTH_LANE_ERR i) TTH_LANE_ERR.BADHDR bad
  if st = 4 || st = 5 then d.laneLost i 2 else if st = 3 then d.setLane i 2 else d

/-- Three consecutive MARKERs of a lane are missing or carry another LANE (R146). -/
def Dev.marksLost (d : Dev) (i : Nat) : Bool :=
  match (d.laneSt i).mark with
  | none => true
  | some (t, _) => decide (3 * 16384 ≤ d.blocks (laneLink i) (d.now - t))

/-- MARKERS_MISSED (R146). -/
def markersMissed (i : Nat) (d : Dev) : Dev :=
  let st := d.laneState i
  if (st = 4 || st = 5) && d.marksLost i then d.laneLost i 3 else d

/-- A valid MARKER arrives on a lane (R146). -/
def marker (i lane epoch mask skew : Nat) (inverted : Bool) (d : Dev) : Dev :=
  let b := laneLink i
  let st := d.laneState i
  let d := if 3 ≤ st && st ≤ 5 then d.put (laneSts i) TTH_LANE_STS.POLINV (if inverted then 1 else 0) else d
  let d :=
    if st = 3 then
      let pair := match (d.laneSt i).mark with
        | some (t, l) => l == lane && d.blocks b (d.now - t) == 16384
        | none => false
      if !pair then d.modLane i (fun x => { x with mark := some (d.now, lane) })
      else if 32 < skew then (d.put (laneSts i) TTH_LANE_STS.SKEWERR 1).modLane i (fun x => { x with mark := some (d.now, lane) })
      else
        let d := ((d.put (laneSts i) TTH_LANE_STS.SKEWERR 0).put (laneSts i) TTH_LANE_STS.SKEW skew).put (laneSts i) TTH_LANE_STS.LANE lane
        (d.setLane i 4).modLane i (fun x => { x with mark := some (d.now, lane) })
    else if st = 4 || st = 5 then
      if lane = d.laneNum i then d.modLane i (fun x => { x with mark := some (d.now, lane) })
      else markersMissed i d
    else d
  let seen := match (d.lk b).er with
    | some (e, _) => e
    | none => 0
  let ahead := (epoch + 256 - seen) % 256
  if 4 ≤ d.laneState i && d.laneState i ≤ 5 && 1 ≤ ahead && ahead ≤ 127 then restripe b epoch mask d else d

/-! ## HELLO (R149 to R151) -/

/-- The body of a HELLO frame (R150). -/
def Dev.helloBody (d : Dev) (phase ver : Nat) : List Byte :=
  leBytes 1 phase ++ leBytes 1 (d.teth.cfg.fld TTH_CFG.VER_MAX) ++ leBytes 1 ver ++ leBytes 1 1 ++ leBytes 2 (d.rxMask false) ++
    leBytes 2 8192 ++ leBytes 8 Config.uid.toNat ++
    leBytes 1 ((if d.role = 0 then 0 else 1) + (if d.strap.rank then 2 else 0) + (if d.activeOfPair then 4 else 0)) ++
    leBytes 1 (d.linkRate false) ++ leBytes 14 0

/-- A HELLO frame leaves. -/
def Dev.sendHello (d : Dev) (phase ver : Nat) : Dev :=
  (d.emit (.tether (TxFrame.bytes ⟨0, 1, 0, d.helloBody phase ver⟩))).modLk false (fun x => { x with offerAt := d.now })

/-- A link enters the HELLO phase: OFFERs on Tether; on Bridle, where JOIN takes the place of HELLO, its RESTRIPE (R151, R396). -/
def Dev.helloEnter (d : Dev) (b : Bool) : Dev :=
  let d := (d.modLk b (fun x => { x with helloAt := d.now, sentConf := none, gotConf := none, verLowAt := none, es := 0, ms := 0 })).setLinkSt b 2
  if b then d.sendRestripe true 1 (d.rxMask true) else d.sendHello 1 0

/-- HELLO_ENTER: every enabled lane is ALIGNED or FAILED (R151). -/
def helloEnter (b : Bool) (d : Dev) : Dev :=
  if d.linkSt b = 1 && (d.linkLanes b).all (fun i => let st := d.laneState i; st == 0 || st == 4 || st == 6) &&
      (d.linkLanes b).any (fun i => d.laneState i == 4 || d.laneState i == 6)
  then d.helloEnter b else d

/-- TRAIN_TMO expires (R151). -/
def trainTmo (b : Bool) (d : Dev) : Dev :=
  let lim := if b then 5 else d.get TTH_TMO TTH_TMO.TRAIN_TMO
  if d.linkSt b = 1 && decide ((d.lk b).trainAt + msTicks (10 * lim) ≤ d.now) then
    if d.linkMin b ≤ popCount (d.rxMask b) then d.helloEnter b
    else (if b then d else d.flag TTH_EVT TTH_EVT.TRAIN_TMO).linkFail b
  else d

/-- VERLOW: the link stays down, and the HELLO phase restarts after 1 s (R151). -/
def Dev.verLow (d : Dev) : Dev := (d.flag TTH_EVT TTH_EVT.VERLOW).modLk false (fun x => { x with verLowAt := some d.now })

/-- Once CONFIRMs with the same VER, not 0, have gone both ways: RESTRIPE with EPOCH 1 (R151, step 3). -/
def Dev.confirmed (d : Dev) (peerMask : Nat) : Dev :=
  match d.teth.sentConf, d.teth.gotConf with
  | some v, some w =>
    if v = 0 || w = 0 || v ≠ w then d.verLow
    else d.sendRestripe false 1 (d.rxMask false &&& peerMask)
  | some 0, none => d.verLow
  | none, some 0 => d.verLow
  | _, _ => d

/-- The peer's HELLO fields are kept; the agreed payload limit (R151, R168). -/
def Dev.peerHello (d : Dev) (bs : List Byte) : Dev :=
  let maxp := leField bs 6 2
  let d := d.wrN TTH_PEER (leField bs 1 1 % 16 + 16 * (leField bs 16 1 % 16) + 256 * (maxp / 256 % 256) + 65536 * leField bs 4 2)
  let d := (d.wrN TTH_PEER_UID_LO (leField bs 8 4)).wrN TTH_PEER_UID_HI (leField bs 12 4)
  d.modLk false (fun x => { x with maxPay := min 8192 maxp })

/-- An OFFER arrives in the HELLO phase: it is answered with a CONFIRM (R151). -/
def Dev.offerAnswer (d : Dev) (bs : List Byte) : Dev :=
  let d := d.peerHello bs
  let v := min (leField bs 1 1) (d.teth.cfg.fld TTH_CFG.VER_MAX)
  let v := if v < d.teth.cfg.fld TTH_CFG.VER_MIN then 0 else v
  let d := (d.modLk false (fun x => { x with sentConf := some v })).sendHello 2 v
  if (d.lk false).ms ≠ 0 then d
  else if popCount (d.rxMask false &&& leField bs 4 2) < d.linkMin false then d.linkDown false
  else d.confirmed (leField bs 4 2)

/-- OFFER: in the HELLO phase a CONFIRM; while UP the link goes down and returns to the HELLO phase (R151). -/
def helloOffer (bs : List Byte) (d : Dev) : Dev :=
  if d.linkSt false = 2 then (if d.teth.verLowAt.isSome then d else d.offerAnswer bs)
  else if d.linkSt false = 3 then
    let d := (d.linkDrop false).modLk false (fun x => { x with cfg := d.rd TTH_CFG })
    let d := d.each (d.linkLanes false) (fun i d => if d.laneState i = 5 then d.put (laneSts i) TTH_LANE_STS.STATE 4 else d)
    (d.helloEnter false).offerAnswer bs
  else d

/-- CONFIRM (R151). -/
def helloConfirm (bs : List Byte) (d : Dev) : Dev :=
  if d.linkSt false = 2 && d.teth.verLowAt.isNone && (d.lk false).ms = 0 then
    let d := (d.peerHello bs).modLk false (fun x => { x with gotConf := some (leField bs 2 1) })
    d.confirmed (leField bs 4 2)
  else d

/-- OFFER_SEND: every 10 µs an OFFER, or the CONFIRM once one has been sent (R151). -/
def offerSend (d : Dev) : Dev :=
  if d.linkSt false = 2 && d.teth.verLowAt.isNone && decide (d.teth.offerAt + usTicks 10 ≤ d.now) then
    match d.teth.sentConf with
    | some v => d.sendHello 2 v
    | none => d.sendHello 1 0
  else d

/-- HELLO_TMO (R151). -/
def helloTmo (d : Dev) : Dev :=
  if d.linkSt false = 2 && d.teth.verLowAt.isNone &&
      decide (d.teth.helloAt + msTicks (d.get TTH_TMO TTH_TMO.HELLO_TMO) ≤ d.now) then
    (d.flag TTH_EVT TTH_EVT.HELLO_TMO).linkDown false
  else d

/-- HELLO_RESTART: 1 s after VERLOW (R151). -/
def helloRestart (d : Dev) : Dev :=
  match d.teth.verLowAt with
  | some t => if d.linkSt false = 2 && decide (t + secTicks 1 ≤ d.now) then d.helloEnter false else d
  | none => d

/-- LANE_RETRAIN: 1 ms after a link-down (R147, R167). -/
def laneRetrain (b : Bool) (d : Dev) : Dev :=
  if d.linkEn b && d.linkSt b = 0 && d.islUp (linkIsland b) && decide ((d.lk b).downAt + msTicks 1 ≤ d.now) then d.linkTrain b else d

/-! ## Register writes (R167 to R169) -/

/-- A write of TTH_CFG with the limits of its fields (R168): EN starts or ends the link. -/
def tthCfgWrite (v : Word) (d : Dev) : Dev :=
  let ml := v.fld TTH_CFG.MIN_LANES
  let v := v.setFld TTH_CFG.MIN_LANES (max 1 (min d.laneCount ml))
  let was := d.bit TTH_CFG TTH_CFG.EN
  let d := d.typedWrite TTH_CFG v
  let en := v.fld TTH_CFG.EN = 1
  if en && !was then (if d.linksHeld then d else d.linkTrain false)
  else if !en && was then (if d.linkSt false = 0 then d else d.linkDown false).lanesOff false
  else d

/-- TTH_CMD.RETRAIN (R167). -/
def tthRetrain (d : Dev) : Dev := if d.linkEn false && d.linkSt false ≠ 0 then d.linkDown false else d

/-- A write of TTH_TMO with the limits of its fields (R168). -/
def tthTmoWrite (v : Word) (d : Dev) : Dev :=
  let low (v : Word) (f : Fld) (n : Nat) : Word := if v.fld f < n then v.setFld f n else v
  d.typedWrite TTH_TMO (low (low (low (low v TTH_TMO.TRAIN_TMO 1) TTH_TMO.HELLO_TMO 1) TTH_TMO.REPLAY_MAX 1) TTH_TMO.REPLAY_TMO 4)

/-! ## The meanings -/

/-- TTH_ENABLE: a write of TTH_CFG with EN = 1 (R143). -/
def execTthEnable (q : Req) (v : Word) (s : State) : Host.Outcome State Fault Refusal :=
  .next (s.devCommand q TTH_CFG (v.setFld TTH_CFG.EN 1) tthCfgWrite)

/-- TTH_DISABLE: a write of TTH_CFG with EN = 0 (R167). -/
def execTthDisable (q : Req) (v : Word) (s : State) : Host.Outcome State Fault Refusal :=
  .next (s.devCommand q TTH_CFG (v.setFld TTH_CFG.EN 0) tthCfgWrite)

/-- TTH_RETRAIN (R167). -/
def execTthRetrain (q : Req) (s : State) : Host.Outcome State Fault Refusal := .next (s.devCommand q TTH_CMD 1 (fun _ => tthRetrain))

/-- EQ_SEARCH_DONE: the settings that passed (R144). -/
def execEqSearchDone (i : Fin 18) (pass : BitVec 16) (dt : Nat) (s : State) : Host.Outcome State Fault Refusal :=
  .next ((s.pass dt).onIsl (linkIsland (laneLink i.val)) (eqSearchDone i.val pass.toNat))

/-- BLOCK_LOCK (R145). -/
def execBlockLock (i : Fin 18) (dt : Nat) (s : State) : Host.Outcome State Fault Refusal :=
  .next ((s.pass dt).onIsl (linkIsland (laneLink i.val)) (blockLock i.val))

/-- LOCK_LOSS: the invalid sync headers seen (R145). -/
def execLockLoss (i : Fin 18) (bad dt : Nat) (s : State) : Host.Outcome State Fault Refusal :=
  .next ((s.pass dt).onIsl (linkIsland (laneLink i.val)) (lockLoss i.val bad))

/-- MARKER (R146). -/
def execMarker (i : Fin 18) (lane : Fin 16) (epoch : Fin 256) (mask : BitVec 16) (skew : Nat) (inverted : Bool) (dt : Nat)
    (s : State) : Host.Outcome State Fault Refusal :=
  .next ((s.pass dt).onIsl (linkIsland (laneLink i.val)) (marker i.val lane.val epoch.val mask.toNat skew inverted))

/-- MARKERS_MISSED (R146). -/
def execMarkersMissed (i : Fin 18) (dt : Nat) (s : State) : Host.Outcome State Fault Refusal :=
  .next ((s.pass dt).onIsl (linkIsland (laneLink i.val)) (markersMissed i.val))

/-- LANE_RETRAIN (R147, R167). -/
def execLaneRetrain (brd : Bool) (dt : Nat) (s : State) : Host.Outcome State Fault Refusal :=
  .next ((s.pass dt).onIsl (linkIsland brd) (laneRetrain brd))

/-- HELLO_ENTER (R151). -/
def execHelloEnter (brd : Bool) (dt : Nat) (s : State) : Host.Outcome State Fault Refusal :=
  .next ((s.pass dt).onIsl (linkIsland brd) (helloEnter brd))

/-- TRAIN_TMO (R151). -/
def execTrainTmo (brd : Bool) (dt : Nat) (s : State) : Host.Outcome State Fault Refusal := .next ((s.pass dt).onIsl (linkIsland brd) (trainTmo brd))

/-- OFFER_SEND (R151). -/
def execOfferSend (dt : Nat) (s : State) : Host.Outcome State Fault Refusal := .next ((s.pass dt).onIsl 1 offerSend)

/-- OFFER: the 32-byte body of a received OFFER (R150, R151). -/
def execOffer (bs : List Byte) (dt : Nat) (s : State) : Host.Outcome State Fault Refusal := .next ((s.pass dt).onIsl 1 (helloOffer bs))

/-- CONFIRM: the 32-byte body of a received CONFIRM (R150, R151). -/
def execConfirm (bs : List Byte) (dt : Nat) (s : State) : Host.Outcome State Fault Refusal :=
  .next ((s.pass dt).onIsl 1 (helloConfirm bs))

/-- HELLO_TMO (R151). -/
def execHelloTmo (dt : Nat) (s : State) : Host.Outcome State Fault Refusal := .next ((s.pass dt).onIsl 1 helloTmo)

/-- HELLO_RESTART (R151). -/
def execHelloRestart (dt : Nat) (s : State) : Host.Outcome State Fault Refusal := .next ((s.pass dt).onIsl 1 helloRestart)

/-- RESTRIPE (R153). -/
def execRestripe (brd : Bool) (epoch : Fin 256) (mask : BitVec 16) (dt : Nat) (s : State) : Host.Outcome State Fault Refusal :=
  .next ((s.pass dt).onIsl (linkIsland brd) (restripe brd epoch.val mask.toNat))

end Sys2Proof.Machine
end

