-- ==== Sys2Proof/Machine/LoopEnd.lean ====
section
/-! DEFINITION. How a loop-back slot ends and its interface recovers (spec/18_test.md, R444), and what an arming ends with it
(R263, R315, R444). -/

namespace Sys2Proof.Machine

/-- A slot is ENTERING or RUN (R451). -/
def Dev.lbOn (d : Dev) (k : Nat) : Bool := let st := d.get (TST_LB_STS k) TST_LB_STS.STATE; st == 1 || st == 2

/-- The interface and instance a slot loops; waveform outputs from 64 use SUB. -/
def Dev.lbIf (d : Dev) (k : Nat) : Nat := d.get (TST_LB_CFG k) TST_LB_CFG.IF
def Dev.lbInst (d : Dev) (k : Nat) : Nat :=
  let w := d.rd (TST_LB_CFG k)
  w.fld TST_LB_CFG.INST + (if w.fld TST_LB_CFG.IF = 5 then 64 * (w.fld TST_LB_CFG.SUB % 2) else 0)

/-- The slot loops a Tether lane outside the agreed mask (R443, R444). -/
def Dev.lbOutside (d : Dev) (k : Nat) : Bool := d.lbIf k == 1 && d.laneState (d.lbInst k) != 5

/-- On leaving, the interface recovers (R444). -/
def Dev.lbRecover (d : Dev) (k : Nat) : Dev :=
  let i := d.lbInst k
  match d.lbIf k with
  | 1 => if d.linkEn false then (d.setLane i 0).laneStart i else d.setLane i 0
  | 2 => if d.bit (HC_LVR_CFG i) HC_LVR_CFG.EN then (d.lvrState i 0).lvrStart i else d.lvrState i 0
  | 6 => d.ethDown i
  | 7 => if d.linkEn true then (d.setLane (16 + i) 0).laneStart (16 + i) else d.setLane (16 + i) 0
  | _ => d

/-- A running slot ends with a cause (R444). -/
def Dev.lbEnd (d : Dev) (k reason : Nat) : Dev :=
  if d.lbOn k then
    ((d.put (TST_LB_STS k) TST_LB_STS.STATE 3).put (TST_LB_STS k) TST_LB_STS.REASON reason).lbRecover k
  else d

/-- A March test ends in a state; REFUSED where a START came while it ran (R446, R452). -/
def Dev.bistEnd (d : Dev) (st : Nat) : Dev :=
  if d.test.bistRun.isSome then
    { d with test := { d.test with bistRun := none, bistAgain := false } }.put TST_BIST_STS TST_BIST_STS.STATE
      (if d.test.bistAgain then 5 else st)
  else d

/-- Every slot ends with a cause, and a March test is aborted (R444, R446). -/
def Dev.lbEndAll (d : Dev) (reason : Nat) : Dev := (d.each [0, 1, 2, 3] (fun k d => d.lbEnd k reason)).bistEnd 4

/-- A job becomes ARMED: loop-backs end, but for lanes outside the agreed mask; a March test is aborted (R444, R446). -/
def Dev.armLoops (d : Dev) : Dev := (d.each [0, 1, 2, 3] (fun k d => if d.lbOutside k then d else d.lbEnd k 9)).bistEnd 4

/-- FIR_CMD.ARM ends gate tests, procedures and loop-backs (R263, R315, R444). -/
def Dev.armEnds (d : Dev) : Dev := d.gatesEnd.calAbort.armLoops

end Sys2Proof.Machine
end

