-- ==== Sys2Proof/Machine/Firing.lean ====
section
/-! DEFINITION. The firing sequencer (spec/04_firing.md), row delay changes (R54, R55), and the job queue (R170 to R173, R200). -/

namespace Sys2Proof.Machine

/-! ## Starts and ends of jobs -/

/-- I_eff of a channel (R89). -/
def Dev.iEff (d : Dev) (c b : Nat) : Nat := max (max (d.hc c).lat.minInt 3200) ((d.nozzles c * b + 2) / 3)

/-- The bank in force carries the ARMWIN and ALIGN latched at the arming, or the link is not UP (R126). -/
def Dev.bankCurrent (d : Dev) (c : Nat) : Bool :=
  let x := d.hc c
  !d.lvrUp c || (x.armwin == armWin (x.lat.cfg.fld HC_FIR_CFG.DELAY) && x.balign == x.lat.lvr)

/-- After an arming, the banks whose ARMWIN or ALIGN differ are sent anew (R126). -/
def Dev.prepBanks (d : Dev) (cs : List Nat) : Dev :=
  d.each cs (fun c d =>
    if d.bankCurrent c || (d.hc c).prep then d else (d.modHc c (fun x => { x with prep := true })).startImage c (d.idleBank c) false)

/-- An armed start is cancelled: the job is QUEUED again (R82, R103). -/
def Dev.disarm (d : Dev) : Dev :=
  match d.headJob with
  | some j => if j.state = 2 then (d.setJobState j.id 1).put FIR_STS FIR_STS.JOB 0 else d
  | none => d

/-- The channels whose UP link lacks a feature that b or the class map needs (R122). -/
def Dev.lacking (d : Dev) (cs : List Nat) (b : Nat) : List Nat :=
  cs.filter (fun c => d.lvrUp c && !d.lvrFeature c b ((d.confNow c).drop 3 |>.any (· != 0)))

/-- The channels whose waveforms or tables fail the check of a start (R135). -/
def Dev.badTables (d : Dev) (cs : List Nat) (b : Nat) : List (Nat × Bool × Nat) :=
  cs.filterMap (fun c =>
    (d.confFault c (d.iEff c b) b (d.confNow c) (d.get (WAV_REST c) WAV_REST.REST_A) (d.get (WAV_REST c) WAV_REST.REST_B)).map
      (fun f => (c, f)))

/-- The refusals of R122 and R135 at a start: none, or the state with their flags. -/
def Dev.startFault (d : Dev) (cs : List Nat) (b : Nat) : Option Dev :=
  let l := d.lacking cs b
  if !l.isEmpty then some ((d.each l (fun c d => d.flag (HC_LVR_EVT c) HC_LVR_EVT.VERLOW)).flag FIR_EVT FIR_EVT.START_REJ)
  else
    let t := d.badTables cs b
    if t.isEmpty then none
    else some ((t.foldl (fun d (x : Nat × Bool × Nat) => d.tableErr x.1 x.2) d).flag FIR_EVT FIR_EVT.START_REJ)

/-- A channel starts a job or pass at a channel line: I_eff, rest codes, the skip window, its counts (R89, R91, R133, R200). -/
def Dev.startChannel (d : Dev) (b m c : Nat) : Dev :=
  let i := d.iEff c b
  let d := (d.wrN (HC_FIR_MININT_EFF c) i).put (HC_FIR_STS c) HC_FIR_STS.RAISED (if (d.hc c).lat.minInt < i then 1 else 0)
  let d := d.put (HC_FIR_STS c) HC_FIR_STS.DONE 0
  let d := d.modHc c (fun x => { x with
    restA := d.get (WAV_REST c) WAV_REST.REST_A, restB := d.get (WAV_REST c) WAV_REST.REST_B
    kPrev := none, lastFired := none, winAt := d.now, winN := 0, voidN := 0, dStart := d.rowDelay c })
  d.setPending c (some m) d.now

/-- Job lines below a resume line are dropped without a report (R173). -/
def Dev.dropBelow (d : Dev) (j : Job) (l : Nat) : Dev :=
  let d := d.each j.chans (fun c d => d.modHc c (fun x => { x with
    lines := x.lines.filter (fun y => l ≤ y.line)
    voids := x.voids.filter (l ≤ ·)
    blks := x.blks.map (fun (b : Nat × Blk) =>
      if b.1 / 2 ^ 34 = j.id && keyLine b.1 + 64 ≤ l then (b.1, { b.2 with st := .voided }) else b) }))
  d.reap

/-- The job starts with S: RUNNING, STARTED, and START_LATE where a first target has passed (R83). -/
def Dev.startGo (d : Dev) (j : Job) (s : Int) : Dev :=
  let lr := j.resume.getD 0
  let late := j.chans.any (fun c => decide (s + 256 * lr + d.rowDelay c ≤ d.P))
  let d := { d with fir := { d.fir with s := s, chans := j.chans, bits := j.bits, starts := d.fir.starts ++ [(j.id, j.bits, s)] } }
  let d := d.wr64 FIR_S_LO FIR_S_HI (unsignedOf 56 s)
  let d := d.dropBelow j lr
  let d := d.setJobState j.id 3
  let d := { d with ras := { d.ras with progressAt := d.now } }
  let d := d.each j.chans (fun c d => d.startChannel j.bits lr c)
  let d := (d.flag FIR_EVT FIR_EVT.STARTED).when late (·.flag FIR_EVT FIR_EVT.START_LATE)
  if d.activeOfPair then d.brdSend 0x07 [1, j.id, unsignedOf 56 s] else d

/-- The start event of the armed head job, with S as R80 gives it (R82, R122, R126, R135, R408). -/
def Dev.startEvent (d : Dev) (base : Int) : Dev :=
  match d.headJob with
  | none => d
  | some j =>
    if j.state ≠ 2 || d.standby || d.scan then d
    else
      let cs := j.chans
      let keep := 2 ≤ d.get FIR_START FIR_START.MODE
      let turnAway (d : Dev) : Dev := let d := d.flag FIR_EVT FIR_EVT.START_REJ; if keep then d else d.disarm
      let stale := cs.filter (fun c => !d.bankCurrent c)
      if d.bit FIR_CFG FIR_CFG.NEED_LOCK && !d.bit PAC_STS PAC_STS.LOCK then turnAway d
      else if !stale.isEmpty then turnAway (d.each stale (fun c d => d.flag (HC_LVR_EVT c) HC_LVR_EVT.BANK_LATE))
      else
        match d.startFault cs j.bits with
        | some d => d.disarm
        | none => d.startGo j (base - 256 * (j.resume.getD 0))

/-- 256 × MARGIN. -/
def Dev.margin (d : Dev) : Int := 256 * d.get FIR_START FIR_START.MARGIN

/-- The start events of modes 0 and 1, when ARM reaches the time island (R80). -/
def Dev.startByArm (d : Dev) : Dev :=
  match d.get FIR_START FIR_START.MODE with
  | 0 => d.startEvent (d.P + d.margin)
  | 1 => d.startEvent (d.rd64 FIR_START_POS_LO FIR_START_POS_HI % 2 ^ 56 : Nat)
  | _ => d

/-- The station record of a product detect input. -/
def Dev.pdStation (d : Dev) (n : Nat) : Option Station := d.stations.find? (fun x => x.kind == 1 && x.index == n)

/-- A product detect edge stamped with a tick: the start event of mode 2 (R80, R81). -/
def Dev.startOnPd (d : Dev) (n tick : Nat) : Dev :=
  if d.get FIR_START FIR_START.MODE = 2 && d.get FIR_START FIR_START.PD = n then
    match d.pdStation n with
    | some st => d.startEvent (d.PAt tick - st.offset + d.margin)
    | none => d
  else d

/-- A trigger fires: the start event of mode 3 (R80). -/
def Dev.startOnTrg (d : Dev) (n : Nat) : Dev :=
  if d.get FIR_START FIR_START.MODE = 3 && d.get FIR_START FIR_START.TRG = n then d.startEvent (d.P + d.margin) else d

/-- The head job is armed (R80, R81, R99, R126): its channels' timing is latched and its banks are prepared; a start of
mode 2 without a station record is refused. -/
def Dev.armHead (d : Dev) : Dev :=
  match d.headJob with
  | none => d
  | some j =>
    if j.state ≠ 1 && j.state ≠ 2 then d
    else if !d.scan && d.get FIR_START FIR_START.MODE = 2 && (d.pdStation (d.get FIR_START FIR_START.PD)).isNone then
      (d.flag FIR_EVT FIR_EVT.START_REJ).disarm
    else
      let d := d.each j.chans (fun c d => d.latch c)
      let d := if j.state = 1 then d.setJobState j.id 2 else d
      (d.prepBanks j.chans).startByArm

/-- FIR_CMD.ARM (R80, R103): held while a job is RUNNING; in Moored and Furled it wakes the part and acts in Hover (R438). -/
def firArm (d : Dev) : Dev :=
  let st := d.get PWR_STS PWR_STS.STATE
  if 3 ≤ st && st ≤ 6 then { d with pwr := { d.pwr with armHeld := true } }.wakeCause
  else
  let d := d.armEnds
  if d.jobRunning then { d with fir := { d.fir with heldArm := true } } else d.armHead

/-- FIR_CMD.DISARM (R103): it cancels an armed start, and an ARM that is held. -/
def firDisarm (d : Dev) : Dev := { d with fir := { d.fir with heldArm := false } }.disarm

/-- FIR_CMD.STOP (R92). -/
def firStop (d : Dev) : Dev := d.jobStop 1

/-- A held ARM takes effect when the job has ended (R103, R172). -/
def Dev.armHeld (d : Dev) : Dev :=
  if d.fir.heldArm then { d with fir := { d.fir with heldArm := false } }.armHead else d

/-- Changes still pending when a job ends: row delays and calibration sets are discarded (R54, R311), a prepared bank
applies (R125). -/
def Dev.endChanges (d : Dev) (cs : List Nat) : Dev :=
  d.each cs (fun c d =>
    let d := if d.bit (HC_GEOM_STS c) HC_GEOM_STS.PENDING then
      (d.put (HC_GEOM_STS c) HC_GEOM_STS.PENDING 0).flag (HC_GEOM_STS c) HC_GEOM_STS.DROPPED else d
    let d := d.put (HC_CAL_STS c) HC_CAL_STS.PENDING 0
    if (d.hc c).ready then d.bankApply c else d)

/-- The head job leaves the queue: what it held is freed, and a held ARM acts (R172, R173, R185). -/
def Dev.leaveQueue (d : Dev) (j : Job) (st : Nat) (held : Bool) : Dev :=
  let head := d.headJob.map (·.id) = some j.id
  let d := (d.setJobState j.id st).freeJob j.id
  let d := { d with ras := { d.ras with jobs := d.ras.jobs.filter (fun x => x.id != j.id) } }
  if !head then d
  else
    let d := (d.endChanges j.chans).clearChannels
    let d := { d with nh := { d.nh with recordDue := true } }
    if held then d.armHeld else d

/-- The head job is DONE (R84). -/
def Dev.jobDone (d : Dev) : Dev :=
  match d.headJob with
  | some j => (d.flag FIR_EVT FIR_EVT.DONE).leaveQueue j 5 true
  | none => d

/-- The active pass is done: PASS_DONE, a held PASS_GO arms; the job is DONE when it reached L_last (R84, R98). -/
def Dev.passOver (d : Dev) (complete : Bool) : Dev :=
  match d.fir.active with
  | none => d
  | some p =>
    let d := d.endPass.flag FIR_EVT FIR_EVT.PASS_DONE
    let d := d.armHeldPass
    let d := match d.fir.armed with
      | some _ => d.prepBanks d.fir.chans
      | none => d
    match d.headJob with
    | some j => if complete && d.jobRunning && decide (j.last ≤ p.pass * 1048576 + p.last) then d.jobDone else d
    | none => d

/-- The job or pass ends once every one of its channels has finished (R84, R98). -/
def Dev.finishCheck (d : Dev) : Dev :=
  if !d.firingOn then d
  else
    let d := d.each d.fir.chans (fun c d => if (d.pending c).isNone then d.put (HC_FIR_STS c) HC_FIR_STS.DONE 1 else d)
    if d.fir.chans.any (fun c => (d.pending c).isSome) then d
    else if d.scan then d.passOver true
    else d.jobDone

/-! ## Deciding a line (R85 to R95) -/

/-- The pending line of a channel that can be decided on this tick. -/
def Dev.ripe (d : Dev) (c : Nat) : Option Nat := if (d.hc c).pendAt ≤ d.now then d.pending c else none

/-- The shutter window latched for the job or pass (R90, R99). -/
def Dev.shutter (d : Dev) (c : Nat) : Int := (d.hc c).lat.cfg.fld HC_FIR_CFG.SHUTTER

/-- On an earlier tick the pending line was past its shutter window already, so it has been skipped there (R90). -/
def Dev.overdue (d : Dev) (c m : Nat) : Bool :=
  decide ((d.hc c).pendAt < d.now) && decide (d.shutter c < d.lateness (d.target c m) (d.PAt (d.now - 1)))

/-- The firing conditions 1 to 6 of a channel's pending line on this tick (R85). -/
def Dev.canFire (d : Dev) (c : Nat) : Bool :=
  match d.ripe c with
  | none => false
  | some m =>
    d.reached (d.target c m) d.P &&
      (match (d.hc c).kPrev with
        | none => true
        | some k => decide (k + d.get (HC_FIR_MININT_EFF c) ⟨0, 20⟩ ≤ d.now)) &&
      !(d.hc c).hold && d.pacState ≠ 4 && !d.overdue c m

/-- A line is past its shutter window on this tick and does not fire (R90). -/
def Dev.mustSkip (d : Dev) (c : Nat) : Bool :=
  match d.ripe c with
  | none => false
  | some m => decide (d.shutter c < d.lateness (d.target c m) d.P) && !d.canFire c

/-- The front line F moves to the first-used line of a channel line (R177). -/
def Dev.moveFront (d : Dev) (c m : Nat) : Dev :=
  match d.firstUsed c m, d.headJob with
  | some l, some j =>
    (d.modJob j.id (fun j => { j with front := some (match j.front with
      | some f => max f l
      | none => l) })).mirrorJob j.id
  | _, _ => d

/-- A line has been disposed of: its data is consumed and the next line is pending from the next tick (R85, R90, R94). -/
def Dev.nextUp (d : Dev) (c m : Nat) : Dev :=
  let d := d.moveFront c m
  let d := d.setPending c (d.nextLine m) (d.now + 1)
  let d := match (d.hc c).m with
    | some n => d.forget c n
    | none => d
  (d.when (d.creditHeld) (·.flag CMP_RFL_EVT CMP_RFL_EVT.STORE_FULL)).finishCheck

/-- The lines a channel line carries that are neither released nor voided are voided now (R195, R196): the one of first use
with its block when that awaits replacement. -/
def Dev.voidUnreleased (d : Dev) (c m : Nat) : Dev :=
  (d.carried c m).foldl (fun d l =>
    if (d.lineOf c l).isSome || (d.hc c).voids.contains l then d
    else
      let key := d.keyOf l
      let cause := d.lateCause c l
      let d := match (d.blk c key).st with
        | .awaiting _ => d.voidBlk c key
        | _ => d
      d.voidLine c l cause) d

/-- The line of first use is voided with cause LOUVRE, unless it is void already (R195). -/
def Dev.voidLouvre (d : Dev) (c m : Nat) : Dev :=
  match d.firstUsed c m with
  | some l => if d.lineVoided c l then d else d.voidLine c l 6
  | none => d

/-- The cause that a line fired blank has in its record (R409). -/
def Dev.blankCause (d : Dev) (c m : Nat) : Nat :=
  match d.firstUsed c m with
  | some l => if d.lineVoided c l then (match (d.hc c).run with
    | some r => r.cause
    | none => 0) else 0
  | none => 0

/-- The row delay change at the fire of a line (R54). -/
def Dev.rowdlyAt (d : Dev) (c m : Nat) : Dev :=
  if d.bit (HC_GEOM_STS c) HC_GEOM_STS.PENDING && !d.awaiting 1 c && d.atOrAfter (d.rowDelayAt c) m then
    let late := match (d.hc c).lastFired with
      | some f => d.atOrAfter (d.rowDelayAt c) f
      | none => false
    let d := (d.wr (HC_ROWDLY c) (d.rd (HC_ROWDLY_NEXT c))).put (HC_GEOM_STS c) HC_GEOM_STS.PENDING 0
    d.when late (·.flag (HC_GEOM_STS c) HC_GEOM_STS.LATE)
  else d

/-- L_eff of a calibration set change. -/
def Dev.calSetAt (d : Dev) (c : Nat) : Nat := d.rdN (HC_CAL_SET_AT_LO c) + 2 ^ 32 * (d.rdN (HC_CAL_SET_AT_HI c) % 256)

/-- The calibration set change at the fire of a line (R311). -/
def Dev.calAt (d : Dev) (c m : Nat) : Dev :=
  if d.bit (HC_CAL_STS c) HC_CAL_STS.PENDING && !d.awaiting 3 c && d.atOrAfter (d.calSetAt c) m then
    let late := match (d.hc c).lastFired with
      | some f => d.atOrAfter (d.calSetAt c) f
      | none => false
    (d.calSetApply c).when late (·.flag (HC_CAL_STS c) HC_CAL_STS.LATE)
  else d

/-- The bank change at the fire of a line (R125): not with a body already sent for the old bank. -/
def Dev.bankSwitchAt (d : Dev) (c m : Nat) : Dev :=
  let x := d.hc c
  match x.image with
  | some im =>
    let body := match x.body with
      | some b => b.bank == im.bank
      | none => true
    if x.ready && im.change && !d.awaiting 2 c && d.atOrAfter (d.bankAt c) m && body then
      let late := match x.lastFired with
        | some f => d.atOrAfter (d.bankAt c) f
        | none => false
      (d.bankApply c).when late (·.flag (HC_LVR_EVT c) HC_LVR_EVT.BANK_LATE)
    else d
  | none => d

/-- The lateness of a fire: HC_LATE_CNT, LATE, HC_LATE_MAX (R88). -/
def Dev.noteLate (d : Dev) (c : Nat) (pos : Int) (wait : Nat) : Dev :=
  let d := if 0 < wait then (d.count (HC_LATE_CNT c) whole 1).flag (HC_FIR_STS c) HC_FIR_STS.LATE else d
  let d := d.put (HC_LATE_MAX c) HC_LATE_MAX.MAX_WAIT (max (d.get (HC_LATE_MAX c) HC_LATE_MAX.MAX_WAIT) (min 0xFFFFFF wait))
  d.put (HC_LATE_MAX c) ⟨24, 8⟩ (max (d.get (HC_LATE_MAX c) ⟨24, 8⟩) (min 255 pos.toNat))

/-- What was fired is kept for the expected image while a camera station exists, for the job line of each row (R293). -/
def Dev.noteFired (d : Dev) (c m : Nat) : Dev :=
  if d.stations.any (fun x => x.kind == 0) && !d.scan then
    let vals := d.lineValues c m
    let of_ (l : Nat) : List Nat :=
      (vals.zipIdx).map (fun (p : Nat × Nat) => if d.rowLine c m (d.rowOf c p.2) == some l then p.1 else 0)
    let new := (d.carried c m).map (fun l => (⟨(d.headJob.map (·.id)).getD 0, d.fir.bits, c, l, of_ l⟩ : Fired))
    { d with fir := { d.fir with fired := d.fir.fired ++ new } }
  else d

/-- The strobe of a decided line leaves DELAY ticks later with the waveforms in force (R86, R129). -/
def Dev.queueStrobe (d : Dev) (c m : Nat) (live : Bool) : Dev :=
  let sel := d.rd (WAV_SEL c)
  d.modHc c (fun x => { x with strobes := x.strobes ++
    [⟨d.now + x.lat.cfg.fld HC_FIR_CFG.DELAY, m, live, sel.fld WAV_SEL.WFA, sel.fld WAV_SEL.WFB⟩] })

/-- A line fires (R85, R115, R119, R195): with its data, or blank. -/
def Dev.fireLine (d : Dev) (c m : Nat) : Dev :=
  let pos := d.lateness (d.target c m) d.P
  let wait := match d.dueOf c with
    | some t => d.now - t
    | none => 0
  let d := d.noteLate c pos wait
  let d := ((d.bankSwitchAt c m).rowdlyAt c m).calAt c m
  let d := d.voidUnreleased c m
  let up := d.lvrUp c
  let ready := match (d.hc c).body with
    | some b => b.data && b.line == m && decide (b.endAt ≤ d.now)
    | none => false
  let crc := match (d.hc c).body with
    | some b => b.crc
    | none => 0
  let d :=
    if !up then let d := d.voidLouvre c m; d.record c 1 m 0 (d.blankCause c m)
    else if !d.lineData c m then let d := d.lvrSend c .commitBlank; d.record c 1 m 0 (d.blankCause c m)
    else if ready then
      ((((d.lvrSend c .commit).noteFired c m).record c 0 m crc 0).endRun c).modHc c (fun x => { x with voidN := 0 })
    else
      let d := ((d.lvrSend c .commitBlank).flag (HC_LVR_EVT c) HC_LVR_EVT.BLANKLATE).count (HC_LVR_MISS c) hiHalf 1
      let d := d.voidLouvre c m
      d.record c 1 m 0 (d.blankCause c m)
  let d := (d.queueStrobe c m up).modHc c (fun x => { x with kPrev := some d.now, lastFired := some m })
  (d.nextUp c m).voidPause c

/-- A line is inhibited: counted as fired, its data consumed (R94, R115). -/
def Dev.inhibitLine (d : Dev) (c m : Nat) : Dev :=
  let d := (d.count (HC_INH_CNT c) whole 1).flag (HC_FIR_STS c) HC_FIR_STS.INH
  let d := (((d.lvrAbort c).record c 3 m 0 0).endRun c).modHc c (fun x => { x with kPrev := some d.now })
  d.nextUp c m

/-- LINE_FIRE: the decision, on the first tick on which all the firing conditions hold (R85, R94). -/
def lineFire (c : Nat) (d : Dev) : Dev :=
  if d.canFire c then
    match d.pending c with
    | some m => if d.bit FIR_STS FIR_STS.INH_NOW then d.inhibitLine c m else d.fireLine c m
    | none => d
  else d

/-- The skip window of this tick: 800,000 ticks each from the start of the job or pass (R91). -/
def Dev.rollWindow (d : Dev) (c : Nat) : Dev :=
  d.modHc c (fun x =>
    let n := (d.now - x.winAt) / 800000
    if n = 0 then x else { x with winAt := x.winAt + n * 800000, winN := 0 })

/-- OVERSPEED on a channel (R91). -/
def Dev.overspeed (d : Dev) (c : Nat) : Dev :=
  let d := if c < 32 then d.flagBit FIR_OVS0 c else d.flagBit FIR_OVS1 (c - 32)
  let d := (d.flag (HC_FIR_STS c) HC_FIR_STS.OVERSPEED).flag FIR_EVT FIR_EVT.OVERSPEED
  d.when (d.bit FIR_CFG FIR_CFG.OVS_STOP) (·.jobStop 2)

/-- LINE_SKIP (R90, R91). -/
def lineSkip (c : Nat) (d : Dev) : Dev :=
  if d.mustSkip c then
    match d.pending c with
    | none => d
    | some m =>
      let l := d.jobLine m
      let d := (d.count (HC_SKIP_CNT c) whole 1).flag (HC_FIR_STS c) HC_FIR_STS.SKIP
      let d := d.wr64 (HC_SKIP_LAST_LO c) (HC_SKIP_LAST_HI c) l
      let d := ((d.lvrAbort c).record c 2 m 0 0).endRun c
      let d := (d.rollWindow c).modHc c (fun x => { x with winN := x.winN + 1 })
      let fast := decide (d.get FIR_CFG FIR_CFG.SKIP_MAX < (d.hc c).winN)
      let d := d.nextUp c m
      if fast then d.overspeed c else d
  else d

/-- SKIP_WINDOW_END (R91). -/
def skipWindowEnd (c : Nat) (d : Dev) : Dev := if d.firingOn then d.rollWindow c else d

/-- The fire strobe width in ticks (HC_LVR_CFG.STB_W). -/
def Dev.strobeWidth (d : Dev) (c : Nat) : Nat := d.get (HC_LVR_CFG c) HC_LVR_CFG.STB_W

/-- The codes of a waveform from its samples. -/
def Dev.waveCodes (d : Dev) (c : Nat) (b : Bool) (w rest : Nat) : List Nat :=
  let segs := d.waveSegs c b w
  (List.range (waveLen segs + 1)).map (waveCode rest segs)

/-- A strobe leaves the pins and the waveforms start (R86, R129, R132), unless the guard has lapsed (R402). -/
def Dev.issueStrobe (d : Dev) (c line wfa wfb : Nat) : Dev :=
  if !d.bit BRD_STS BRD_STS.GUARD_OK then d
  else
    let x := d.hc c
    let d := (d.emit (.strobe c line (d.strobeWidth c) wfa wfb)).count (HC_FIRE_CNT c) whole 1
    let d := d.clipCheck c x.trimInA (d.waveCodes c false wfa x.restA)
    let d := d.clipCheck c x.trimInB (d.waveCodes c true wfb x.restB)
    d.modHc c (fun x => { x with wave := some (d.now, wfa, wfb) })

/-- STROBE_ISSUE: DELAY ticks after the decision (R86); not while the link is down (R119) or inhibited (R94, R95). -/
def strobeIssue (c : Nat) (d : Dev) : Dev :=
  match (d.hc c).strobes with
  | [] => d
  | s :: t =>
    if d.now < s.at_ then d
    else
      let d := d.modHc c (fun x => { x with strobes := t })
      if !s.live then d
      else if d.bit FIR_STS FIR_STS.INH_NOW then (d.count (HC_INH_CNT c) whole 1).flag (HC_FIR_STS c) HC_FIR_STS.INH
      else d.issueStrobe c s.line s.wfa s.wfb

/-! ## FIRE_INH_N (R93 to R95) -/

/-- INHIBIT_FALL: strobes in progress are cut and counted, waveforms go to rest, tests and procedures end. -/
def inhibitFall (d : Dev) : Dev :=
  if d.bit FIR_STS FIR_STS.INH_NOW then d
  else
    let d := ((d.put FIR_STS FIR_STS.INH_NOW 1).flag FIR_EVT FIR_EVT.INHIBIT).count FIR_INH_CNT loHalf 1
    let d := d.each (d.hcs.map (·.1)) (fun c d =>
      match (d.hc c).wave with
      | some (t, _, _) =>
        let d := if d.now < t + d.strobeWidth c then (d.count (HC_INH_CNT c) whole 1).flag (HC_FIR_STS c) HC_FIR_STS.INH else d
        d.modHc c (fun x => { x with wave := none })
      | none => d)
    let d := d.gatesEnd.calAbort
    d.when (d.bit FIR_CFG FIR_CFG.INH_STOP) (·.jobStop 3)

/-- INHIBIT_RISE. -/
def inhibitRise (d : Dev) : Dev := d.put FIR_STS FIR_STS.INH_NOW 0

/-! ## Passes (R96 to R100) -/

/-- The pass that the registers describe (R96). -/
def Dev.describedPass (d : Dev) : Pass :=
  ⟨d.get FIR_PASS FIR_PASS.PASS, d.bit FIR_PASS FIR_PASS.DIR, d.rdN FIR_PASS_FIRST % 2 ^ 20, d.rdN FIR_PASS_LAST % 2 ^ 20⟩

/-- FIR_CMD.PASS_GO (R96 to R98): only a scan geometry has passes. -/
def passGo (d : Dev) : Dev :=
  if !d.scan then d
  else
    let p := d.describedPass
    if p.last < p.first || d.channels.any (fun c => decide (1048575 < p.last + d.maxOff c)) then
      { d.flag FIR_EVT FIR_EVT.PASS_REJ with fir := { d.fir with held := none } }
    else if d.passActive then { d with fir := { d.fir with held := some p } }
    else ((d.armPass p).prepBanks d.channels).checkPassSegs p

/-- The armed pass is disarmed. -/
def Dev.passDisarm (d : Dev) : Dev := { d.put FIR_STS FIR_STS.PASS_ARMED 0 with fir := { d.fir with armed := none } }

/-- The channel line a channel starts a pass at (R97). -/
def Dev.passStart (d : Dev) (p : Pass) (c : Nat) : Nat := if p.rev then p.last + d.maxOff c else p.first

/-- PASS_ACTIVATE (R97, R98): the paper is settled, no pass is active, the banks are in force, no first target has passed. -/
def passActivate (d : Dev) : Dev :=
  match d.fir.armed with
  | none => d
  | some p =>
    let cs := match d.headJob with
      | some j => j.chans
      | none => d.channels
    let b := (d.headJob.map (·.bits)).getD 1
    if d.passActive || (d.bit FIR_CFG FIR_CFG.WAIT_ADV && !d.bit PAC_ADV_CFG PAC_ADV_CFG.IDLE) then d
    else if cs.any (fun c => !d.bankCurrent c) then d.prepBanks cs
    else if cs.any (fun c =>
        let t := d.passTarget c (d.passStart p c) p
        if p.rev then decide (d.P ≤ t) else decide (t ≤ d.P)) then
      d.passDisarm.flag FIR_EVT FIR_EVT.PASS_REJ
    else
      match d.startFault cs b with
      | some d => d.passDisarm
      | none =>
        let d := d.anchor
        let d := (d.passDisarm.put FIR_STS FIR_STS.PASS_ACTIVE 1).put FIR_STS FIR_STS.PASS_DIR (if p.rev then 1 else 0)
        let d := d.flag FIR_EVT FIR_EVT.PASS_START
        let d := { d with
          fir := { d.fir with
            active := some p, lastPass := some p.pass, npass := d.get FIR_ILACE FIR_ILACE.NPASS, chans := cs, bits := b }
          pac := { d.pac with
            held := d.P, hwmCnt := (d.source d.pac.use).cnt * (if p.rev then -1 else 1), hwmPos := d.loopMeasured } }
        let d := d.each cs (fun c d => d.startChannel b (d.passStart p c) c)
        match d.headJob with
        | some j =>
          if j.state = 2 then
            let d := { d with ras := { d.ras with progressAt := d.now } }
            (d.setJobState j.id 3).flag FIR_EVT FIR_EVT.STARTED
          else d
        | none => d

/-- FIR_CMD.PASS_ABORT (R98). -/
def passAbort (d : Dev) : Dev :=
  if d.passActive then
    let d := d.abortLines
    let d := d.each d.fir.chans (fun c d => d.cutStrobes c)
    d.passOver false
  else if d.fir.armed.isSome then d.passDisarm
  else d

/-- A write of FIR_CMD: STOP, DISARM, ARM, PASS_ABORT, PASS_GO in that order. -/
def firCmdWrite (v : Word) (d : Dev) : Dev :=
  let d := d.when (v.bit 2) firStop
  let d := d.when (v.bit 1) firDisarm
  let d := d.when (v.bit 0) firArm
  let d := d.when (v.bit 4) passAbort
  d.when (v.bit 3) passGo

/-! ## Row delay changes (R54, R55) -/

/-- ROWDLY_ARM: a write of HC_ROWDLY_AT_HI with ARM = 1. -/
def rowdlyArm (c : Nat) (d : Dev) : Dev :=
  let nxt : Int := d.rdN (HC_ROWDLY_NEXT c)
  if d.jobActive || d.passBusy then
    if 255 < (nxt - (d.hc c).dStart).natAbs then
      (d.flag (HC_GEOM_STS c) HC_GEOM_STS.REJECT).put (HC_GEOM_STS c) HC_GEOM_STS.PENDING 0
    else (d.put (HC_GEOM_STS c) HC_GEOM_STS.PENDING 1).propose 1 (2 ^ c) (d.rowDelayAt c) [nxt.toNat]
  else ((d.wr (HC_ROWDLY c) (d.rd (HC_ROWDLY_NEXT c))).put (HC_GEOM_STS c) HC_GEOM_STS.PENDING 0).propose 1 (2 ^ c)
    (d.rowDelayAt c) [nxt.toNat]

/-- One write of HC_ROWDLY_AT_HI. -/
def rowdlyAtWrite (c : Nat) (lo v : Word) (d : Dev) : Dev :=
  let d := (d.wr (HC_ROWDLY_AT_LO c) lo).typedWrite (HC_ROWDLY_AT_HI c) v
  d.when (v.bit 31) (rowdlyArm c)

/-- ROWDLY_APPLY: the fire of a line at which an armed row delay takes effect. -/
def rowdlyApply (c : Nat) (d : Dev) : Dev :=
  match d.pending c with
  | some m => if d.bit (HC_GEOM_STS c) HC_GEOM_STS.PENDING && d.atOrAfter (d.rowDelayAt c) m then lineFire c d else d
  | none => d

/-! ## Jobs (R170 to R173) -/

/-- A JOB frame's fields (R170); `other` is nonzero when CHANNEL, REF_OP, the reserved byte or COUNT is. -/
structure JobMsg where
  arg : Nat
  job : Nat
  line : Nat
  mask : Nat
  other : Nat
  deriving DecidableEq, Repr

/-- The lowest reason that applies, 0 when none (R171). -/
def lowest (rs : List (Nat × Bool)) : Nat := ((rs.find? (·.2)).map (·.1)).getD 0

/-- OPEN (R171, R172). -/
def jobOpen (x : JobMsg) (d : Dev) : Dev :=
  let bits := x.arg % 4 + 1
  let cs := (List.range 64).filter (fun c => x.mask.testBit c)
  let why := lowest [
    (1, decide (16 ≤ d.ras.jobs.length)), (2, (d.jobOf x.job).isSome), (3, cs.isEmpty || cs.any (fun c => !d.hasChannel c)),
    (4, bits == 4), (5, cs.any (fun c => decide (d.leadCap c bits < 80))), (8, 8 ≤ x.arg || x.other ≠ 0)]
  if why ≠ 0 then d.sendResult 1 x.job why
  else
    let j : Job := ⟨x.job, bits, x.arg.testBit 2, x.line, x.mask, 1, none, none⟩
    (({ d with ras := { d.ras with jobs := d.ras.jobs ++ [j] } }.sendResult 1 x.job 0).sendState j).mirrorJob x.job

/-- LINE is at or below F (R171). -/
def Job.atFront (j : Job) (l : Nat) : Bool :=
  match j.front with
  | some f => decide (l ≤ f)
  | none => false

/-- SETLAST (R171, R172). -/
def jobSetLast (x : JobMsg) (d : Dev) : Dev :=
  let j := d.jobOf x.job
  let why := lowest [(6, j.isNone), (7, (j.map (·.atFront x.line)).getD false), (8, x.arg ≠ 0 || x.other ≠ 0 || x.mask ≠ 0)]
  if why ≠ 0 then d.sendResult 2 x.job why
  else (((d.modJob x.job (fun j => { j with last := x.line })).mirrorJob x.job).sendResult 2 x.job 0).finishCheck

/-- A job is aborted: a RUNNING one stops with STOP_WHY = 1, and it leaves the queue (R172, R173). -/
def Dev.abortJob (d : Dev) (j : Job) : Dev :=
  let running := j.state = 3
  (if running then d.jobStop 1 else d).leaveQueue j 6 running

/-- ABORT (R171, R173). -/
def jobAbort (x : JobMsg) (d : Dev) : Dev :=
  let j := d.jobOf x.job
  let why := lowest [(6, j.isNone), (8, x.arg ≠ 0 || x.other ≠ 0 || x.mask ≠ 0 || x.line ≠ 0)]
  if why ≠ 0 then d.sendResult 3 x.job why
  else
    let d := d.sendResult 3 x.job 0
    match j with
    | some j => d.abortJob j
    | none => d

/-- A STOPPED job returns to ARMED at a resume line (R173, R200). -/
def Dev.resumeJob (d : Dev) (j : Job) (line : Nat) : Dev :=
  let d := ((d.modJob j.id (fun j => { j with resume := some line })).setJobState j.id 2).propose 6 j.mask line [j.id]
  (d.each j.chans (fun c d => d.modHc c (fun x => { x with voidN := 0 }))).dropBelow { j with resume := some line } line

/-- RESUME's reasons 6 and 7 (R171). -/
def resumeWhy (j : Option Job) (line : Nat) : Nat :=
  lowest [(6, j.isNone), (7, (j.map (fun j => j.state != 4 || j.atFront line)).getD false)]

/-- RESUME (R171, R173). -/
def jobResume (x : JobMsg) (d : Dev) : Dev :=
  let j := d.jobOf x.job
  let why := lowest [(6, resumeWhy j x.line == 6), (7, resumeWhy j x.line == 7), (8, x.arg ≠ 0 || x.other ≠ 0 || x.mask ≠ 0)]
  if why ≠ 0 then d.sendResult 4 x.job why
  else
    let d := d.sendResult 4 x.job 0
    match j with
    | some j => d.resumeJob j x.line
    | none => d

/-- CMP_RFL_CMD.RESUME acts on the head job as a RESUME frame does (R173); no frame is there to answer. -/
def cmpResume (d : Dev) : Dev :=
  let line := d.rdN CMP_RESUME_LO + 2 ^ 32 * (d.rdN CMP_RESUME_HI % 256)
  match d.headJob with
  | some j => if resumeWhy (some j) line = 0 then d.resumeJob j line else d
  | none => d

/-- The line whose block an AUTOARM job must hold (R172). -/
def Dev.autoLine (d : Dev) : Option Nat :=
  if d.scan then d.fir.armed.map (fun p => p.pass * 1048576 + (if p.rev then p.last else p.first)) else some 0

/-- AUTOARM (R172, R99). -/
def autoArm (d : Dev) : Dev :=
  match d.headJob, d.autoLine with
  | some j, some l =>
    let held (c : Nat) : Bool := match (d.blk c (blkKey j.id (l / 64))).st with
      | .held | .engine | .released => true
      | _ => false
    if j.autoarm && j.state = 1 && j.chans.all held then d.armLoops.armHead else d
  | _, _ => d

/-- JOB_PROGRESS: every 1 ms while a job is RUNNING (R173). -/
def jobProgress (d : Dev) : Dev :=
  match d.headJob with
  | some j =>
    if j.state = 3 && decide (d.ras.progressAt + msTicks 1 ≤ d.now) then
      { d with ras := { d.ras with progressAt := d.now } }.sendFrame 0 3 (jobBody 0x83 0 0 0 j.id j.frontOr 0 0)
    else d
  | none => d

/-! ## The meanings -/

/-- FIR_ARM (R80). -/
def execFirArm (q : Req) (s : State) : Host.Outcome State Fault Refusal := .next (s.devCommand q FIR_CMD 1 firCmdWrite)

/-- FIR_DISARM (R103). -/
def execFirDisarm (q : Req) (s : State) : Host.Outcome State Fault Refusal := .next (s.devCommand q FIR_CMD 2 firCmdWrite)

/-- FIR_STOP (R92). -/
def execFirStop (q : Req) (s : State) : Host.Outcome State Fault Refusal := .next (s.devCommand q FIR_CMD 4 firCmdWrite)

/-- LINE_FIRE (R85). -/
def execLineFire (c : Fin 64) (dt : Nat) (s : State) : Host.Outcome State Fault Refusal := .next ((s.pass dt).onDev (lineFire c.val))

/-- STROBE_ISSUE (R86). -/
def execStrobeIssue (c : Fin 64) (dt : Nat) (s : State) : Host.Outcome State Fault Refusal :=
  .next ((s.pass dt).onDev (strobeIssue c.val))

/-- LINE_SKIP (R90). -/
def execLineSkip (c : Fin 64) (dt : Nat) (s : State) : Host.Outcome State Fault Refusal := .next ((s.pass dt).onDev (lineSkip c.val))

/-- SKIP_WINDOW_END (R91). -/
def execSkipWindowEnd (c : Fin 64) (dt : Nat) (s : State) : Host.Outcome State Fault Refusal :=
  .next ((s.pass dt).onDev (skipWindowEnd c.val))

/-- INHIBIT_FALL (R93). -/
def execInhibitFall (dt : Nat) (s : State) : Host.Outcome State Fault Refusal := .next ((s.pass dt).onDev inhibitFall)

/-- INHIBIT_RISE (R93). -/
def execInhibitRise (dt : Nat) (s : State) : Host.Outcome State Fault Refusal := .next ((s.pass dt).onDev inhibitRise)

/-- PASS_GO (R97). -/
def execPassGo (q : Req) (s : State) : Host.Outcome State Fault Refusal := .next (s.devCommand q FIR_CMD 8 firCmdWrite)

/-- PASS_ACTIVATE (R97). -/
def execPassActivate (dt : Nat) (s : State) : Host.Outcome State Fault Refusal := .next ((s.pass dt).onDev passActivate)

/-- PASS_ABORT (R98). -/
def execPassAbort (q : Req) (s : State) : Host.Outcome State Fault Refusal := .next (s.devCommand q FIR_CMD 16 firCmdWrite)

/-- ROWDLY_ARM: the line's high byte with ARM = 1; its low part from the port's hold register (R54, R11). -/
def execRowdlyArm (q : Req) (c : Fin 64) (hi : Fin 256) (s : State) : Host.Outcome State Fault Refusal :=
  .next (s.highCommand q (HC_ROWDLY_AT_LO c.val) (HC_ROWDLY_AT_HI c.val) (BitVec.ofNat 32 (2 ^ 31 + hi.val)) (rowdlyAtWrite c.val))

/-- ROWDLY_APPLY (R54). -/
def execRowdlyApply (c : Fin 64) (dt : Nat) (s : State) : Host.Outcome State Fault Refusal :=
  .next ((s.pass dt).onDev (rowdlyApply c.val))

/-- JOB_OPEN (R171). -/
def execJobOpen (arg : Fin 256) (job : Word) (line : BitVec 40) (mask : BitVec 64) (other : Nat) (s : State) :
    Host.Outcome State Fault Refusal :=
  .next (s.onDev (jobOpen ⟨arg.val, job.toNat, line.toNat, mask.toNat, other⟩))

/-- JOB_SETLAST (R172). -/
def execJobSetlast (arg : Fin 256) (job : Word) (line : BitVec 40) (mask : BitVec 64) (other : Nat) (s : State) :
    Host.Outcome State Fault Refusal :=
  .next (s.onDev (jobSetLast ⟨arg.val, job.toNat, line.toNat, mask.toNat, other⟩))

/-- JOB_ABORT (R173). -/
def execJobAbort (arg : Fin 256) (job : Word) (line : BitVec 40) (mask : BitVec 64) (other : Nat) (s : State) :
    Host.Outcome State Fault Refusal :=
  .next (s.onDev (jobAbort ⟨arg.val, job.toNat, line.toNat, mask.toNat, other⟩))

/-- JOB_RESUME (R173). -/
def execJobResume (arg : Fin 256) (job : Word) (line : BitVec 40) (mask : BitVec 64) (other : Nat) (s : State) :
    Host.Outcome State Fault Refusal :=
  .next (s.onDev (jobResume ⟨arg.val, job.toNat, line.toNat, mask.toNat, other⟩))

/-- CMP_RESUME (R173). -/
def execCmpResume (q : Req) (s : State) : Host.Outcome State Fault Refusal := .next (s.devCommand q CMP_RFL_CMD 1 (fun _ => cmpResume))

/-- AUTOARM (R172). -/
def execAutoarm (dt : Nat) (s : State) : Host.Outcome State Fault Refusal := .next ((s.pass dt).onDev autoArm)

/-- JOB_PROGRESS (R173). -/
def execJobProgress (dt : Nat) (s : State) : Host.Outcome State Fault Refusal := .next ((s.pass dt).onDev jobProgress)

end Sys2Proof.Machine
end

