-- ==== Sys2Proof/Machine/Nozzle.lean ====
section
/-! DEFINITION. Nozzle health (spec/10_nozzle_health.md): evidence, confirmation, updates and the effective line, proposals
and vetoes, and the drop gates. -/

namespace Sys2Proof.Machine

/-! ## The state of one nozzle (R256, R257, R260, R261) -/

/-- The key of a nozzle. -/
def nozKey (c n : Nat) : Nat := c * 4096 + n

/-- What nozzle health keeps of a nozzle. -/
def Dev.nozEv (d : Dev) (c n : Nat) : NozEv := tget (fun _ => {}) d.nh.ev (nozKey c n)

/-- Replace it. -/
def Dev.setNozEv (d : Dev) (c n : Nat) (x : NozEv) : Dev :=
  { d with nh := { d.nh with ev := tput (fun _ => {}) d.nh.ev (nozKey c n) x } }

/-- SCORE becomes 0, and the internal sums and the run of clears with it (R257, R260). -/
def Dev.clearScore (d : Dev) (c n : Nat) : Dev :=
  (d.setNoz c n fScore 0).setNozEv c n { eff := (d.nozEv c n).eff }

/-- A change of this nozzle is decided and has no effective line yet: it waits, or is proposed (R261, the model's reading). -/
def Dev.undecided (d : Dev) (c n : Nat) : Bool :=
  let here (x : NhChange) : Bool := x.chan == c && x.noz == n
  d.nh.wait.any here ||
    (match d.nh.prop with
      | some (_, _, cs) => cs.any here
      | none => false)

/-- A host override. -/
def NhChange.override (x : NhChange) : Bool := x.src == 2

/-- A change is decided: an override replaces, and is kept before, an automatic change of its nozzle (R257, R270). -/
def Dev.addChange (d : Dev) (x : NhChange) : Dev :=
  let same (y : NhChange) : Bool := y.chan == x.chan && y.noz == x.noz
  if !x.override && d.nh.wait.any (fun y => same y && y.override) then d
  else
    let prop := d.nh.prop.map (fun p => (p.1, p.2.1, if x.override then p.2.2.filter (fun y => !same y || y.override) else p.2.2))
    { d with nh := { d.nh with wait := d.nh.wait.filter (fun y => !same y) ++ [x], prop := prop } }

/-- The state a kind of hit confirms: 1 MISSING, 2 WEAK, 3 DEVIATED (R257, R260). -/
def confirms (kind : Nat) : Nat := if kind = 1 then 4 else if kind = 3 then 3 else 2

/-- The kind with the largest sum; of equal sums the more severe (R260). -/
def NozEv.kind (x : NozEv) : Nat :=
  if x.deviated ≤ x.missing && x.weak ≤ x.missing then 1 else if x.weak ≤ x.deviated then 3 else 2

/-- A hit's weight goes to the sum of its kind (R260). -/
def NozEv.add (x : NozEv) (kind q : Nat) : NozEv :=
  let x := { x with clears := 0 }
  if kind = 1 then { x with missing := x.missing + q }
  else if kind = 2 then { x with weak := x.weak + q }
  else { x with deviated := x.deviated + q }

/-- Evidence of a channel is held back: EN clear or FREEZE (R261, R271). -/
def Dev.nhHeld (d : Dev) (c : Nat) : Bool :=
  !d.bit FIR_NH_CFG FIR_NH_CFG.EN || d.bit FIR_NH_CFG FIR_NH_CFG.FREEZE || d.bit (HC_NH_CFG c) HC_NH_CFG.FREEZE

/-- Evidence over a frame whose first job line is `first` is stale (R261). -/
def Dev.nhStale (d : Dev) (c n first : Nat) : Bool :=
  d.nhHeld c || d.undecided c n ||
    (match (d.nozEv c n).eff with
      | some l => decide (first < l)
      | none => false)

/-- A credited hit (R256, R257, R260): kind, weight in quarters, source of FIR_NH_LAST. -/
def Dev.creditHit (d : Dev) (c n kind q src : Nat) : Dev :=
  let st := d.noz c n fState
  if q = 0 || 3 ≤ st || (st = 2 && kind = 2) then d
  else if st = 0 then
    ((d.setNoz c n fState 1).setNoz c n fScore (min 15 q)).setNozEv c n
      (({ eff := (d.nozEv c n).eff } : NozEv).add kind q)
  else
    let score := min 15 (d.noz c n fScore + q)
    let x := (d.nozEv c n).add kind q
    let d := (d.setNoz c n fScore score).setNozEv c n x
    if score < 4 * d.get FIR_NH_CFG FIR_NH_CFG.CONF || d.noz c n fPin = 1 then d
    else d.addChange ⟨c, n, confirms x.kind, src, none⟩

/-- A clear (R257, R260): CLEAR_N in a row end SUSPECT, and empty the SCORE of WEAK. -/
def Dev.creditClear (d : Dev) (c n : Nat) : Dev :=
  let st := d.noz c n fState
  if st ≠ 1 && st ≠ 2 then d
  else
    let x := d.nozEv c n
    if x.clears + 1 < d.get FIR_NH_CFG FIR_NH_CFG.CLEAR_N then d.setNozEv c n { x with clears := x.clears + 1 }
    else (if st = 1 then d.setNoz c n fState 0 else d).clearScore c n

/-- Stale evidence is counted (R261). -/
def Dev.countStale (d : Dev) (c : Nat) : Dev := (d.count (HC_NH_STALE c) whole 1).flag FIR_NH_EVT FIR_NH_EVT.STALE

/-- One entry of a camera report (R260): kind 0 is CLEAR. -/
def Dev.creditEntry (d : Dev) (e : NhEntry) : Dev :=
  let c := e.chan.val
  let n := e.noz
  if !d.hasChannel c || d.nozzles c ≤ n then d
  else if d.nhStale c n e.first then d.countStale c
  else if e.kind.val = 0 || e.covNum * 100 < d.get FIR_NH_CFG FIR_NH_CFG.COVER * e.covDen then d.creditClear c n
  else d.creditHit c n e.kind.val ((8 * e.shNum + e.shDen) / (2 * e.shDen)) 0

/-- The mirrored state of the nozzles a report touched (R273, R412). -/
def Dev.mirrorNozzles (d : Dev) (ks : List (Nat × Nat)) : Dev :=
  d.mirror (1 :: ks.flatMap (fun k =>
    let x := d.nozEv k.1 k.2
    [nozKey k.1 k.2, d.noz k.1 k.2 ⟨0, 8⟩, x.missing, x.weak, x.deviated, x.clears]))

/-- NH_REPORT (R258, R260, R273): a standby credits nothing. -/
def nhReport (es : List NhEntry) (d : Dev) : Dev :=
  if d.standby then d else (es.foldl Dev.creditEntry d).mirrorNozzles (es.map (fun e => (e.chan.val, e.noz)))

/-- A refused command (R271, R272). -/
def Dev.nhRefuse (d : Dev) : Dev := d.flag FIR_NH_EVT FIR_NH_EVT.REFUSED

/-- The front line of the running job (R177). -/
def Dev.frontLine (d : Dev) : Nat := ((d.headJob.map (·.front)).join).getD 0

/-- EVIDENCE (R262): one hit with s = 1 and c = 1, over the front line. -/
def nhEvidence (c n kind : Nat) (d : Dev) : Dev :=
  if kind = 0 || d.nozzles c ≤ n then d.nhRefuse
  else if d.nhStale c n d.frontLine then d.countStale c
  else (d.creditHit c n kind 4 3).mirrorNozzles [(c, n)]

/-- OVERRIDE (R271). -/
def nhOverride (c n st : Nat) (atEn : Bool) (d : Dev) : Dev :=
  if st = 1 || 5 < st || d.nozzles c ≤ n then d.nhRefuse
  else d.addChange ⟨c, n, st, 2, if atEn then some (d.rdN (HC_NH_AT_LO c) + 2 ^ 32 * (d.rdN (HC_NH_AT_HI c) % 256)) else none⟩

/-- RESET (R271): every nozzle that is not DISABLED to GOOD. -/
def nhReset (c : Nat) (d : Dev) : Dev :=
  d.each (List.range (d.nozzles c)) (fun n d =>
    let st := d.noz c n fState
    if st = 5 then d
    else
      let d := d.clearScore c n
      if st = 0 then d else d.addChange ⟨c, n, 0, 2, none⟩)

/-- A write of HC_NH_CMD (R271, R277); a standby's nozzle health follows its active (R273). -/
def nhCmdWrite (c : Nat) (v : Word) (d : Dev) : Dev :=
  let n := v.fld HC_NH_CMD.NOZZLE
  let op := v.fld HC_NH_CMD.OP
  if d.standby then d
  else if op = 1 then nhOverride c n (v.fld HC_NH_CMD.STATE) (v.fld HC_NH_CMD.AT_EN = 1) d
  else if op = 2 then nhEvidence c n (v.fld HC_NH_CMD.KIND) d
  else if op = 3 then nhReset c d
  else d

/-! ## Updates and the effective line (R269, R270) -/

/-- The channels an update touches: those of its nozzles, and their overlap partners' (R269). -/
def Dev.touched (d : Dev) (cs : List NhChange) : List Nat :=
  let own := (cs.map (·.chan)).eraseDups
  d.channels.filter (fun c => own.contains c || (d.overlapsOf c).any (fun p => own.contains p.1 || own.contains p.2))

/-- The map of a channel under the states given, in force or next (R265). -/
def Dev.computeMap (d : Dev) (next : Bool) (st : Nat → Nat → Nat) (c : Nat) : Dev :=
  let acts := (List.range (d.nozzles c)).map (fun n => (n, d.actionFor st c n))
  acts.foldl (fun d p => d.setAction next c p.1 p.2) d

/-- The states once an update applies. -/
def Dev.statesWith (d : Dev) (cs : List NhChange) (c n : Nat) : Nat :=
  match cs.reverse.find? (fun x => x.chan == c && x.noz == n) with
  | some x => x.new
  | none => d.noz c n fState

/-- L_eff (R269, R271). -/
def Dev.chooseLine (d : Dev) (cs : List NhChange) (chans : List Nat) : Nat :=
  let rel := (chans.map (fun c => lineAfter (d.hc c).rMax)).foldl max 0
  let base :=
    if d.scan then
      let pass := (rel + 1048575) / 1048576
      match [d.fir.active, d.fir.armed, d.fir.held].findSome? (fun p => p.filter (fun p => p.pass == pass)) with
      | some p => pass * 1048576 + min p.first p.last
      | none => pass * 1048576
    else max (d.frontLine + d.get FIR_NH_LEAD FIR_NH_LEAD.LEAD) rel
  cs.foldl (fun l x => max l (x.at_.getD 0)) base

/-- The map of the update in flight comes into force on a channel (R270). -/
def Dev.installMap (d : Dev) (c : Nat) : Dev :=
  d.each (List.range 512) (fun j d => d.wr (NH_PATCH c j) (d.rd (NH_PATCH_NEXT c j)))

/-- One change comes into force: FIR_NH_LAST, the state, SCORE 0 (R257, R270). -/
def Dev.applyChange (d : Dev) (leff : Nat) (x : NhChange) : Dev :=
  let old := d.noz x.chan x.noz fState
  let d := d.wrN FIR_NH_LAST (x.chan * 2 ^ 24 + x.src * 2 ^ 20 + old * 2 ^ 16 + x.new * 2 ^ 12 + x.noz)
  let d := (d.wrN FIR_NH_LAST_AT_LO (leff % 2 ^ 32)).wrN FIR_NH_LAST_AT_HI (leff / 2 ^ 32 % 256)
  { (d.setNoz x.chan x.noz fState x.new).clearScore x.chan x.noz with nh := { d.nh with recordDue := true } }.setNozEv x.chan x.noz
    { eff := some leff }

/-- The update in flight has applied (R270): CHANGE, FIR_NH_LAST and the event to the firmware. -/
def Dev.nhApplied (d : Dev) : Dev :=
  match d.nh.flight with
  | none => d
  | some u =>
    let d := d.each u.chans (fun c d => d.installMap c)
    let d := u.changes.foldl (fun d x => d.applyChange u.leff x) d
    let d := { d with nh := { d.nh with
      flight := none, reach := u.chans.foldl (fun t c => tput (fun _ => 2) t c u.reach) d.nh.reach } }
    let d := d.flag FIR_NH_EVT FIR_NH_EVT.CHANGE
    (d.notify 0x0003 [d.rd FIR_NH_LAST, d.rd FIR_NH_LAST_AT_LO, d.rd FIR_NH_LAST_AT_HI]).mirrorNozzles
      (u.changes.map (fun x => (x.chan, x.noz)))

/-- Every touched channel of the running job has released L_eff, or the update applies at once (R269, R270). -/
def Dev.nhReleased (d : Dev) (u : NhUpd) : Bool :=
  let chans := match d.headJob with
    | some j => u.chans.filter (fun c => j.mask.testBit c)
    | none => []
  u.atOnce || (chans.all (fun c => decide (u.leff < lineAfter (d.hc c).rMax)) && !u.chans.any (d.awaiting 4))

/-- No job is RUNNING or ARMED, no pass armed or active (R269). -/
def Dev.nhIdle (d : Dev) : Bool := !d.jobActive && !d.passBusy

/-- An update with its L_eff: its maps are computed, and it is in flight or applies at once (R269, R270). -/
def Dev.launchAt (d : Dev) (cs : List NhChange) (leff : Nat) : Dev :=
  if cs.isEmpty then d
  else
    let chans := d.touched cs
    let st := d.statesWith cs
    let d := chans.foldl (fun d c => d.computeMap true st c) d
    let d := cs.foldl (fun d x => d.setNozEv x.chan x.noz { d.nozEv x.chan x.noz with eff := some leff }) d
    let d := { d with nh := { d.nh with flight := some ⟨cs, chans, leff, d.get FIR_NH_CFG FIR_NH_CFG.REACH, d.nhIdle⟩ } }
    let d := d.propose 4 (chanMask chans) leff (cs.flatMap (fun x => [x.chan, x.noz, x.new, x.src, x.at_.getD 0]))
    if d.nhIdle then d.nhApplied else d

/-- An update's L_eff is chosen (R269). -/
def Dev.launch (d : Dev) (cs : List NhChange) : Dev :=
  d.launchAt cs (if d.nhIdle then (cs.foldl (fun l x => max l (x.at_.getD 0)) 0) else d.chooseLine cs (d.touched cs))

/-- The next identifier of a proposal. -/
def nextId (n : Nat) : Nat := if n = 65535 then 1 else n + 1

/-- NH_UPDATE (R269, R270, R272): the changes waiting form an update, or with HOLD and an automatic change a proposal. -/
def nhUpdate (d : Dev) : Dev :=
  let auto := d.nh.wait.any (fun x => !x.override)
  if d.standby || d.nh.flight.isSome || d.nh.wait.isEmpty then d
  else if d.get FIR_NH_VETO FIR_NH_VETO.HOLD = 0 || !auto then
    let cs := d.nh.wait
    { d with nh := { d.nh with wait := [] } }.launch cs
  else if d.nh.prop.isSome then
    let cs := d.nh.wait.filter NhChange.override
    { d with nh := { d.nh with wait := d.nh.wait.filter (fun x => !x.override) } }.launch cs
  else
    let id := d.nh.propNext
    let d := { d with nh := { d.nh with
      wait := [], prop := some (id, d.now + msTicks (d.get FIR_NH_VETO FIR_NH_VETO.HOLD), d.nh.wait), propNext := nextId id } }
    (((d.wrN FIR_NH_PROP id).flag FIR_NH_EVT FIR_NH_EVT.PROPOSED).notify 0x0004 [BitVec.ofNat 32 id])

/-- The pending proposal is over. -/
def Dev.dropProposal (d : Dev) : Dev := { d.wr FIR_NH_PROP 0 with nh := { d.nh with prop := none } }

/-- PROPOSAL_HOLD_END (R272): HOLD ms after the proposal its L_eff is chosen. -/
def proposalHoldEnd (d : Dev) : Dev :=
  match d.nh.prop with
  | none => d
  | some (_, end_, cs) => if d.now < end_ || d.nh.flight.isSome then d else d.dropProposal.launch cs

/-- NH_VETO (R272): the automatic changes of the proposal are discarded; its overrides form an update of their own. -/
def nhVeto (id : Nat) (d : Dev) : Dev :=
  match d.nh.prop with
  | none => d.nhRefuse
  | some (k, _, cs) =>
    if k ≠ id then d.nhRefuse
    else
      let d := (cs.filter (fun x => !x.override)).foldl (fun d x => d.clearScore x.chan x.noz) d.dropProposal
      let d := d.flag FIR_NH_EVT FIR_NH_EVT.VETOED
      let own := cs.filter NhChange.override
      if d.nh.flight.isSome then { d with nh := { d.nh with wait := own ++ d.nh.wait } } else d.launch own

/-- A write of FIR_NH_CMD (R272, R278). -/
def firNhCmdWrite (v : Word) (d : Dev) : Dev := if v.bit 16 then nhVeto (v.toNat % 65536) d else d

/-- NH_UPDATE_APPLIED (R270): every touched channel has released L_eff, or the job has left RUNNING; the next update forms
on the same tick. -/
def nhUpdateApplied (d : Dev) : Dev :=
  match d.nh.flight with
  | none => d
  | some u => if d.nhReleased u then nhUpdate d.nhApplied else d

/-- The maps of every channel computed afresh, at start-up and from mirrored states (R256, R265). -/
def Dev.computeMaps (d : Dev) : Dev :=
  let st : Nat → Nat → Nat := fun c n => d.noz c n fState
  d.each d.channels (fun c d => d.computeMap false st c)

/-! ## Drop gates (R263, R264) -/

/-- The test in progress on a gate. -/
def Dev.gateSt (d : Dev) (k : Nat) : GateSt := tget (fun _ => {}) d.nh.gate k

/-- Replace it. -/
def Dev.setGate (d : Dev) (k : Nat) (g : GateSt) : Dev := { d with nh := { d.nh with gate := tput (fun _ => {}) d.nh.gate k g } }

/-- INTERVAL in ticks, and a time in units of 10 ns in ticks. -/
def Dev.gateInt (d : Dev) (k : Nat) : Nat := usTicks (d.get (FIR_GATE_INT k) FIR_GATE_INT.INTERVAL)
def tenNs (n : Nat) : Nat := 8 * n

/-- The first reason to refuse a gate test of a channel up to nozzle `top`, 0 for none (R263). -/
def Dev.gateReason (d : Dev) (k c top : Nat) : Nat :=
  lowest
    [(1, d.jobActive || d.passBusy),
     (2, !d.stations.any (fun x => x.kind == 2 && x.index == k)),
     (3, !d.hasChannel c || !d.lvrUp c),
     (4, decide (d.gateInt k < tenNs (d.get (FIR_GATE_TOF k) FIR_GATE_TOF.TOFMAX) + usTicks 10) || decide (d.gateInt k < d.iEff c 2)),
     (5, (d.gateSt (1 - k)).run && (d.gateSt (1 - k)).chan == c),
     (6, decide (d.nozzles c < top)),
     (7, greyMask (d.rd (WAV_GREY0 c)) (d.rd (WAV_GREY1 c)) (d.get (FIR_GATE_CFG k) FIR_GATE_CFG.GVAL) == 0)]

/-- A test of a list of nozzles begins. -/
def Dev.gateRun (d : Dev) (k c : Nat) (ns : List Nat) : Dev :=
  let d := (d.put (FIR_GATE_STS k) FIR_GATE_STS.STATE 1).put (FIR_GATE_STS k) ⟨16, 13⟩ 0
  d.setGate k { run := true, chan := c, noz := ns.headD 0, rest := ns.drop 1, nextAt := d.now }

/-- GATE_START (R263, R273); a START while the test runs, or on a standby, has no effect (the model's choice). -/
def gateStart (k : Nat) (d : Dev) : Dev :=
  let c := d.get (FIR_GATE_CFG k) FIR_GATE_CFG.CHANNEL
  let first := d.get (FIR_GATE_RANGE k) FIR_GATE_RANGE.FIRST
  let count := d.get (FIR_GATE_RANGE k) FIR_GATE_RANGE.COUNT
  if (d.gateSt k).run || d.standby then d
  else
    let why := d.gateReason k c (first + count)
    if why ≠ 0 then (d.put (FIR_GATE_STS k) FIR_GATE_STS.REASON why).put (FIR_GATE_STS k) FIR_GATE_STS.STATE 4
    else d.gateRun k c ((List.range count).map (first + ·))

/-- A write of FIR_GATEk_CMD (R263); ABORT acts before START (the model's order). -/
def gateCmdWrite (k : Nat) (v : Word) (d : Dev) : Dev := (d.when (v.bit 1) (·.gateAbort k false)).when (v.bit 0) (gateStart k)

/-- A test line goes out as a line frame with b = 2: GVAL at the nozzle under test, 0 elsewhere (R263). -/
def Dev.testLine (d : Dev) (c n v : Nat) : Dev :=
  let vals := (List.range (d.nozzles c)).map (fun i => if i = n then v else 0)
  let len := lineBytes (d.nozzles c) 2
  let flags := 2 * (d.hc c).bank + 8
  let head := bodyHead 1 flags 0 (d.nozzles c) len
  let crc := headCheck head len ^^^ (d.rowChecks c 2 vals).foldl (· ^^^ ·) 0
  (d.emit (.louvre c (.body (bodyBytes 1 flags 0 (d.nozzles c) (packLine 2 len vals) crc)))).lvrSend c .commit

/-- GATE_STROBE (R263): INTERVAL after the last one; an inhibit or a lapsed guard ends the test, HOLD puts it off. -/
def gateStrobe (k : Nat) (d : Dev) : Dev :=
  let g := d.gateSt k
  let c := g.chan
  if !g.run || d.now < g.nextAt || g.strobeAt.isSome || d.get (FIR_GATE_CFG k) FIR_GATE_CFG.REP ≤ g.strobes then d
  else if d.bit FIR_STS FIR_STS.INH_NOW || !d.bit BRD_STS BRD_STS.GUARD_OK then d.gateAbort k false
  else if (d.hc c).hold then d
  else
    let d := d.testLine c g.noz (d.get (FIR_GATE_CFG k) FIR_GATE_CFG.GVAL)
    let sel := d.rd (WAV_SEL c)
    let d := d.issueStrobe c 0 (sel.fld WAV_SEL.WFA) (sel.fld WAV_SEL.WFB)
    d.setGate k { g with strobes := g.strobes + 1, strobeAt := some d.now, nextAt := d.now + d.gateInt k, crossed := false }

/-- An accepted edge of a gate's input, with its stamped tick (R264). -/
def gateEdge (k : Nat) (active : Bool) (stamp : Nat) (d : Dev) : Dev :=
  let g := d.gateSt k
  if !active then
    match g.openEdge with
    | some e => d.setGate k { g with openEdge := none, widthSum := g.widthSum + (stamp - e) }
    | none => d
  else
    let inside := match g.strobeAt with
      | some t => g.run && decide (t + tenNs (d.get (FIR_GATE_TOF k) FIR_GATE_TOF.TOFMIN) ≤ stamp) &&
          decide (stamp < t + tenNs (d.get (FIR_GATE_TOF k) FIR_GATE_TOF.TOFMAX))
      | none => false
    if !inside then d.count (FIR_GATE_CNT k) FIR_GATE_CNT.STRAY 1
    else if g.crossed then d.count (FIR_GATE_CNT k) FIR_GATE_CNT.EXTRA 1
    else
      d.setGate k { g with
        crossed := true, openEdge := some stamp, crossings := g.crossings + 1, tofSum := g.tofSum + (stamp - g.strobeAt.getD 0) }

/-- The class of a measured nozzle (R264): 1 PASS, 2 SLOW, 3 NO_DROP. -/
def Dev.gateClass (d : Dev) (k : Nat) (g : GateSt) : Nat :=
  let slow := d.get (FIR_GATE_LIM k) FIR_GATE_LIM.TOF_SLOW
  let width := d.get (FIR_GATE_LIM k) FIR_GATE_LIM.WIDTH_MIN
  if g.crossings < (d.get (FIR_GATE_CFG k) FIR_GATE_CFG.REP + 1) / 2 then 3
  else if slow ≠ 0 && tenNs slow * g.crossings < g.tofSum then 2
  else if width ≠ 0 && g.widthSum < tenNs width * g.crossings then 2
  else 1

/-- A gate result acts on the nozzle's state (R257, R264, R271). -/
def Dev.gateActs (d : Dev) (c n r : Nat) : Dev :=
  let st := d.noz c n fState
  if d.nhHeld c || d.noz c n fPin = 1 then d
  else if r = 3 && (st = 0 || st = 1 || st = 2 || st = 3) then d.addChange ⟨c, n, 4, 1, none⟩
  else if r = 2 && (st = 0 || st = 1 || st = 4) then d.addChange ⟨c, n, 2, 1, none⟩
  else if r = 1 && st = 1 then (d.setNoz c n fState 0).clearScore c n
  else if r = 1 && (st = 2 || st = 4) then d.addChange ⟨c, n, 0, 1, none⟩
  else d

/-- A nozzle's REP windows have closed: its NH_GATE entry, its result, the next nozzle or DONE (R264). With no crossing the
spec states no mean time of flight. -/
def Dev.gateNozzle (d : Dev) (k : Nat) (g : GateSt) : Dev :=
  let c := g.chan
  let r := d.gateClass k g
  let (tof, d) := if g.crossings = 0 then
      let (v, d) := d.fresh
      (v % 16384, d)
    else (min 16383 ((g.tofSum + 4 * g.crossings) / (8 * g.crossings)), d)
  let d := d.put (NH_GATE c (g.noz / 2)) ⟨16 * (g.noz % 2), 16⟩ (r * 16384 + tof)
  let d := (d.gateActs c g.noz r).count (FIR_GATE_STS k) ⟨16, 13⟩ 1
  match g.rest with
  | n :: t => d.setGate k { run := true, chan := c, noz := n, rest := t, nextAt := g.nextAt }
  | [] =>
    ((d.setGate k {}).put (FIR_GATE_STS k) FIR_GATE_STS.STATE 2).flag FIR_NH_EVT
      (if k = 0 then FIR_NH_EVT.GATE_DONE0 else FIR_NH_EVT.GATE_DONE1)

/-- An edge stamped before a tick is still in the filter of a gate's input (R60). -/
def Dev.gatePending (d : Dev) (k before : Nat) : Bool :=
  match (tget (fun _ => ({} : InSt)) d.input (14 + k)).change with
  | some (t, _, _) => decide (t < before)
  | none => false

/-- GATE_WINDOW_CLOSE (R264): at TOFMAX; edges stamped inside it that are still being filtered come first. -/
def gateWindowClose (k : Nat) (d : Dev) : Dev :=
  let g := d.gateSt k
  match g.strobeAt with
  | none => d
  | some t =>
    let close := t + tenNs (d.get (FIR_GATE_TOF k) FIR_GATE_TOF.TOFMAX)
    if !g.run || d.now < close || d.gatePending k close then d
    else
      let g := { g with strobeAt := none, closed := g.closed + 1 }
      if g.closed < d.get (FIR_GATE_CFG k) FIR_GATE_CFG.REP then d.setGate k g else d.gateNozzle k g

/-! ## The meanings -/

/-- NH_REPORT (R260). -/
def execNhReport (es : List NhEntry) (dt : Nat) (s : State) : Host.Outcome State Fault Refusal :=
  .next ((s.pass dt).onDev (nhReport es))

/-- The word of HC_NH_CMD for a command. -/
def nhWord (op kind st n : Nat) (atEn : Bool) : Word :=
  BitVec.ofNat 32 ((if atEn then 2 ^ 31 else 0) + op * 2 ^ 28 + kind * 2 ^ 16 + st * 2 ^ 12 + n)

/-- NH_EVIDENCE (R262). -/
def execNhEvidence (q : Req) (c : Fin 64) (noz : Fin 4096) (kind : Fin 4) (s : State) : Host.Outcome State Fault Refusal :=
  .next (s.devCommand q (HC_NH_CMD c.val) (nhWord 2 kind.val 0 noz.val false) (nhCmdWrite c.val))

/-- NH_OVERRIDE (R271). -/
def execNhOverride (q : Req) (c : Fin 64) (noz : Fin 4096) (st : Fin 8) (atEn : Bool) (s : State) :
    Host.Outcome State Fault Refusal :=
  .next (s.devCommand q (HC_NH_CMD c.val) (nhWord 1 0 st.val noz.val atEn) (nhCmdWrite c.val))

/-- NH_RESET (R271). -/
def execNhReset (q : Req) (c : Fin 64) (s : State) : Host.Outcome State Fault Refusal :=
  .next (s.devCommand q (HC_NH_CMD c.val) (nhWord 3 0 0 0 false) (nhCmdWrite c.val))

/-- GATE_START (R263). -/
def execGateStart (q : Req) (k : Fin 2) (s : State) : Host.Outcome State Fault Refusal :=
  .next (s.devCommand q (FIR_GATE_CMD k.val) 1 (gateCmdWrite k.val))

/-- GATE_ABORT (R263). -/
def execGateAbort (q : Req) (k : Fin 2) (s : State) : Host.Outcome State Fault Refusal :=
  .next (s.devCommand q (FIR_GATE_CMD k.val) 2 (gateCmdWrite k.val))

/-- GATE_STROBE (R263). -/
def execGateStrobe (k : Fin 2) (dt : Nat) (s : State) : Host.Outcome State Fault Refusal :=
  .next ((s.pass dt).onDev (gateStrobe k.val))

/-- NH_UPDATE (R269). -/
def execNhUpdate (dt : Nat) (s : State) : Host.Outcome State Fault Refusal := .next ((s.pass dt).onDev nhUpdate)

/-- PROPOSAL_HOLD_END (R272). -/
def execProposalHoldEnd (dt : Nat) (s : State) : Host.Outcome State Fault Refusal := .next ((s.pass dt).onDev proposalHoldEnd)

/-- NH_VETO (R272). -/
def execNhVeto (q : Req) (id : Fin 65536) (s : State) : Host.Outcome State Fault Refusal :=
  .next (s.devCommand q FIR_NH_CMD (BitVec.ofNat 32 (65536 + id.val)) firNhCmdWrite)

/-- NH_UPDATE_APPLIED (R270). -/
def execNhUpdateApplied (dt : Nat) (s : State) : Host.Outcome State Fault Refusal := .next ((s.pass dt).onDev nhUpdateApplied)

end Sys2Proof.Machine
end

