-- ==== Sys2Proof/Machine/Keel.lean ====
section
/-! DEFINITION. The Keel store: slots, commit and selection, record bodies, the start-up scan, key slots
(spec/12_calibration_keel.md, R320 to R329, R331; R274, R310). -/

namespace Sys2Proof.Machine

/-! ## Bytes and slots (R320, R321) -/

/-- A byte of the store; one never written reads 0. -/
def Dev.keelByte (d : Dev) (a : Nat) : Byte := tget zeroByte d.cal.keel a

/-- Bytes from an address upwards. -/
def Dev.keelBytes (d : Dev) (a n : Nat) : List Byte := (List.range n).map (fun i => d.keelByte (a + i))

/-- Write bytes from an address upwards. -/
def Dev.keelPut (d : Dev) (a : Nat) (bs : List Byte) : Dev :=
  { d with cal := { d.cal with keel := (bs.zipIdx).foldl (fun t p => tput zeroByte t (a + p.2) p.1) d.cal.keel } }

/-- The two slots of a record and their size; none where the store gives the record no place. -/
def keelSlots (rid : Nat) : Option (Nat × Nat × Nat) :=
  if rid = 0x01 then some (0x400, 0x500, 256)
  else if rid = 0x02 then some (0x800, 0xC00, 1024)
  else if 0x10 ≤ rid && rid < 0x50 then some (0x1000 + (rid - 0x10) * 0x800, 0x1400 + (rid - 0x10) * 0x800, 1024)
  else if rid = 0x60 then some (0x21000, 0x29400, 33792)
  else none

/-- The records with slots, in order of address. -/
def keelRids : List Nat := [0x01, 0x02] ++ (List.range 64).map (0x10 + ·) ++ [0x60]

/-- The address of a slot. -/
def slotAt (p : Nat × Nat × Nat) (s : Nat) : Nat := if s = 0 then p.1 else p.2.1

/-- The classes of a slot (R323). -/
inductive SlotClass where
  | valid | empty | torn
  deriving DecidableEq, Repr

/-- The word a slot's COMMIT holds for a SEQ (R321). -/
def commitWord (seq : Nat) : Nat := seq ^^^ 0x4B45454C

/-- A length rounded up to a multiple of 4. -/
def up4 (n : Nat) : Nat := (n + 3) / 4 * 4

/-- Class one slot (R323). -/
def Dev.slotClass (d : Dev) (rid s : Nat) : SlotClass :=
  match keelSlots rid with
  | none => .empty
  | some p =>
    let a := slotAt p s
    let size := p.2.2
    let h := d.keelBytes a 16
    let len := leField h 8 4
    let commit := leNat (d.keelBytes (a + size - 4) 4)
    if leField h 0 2 = 0x4B4C && leField h 2 1 = rid && len ≤ size - 24 && commit = commitWord (leField h 4 4) &&
        crc32c (d.keelBytes a (16 + up4 len)) = leNat (d.keelBytes (a + 16 + up4 len) 4) then .valid
    else if h.all (· == 0) && commit = 0 then .empty
    else .torn

/-- The SEQ of a slot. -/
def Dev.slotSeq (d : Dev) (rid s : Nat) : Nat :=
  match keelSlots rid with
  | none => 0
  | some p => leNat (d.keelBytes (slotAt p s + 4) 4)

/-- The newest valid slot of a record (R323). -/
def Dev.keelNewest (d : Dev) (rid : Nat) : Option Nat :=
  let v (s : Nat) : Bool := d.slotClass rid s == .valid
  let diff := (d.slotSeq rid 1 + 2 ^ 32 - d.slotSeq rid 0) % 2 ^ 32
  if v 0 && v 1 then some (if 1 ≤ diff && diff < 2 ^ 31 then 1 else 0)
  else if v 0 then some 0
  else if v 1 then some 1
  else none

/-- The body of a record in force. -/
def Dev.keelBody (d : Dev) (rid : Nat) : Option (List Byte) :=
  match keelSlots rid, d.keelNewest rid with
  | some p, some s => some (d.keelBytes (slotAt p s + 16) (leNat (d.keelBytes (slotAt p s + 8) 4)))
  | _, _ => none

/-! ## Commit (R322, R324) -/

/-- Write a record to its target slot, COMMIT last; where a word reads back wrong the copy is never committed (R322). -/
def Dev.keelWrite (d : Dev) (rid : Nat) (body : List Byte) (ok : Bool) : Dev :=
  match keelSlots rid with
  | none => d
  | some p =>
    let newest := d.keelNewest rid
    let target := match newest with
      | some 0 => 1
      | _ => 0
    let seq := match newest with
      | some s => (d.slotSeq rid s + 1) % 2 ^ 32
      | none => 1
    let a := slotAt p target
    let d := d.keelPut (a + p.2.2 - 4) (leBytes 4 0)
    let bs := leBytes 2 0x4B4C ++ leBytes 1 rid ++ leBytes 1 1 ++ leBytes 4 seq ++ leBytes 4 body.length ++ leBytes 4 0 ++ body ++
      List.replicate (up4 body.length - body.length) 0
    let d := d.keelPut a (bs ++ leBytes 4 (crc32c bs))
    if ok then (d.keelPut (a + p.2.2 - 4) (leBytes 4 (commitWord seq))).count KEEL_COMMITS whole 1
    else d.flag KEEL_EVT KEEL_EVT.WRFAIL

/-- The tick of a record's last commit. -/
def Dev.lastCommit (d : Dev) (rid : Nat) : Option Nat := (d.cal.lastCommit.find? (fun p => p.1 == rid)).map (·.2)

/-- A commit is asked for: deferred when it comes within a second of the last one or behind one that waits; a later request
replaces a deferred one (R324). After the undervoltage warning none starts, nor while the store is tested (R323, R447). -/
def Dev.keelRequest (d : Dev) (rid : Nat) (body : List Byte) : Dev :=
  let soon := match d.lastCommit rid with
    | some t => decide (d.now < t + secTicks 1)
    | none => false
  let d := { d with cal := { d.cal with commits := d.cal.commits.filter (fun r => !(r.rid == rid && r.deferred)) } }
  let deferred := soon || d.cal.commits.any (fun r => r.rid == rid)
  let hold := deferred || d.pwr.uvWarn || d.test.mramRun
  let d : Dev := { d with cal := { d.cal with commits := d.cal.commits ++ [⟨rid, body, hold⟩] } }
  d.when deferred (·.flag KEEL_EVT KEEL_EVT.DEFER)

/-- KEEL_DEFER_END (R324): the second has passed. -/
def keelDeferEnd (rid : Nat) (d : Dev) : Dev :=
  let due := match d.lastCommit rid with
    | some t => decide (t + secTicks 1 ≤ d.now)
    | none => true
  if due && !d.pwr.uvWarn && !d.test.mramRun && !d.cal.commits.any (fun r => r.rid == rid && !r.deferred) then
    { d with cal := { d.cal with commits := d.cal.commits.map (fun r => if r.rid = rid then { r with deferred := false } else r) } }
  else d

/-- The commit that is carried out next, in the order requested (R322). -/
def Dev.nextCommit (d : Dev) : Option KeelReq := d.cal.commits.find? (fun r => !r.deferred)

/-- One commit is carried out; the active chip sends CHANNEL and NOZZLE records to its standby (R322, R327). -/
def Dev.keelCommitOne (d : Dev) (r : KeelReq) (ok : Bool) : Dev :=
  let d := d.keelWrite r.rid r.body ok
  let d := { d with cal := { d.cal with
    commits := d.cal.commits.erase r, lastCommit := (r.rid, d.now) :: d.cal.lastCommit.filter (fun p => p.1 != r.rid)
    implaus := if ok then d.cal.implaus.filter (· != r.rid) else d.cal.implaus } }
  if ok && 0x10 ≤ r.rid && r.rid ≤ 0x60 then d.mirror (2 :: r.rid :: r.body.map BitVec.toNat) else d

/-! ## Record bodies (R325) -/

/-- A signed 16-bit field. -/
def le16s (x : Int) : List Byte := leBytes 2 (unsignedOf 16 x)

/-- The 96 bytes of a set. -/
def setBytes (x : CalSet) : List Byte :=
  let p (i : Nat) : CalPoint := x.pts.getD i ⟨0, 0, 0, 0, 0⟩
  leBytes 1 x.pts.length ++ leBytes 1 0 ++ leBytes 2 x.tref ++ leBytes 2 x.restA ++ leBytes 2 x.restB ++
    (List.range 8).flatMap (fun i => le16s (p i).t) ++
    (List.range 8).flatMap (fun i => le16s (p i).ga ++ le16s (p i).oa ++ le16s (p i).gb ++ le16s (p i).ob) ++ List.replicate 8 0

/-- A set from its 96 bytes; a number of points above 8 is kept for the check of R326 to find. -/
def setOfBytes (bs : List Byte) : CalSet :=
  let s16 (o : Nat) : Int := signedOf 16 (leField bs o 2)
  { tref := leField bs 2 2, restA := leField bs 4 2, restB := leField bs 6 2
    pts := (List.range (leField bs 0 1)).map (fun i =>
      ⟨s16 (8 + 2 * i), s16 (24 + 8 * i), s16 (26 + 8 * i), s16 (28 + 8 * i), s16 (30 + 8 * i)⟩) }

/-- TCFG, THERM and BETA of a channel's record in force, else their defaults (R326, R330). -/
def Dev.storedTcfg (d : Dev) (c : Nat) : List Byte :=
  match d.keelBody (0x10 + c) with
  | some b => b.take 12
  | none => leBytes 4 0x8 ++ leBytes 4 0x03E803E8 ++ leBytes 4 0x0D6B

/-- TCFG, THERM and BETA of a channel as they stand (R319). -/
def Dev.liveTcfg (d : Dev) (c : Nat) : List Byte :=
  leBytes 4 (d.rdN (HC_CAL_TCFG c)) ++ leBytes 4 (d.rdN (HC_CAL_THERM c)) ++ leBytes 4 (d.rdN (HC_CAL_BETA c))

/-- The class words in force on a channel. -/
def Dev.classWords (d : Dev) (c : Nat) : List Word := (List.range 128).map (fun j => d.rd (WAV_CLASS c j))

/-- The 912 bytes of a CHANNEL record. -/
def channelBody (tcfg : List Byte) (sets : List CalSet) (classes : List Word) : List Byte :=
  tcfg ++ leBytes 4 0 ++ sets.flatMap setBytes ++ classes.flatMap (fun w => leBytes 4 w.toNat)

/-- The sets of a channel, one replaced. -/
def Dev.setsWith (d : Dev) (c k : Nat) (x : CalSet) : List CalSet :=
  (List.range 4).map (fun i => if i = k then x else d.calSet c i)

/-- The sets of a channel as they are. -/
def Dev.sets (d : Dev) (c : Nat) : List CalSet := (List.range 4).map (d.calSet c)

/-- The 520 bytes of the DACCAL record, from 128 words and the bandgap code. -/
def dacBody (words : List Word) (vref : Nat) : List Byte := words.flatMap (fun w => leBytes 4 w.toNat) ++ leBytes 4 vref ++ leBytes 4 0

/-- The body of the DEVICE record. -/
def Dev.deviceBody (d : Dev) : List Byte := d.cal.device.flatMap (leBytes 4)

/-! ## Checks of a set (R310, R326) -/

/-- A point's own limits. -/
def pointOk (p : CalPoint) : Bool :=
  decide (-320 ≤ p.t) && decide (p.t ≤ 1600) && decide (p.ga.natAbs ≤ 1600) && decide (p.gb.natAbs ≤ 1600) &&
    decide (p.oa.natAbs ≤ 1024) && decide (p.ob.natAbs ≤ 1024)

/-- The step from one point to the next. -/
def stepOk (p q : CalPoint) : Bool :=
  decide (p.t + 32 ≤ q.t) && decide ((q.ga - p.ga).natAbs ≤ 400) && decide ((q.gb - p.gb).natAbs ≤ 400) &&
    decide ((q.oa - p.oa).natAbs ≤ 256) && decide ((q.ob - p.ob).natAbs ≤ 256)

/-- The first point that breaks R310, by its number from `i`. -/
def badPoint : Nat → List CalPoint → Option Nat
  | _, [] => none
  | i, [p] => if pointOk p then none else some i
  | i, p :: q :: t => if !pointOk p then some i else if !stepOk p q then some (i + 1) else badPoint (i + 1) (q :: t)

/-- The point at which a set breaks R310, none where it meets it; TREF and a ninth point count as point 0 and 8. -/
def setFault (x : CalSet) : Option Nat :=
  if 8 < x.pts.length then some 8
  else if x.tref ≠ 0 && x.tref < 100 then some 0
  else badPoint 0 x.pts

/-! ## The nozzle record (R274, R325) -/

/-- The nozzles that the record keeps: channel, nozzle, state with SUSPECT as GOOD, PIN. -/
def Dev.keptNozzles (d : Dev) : List (Nat × Nat × Nat × Nat) :=
  d.channels.flatMap (fun c => (List.range (d.nozzles c)).filterMap (fun n =>
    let st := d.noz c n fState
    let st := if st = 1 then 0 else st
    let pin := d.noz c n fPin
    if st = 0 && pin = 0 then none else some (c, n, st, pin)))

/-- At most 8,192 of them: DISABLED first, then OUT, DEVIATED, WEAK, and pinned nozzles last. -/
def keepFirst (l : List (Nat × Nat × Nat × Nat)) : List (Nat × Nat × Nat × Nat) :=
  if l.length ≤ 8192 then l else (([5, 4, 3, 2, 0].flatMap (fun st => l.filter (fun x => x.2.2.1 == st)))).take 8192

/-- NOZZLE_RECORD_WRITE (R274): at every job end, and at least every 60 s while any entry has changed. -/
def nozzleRecordWrite (d : Dev) : Dev :=
  if !d.nh.recordNow && !(d.nh.recordDue && decide (d.nh.recordAt + secTicks 60 ≤ d.now)) then d
  else
    let all := d.keptNozzles
    let kept := keepFirst all
    let body := leBytes 2 kept.length ++ leBytes 2 0 ++
      kept.flatMap (fun x => leBytes 1 x.1 ++ leBytes 1 (x.2.2.1 + 8 * x.2.2.2) ++ leBytes 2 x.2.1)
    let d := { d with nh := { d.nh with recordAt := d.now, recordDue := false, recordNow := false } }
    let d := d.when (decide (8192 < all.length)) (·.notify 0x0005 [BitVec.ofNat 32 (all.length - 8192)])
    d.keelRequest 0x60 body

/-! ## Start-up (R323, R326) -/

/-- One torn slot is counted, recorded and reported. -/
def Dev.noteTorn (d : Dev) (rid s : Nat) : Dev :=
  let w := rid * 256 + s
  let d := (d.flag KEEL_EVT KEEL_EVT.TORN).count KEEL_TORN hiHalf 1
  let d := (d.put KEEL_TORN KEEL_TORN.RID rid).put KEEL_TORN ⟨0, 1⟩ s
  let dev := [d.cal.device.getD 0 0, d.cal.device.getD 1 0, (d.cal.device.getD 2 0 + 1) % 2 ^ 32, w]
  { d with cal := { d.cal with device := dev, torn := (rid :: d.cal.torn).eraseDups } }.notify 0x0007 [BitVec.ofNat 32 w]

/-- Every slot of a record is classed (R323). -/
def Dev.scanRecord (d : Dev) (rid : Nat) : Dev :=
  let d := d.each [0, 1] (fun s d => if d.slotClass rid s == .torn then d.noteTorn rid s else d)
  d.when (d.keelNewest rid).isNone (·.flag KEEL_EVT KEEL_EVT.LOST)

/-- A record in force fails its check (R326). -/
def Dev.implausible (d : Dev) (rid : Nat) : Dev :=
  { d.flag KEEL_EVT KEEL_EVT.IMPLAUS with cal := { d.cal with implaus := (rid :: d.cal.implaus).eraseDups } }

/-- The DAC corrections of the record in force (R326). -/
def Dev.loadDac (d : Dev) : Dev :=
  match d.keelBody 0x02 with
  | none => d
  | some b =>
    let ws := (List.range 128).map (fun j => BitVec.ofNat 32 (leField b (4 * j) 4))
    if ws.all (fun w => decide ((low12 w).natAbs ≤ 335) && decide ((high12 w).natAbs ≤ 410)) then
      (ws.zipIdx).foldl (fun d p => d.wr (CAL_DAC p.2) (p.1 &&& 0x0FFF0FFF)) d
    else d.implausible 0x02

/-- The four sets in the body of a CHANNEL record (R325). -/
def bodySets (b : List Byte) : List CalSet := (List.range 4).map (fun k => setOfBytes ((b.drop (16 + 96 * k)).take 96))

/-- A word of a record's body. -/
def bodyWord (b : List Byte) (o : Nat) : Word := BitVec.ofNat 32 (leField b o 4)

/-- The settings and the sets of a CHANNEL record are taken (R311). -/
def Dev.takeSets (d : Dev) (c : Nat) (b : List Byte) : Dev :=
  let d := ((d.typedWrite (HC_CAL_TCFG c) (bodyWord b 0)).typedWrite (HC_CAL_THERM c) (bodyWord b 4)).typedWrite
    (HC_CAL_BETA c) (bodyWord b 8)
  ((bodySets b).zipIdx).foldl (fun d p => d.setCalSet c p.2 p.1) d

/-- The CHANNEL record in force of a channel (R311, R326): settings, sets, set in force, class map. -/
def Dev.loadChannel (d : Dev) (c : Nat) : Dev :=
  match d.keelBody (0x10 + c) with
  | none => d
  | some b =>
    if (bodySets b).any (fun x => (setFault x).isSome) then d.implausible (0x10 + c)
    else
      let w (o : Nat) : Word := bodyWord b o
      let d := d.takeSets c b
      let d := d.wrN (HC_CAL_SET c) (d.get (HC_CAL_TCFG c) HC_CAL_TCFG.START_SET)
      let d := d.each (List.range 128) (fun j d => d.wr (WAV_CLASS c j) (w (400 + 4 * j)))
      let x := d.calSet c (d.rdN (HC_CAL_SET c))
      wavRestWrite c (BitVec.ofNat 32 (x.restA + 65536 * x.restB)) d

/-- The nozzle states of the record in force; entries that fit no geometry are skipped and counted (R326). -/
def Dev.loadNozzles (d : Dev) : Dev :=
  match d.keelBody 0x60 with
  | none => d
  | some b =>
    (List.range (min 8192 (leField b 0 2))).foldl (fun d i =>
      let c := leField b (4 + 4 * i) 1
      let s := leField b (5 + 4 * i) 1
      let n := leField b (6 + 4 * i) 2
      if !d.hasChannel c || d.nozzles c ≤ n || 5 < s % 8 then
        { d with cal := { d.cal with skipped := min 65535 (d.cal.skipped + 1) } }
      else (d.setNoz c n fState (s % 8)).setNoz c n fPin (s / 8 % 2)) d

/-- The start-up scan (R323): every slot classed, the DEVICE record read and counted on. -/
def Dev.keelScan (d : Dev) : Dev :=
  let d := match d.keelBody 0x01 with
    | some b => { d with cal := { d.cal with device := (List.range 4).map (fun i => leField b (4 * i) 4) } }
    | none => d
  let d := { d with cal := { d.cal with torn := [], implaus := [], skipped := 0 } }
  let d := keelRids.foldl Dev.scanRecord d
  let v := d.cal.device
  let d := { d with cal := { d.cal with
    device := [(v.getD 0 0 + 1) % 2 ^ 32, v.getD 1 0, v.getD 2 0, v.getD 3 0], deviceAt := d.now } }
  (d.keelRequest 0x01 d.deviceBody).put KEEL_STS KEEL_STS.READY 1

/-- DEVICE_RECORD_COMMIT (R325): every hour. -/
def deviceRecordCommit (d : Dev) : Dev :=
  if d.now < d.cal.deviceAt + secTicks 3600 then d
  else
    let v := d.cal.device
    let d := { d with cal := { d.cal with
      device := [v.getD 0 0, (v.getD 1 0 + 1) % 2 ^ 32, v.getD 2 0, v.getD 3 0], deviceAt := d.now } }
    d.keelRequest 0x01 d.deviceBody

/-! ## Key slots (R328, R329) -/

/-- The state of a key slot: 0 EMPTY, 1 WRITTEN, 2 REVOKED, 3 DEAD (R328, R331). -/
def Dev.keyState (d : Dev) (s : Nat) : Nat :=
  let b := d.keelBytes (64 * s) 64
  let st := leField b 32 4
  let crcOk := crc32c (b.take 32) = leField b 36 4
  if st = 0 then (if b.all (· == 0) then 0 else 3)
  else if st = 0x4B455931 && crcOk then 1
  else if st = 0x5245564B && crcOk then 2
  else 3

/-- A device with any slot WRITTEN is keyed (R328). -/
def Dev.keyed (d : Dev) : Bool := (List.range 4).any (fun s => d.keyState s == 1)

/-- The key of a slot. -/
def Dev.keyOfSlot (d : Dev) (s : Nat) : List Byte := d.keelBytes (64 * s) 32

/-- A write of KEEL_KEY_CMD (R329): from SERVICE by the latch holder, or JTAG. -/
def keyCmdWrite (q : Req) (v : Word) (d : Dev) : Dev × Status :=
  if !(q.port.val = 6 || (q.port.val = 5 && d.isHolder q)) then (d, .access)
  else
    let s := v.fld KEEL_KEY_CMD.SLOT
    let prog := v.bit 0
    let revoke := v.bit 1
    let ok := v.fld KEEL_KEY_CMD.CONFIRM = 0x4B59 && (prog != revoke) &&
      (if prog then (d.keelBytes (64 * s) 64).all (· == 0) else d.keyState s == 1)
    if !prog && !revoke then (d, .ok)
    else if !ok then (d.flag KEEL_EVT KEEL_EVT.KEYREJ, .ok)
    else
      let d := if prog then
          let key := (List.range 8).flatMap (fun j => leBytes 4 (d.rdN (KEEL_KEY_DATA j)))
          d.keelPut (64 * s) (key ++ leBytes 4 0x4B455931 ++ leBytes 4 (crc32c key))
        else d.keelPut (64 * s + 32) (leBytes 4 0x5245564B)
      (d.flag KEEL_EVT KEEL_EVT.KEYPROG, .ok)

/-! ## Views (R331) -/

/-- What KEEL_REC_STS and KEEL_REC_SEQ read. -/
def Dev.keelRecView (d : Dev) (seq : Bool) : Word :=
  let rid := d.get KEEL_REC_SEL KEEL_REC_SEL.RID
  match keelSlots rid with
  | none => 0
  | some _ =>
    let newest := d.keelNewest rid
    if seq then BitVec.ofNat 32 (match newest with
      | some s => d.slotSeq rid s
      | none => 0)
    else
      let b (x : Bool) (k : Nat) : Nat := if x then 2 ^ k else 0
      BitVec.ofNat 32 (b newest.isSome 31 + b (d.cal.torn.contains rid) 30 + b (d.cal.implaus.contains rid) 29 +
        b (newest == some 1) 24 + (if rid = 0x60 then d.cal.skipped else 0))

/-- What KEEL_STS reads. -/
def Dev.keelSts (d : Dev) : Word :=
  BitVec.ofNat 32 ((if d.nextCommit.isSome then 4 else 0) + (if d.keyed then 2 else 0) + d.get KEEL_STS KEEL_STS.READY)

/-! ## The meanings -/

/-- NOZZLE_RECORD_WRITE (R274). -/
def execNozzleRecordWrite (dt : Nat) (s : State) : Host.Outcome State Fault Refusal := .next ((s.pass dt).onDev nozzleRecordWrite)

/-- KEEL_DEFER_END (R324). -/
def execKeelDeferEnd (rid : Fin 256) (dt : Nat) (s : State) : Host.Outcome State Fault Refusal :=
  .next ((s.pass dt).onDev (keelDeferEnd rid.val))

/-- DEVICE_RECORD_COMMIT (R325). -/
def execDeviceRecordCommit (dt : Nat) (s : State) : Host.Outcome State Fault Refusal := .next ((s.pass dt).onDev deviceRecordCommit)

/-- The word of KEEL_KEY_CMD for a command. -/
def keyWord (slot op : Nat) (confirm : Nat) : Word := BitVec.ofNat 32 (confirm * 65536 + slot * 16 + op)

/-- KEY_PROGRAM (R329). -/
def execKeyProgram (q : Req) (slot : Fin 4) (confirm : Fin 65536) (s : State) : Host.Outcome State Fault Refusal :=
  .next (s.statusCommand q KEEL_KEY_CMD (keyWord slot.val 1 confirm.val) (keyCmdWrite q))

/-- KEY_REVOKE (R329). -/
def execKeyRevoke (q : Req) (slot : Fin 4) (confirm : Fin 65536) (s : State) : Host.Outcome State Fault Refusal :=
  .next (s.statusCommand q KEEL_KEY_CMD (keyWord slot.val 2 confirm.val) (keyCmdWrite q))

end Sys2Proof.Machine
end

