-- ==== Sys2Proof/Machine/CalProc.lean ====
section
/-! DEFINITION. Sense conversions, the reference check, the evaluation of temperatures and trims, set changes, and the
calibration procedures with their commits (spec/12_calibration_keel.md, R304 to R307, R311 to R319, R322). -/

namespace Sys2Proof.Machine

/-- Change calibration's hidden state. -/
def Dev.modCal (d : Dev) (f : CalSt → CalSt) : Dev := { d with cal := f d.cal }

/-! ## Sense conversions (R305, R306) -/

/-- The converter of an input code (R305). -/
def adcOf (input : Nat) : Nat :=
  if input < 0x80 then input / 2 / 16 else if input < 0xC0 then (input - 0x80) / 16 else 0

/-- A request joins its converter's queue, for a trigger unit or (16) for CAL_ADC_RES; other codes are refused (R305). -/
def Dev.adcRequest (d : Dev) (input a who : Nat) : Dev :=
  if 0xC7 < input then d else d.modCal (fun x => { x with adc := x.adc ++ [(input, min 8 a, who)] })

/-- A write of CAL_ADC_REQ (R306, R330). -/
def adcReqWrite (v : Word) (d : Dev) : Dev :=
  let input := v.fld CAL_ADC_REQ.INPUT
  if 0xC7 < input then d else (d.put CAL_ADC_RES CAL_ADC_RES.VALID 0).adcRequest input (v.fld ⟨8, 4⟩) 16

/-- A converter ends its oldest request: the sum of its 2^A codes, their mean to the nearest code (R306, R349). -/
def adcDone (k sum : Nat) (d : Dev) : Dev :=
  match d.cal.adc.find? (fun r => adcOf r.1 == k) with
  | none => d
  | some r =>
    let d := d.modCal (fun x => { x with adc := x.adc.erase r })
    let mean := min 65535 ((2 * sum + 2 ^ r.2.1) / (2 * 2 ^ r.2.1))
    let w := 2 ^ 31 + r.1 * 65536 + mean
    if r.2.2 = 16 then d.wrN CAL_ADC_RES w
    else
      let d := d.when (d.bit (TRG_ADCRES r.2.2) TRG_ADCRES.VALID) (·.flag (TRG_STS r.2.2) TRG_STS.ADCOVR)
      d.wrN (TRG_ADCRES r.2.2) w

/-! ## The reference check (R307) -/

/-- A bandgap code is judged. -/
def Dev.vrefCode (d : Dev) (code : Nat) : Dev :=
  let bad := code < 30840 || 32099 < code
  let d := (d.wrN CAL_VREF (code % 65536)).put CAL_STS CAL_STS.VREF_BAD (if bad then 1 else 0)
  (d.when bad (·.flag CAL_EVT CAL_EVT.VREF_BAD)).modCal (fun x => { x with vrefAt := d.now })

/-- VREF_CHECK: every 10 s. -/
def vrefCheck (code : Nat) (d : Dev) : Dev := if d.cal.vrefAt + secTicks 10 ≤ d.now then d.vrefCode code else d

/-! ## Temperatures (R312) -/

/-- The units of the fixed point of the logarithm, and ln 2 in it. -/
def lnOne : Nat := 2 ^ 60
def ln2 : Nat := 799144290325165979

/-- Σ z^(2i+1)/(2i+1) from the term of index i: `t` is z^(2i+1), `zz` is z², all in units of 2^-60. -/
def atanhSum (zz : Nat) : Nat → Nat → Nat → Nat
  | 0, _, _ => 0
  | n + 1, i, t => t / (2 * i + 1) + atanhSum zz n (i + 1) (t * zz / lnOne)

/-- The natural logarithm of m for m from 1 to 2, as p/q (ln m = 2 artanh((m-1)/(m+1))). -/
def lnMant (p q : Nat) : Nat :=
  let z := (p - q) * lnOne / (p + q)
  2 * atanhSum (z * z / lnOne) 24 0 z

/-- The natural logarithm of p/q in units of 2^-60 (p and q not 0). -/
def lnRatio (p q : Nat) : Int :=
  let up := Nat.log2 (p / q)
  let down := Nat.log2 (q / p) + 1
  if q ≤ p then (lnMant p (q * 2 ^ up) : Int) + up * ln2 else (lnMant (p * 2 ^ down) q : Int) - down * ln2

/-- The thermistor's temperature in 1/16 °C (R312): T = 1/(1/298.15 + ln(R/R25)/B) - 273.15, where 298.15 is 5963/20; none
where the formula has no value in the format. -/
def thermTemp (rpu r25 b code : Nat) : Option Int :=
  if rpu = 0 || r25 = 0 || b = 0 then none
  else
    let l := lnRatio (rpu * code) (r25 * (65536 - code))
    let den : Int := 20 * b * lnOne + 5963 * l
    if den ≤ 0 then none
    else
      let t := rdiv ((b : Int) * 5963 * lnOne * 80 - 21852 * den) (5 * den).toNat
      if -32768 ≤ t && t ≤ 32767 then some t else none

/-- A channel's source now: none when it is faulty (R312). A value the spec does not state is free. -/
def Dev.calSource (d : Dev) (c code : Nat) : Option Int × Dev :=
  let cfg := d.rd (HC_CAL_TCFG c)
  let free (d : Dev) : Option Int × Dev := let (x, d) := d.fresh; (some (signedOf 16 x), d)
  match cfg.fld HC_CAL_TCFG.TSRC with
  | 0 =>
    if code < 656 || 64880 < code then (none, d)
    else match thermTemp (d.get (HC_CAL_THERM c) HC_CAL_THERM.RPU) (d.get (HC_CAL_THERM c) HC_CAL_THERM.R25)
        (d.rdN (HC_CAL_BETA c) % 65536) code with
      | some t => (some t, d)
      | none => free d
  | 1 =>
    let t := d.get (HC_LVR_TEMP c) HC_LVR_TEMP.TEMP
    if t = 0x8000 || (d.hc c).frameAt + msTicks 20 < d.now then (none, d) else (some (signedOf 16 t), d)
  | 2 => (some (signedOf 16 (cfg.fld HC_CAL_TCFG.FIXED)), d)
  | _ => free d

/-! ## Evaluation (R312 to R314) -/

/-- A procedure runs on a channel. -/
def Dev.calOn (d : Dev) (c : Nat) : Bool :=
  match d.cal.proc with
  | some p => p.chan == c
  | none => false

/-- A channel takes its temperature, and is evaluated when EVAL_EN is 1 and no procedure runs on it. -/
def Dev.calTemp (d : Dev) (c : Nat) (t : Option Int) : Dev :=
  match t with
  | none =>
    let d := d.when (!d.bit (HC_CAL_STS c) HC_CAL_STS.FAULT_NOW)
      (fun d => (d.flag (HC_CAL_STS c) HC_CAL_STS.SENSOR).flag CAL_EVT CAL_EVT.SENSOR)
    d.put (HC_CAL_STS c) HC_CAL_STS.FAULT_NOW 1
  | some t =>
    let d := (d.put (HC_CAL_STS c) HC_CAL_STS.FAULT_NOW 0).wrN (HC_CAL_TEMP c) (unsignedOf 16 t)
    if d.bit (HC_CAL_TCFG c) HC_CAL_TCFG.EVAL_EN && !d.calOn c then d.calEval c else d

/-- The 10 ms tick of device time that the present lies in (R313). -/
def Dev.calTick (d : Dev) : Nat := d.devTime / 2 ^ 32 / 10000000

/-- The temperatures as a message carries them (R314): channel, 1 and the temperature, or 0. -/
def tempFields (l : List (Nat × Option Int)) : List Nat :=
  l.flatMap (fun x => match x.2 with
    | some t => [x.1, 1, unsignedOf 16 t]
    | none => [x.1, 0, 0])

/-- TRIM_EVALUATION (R313, R314): the thermistor codes by channel; a missing one is a free value. A standby takes the
temperatures it last received. -/
def trimEvaluation (codes : List (Nat × Nat)) (d : Dev) : Dev :=
  if d.calTick = d.cal.evalK then d
  else
    let d := d.modCal (fun x => { x with evalK := d.calTick })
    if d.standby then
      d.each d.channels (fun c d => match d.cal.temps.find? (fun p => p.1 == c) with
        | some p => d.calTemp c p.2
        | none => d)
    else
      let (temps, d) := d.channels.foldl (fun (acc : List (Nat × Option Int) × Dev) c =>
        let (code, d) := match codes.find? (fun p => p.1 == c) with
          | some p => (p.2 % 65536, acc.2)
          | none => let (x, d) := acc.2.fresh; (x % 65536, d)
        let (t, d) := d.calSource c code
        (acc.1 ++ [(c, t)], d)) ([], d)
      let d := d.when d.activeOfPair (·.brdSend 0x08 (tempFields temps))
      temps.foldl (fun d p => d.calTemp p.1 p.2) d

/-! ## Set changes (R311) -/

/-- CAL_SET_ARM: at once outside a job or pass, else at its line. -/
def calSetArm (c : Nat) (d : Dev) : Dev :=
  let d := d.propose 3 (2 ^ c) (d.calSetAt c) [d.rdN (HC_CAL_SET_NEXT c)]
  if d.jobActive || d.passBusy then d.put (HC_CAL_STS c) HC_CAL_STS.PENDING 1 else d.calSetApply c

/-- One write of HC_CAL_SET_AT_HI. -/
def calSetAtWrite (c : Nat) (lo v : Word) (d : Dev) : Dev :=
  let d := (d.wr (HC_CAL_SET_AT_LO c) lo).typedWrite (HC_CAL_SET_AT_HI c) v
  d.when (v.bit 31) (calSetArm c)

/-! ## Procedures (R315 to R319) -/

/-- A START is refused: while a procedure runs its state stays RUN. -/
def Dev.calRefuse (d : Dev) (reason step out : Nat) (meas : Int) : Dev :=
  if d.cal.proc.isSome then
    (d.flag CAL_EVT CAL_EVT.REFUSED).wrN CAL_RESULT (unsignedOf 16 meas + 65536 * (out % 16) + 1048576 * (step % 16) + 16777216 * reason)
  else d.calEnd 5 reason step out meas CAL_EVT.REFUSED

/-- A procedure is under way. -/
def Dev.calBegin (d : Dev) (p : CalProc) (step : Nat) : Dev :=
  ((d.put CAL_STS CAL_STS.STATE 1).put CAL_STS CAL_STS.STEP step).modCal (fun x => { x with proc := some p })

/-- Change the running procedure. -/
def Dev.calProc (d : Dev) (f : CalProc → CalProc) : Dev := d.modCal (fun x => { x with proc := x.proc.map f })

/-- The step in progress. -/
def Dev.calStep (d : Dev) (n : Nat) : Dev := d.put CAL_STS CAL_STS.STEP n

/-- The record that a procedure commits. -/
def CalProc.rid (p : CalProc) : Nat := if p.op = 1 then 0x02 else 0x10 + p.chan

/-- A procedure asks for its commit and waits for it. -/
def Dev.calCommit (d : Dev) (p : CalProc) (step : Nat) (body : List Byte) : Dev :=
  ((d.modCal (fun x => { x with proc := some { p with stage := 3 } })).calStep step).keelRequest p.rid body

/-- The nozzle list of a gate test: CLASSCAL every nozzle, TPOINT one in 16. -/
def Dev.calNozzles (d : Dev) (p : CalProc) : List Nat :=
  if p.op = 2 then List.range (d.nozzles p.chan) else (List.range ((d.nozzles p.chan + 15) / 16)).map (16 * ·)

/-- Both outputs of a channel take set contributions (R317, R318). -/
def Dev.calDrive (d : Dev) (c : Nat) (ga oa gb ob : Int) : Dev := (d.putTrim c false ga oa).putTrim c true gb ob

/-- A gate test of a procedure starts. -/
def Dev.calGate (d : Dev) (p : CalProc) (step : Nat) : Dev :=
  ((d.modCal (fun x => { x with proc := some { p with stage := 2, tests := p.tests + 1 } })).calStep step).gateRun p.gate p.chan
    (d.calNozzles p)

/-- Of two numbers their mean, rounded half away from zero. -/
def mean2 (a b : Int) : Int := rdiv (a + b) 2

/-- LOADSET (R319). -/
def Dev.loadSet (d : Dev) (c k : Nat) : Dev :=
  let x := d.calSet c k
  let d := d.wrN CAL_STAGE_HDR (c * 2 ^ 24 + k * 2 ^ 20 + (x.pts.length % 16) * 2 ^ 16 + x.tref % 65536)
  let d := d.wrN CAL_STAGE_REST (x.restB % 16384 * 65536 + x.restA % 16384)
  d.each (List.range 8) (fun i d =>
    let p : CalPoint := x.pts.getD i ⟨0, 0, 0, 0, 0⟩
    ((d.wrN (CAL_STAGE_T i) (unsignedOf 16 p.t)).wr (CAL_STAGE_G i) (pair12 p.gb p.ga)).wr (CAL_STAGE_O i) (pair12 p.ob p.oa))

/-- The staged set (R319). -/
def Dev.stagedSet (d : Dev) : CalSet :=
  { tref := d.get CAL_STAGE_HDR CAL_STAGE_HDR.TREF
    restA := d.get CAL_STAGE_REST CAL_STAGE_REST.REST_A, restB := d.get CAL_STAGE_REST CAL_STAGE_REST.REST_B
    pts := (List.range (d.get CAL_STAGE_HDR CAL_STAGE_HDR.NPTS)).map (fun i =>
      ⟨signedOf 16 (d.rdN (CAL_STAGE_T i)), low12 (d.rd (CAL_STAGE_G i)), low12 (d.rd (CAL_STAGE_O i)),
        high12 (d.rd (CAL_STAGE_G i)), high12 (d.rd (CAL_STAGE_O i))⟩) }

/-- STORESET (R319). -/
def Dev.storeSet (d : Dev) (p : CalProc) : Dev :=
  let x := d.stagedSet
  if (d.jobActive || d.passBusy) && d.rdN (HC_CAL_SET p.chan) % 4 = p.set then d.calRefuse 16 0 0 0
  else match setFault x with
    | some i => d.calRefuse 15 0 i i
    | none =>
      let p := { p with newSet := some x }
      (d.calBegin p 0).calCommit p 0 (channelBody (d.liveTcfg p.chan) (d.setsWith p.chan p.set x) (d.classWords p.chan))

/-- The first output still to be measured has its trims at 0 (R316). -/
def Dev.dacNext (d : Dev) (p : CalProc) : Dev :=
  match p.todo with
  | o :: _ => wavTrimWrite p.chan (o == 1) 0 d
  | [] => d

/-- A procedure is started (R315 to R319), with the bandgap code of its check: the checks in their order, then the start. -/
def Dev.calStart (d : Dev) (v : Word) (code : Nat) : Dev :=
  let op := v.fld CAL_CMD.OP
  let c := v.fld CAL_CMD.CHANNEL
  let outs := v.fld CAL_CMD.OUTPUTS
  if d.cal.proc.isSome then d.calRefuse 1 1 0 0
  else
    let d := (d.put CAL_STS CAL_STS.OP op).put CAL_STS CAL_STS.CHANNEL c
    let busy := d.jobActive || d.passBusy
    let p : CalProc := { op := op, chan := c, set := v.fld CAL_CMD.SET, outputs := outs, gate := v.fld CAL_CMD.GATE
                         trimA := d.rd (WAV_TRIM_A c), trimB := d.rd (WAV_TRIM_B c), stage := 1, vref := code % 65536 }
    if 5 < op || d.hcCount ≤ c || (op = 1 && outs = 0) then d.calRefuse 19 0 0 0
    else if (op = 2 || op = 3) && busy then d.calRefuse 2 1 0 0
    else if op ≤ 3 && d.bit FIR_STS FIR_STS.INH_NOW then d.calRefuse 3 1 0 0
    else
      let d := d.vrefCode code
      if d.bit CAL_STS CAL_STS.VREF_BAD then d.calRefuse 4 1 0 (code % 65536)
      else if op ≤ 3 && (!d.hasChannel c || !d.lvrUp c) then d.calRefuse 5 1 0 0
      else if op = 1 && !d.standby && busy then d.calRefuse 2 1 0 0
      else if op = 1 then
        let p := { p with todo := (if outs % 2 = 1 then [0] else []) ++ (if 2 ≤ outs then [1] else []) }
        (d.calBegin p 2).dacNext p
      else if op = 4 then
        ((d.loadSet c p.set).put CAL_STS CAL_STS.STATE 2).flag CAL_EVT CAL_EVT.DONE
      else if op = 5 then d.storeSet p
      else
        let why := d.gateReason p.gate c (d.nozzles c)
        if why ≠ 0 then d.calRefuse 6 1 0 why
        else if op = 2 then
          let g := d.rd (HC_CAL_GSET c)
          let o := d.rd (HC_CAL_OSET c)
          let d := d.calBegin p 3
          (d.calDrive c (mean2 (low12 g) (high12 g)) (mean2 (low12 o) (high12 o)) (mean2 (low12 g) (high12 g))
            (mean2 (low12 o) (high12 o))).calGate p 3
        else d.calBegin p 2

/-- The gate test of a procedure ends with it. -/
def Dev.gatesOf (d : Dev) : Dev :=
  match d.cal.proc with
  | some p => if p.stage = 2 then d.gateAbort p.gate false else d
  | none => d

/-- A write of CAL_CMD: OP 6 aborts, OP 0 does nothing (R315, R330). -/
def calCmdWrite (code : Nat) (v : Word) (d : Dev) : Dev :=
  let op := v.fld CAL_CMD.OP
  if op = 0 then d else if op = 6 then d.gatesOf.calAbort else d.calStart v code

/-! ## DAC calibration (R316) -/

/-- What the readings of one output come to (R316): a failure with its value, or the correction word. -/
inductive DacResult where
  | noise (m : Int)
  | gain (m : Int)
  | offset (m : Int)
  | linear (m : Int)
  | ok (w : Word)
  deriving DecidableEq, Repr

/-- The readings of one output judged (R316): sums and sums of squares of 256 codes at D = 2,048 and 14,336, and the sum at
8,192 with the correction applied. -/
def dacResult (meas : List Int) : DacResult :=
  let s1 := meas.getD 0 0
  let q1 := meas.getD 1 0
  let s2 := meas.getD 2 0
  let q2 := meas.getD 3 0
  let s3 := meas.getD 4 0
  let noisy (s q : Int) : Option Int :=
    let n := 256 * q - s * s
    if 17161 * 65536 < n * 100 then some ((isqrt (2500 * n.toNat) / 8192 + 1) / 2 : Nat) else none
  let D : Int := 100663296
  let G := 10 * (s2 - s1) - D
  let X := 7 * s1 - s2
  let L := 10 * s3 - 67108864
  let noise := match noisy s1 q1 with
    | some m => some m
    | none => noisy s2 q2
  match noise with
  | some m => .noise m
  | none =>
    if D < 50 * (G.natAbs : Int) then .gain (rdiv (16384 * G) D.toNat)
    else if 524288 * 1536 < (X.natAbs : Int) * 1000 then .offset (rdiv (100 * X) 196608)
    else if 134217728 < (L.natAbs : Int) * 1000 then .linear (rdiv (10 * L) 32768)
    else .ok (pair12 (rdiv (-100 * X) 196608) (rdiv (-16384 * G) (D + G).toNat))

/-- One output's readings: sums and sums of squares of 256 codes at D = 2,048 and at D = 14,336, and the sum at D = 8,192. -/
def Dev.dacOutput (d : Dev) (p : CalProc) (o : Nat) (meas : List Int) : Dev :=
  match dacResult meas with
  | .noise m => (d.calStep 3).calFail 10 o m
  | .gain m => (d.calStep 4).calFail 7 o m
  | .offset m => (d.calStep 4).calFail 8 o m
  | .linear m => (d.calStep 6).calFail 9 o m
  | .ok w =>
    let p := { p with todo := p.todo.drop 1, dac := p.dac ++ [(2 * p.chan + o, w)] }
    if p.todo.isEmpty then
      let words := (List.range 128).map (fun j => match p.dac.find? (fun x => x.1 == j) with
        | some x => x.2
        | none => d.rd (CAL_DAC j))
      d.calCommit p 7 (dacBody words p.vref)
    else (d.calBegin p 2).dacNext p

/-! ## Gate tests of the procedures (R317, R318) -/

/-- Insert a number into a rising list; sort a list. -/
def insertNat (x : Nat) : List Nat → List Nat
  | [] => [x]
  | y :: t => if x ≤ y then x :: y :: t else y :: insertNat x t
def sortNat (l : List Nat) : List Nat := l.foldr insertNat []

/-- The nearest-rank percentile of a rising list. -/
def percentileOf (l : List Nat) (p : Nat) : Nat := l.getD ((p * l.length + 99) / 100 - 1) 0

/-- The nozzles of a gate test that gave PASS or SLOW, with their times of flight. -/
def Dev.gateMeasured (d : Dev) (c : Nat) (ns : List Nat) : List (Nat × Nat) :=
  ns.filterMap (fun n =>
    let v := d.get (NH_GATE c (n / 2)) ⟨16 * (n % 2), 16⟩
    if v / 16384 = 1 || v / 16384 = 2 then some (n, v % 16384) else none)

/-- Steps 4 to 6 of R317. -/
def Dev.classEnd (d : Dev) (p : CalProc) : Dev :=
  let m := d.gateMeasured p.chan (d.calNozzles p)
  let tofs := sortNat (m.map (·.2))
  let med := tofs.getD ((tofs.length - 1) / 2) 0
  let spread := percentileOf tofs 90 - percentileOf tofs 10
  let d := d.calStep 4
  if 10 * m.length < 9 * d.nozzles p.chan then d.calFail 11 0 m.length
  else if med < 5 * spread then d.calFail 12 0 (rdiv (1024 * spread) med)
  else
    let pts := (d.calSet p.chan (d.rdN (HC_CAL_SET p.chan) % 4)).pts
    let h := if (pts.map (·.ga)).sum < (pts.map (·.gb)).sum then 1 else 0
    let words := m.foldl (fun (ws : List Word) x =>
      ws.set (x.1 / 32) ((ws.getD (x.1 / 32) 0).setFld ⟨x.1 % 32, 1⟩ (if med < x.2 then h else 1 - h))) (d.classWords p.chan)
    let p := { p with classes := words }
    d.calCommit p 6 (channelBody (d.storedTcfg p.chan) (d.sets p.chan) words)

/-- A point put into a list in order of temperature. -/
def insertPoint (q : CalPoint) : List CalPoint → List CalPoint
  | [] => [q]
  | p :: t => if q.t < p.t then q :: p :: t else p :: insertPoint q t

/-- The nearest point within 2.0 °C of a temperature, by its number (R318). -/
def nearPoint (pts : List CalPoint) (t : Int) : Option Nat :=
  pts.zipIdx.foldl (fun (b : Option Nat) x =>
    if 32 < (x.1.t - t).natAbs then b
    else match b with
      | none => some x.2
      | some i => if (x.1.t - t).natAbs < ((pts.getD i ⟨0, 0, 0, 0, 0⟩).t - t).natAbs then some x.2 else b) none

/-- Step 8 of R318. -/
def Dev.pointStore (d : Dev) (p : CalProc) (tref : Nat) (pt : CalPoint) : Dev :=
  let x := d.calSet p.chan p.set
  let kept := match nearPoint x.pts pt.t with
    | some i => x.pts.eraseIdx i
    | none => x.pts
  let x := { x with tref := tref, pts := insertPoint pt kept }
  let d := d.calStep 8
  match setFault x with
  | some i => d.calFail 15 i i
  | none =>
    let p := { p with newSet := some x }
    d.calCommit p 8 (channelBody (d.storedTcfg p.chan) (d.setsWith p.chan p.set x) (d.classWords p.chan))

/-- Steps 5 to 8 of R318 after a gate test: t is the mean time of flight, sum / n. -/
def Dev.pointEnd (d : Dev) (p : CalProc) : Dev :=
  let ns := d.calNozzles p
  let m := d.gateMeasured p.chan ns
  let n := m.length
  let sum := (m.map (·.2)).sum
  let tref := (d.calSet p.chan p.set).tref
  match p.point with
  | none => d
  | some pt =>
    if 10 * n < 9 * ns.length then (d.calStep 5).calFail 11 0 n
    else if tref = 0 then d.pointStore p (rdiv sum n).toNat pt
    else
      let dev : Int := (sum : Int) - tref * n
      if 200 * dev.natAbs ≤ tref * n then d.pointStore p tref pt
      else if 6 ≤ p.tests then (d.calStep 7).calFail 14 0 (rdiv (1024 * dev) (tref * n))
      else
        let dg := rdiv (16384 * dev) (tref * n)
        let pt := { pt with ga := pt.ga + dg, gb := pt.gb + dg }
        (d.calDrive p.chan pt.ga pt.oa pt.gb pt.ob).calGate { p with point := some pt } 5

/-- Steps 2 to 5 of R318: the 100 readings in 1/16 °C. -/
def Dev.pointRead (d : Dev) (p : CalProc) (meas : List Int) : Dev :=
  match meas with
  | [] => d
  | a :: _ =>
    let hi := meas.foldl max a
    let lo := meas.foldl min a
    let t := rdiv meas.sum meas.length
    let pts := (d.calSet p.chan p.set).pts
    if 8 < hi - lo then (d.calStep 2).calFail 13 0 (hi - lo)
    else if 8 ≤ pts.length && (nearPoint pts t).isNone then (d.calStep 3).calFail 15 8 8
    else
      let pt := { evalPoints pts t with t := t }
      (d.calDrive p.chan pt.ga pt.oa pt.gb pt.ob).calGate { p with point := some pt } 5

/-- A gate test has ended DONE: the procedure that asked for it goes on. -/
def Dev.calGateDone (d : Dev) (k : Nat) : Dev :=
  match d.cal.proc with
  | some p =>
    if p.stage = 2 && p.gate = k && !(d.gateSt k).run && d.get (FIR_GATE_STS k) FIR_GATE_STS.STATE = 2 then
      if p.op = 2 then d.classEnd p else d.pointEnd p
    else d
  | none => d

/-! ## The end (R315) -/

/-- The trims of before the procedure. -/
def Dev.trimsBack (d : Dev) (p : CalProc) : Dev := wavTrimWrite p.chan true p.trimB (wavTrimWrite p.chan false p.trimA d)

/-- The commit has ended: the new values apply, or the old ones stay. -/
def Dev.calApply (d : Dev) (p : CalProc) : Dev :=
  match p.committed with
  | none => d
  | some false => d.calFail 17 0 p.rid
  | some true =>
    let d := ((d.modCal (fun x => { x with proc := none })).put CAL_STS CAL_STS.STATE 2).flag CAL_EVT CAL_EVT.DONE
    let set (d : Dev) : Dev := match p.newSet with
      | some x => d.setCalSet p.chan p.set x
      | none => d
    if p.op = 1 then
      let g := d.rd (HC_CAL_GSET p.chan)
      let o := d.rd (HC_CAL_OSET p.chan)
      p.dac.foldl (fun d x => (d.wr (CAL_DAC x.1) x.2).putTrim p.chan (x.1 % 2 == 1) (if x.1 % 2 = 1 then high12 g else low12 g)
        (if x.1 % 2 = 1 then high12 o else low12 o)) d
    else if p.op = 2 then
      bankArm p.chan ((p.classes.zipIdx.foldl (fun d x => d.wr (WAV_CLASS_NEXT p.chan x.2) x.1) d).trimsBack p)
    else if p.op = 3 then (set d).trimsBack p
    else set d

/-- PROCEDURE_END: the readings of the step in progress are in, or the commit has ended; the procedure goes on to its next
step, fails, or is done (R315 to R319). -/
def procedureEnd (meas : List Int) (d : Dev) : Dev :=
  match d.cal.proc with
  | none => d
  | some p =>
    if p.stage = 3 then d.calApply p
    else if p.stage = 1 && p.op = 1 then
      match p.todo with
      | o :: _ => d.dacOutput p o meas
      | [] => d
    else if p.stage = 1 && p.op = 3 then d.pointRead p meas
    else d

/-- KEEL_COMMIT (R322): the next commit is carried out; `ok` is whether every word read back as written. -/
def keelCommit (ok : Bool) (d : Dev) : Dev :=
  match d.nextCommit with
  | none => d
  | some r =>
    let d := d.keelCommitOne r ok
    d.calProc (fun p => if p.stage = 3 && p.rid = r.rid && p.committed.isNone then { p with committed := some ok } else p)

/-! ## The meanings -/

/-- ADC_REQUEST (R306). -/
def execAdcRequest (q : Req) (input : Fin 256) (a : Fin 16) (s : State) : Host.Outcome State Fault Refusal :=
  .next (s.devCommand q CAL_ADC_REQ (BitVec.ofNat 32 (a.val * 256 + input.val)) adcReqWrite)

/-- ADC_CONVERSION_DONE (R306). -/
def execAdcConversionDone (k : Fin 4) (sum dt : Nat) (s : State) : Host.Outcome State Fault Refusal :=
  .next ((s.pass dt).onDev (adcDone k.val sum))

/-- VREF_CHECK (R307). -/
def execVrefCheck (code : Fin 65536) (dt : Nat) (s : State) : Host.Outcome State Fault Refusal :=
  .next ((s.pass dt).onDev (vrefCheck code.val))

/-- TRIM_EVALUATION (R313). -/
def execTrimEvaluation (codes : List (Nat × Nat)) (dt : Nat) (s : State) : Host.Outcome State Fault Refusal :=
  .next ((s.pass dt).onDev (trimEvaluation codes))

/-- CAL_SET_ARM (R311): the line's high byte with ARM = 1; its low part from the port's hold register (R11). -/
def execCalSetArm (q : Req) (c : Fin 64) (hi : Fin 256) (s : State) : Host.Outcome State Fault Refusal :=
  .next (s.highCommand q (HC_CAL_SET_AT_LO c.val) (HC_CAL_SET_AT_HI c.val) (BitVec.ofNat 32 (2 ^ 31 + hi.val)) (calSetAtWrite c.val))

/-- The word of CAL_CMD for a command. -/
def calWord (op chan set outputs gate : Nat) : Word :=
  BitVec.ofNat 32 (op * 2 ^ 28 + chan * 2 ^ 16 + set * 2 ^ 12 + outputs * 2 ^ 8 + gate * 16)

/-- DACCAL (R316). -/
def execDaccal (q : Req) (c : Fin 64) (outputs : Fin 4) (bandgap : Fin 65536) (s : State) : Host.Outcome State Fault Refusal :=
  .next (s.devCommand q CAL_CMD (calWord 1 c.val 0 outputs.val 0) (calCmdWrite bandgap.val))

/-- CLASSCAL (R317). -/
def execClasscal (q : Req) (c : Fin 64) (gate : Fin 2) (bandgap : Fin 65536) (s : State) : Host.Outcome State Fault Refusal :=
  .next (s.devCommand q CAL_CMD (calWord 2 c.val 0 0 gate.val) (calCmdWrite bandgap.val))

/-- TPOINT (R318). -/
def execTpoint (q : Req) (c : Fin 64) (set : Fin 4) (gate : Fin 2) (bandgap : Fin 65536) (s : State) :
    Host.Outcome State Fault Refusal :=
  .next (s.devCommand q CAL_CMD (calWord 3 c.val set.val 0 gate.val) (calCmdWrite bandgap.val))

/-- LOADSET (R319). -/
def execLoadset (q : Req) (c : Fin 64) (set : Fin 4) (bandgap : Fin 65536) (s : State) : Host.Outcome State Fault Refusal :=
  .next (s.devCommand q CAL_CMD (calWord 4 c.val set.val 0 0) (calCmdWrite bandgap.val))

/-- STORESET (R319). -/
def execStoreset (q : Req) (c : Fin 64) (set : Fin 4) (bandgap : Fin 65536) (s : State) : Host.Outcome State Fault Refusal :=
  .next (s.devCommand q CAL_CMD (calWord 5 c.val set.val 0 0) (calCmdWrite bandgap.val))

/-- CAL_ABORT (R315). -/
def execCalAbort (q : Req) (s : State) : Host.Outcome State Fault Refusal :=
  .next (s.devCommand q CAL_CMD (calWord 6 0 0 0 0) (calCmdWrite 0))

/-- PROCEDURE_END (R315). -/
def execProcedureEnd (meas : List Int) (dt : Nat) (s : State) : Host.Outcome State Fault Refusal :=
  .next ((s.pass dt).onDev (procedureEnd meas))

/-- KEEL_COMMIT (R322). -/
def execKeelCommit (ok : Bool) (dt : Nat) (s : State) : Host.Outcome State Fault Refusal :=
  .next ((s.pass dt).onDev (keelCommit ok))

/-- GATE_WINDOW_CLOSE (R264), and the procedure that waits for the test (R317, R318). -/
def execGateWindowClose (k : Fin 2) (dt : Nat) (s : State) : Host.Outcome State Fault Refusal :=
  .next ((s.pass dt).onDev (fun d => (gateWindowClose k.val d).calGateDone k.val))

end Sys2Proof.Machine
end

