-- ==== Sys2Proof/Machine/Camera.lean ====
section
/-! DEFINITION. The camera ports: sampling, framing, the line grid, triggers and exposures, settings and generations
(spec/11_inspection.md, R279 to R288, R303). -/

namespace Sys2Proof.Machine

/-- The hidden state of a port. -/
def Dev.cam (d : Dev) (n : Nat) : CamSt := tget (fun _ => {}) d.cams n

/-- Replace it. -/
def Dev.setCam (d : Dev) (n : Nat) (x : CamSt) : Dev := { d with cams := tput (fun _ => {}) d.cams n x }

/-- Change it. -/
def Dev.modCam (d : Dev) (n : Nat) (f : CamSt → CamSt) : Dev := d.setCam n (f (d.cam n))

/-- The fields of CAMn_CFG, CAMn_GRID and CAMn_SIZE that framing uses. -/
def Dev.camOn (d : Dev) (n : Nat) : Bool := d.bit (CAM_CFG n) CAM_CFG.EN
def Dev.framing (d : Dev) (n : Nat) : Nat := if d.looped 3 n then 1 else d.get (CAM_CFG n) CAM_CFG.FRAMING
def Dev.clp (d : Dev) (n : Nat) : Nat := d.get (CAM_GRID n) CAM_GRID.CLP
def Dev.camLines (d : Dev) (n : Nat) : Nat := d.get (CAM_SIZE n) CAM_SIZE.LINES
def Dev.camPixels (d : Dev) (n : Nat) : Nat := d.get (CAM_SIZE n) CAM_SIZE.PIXELS

/-- O_cam + YOFF (R283); a camera without a station record has O_cam = 0. -/
def Dev.camOrigin (d : Dev) (n : Nat) : Int :=
  let o := match d.stations.find? (fun x => x.kind == 0 && x.index == n) with
    | some x => x.offset
    | none => 0
  o + signedOf 32 (d.rdN (CAM_YOFF n))

/-- G(y) in the grid in force (R283). -/
def Dev.gridPos (d : Dev) (n : Nat) (y : Int) : Int := (d.cam n).gridS + d.camOrigin n + y * d.clp n

/-- A camera event. -/
def Dev.camEvt (d : Dev) (n : Nat) (f : Fld) : Dev := d.flag (CAM_EVT n) f

/-! ## Frames (R282, R284, R286, R288, R290) -/

/-- The highest line fired of a job. -/
def Dev.firedTo (d : Dev) (job : Nat) : Option Nat :=
  (d.fir.fired.filter (fun x => x.job == job)).foldl (fun a x => some (match a with
    | some l => max l x.line
    | none => x.line)) none

/-- The job a frame that starts at a grid line belongs to, if it lies inside one (R283, R290). -/
def Dev.frameJob (d : Dev) (n : Nat) (y0 : Int) : Option (Nat × Nat) :=
  match (d.cam n).job with
  | none => none
  | some j =>
    let running := d.jobRunning && d.headJob.map (·.id) == some j.1
    let inside := match d.firedTo j.1 with
      | some l => decide (y0 * d.clp n / 256 ≤ l)
      | none => false
    if running || inside then some j else none

/-- The settings a new frame uses (R288): a waiting commit applies when it landed early enough, or one frame later. -/
def Dev.frameSettings (d : Dev) (n : Nat) (pos : Int) : Dev :=
  let x := d.cam n
  match x.commit with
  | none => d
  | some (snap, p, t, started) =>
    let early := if d.framing n % 2 = 0 then decide (p ≤ pos - 2 * d.clp n)
      else decide (2 * x.mean.1 ≤ (d.now - t) * x.mean.2) || x.mean.2 == 0
    if early || started then d.setCam n { x with commit := none, set := snap, useGen := x.gen }
    else d.setCam n { x with commit := some (snap, p, t, true) }

/-- A frame opens at a grid line whose start position is given (R282, R290, R351). -/
def Dev.openFrame (d : Dev) (n : Nat) (y0 pos : Int) : Dev :=
  let d := d.frameSettings n pos
  let x := d.cam n
  let f : CamFrame :=
    { num := x.nextNum, gen := x.useGen, set := x.set, epoch := x.epoch, y0 := y0, job := d.frameJob n y0, start := d.devTime }
  let d := d.setCam n { x with frames := x.frames ++ [f], nextNum := (x.nextNum + 1) % 2 ^ 32, rises := [], lineAt := d.now }
  (d.wrN (CAM_FRAME n) f.num).capEvent (32 + n) true (d.eventTimes 0) d.now

/-- A grid line lies in a frame. -/
def CamFrame.covers (f : CamFrame) (lines epoch : Nat) (y : Int) : Bool :=
  f.epoch == epoch && decide (f.y0 ≤ y) && decide (y < f.y0 + lines)

/-- Change the open frame that covers a grid line. -/
def Dev.modFrame (d : Dev) (n epoch : Nat) (y : Int) (g : CamFrame → CamFrame) : Dev :=
  d.modCam n (fun x => { x with frames := x.frames.map (fun f => if f.covers (d.camLines n) epoch y then g f else f) })

/-- Change the newest open frame. -/
def Dev.modNewest (d : Dev) (n : Nat) (g : CamFrame → CamFrame) : Dev :=
  d.modCam n (fun x => { x with frames := match x.frames.reverse with
    | f :: t => (g f :: t).reverse
    | [] => [] })

/-- A frame closes: SHORT, the mean interval of its lines, and its record becomes due (R286, R288, R290). -/
def Dev.closeFrame (d : Dev) (n : Nat) (f : CamFrame) : Dev :=
  let mean (r : List Nat) : Nat × Nat := match r, r.getLast? with
    | a :: _ :: _, some b => (b - a, r.length - 1)
    | _, _ => (0, 0)
  let d := d.modCam n (fun x => { x with
    frames := x.frames.filter (fun g => g.num != f.num), closed := x.closed ++ [f], mean := mean x.rises })
  d.when (decide (f.lines.length < d.camLines n)) (·.camEvt n CAM_EVT.SHORT)

/-- Every open frame closes. -/
def Dev.closeFrames (d : Dev) (n : Nat) : Dev := (d.cam n).frames.foldl (fun d f => d.closeFrame n f) d

/-- The frames of the grid whose last grid line has arrived or is missing close (R284). -/
def Dev.closeComplete (d : Dev) (n : Nat) : Dev :=
  let x := d.cam n
  let lines := d.camLines n
  let due (f : CamFrame) : Bool :=
    f.epoch == x.epoch && decide (f.y0 + lines ≤ x.nextY) && !x.trigs.any (fun t => f.covers lines t.1 t.2.1) &&
      !(match x.cur with
        | some c => f.covers lines c.epoch c.y
        | none => false)
  if d.framing n = 0 then (x.frames.filter due).foldl (fun d f => d.closeFrame n f) d else d

/-- A grid line is missing from its frame (R284). -/
def Dev.missLine (d : Dev) (n epoch : Nat) (y : Int) : Dev := d.modFrame n epoch y (fun f => { f with missing := f.missing + 1 })

/-! ## Lines and pixels (R280, R281, R284, R286) -/

/-- LVAL_RISE: the line takes the oldest trigger, or the next row of the frame; an extra line is discarded. -/
def lvalRise (n : Nat) (d : Dev) : Dev :=
  let x := d.cam n
  if x.lval || !d.camOn n then d.setCam n { x with lval := true }
  else
    let d := d.setCam n { x with lval := true, cur := none, lineAt := d.now, rises := x.rises ++ [d.now] }
    let extra (d : Dev) : Dev := (d.modNewest n (fun f => { f with long := true })).camEvt n CAM_EVT.LONG
    if d.framing n = 0 then
      match x.trigs with
      | [] => extra (d.count (CAM_CNT n) CAM_CNT.EXTRA 1)
      | (e, y, _) :: t => d.modCam n (fun x => { x with trigs := t, cur := some { epoch := e, y := y } })
    else
      match x.frames.getLast? with
      | none => d
      | some f =>
        if d.camLines n ≤ f.lines.length then extra d
        else d.modCam n (fun x => { x with cur := some { epoch := f.epoch, y := f.y0 + f.lines.length } })

/-- The samples of a line when it is full. -/
def Dev.fullSamples (d : Dev) (n : Nat) : Nat :=
  if d.get (CAM_CFG n) CAM_CFG.TAPMODE = 0 then d.camPixels n else d.camPixels n / 2

/-- The pixels of a line from its samples, by TAPMODE (R280). -/
def linePixels (mode w : Nat) (taps : Array (Nat × Nat)) : List (Option Nat) :=
  (List.range w).map (fun i =>
    if mode = 0 then taps[i]?.map (·.1)
    else if mode = 1 then taps[i / 2]?.map (if i % 2 = 0 then (·.1) else (·.2))
    else if i < w / 2 then taps[i]?.map (·.1)
    else if mode = 2 then taps[i - w / 2]?.map (·.2)
    else taps[w - 1 - i]?.map (·.2))

/-- The open line ends: short, long, and kept in its frame (R286). -/
def Dev.endLine (d : Dev) (n : Nat) : Dev :=
  let x := d.cam n
  match x.cur with
  | none => d
  | some c =>
    let d := d.setCam n { x with cur := none }
    if !x.frames.any (fun f => f.covers (d.camLines n) c.epoch c.y) then d
    else
      let px := linePixels (d.get (CAM_CFG n) CAM_CFG.TAPMODE) (d.camPixels n) c.taps.toArray
      let short := c.taps.length < d.fullSamples n
      let d := d.modFrame n c.epoch c.y (fun f => { f with
        lines := f.lines ++ [⟨(c.y - f.y0).toNat, px⟩]
        shortLines := f.shortLines + (if short then 1 else 0)
        longLines := f.longLines + (if c.long then 1 else 0)
        overrun := f.overrun || c.cut })
      ((d.when short (·.camEvt n CAM_EVT.SHORTLINE)).when c.long (·.camEvt n CAM_EVT.LONGLINE)).closeComplete n

/-- LVAL_FALL (R286). -/
def lvalFall (n : Nat) (d : Dev) : Dev := (d.modCam n (fun x => { x with lval := false })).endLine n

/-- FVAL_RISE (R282): framing 1 starts a frame. -/
def fvalRise (n : Nat) (d : Dev) : Dev :=
  let x := d.cam n
  let d := d.setCam n { x with fval := true }
  if x.fval || !d.camOn n || d.framing n ≠ 1 || !x.frames.isEmpty then d else d.openFrame n 0 0

/-- FVAL_FALL (R282): framings 1 to 3 end the frame. -/
def fvalFall (n : Nat) (d : Dev) : Dev :=
  let d := d.modCam n (fun x => { x with fval := false })
  if !d.camOn n || d.framing n = 0 then d else (d.endLine n).closeFrames n

/-- Data of BITS bits shifted left to 12 bits (R280). -/
def tapValue (bits v : Nat) : Nat := if bits = 0 then v % 256 * 16 else if bits = 1 then v % 1024 * 4 else v % 4096

/-- A pixel sample joins the open line: dropped after an overrun, cut beyond PIXELS (R280, R281, R286). -/
def Dev.pixelSample (d : Dev) (n t0 t1 : Nat) (full : Bool) : Dev :=
  match (d.cam n).cur with
  | none => d
  | some c =>
    if c.cut then d
    else if full then (d.modCam n (fun x => { x with cur := some { c with cut := true } })).camEvt n CAM_EVT.OVERRUN
    else if d.fullSamples n ≤ c.taps.length then d.modCam n (fun x => { x with cur := some { c with long := true } })
    else
      let b := d.get (CAM_CFG n) CAM_CFG.BITS
      d.modCam n (fun x => { x with cur := some { c with taps := c.taps ++ [(tapValue b t0, tapValue b t1)] } })

/-- PCLK_EDGE (R280, R281): LVAL and FVAL follow the pins, then a pixel sample; `full` says that the port's input buffer of
16,384 pixels is full. -/
def pclkEdge (n : Nat) (rising lval fval dval : Bool) (t0 t1 : Nat) (full : Bool) (d : Dev) : Dev :=
  let d := (d.put (CAM_STS n) CAM_STS.PCLK_OK 1).modCam n (fun x => { x with pclkAt := d.now })
  if !d.camOn n || (!rising && !d.bit (CAM_CFG n) CAM_CFG.DDR) then d
  else
    let x := d.cam n
    let d := if fval && !x.fval then fvalRise n d else d
    let d := if lval && !x.lval then lvalRise n d else if !lval && x.lval then lvalFall n d else d
    let d := if !fval && x.fval then fvalFall n d else d
    if lval && (dval || !d.bit (CAM_CFG n) CAM_CFG.DVAL_EN) && (fval || d.framing n ≠ 1) then d.pixelSample n t0 t1 full else d

/-- PCLK_LOST (R281): 1 µs without an edge. -/
def pclkLost (n : Nat) (d : Dev) : Dev :=
  if !d.camOn n || !d.bit (CAM_STS n) CAM_STS.PCLK_OK || d.now < (d.cam n).pclkAt + usTicks 1 then d
  else (((d.camEvt n CAM_EVT.PCLK_LOST).put (CAM_STS n) CAM_STS.PCLK_OK 0).endLine n).closeFrames n

/-! ## The grid (R283, R284) -/

/-- A pulse on LTRIG or EXPOSE. -/
def Dev.camPulse (d : Dev) (n sig width : Nat) : Dev :=
  (d.emitShared (.cam n sig true d.now)).modCam n (fun x => { x with pulseEnd := some (d.now + width) })

/-- The trigger of the next grid line is issued; of five outstanding the oldest is given up (the model's choice). -/
def Dev.issueTrig (d : Dev) (n : Nat) : Dev :=
  let x := d.cam n
  let y := x.nextY
  let d := if y % d.camLines n = 0 then d.openFrame n y (d.gridPos n y) else d
  let x := d.cam n
  let d := match x.trigs with
    | [a, b, c, e] => (d.setCam n { x with trigs := [b, c, e] }).missLine n a.1 a.2.1
    | _ => d
  let d := d.modCam n (fun x => { x with trigs := x.trigs ++ [(x.epoch, (y : Int), d.now)], lastTrig := some d.now, nextY := y + 1 })
  d.camPulse n 0 ((x.set.getD 0 0).fld CAM_PULSE.LT_W)

/-- LTRIG (R283): issued when P reaches the grid line; held back by LT_MIN, and dropped at half a grid line. -/
def ltrig (n : Nat) (d : Dev) : Dev :=
  let x := d.cam n
  let g := d.gridPos n x.nextY
  if !d.camOn n || d.framing n ≠ 0 || d.P < g then d
  else
    let allowed := match x.lastTrig with
      | some t => decide (t + d.get (CAM_LTRIG n) CAM_LTRIG.LT_MIN ≤ d.now)
      | none => true
    if allowed then d.issueTrig n
    else if 2 * (d.P - g) < d.clp n then d
    else
      let d := (d.count (CAM_CNT n) CAM_CNT.TRIGSKIP 1).camEvt n CAM_EVT.TRIGSKIP
      let d := if x.nextY % d.camLines n = 0 then d.openFrame n x.nextY g else d
      ((d.missLine n x.epoch x.nextY).modCam n (fun x => { x with nextY := x.nextY + 1 })).closeComplete n

/-- The starts of jobs since the one in force whose G(0) P has reached (R283). -/
def Dev.startsReached (d : Dev) (n : Nat) : List (Nat × Nat × Int) :=
  (d.fir.starts.drop (d.cam n).seen).takeWhile (fun (s : Nat × Nat × Int) => decide (s.2.2 + d.camOrigin n ≤ d.P))

/-- The grid follows the latest job that P has reached (R283, R285). -/
def Dev.followJob (d : Dev) (n : Nat) : Dev :=
  match (d.startsReached n).getLast? with
  | some (id, bits, s) => d.modCam n (fun x => { x with
      gridS := s, job := some (id, bits), epoch := x.epoch + 1, seen := x.seen + (d.startsReached n).length, nextF := 0 })
  | none => d

/-- GRID_REPHASE (R283, R295): the open frame closes, and the shift is (0, 0) again. -/
def gridRephase (n : Nat) (d : Dev) : Dev :=
  if !d.camOn n || d.framing n ≠ 0 || (d.startsReached n).isEmpty then d
  else
    let d := (d.closeFrames n).followJob n
    d.modCam n (fun x => { x with sx := 0, sy := 0, nextY := ((d.P - d.gridPos n 0) / d.clp n).toNat })

/-- LINE_TMO (R284): the oldest trigger has no line in time. -/
def lineTmo (n : Nat) (d : Dev) : Dev :=
  match (d.cam n).trigs with
  | [] => d
  | (e, y, t) :: rest =>
    if d.now < t + usTicks (d.get (CAM_LTRIG n) CAM_LTRIG.LINE_TMO) then d
    else (((d.modCam n (fun x => { x with trigs := rest })).missLine n e y).camEvt n CAM_EVT.MISSLINE).closeComplete n

/-- FTMO (R284): FTMO × 10 ms without a line. -/
def ftmo (n : Nat) (d : Dev) : Dev :=
  let t := d.get (CAM_CFG n) CAM_CFG.FTMO
  if d.framing n ≠ 0 || t = 0 || d.now < (d.cam n).lineAt + msTicks (10 * t) then d else d.closeFrames n

/-! ## Area frames (R285) -/

/-- EXPOSE rises and a frame starts at a grid line; not while the last frame is open (R285). -/
def Dev.exposeAt (d : Dev) (n : Nat) (y0 pos : Int) : Dev :=
  if (d.cam n).frames.isEmpty then
    let d := d.openFrame n y0 pos
    d.camPulse n 1 (8 * ((d.cam n).set.getD 0 0).fld CAM_PULSE.EXP_W)
  else
    (d.modNewest n (fun f => { f with missing := f.missing + d.camLines n })).count (CAM_CNT n) CAM_CNT.TRIGSKIP 1
      |>.camEvt n CAM_EVT.TRIGSKIP

/-- EXPOSE in framing 2: P reaches the position of the job's next frame (R285). -/
def expose (n : Nat) (d : Dev) : Dev :=
  if !d.camOn n || d.framing n ≠ 2 then d
  else
    let d := d.followJob n
    let y0 : Int := (d.cam n).nextF * d.camLines n
    if (d.frameJob n y0).isNone || d.P < d.gridPos n y0 then d
    else (d.modCam n (fun x => { x with nextF := x.nextF + 1 })).exposeAt n y0 (d.gridPos n y0)

/-- A trigger fires: EXPOSE in framing 3, with the frame origin taken from P (R285, R346). -/
def Dev.camTrigger (d : Dev) (trg : Nat) : Dev :=
  d.each [0, 1, 2, 3] (fun n d =>
    if !d.camOn n || d.framing n ≠ 3 || d.get (CAM_CFG n) CAM_CFG.TRG ≠ trg then d
    else
      let d := d.followJob n
      d.exposeAt n (rdiv (d.P - d.gridPos n 0) (d.clp n)) 0)

/-- CAM_PULSE_END (R283, R285). -/
def camPulseEnd (n : Nat) (d : Dev) : Dev :=
  match (d.cam n).pulseEnd with
  | none => d
  | some t =>
    if d.now < t then d
    else (d.emitShared (.cam n (if d.framing n = 0 then 0 else 1) false t)).modCam n (fun x => { x with pulseEnd := none })

/-! ## Settings (R287, R288, R291, R294) -/

/-- The knots of the column map, signed, in 1/256 dot (R291). -/
def Dev.knots (d : Dev) (n : Nat) : List Int := (List.range 33).map (fun i => signedOf 28 (d.rdN (CAM_MAP n i)))

/-- A list strictly increases. -/
def rising : List Int → Bool
  | a :: b :: t => decide (a < b) && rising (b :: t)
  | _ => true

/-- The column map is strictly monotonic (R291). -/
def Dev.mapOk (d : Dev) (n : Nat) : Bool := rising (d.knots n) || rising ((d.knots n).map (fun x => -x))

/-- The need of R294 of a camera in bytes, with the settings given. -/
def Dev.camNeed (d : Dev) (n : Nat) (cfg : Word) : Nat :=
  if cfg.fld CAM_CFG.EN = 0 || cfg.fld CAM_CFG.FRAMING % 2 = 1 then 0
  else
    let dmin := (d.channels.map (fun c => d.rdN (HC_ROWDLY c))).foldl min (2 ^ 40)
    let span := d.camOrigin n - (if d.channels.isEmpty then 0 else dmin)
    let r := ((span + d.clp n - 1) / d.clp n).toNat + 2 * d.camLines n
    let perFrame := (r + d.camLines n - 1) / d.camLines n
    r * ((d.camPixels n + 3) / 4) + 1048576 * (perFrame + 1)

/-- The sum of the needs of R294, with one camera's CAMn_CFG as given. -/
def Dev.ringNeed (d : Dev) (n : Nat) (cfg : Word) : Nat :=
  ((List.range 4).map (fun k => d.camNeed k (if k = n then cfg else d.rd (CAM_CFG k)))).sum

/-- A refused static write or enable (R287). -/
def Dev.camReject (d : Dev) (n : Nat) : Dev := d.camEvt n CAM_EVT.CFG_REJ

/-- The shadow registers of a camera (R287). -/
def Dev.shadow (d : Dev) (n : Nat) : List Word :=
  [CAM_PULSE n, CAM_WIN n, CAM_LVL_R n, CAM_LVL_G n, CAM_LVL_B n, CAM_DET n, CAM_REG n, CAM_PANE n].map d.rd

/-- A write of CAMn_CFG (R282, R283, R287, R290, R294, R295). -/
def camCfgWrite (n : Nat) (v : Word) (d : Dev) : Dev :=
  let en := v.fld CAM_CFG.EN = 1
  if d.jobActive then d.camReject n
  else if en && (!d.mapOk n || d.camPixels n % 32 ≠ 0 || d.clp n < 64 || 2 ^ 29 < d.ringNeed n v ||
      (d.scan && v.fld CAM_CFG.FRAMING % 2 = 0)) then d.camReject n
  else
    let was := d.camOn n
    let d := d.typedWrite (CAM_CFG n) v
    if en && !was then
      d.modCam n (fun x => { x with
        cur := none, gridS := d.P - d.camOrigin n, job := none, seen := d.fir.starts.length, epoch := x.epoch + 1
        nextY := 0, trigs := [], lastTrig := none, nextF := 0, frames := [], closed := [], nextNum := 0, lineAt := d.now
        rises := [], mean := (0, 0), sx := 0, sy := 0, dispGen := none, dispN := 0 })
    else if en then d
    else d.modCam n (fun x => { x with cur := none, frames := [], trigs := [] })

/-- A write of another static register of a camera (R287, R303). -/
def camStaticWrite (n a : Nat) (v : Word) (d : Dev) : Dev :=
  if d.jobActive then d.camReject n
  else
    let v := if a = CAM_LTRIG n then v.setFld CAM_LTRIG.LINE_TMO (max 1 (v.fld CAM_LTRIG.LINE_TMO))
      else if a = CAM_SIZE n then v.setFld CAM_SIZE.LINES (max 1 (v.fld CAM_SIZE.LINES))
      else v
    d.typedWrite a v

/-- A write of INS_MEDIUM or INS_RESPk (R287): a refusal is shown by every camera (the model's choice). -/
def insStaticWrite (a : Nat) (v : Word) (d : Dev) : Dev :=
  if d.jobActive then d.each [0, 1, 2, 3] (fun n d => d.camReject n) else d.typedWrite a v

/-- A write of CAMn_PULSE; a smaller LT_W sets 16 (R303). -/
def camPulseWrite (n : Nat) (v : Word) (d : Dev) : Dev :=
  d.typedWrite (CAM_PULSE n) (v.setFld CAM_PULSE.LT_W (max 16 (v.fld CAM_PULSE.LT_W)))

/-- A snapshot of one camera's shadow registers with the next generation (R288); at once where the camera is not enabled. -/
def Dev.commitCam (d : Dev) (n : Nat) : Dev :=
  let x := d.cam n
  let g := (x.gen + 1) % 65536
  let d := d.put (CAM_GEN n) hiHalf g
  if d.camOn n then d.setCam n { x with gen := g, commit := some (d.shadow n, d.P, d.now, false) }
  else d.setCam n { x with gen := g, commit := none, set := d.shadow n, useGen := g }

/-- INS_COMMIT (R288). -/
def insCommit (v : Word) (d : Dev) : Dev := d.each [0, 1, 2, 3] (fun n d => if v.bit n then d.commitCam n else d)

/-! ## The meanings -/

/-- LTRIG (R283). -/
def execLtrig (n : Fin 4) (dt : Nat) (s : State) : Host.Outcome State Fault Refusal := .next ((s.pass dt).onIsl 5 (ltrig n.val))

/-- GRID_REPHASE (R283). -/
def execGridRephase (n : Fin 4) (dt : Nat) (s : State) : Host.Outcome State Fault Refusal :=
  .next ((s.pass dt).onIsl 5 (gridRephase n.val))

/-- LVAL_RISE (R284). -/
def execLvalRise (n : Fin 4) (dt : Nat) (s : State) : Host.Outcome State Fault Refusal := .next ((s.pass dt).onIsl 5 (lvalRise n.val))

/-- LINE_TMO (R284). -/
def execLineTmo (n : Fin 4) (dt : Nat) (s : State) : Host.Outcome State Fault Refusal := .next ((s.pass dt).onIsl 5 (lineTmo n.val))

/-- FTMO (R284). -/
def execFtmo (n : Fin 4) (dt : Nat) (s : State) : Host.Outcome State Fault Refusal := .next ((s.pass dt).onIsl 5 (ftmo n.val))

/-- FVAL_RISE (R282). -/
def execFvalRise (n : Fin 4) (dt : Nat) (s : State) : Host.Outcome State Fault Refusal := .next ((s.pass dt).onIsl 5 (fvalRise n.val))

/-- FVAL_FALL (R282). -/
def execFvalFall (n : Fin 4) (dt : Nat) (s : State) : Host.Outcome State Fault Refusal := .next ((s.pass dt).onIsl 5 (fvalFall n.val))

/-- EXPOSE (R285). -/
def execExpose (n : Fin 4) (dt : Nat) (s : State) : Host.Outcome State Fault Refusal := .next ((s.pass dt).onIsl 5 (expose n.val))

/-- PCLK_LOST (R281). -/
def execPclkLost (n : Fin 4) (dt : Nat) (s : State) : Host.Outcome State Fault Refusal := .next ((s.pass dt).onIsl 5 (pclkLost n.val))

/-- INS_COMMIT (R288). -/
def execInsCommit (q : Req) (mask : BitVec 4) (s : State) : Host.Outcome State Fault Refusal :=
  .next (s.devCommand q INS_COMMIT (mask.zeroExtend 32) insCommit)

/-- CAM_ENABLE: a write of CAMn_CFG with EN = 1 (R287). -/
def execCamEnable (q : Req) (n : Fin 4) (v : Word) (s : State) : Host.Outcome State Fault Refusal :=
  .next (s.devCommand q (CAM_CFG n.val) (v.setFld CAM_CFG.EN 1) (camCfgWrite n.val))

/-- PCLK_EDGE (R280). -/
def execPclkEdge (n : Fin 4) (rising lval fval dval : Bool) (t0 t1 : Fin 4096) (full : Bool) (dt : Nat) (s : State) :
    Host.Outcome State Fault Refusal :=
  .next ((s.pass dt).onIsl 5 (pclkEdge n.val rising lval fval dval t0.val t1.val full))

/-- LVAL_FALL (R286). -/
def execLvalFall (n : Fin 4) (dt : Nat) (s : State) : Host.Outcome State Fault Refusal := .next ((s.pass dt).onIsl 5 (lvalFall n.val))

/-- CAM_PULSE_END (R283). -/
def execCamPulseEnd (n : Fin 4) (dt : Nat) (s : State) : Host.Outcome State Fault Refusal :=
  .next ((s.pass dt).onIsl 5 (camPulseEnd n.val))

end Sys2Proof.Machine
end

