-- ==== Sys2Proof/Machine/Trig.lean ====
section
/-! DEFINITION. The trigger units and the GPIO outputs (spec/13_time.md, R346 to R350, R352, R354). -/

namespace Sys2Proof.Machine

/-! ## GPIO outputs (R350, R394) -/

/-- The trigger whose pulse governs a GPIO. -/
def Dev.gpioGovernor (d : Dev) (g : Nat) : Option Nat :=
  (List.range 16).find? (fun n => (d.trgSt n).pulseEnd.isSome && d.get (TRG_OUT n) TRG_OUT.GPIO == g)

/-- The level an output GPIO has. -/
def Dev.gpioLevel (d : Dev) (g : Nat) : Bool :=
  match d.gpioGovernor g with
  | some n => d.bit (TRG_OUT n) TRG_OUT.POL
  | none => (d.rd TIM_GPIO_OUT).bit g

/-- A GPIO that is an output drives its level; a shared one only on the active chip (R350, R394). -/
def Dev.gpioDrive (d : Dev) (g : Nat) : Dev :=
  if (d.rd TIM_GPIO_DIR).bit g && (!(d.rd BRD_CFG).bit (16 + g) || d.drivesShared) then d.emit (.gpio g (d.gpioLevel g) d.now) else d

/-- A write of TIM_GPIO_DIR or TIM_GPIO_OUT. -/
def gpioWrite (a : Nat) (v : Word) (d : Dev) : Dev :=
  let e := d.typedWrite a v
  e.each ((List.range 16).filter (fun g => (e.rd TIM_GPIO_DIR).bit g &&
    (!(d.rd TIM_GPIO_DIR).bit g || (d.rd TIM_GPIO_OUT).bit g != (e.rd TIM_GPIO_OUT).bit g))) (fun g d => d.gpioDrive g)

/-! ## Arming (R346, R349) -/

/-- The period in units of 2^-32 ns (R346). -/
def Dev.trgPeriod (d : Dev) (n : Nat) : Nat := (d.rdN (TRG_PERIOD n) * 65536 + d.rdN (TRG_PFRAC n) % 65536) * 65536

/-- Time in a trigger's domain. -/
def Dev.trgTime (d : Dev) (n : Nat) : Nat := d.timeIn (d.get (TRG_CFG n) TRG_CFG.DOM)

/-- TRG_ARM (R349). -/
def trgArm (n : Nat) (d : Dev) : Dev :=
  let p := d.trgPeriod n
  let bad := (p ≠ 0 && p < 100 * 2 ^ 32) || 1000000000 ≤ d.rdN (TRG_T_NS n) ||
    (d.bit (TRG_OUT n) TRG_OUT.GPIO_EN && !(d.rd TIM_GPIO_DIR).bit (d.get (TRG_OUT n) TRG_OUT.GPIO))
  if bad then d.flag (TRG_STS n) TRG_STS.REFUSED
  else (d.put (TRG_STS n) TRG_STS.ARMED 1).setTrg n
    { d.trgSt n with ahead := decide (d.trgTime n < d.trgTarget n), at_ := d.now, windows := [] }

/-- TRG_DISARM (R349). -/
def trgDisarm (n : Nat) (d : Dev) : Dev := d.put (TRG_STS n) TRG_STS.ARMED 0

/-- A write of TRGn_CMD: DISARM acts first (the model's order). -/
def trgCmdWrite (n : Nat) (v : Word) (d : Dev) : Dev := (d.when (v.bit 1) (trgDisarm n)).when (v.bit 0) (trgArm n)

/-- A write of a target, period or count register: none while the unit is armed (R349). -/
def trgRegWrite (n a : Nat) (v : Word) (d : Dev) : Dev :=
  if d.bit (TRG_STS n) TRG_STS.ARMED then d.flag (TRG_STS n) TRG_STS.WREJ else d.typedWrite a v

/-! ## Occurrences (R346 to R348, R352) -/

/-- The target registers show a time. -/
def Dev.setTarget (d : Dev) (n t : Nat) : Dev :=
  let sec := timeSec t
  (((d.wrN (TRG_T_FRAC n) (timeFrac t)).wrN (TRG_T_NS n) (timeNs t)).wrN (TRG_T_SEC_LO n) sec).wrN (TRG_T_SEC_HI n)
    (sec / 2 ^ 32 % 65536)

/-- Occurrences leave COUNT; the unit is done when it reaches 0 (R346). -/
def Dev.trgCount (d : Dev) (n k : Nat) : Dev :=
  let c := d.rdN (TRG_COUNT n)
  if c = 0 then d
  else
    let d := d.wrN (TRG_COUNT n) (c - k)
    if c ≤ k then (d.put (TRG_STS n) TRG_STS.ARMED 0).flag (TRG_STS n) TRG_STS.DONE else d

/-- After an occurrence: the next target, and the occurrences passed over (R348); a trigger without a period has none. -/
def Dev.trgNext (d : Dev) (n t target : Nat) : Dev :=
  let p := d.trgPeriod n
  let d := d.trgCount n 1
  if !d.bit (TRG_STS n) TRG_STS.ARMED then d
  else if p = 0 then (d.put (TRG_STS n) TRG_STS.ARMED 0).flag (TRG_STS n) TRG_STS.DONE
  else
    let m := (t - target) / p + 1
    let d := (d.setTarget n (target + m * p)).setTrg n { d.trgSt n with ahead := true, at_ := d.now }
    if m = 1 then d
    else ((d.count (TRG_STS n) TRG_STS.SKIPPED (m - 1)).flag (TRG_STS n) TRG_STS.MISSED).trgCount n (m - 1)

/-- A GPIO pulse starts (R346, R350). -/
def Dev.trgPulse (d : Dev) (n : Nat) : Dev :=
  if d.bit (TRG_OUT n) TRG_OUT.GPIO_EN then
    (d.setTrg n { d.trgSt n with pulseEnd := some (d.now + 80 * d.get (TRG_OUT n) TRG_OUT.WIDTH) }).gpioDrive
      (d.get (TRG_OUT n) TRG_OUT.GPIO)
  else d

/-- An occurrence executes: the conversion, the pulse, the control-cycle event, the consumers, the window and the captures
(R346, R351, R352). -/
def Dev.trgExecute (d : Dev) (n target : Nat) : Dev :=
  let d := d.setTrg n { d.trgSt n with windows := (d.trgSt n).windows ++ [target / 65536] }
  let d := d.when (d.bit (TRG_CFG n) TRG_CFG.ADC_EN) (fun d =>
    d.adcRequest (d.get (TRG_CFG n) TRG_CFG.INPUT) (d.get (TRG_CFG n) TRG_CFG.A) n)
  let d := d.trgPulse n
  let d := d.when (d.bit (TRG_CFG n) TRG_CFG.FW_EV) (·.emit (.cycle n))
  ((d.startOnTrg n).camTrigger n).capEvent (36 + n) true (d.eventTimes 0) d.now

/-- TRG_OCCURRENCE: time has reached the target. A late occurrence waits for the next tick (R347). -/
def trgOccurrence (n : Nat) (d : Dev) : Dev :=
  let target := d.trgTarget n
  let t := d.trgTime n
  let late := !(d.trgSt n).ahead
  if !d.bit (TRG_STS n) TRG_STS.ARMED || t < target || (late && d.now ≤ (d.trgSt n).at_) then d
  else if late && d.bit (TRG_CFG n) TRG_CFG.STRICT then (d.flag (TRG_STS n) TRG_STS.MISSED).trgNext n t target
  else
    let d := d.when late (fun d =>
      (d.flag (TRG_STS n) TRG_STS.LATE).wrN (TRG_LATE n) (min 0xFFFFFFFF ((t - target) / 2 ^ 32)))
    (d.trgExecute n target).trgNext n t target

/-- TRG_PULSE_END (R350): the pin goes to whatever governs it now. -/
def trgPulseEnd (n : Nat) (d : Dev) : Dev :=
  match (d.trgSt n).pulseEnd with
  | some e =>
    if e ≤ d.now then (d.setTrg n { d.trgSt n with pulseEnd := none }).gpioDrive (d.get (TRG_OUT n) TRG_OUT.GPIO) else d
  | none => d

/-! ## The meanings -/

/-- TRG_ARM (R349). -/
def execTrgArm (q : Req) (n : Fin 16) (s : State) : Host.Outcome State Fault Refusal :=
  .next (s.devCommand q (TRG_CMD n.val) 1 (trgCmdWrite n.val))

/-- TRG_DISARM (R349). -/
def execTrgDisarm (q : Req) (n : Fin 16) (s : State) : Host.Outcome State Fault Refusal :=
  .next (s.devCommand q (TRG_CMD n.val) 2 (trgCmdWrite n.val))

/-- TRG_OCCURRENCE (R346 to R348). -/
def execTrgOccurrence (n : Fin 16) (dt : Nat) (s : State) : Host.Outcome State Fault Refusal :=
  .next ((s.pass dt).onIsl 6 (trgOccurrence n.val))

/-- TRG_PULSE_END (R350). -/
def execTrgPulseEnd (n : Fin 16) (dt : Nat) (s : State) : Host.Outcome State Fault Refusal :=
  .next ((s.pass dt).onIsl 6 (trgPulseEnd n.val))

end Sys2Proof.Machine
end

