-- ==== Sys2Proof/Machine/Inputs.lean ====
section
/-! DEFINITION. The discrete inputs' conditioning chains and their consumers (spec/03_web_pacing.md, R59 to R66;
spec/13_time.md, R351). Inputs are numbered as the capture sources of R351: 0 to 9 the pacing inputs, 10 to 13 PD0 to PD3,
14 and 15 the gates, 16 to 31 the GPIOs. -/

namespace Sys2Proof.Machine

/-- The registers of an input's chain (R79, R278, R353). -/
def inCfg (i : Nat) : Nat := if i < 10 then PAC_IN_CFG i else if i < 14 then TIM_IN_CFG (i - 10) else
  if i < 16 then FIR_GATE_IN_CFG (i - 14) else TIM_IN_CFG (i - 12)
def inLim (i : Nat) : Nat := inCfg i + 4
def inStuck (i : Nat) : Nat := inCfg i + 8
def inSts (i : Nat) : Nat := inCfg i + 12

/-- The hidden state of an input's chain. -/
def Dev.inp (d : Dev) (i : Nat) : InSt := tget (fun _ => {}) d.input i

/-- Replace it. -/
def Dev.setInp (d : Dev) (i : Nat) (x : InSt) : Dev := { d with input := tput (fun _ => {}) d.input i x }

/-- The level after polarity (R59). -/
def Dev.polLevel (d : Dev) (i : Nat) : Bool := (d.inp i).raw != d.bit (inCfg i) PAC_IN_CFG.POL

/-- The input is stuck now. -/
def Dev.isStuck (d : Dev) (i : Nat) : Bool := d.bit (inSts i) PAC_IN_STS.STUCK_NOW

/-- When the time island leaves reset a chain takes the level of its pin (R59). -/
def Dev.inputReset (d : Dev) (i : Nat) : Dev :=
  let v := d.polLevel i
  let m := d.get (inStuck i) PAC_IN_STUCK.MAX_ACTIVE
  (d.setInp i { raw := (d.inp i).raw, filt := v, passed := v, activeAt := if v then some (d.now, m) else none }).put
    (inSts i) PAC_IN_STS.LEVEL (if v then 1 else 0)

/-- A change of level after polarity enters the filter, or removes the change that was being filtered (R59, R60). -/
def Dev.polChange (d : Dev) (i j : Nat) : Dev :=
  let x := d.inp i
  if d.polLevel i = x.filt then d.setInp i { x with change := none }
  else d.setInp i { x with change := some (d.now, j, d.get (inCfg i) PAC_IN_CFG.FILT), times := d.eventTimes j }

/-- INPUT_TRANSITION: the pin changes in an eighth of the tick. -/
def inputTransition (i j : Nat) (d : Dev) : Dev :=
  let x := d.inp i
  (d.setInp i { x with raw := !x.raw }).polChange i j

/-- A write of an input's IN_CFG (R59). -/
def inCfgWrite (i : Nat) (v : Word) (d : Dev) : Dev :=
  let was := d.polLevel i
  let d := d.typedWrite (inCfg i) v
  if d.polLevel i = was then d else d.polChange i 0

/-- An edge that a chain passes on: the input, the level, its stamp and its times (R60, R351). -/
structure Edge where
  i : Nat
  level : Bool
  stamp : Nat
  times : List Nat
  deriving DecidableEq, Repr

/-- An edge is passed on, and opens a gap (R62). -/
def Dev.passEdge (d : Dev) (e : Edge) : Dev :=
  let gap := d.get (inLim e.i) PAC_IN_LIM.MIN_GAP
  (d.setInp e.i { d.inp e.i with passed := e.level, gapEnd := if gap = 0 then none else some (d.now + gap) }).put
    (inSts e.i) PAC_IN_STS.LEVEL (if e.level then 1 else 0)

/-- A pacing input shows an event (R79). -/
def Dev.pacInEvt (d : Dev) (i : Nat) (f : Fld) : Dev := if i < 10 then d.flag PAC_EVT f else d

/-- A filtered change meets the rate limiter (R62): dropped inside a gap, else passed if the consumer holds the other level. -/
def Dev.rateStage (d : Dev) (e : Edge) : Dev × List Edge :=
  let x := d.inp e.i
  let inGap := match x.gapEnd with
    | some g => decide (d.now < g)
    | none => false
  if inGap then (((d.count (inSts e.i) PAC_IN_STS.RATE_CNT 1).flag (inSts e.i) PAC_IN_STS.RATE).pacInEvt e.i PAC_EVT.INRATE, [])
  else
    let d := d.setInp e.i { x with gapEnd := none }
    if e.level = x.passed then (d, []) else (d.passEdge e, [e])

/-- A change that has been stable for FILT ticks is accepted and meets the stuck check (R60, R61). -/
def Dev.acceptOne (d : Dev) (i : Nat) : Dev × List Edge :=
  let x := d.inp i
  match x.change with
  | none => (d, [])
  | some (k, _, f) =>
    if d.now < k + f then (d, [])
    else
      let v := !x.filt
      let on := if v then some (d.now, d.get (inStuck i) PAC_IN_STUCK.MAX_ACTIVE) else none
      let off := if v then none else some (d.now, d.get (inStuck i) PAC_IN_STUCK.RELEASE)
      let d := d.setInp i { x with filt := v, change := none, activeAt := on, inactiveAt := off }
      if d.isStuck i then (d, []) else d.rateStage ⟨i, v, k, x.times⟩

/-- Inputs in turn, their edges together. -/
def Dev.gather (d : Dev) (l : List Nat) (f : Dev → Nat → Dev × List Edge) : Dev × List Edge :=
  l.foldl (fun (acc : Dev × List Edge) i => let r := f acc.1 i; (r.1, acc.2 ++ r.2)) (d, [])

/-! ## Consumers (R63 to R66, R80, R264, R351) -/

/-- The edge of an input among those of a tick. -/
def edgeOf (es : List Edge) (i : Nat) : Option Edge := es.find? (fun e => e.i == i)

/-- The level a consumer sees. -/
def Dev.seen (d : Dev) (i : Nat) : Bool := (d.inp i).passed

/-- The quadrature decoder of an encoder on one tick (R63, R64). -/
def Dev.decoder (d : Dev) (e : Nat) (es : List Edge) : Dev :=
  let a := d.seen (3 * e)
  let b := d.seen (3 * e + 1)
  let dec := if e = 0 then d.get PAC_ENC_CFG PAC_ENC_CFG.ENC0_DEC else d.get PAC_ENC_CFG PAC_ENC_CFG.ENC1_DEC
  let rev := if e = 0 then d.bit PAC_ENC_CFG PAC_ENC_CFG.ENC0_REV else d.bit PAC_ENC_CFG PAC_ENC_CFG.ENC1_REV
  let go (fwd : Bool) (x : Edge) : Dev := d.sourceCount e (if fwd != rev then 1 else -1) x.stamp
  match edgeOf es (3 * e), edgeOf es (3 * e + 1) with
  | some _, some _ => (d.flag PAC_EVT PAC_EVT.QERR).count PAC_ERRCNT PAC_ERRCNT.QERR_CNT 1
  | some x, none => if dec ≤ 1 || x.level then go (a != b) x else d
  | none, some x => if dec = 0 then go (a == b) x else d
  | none, none => d

/-- A step input on one tick (R65). -/
def Dev.stepInput (d : Dev) (k : Nat) (es : List Edge) : Dev :=
  match edgeOf es (6 + 2 * k) with
  | some x => if x.level then d.sourceCount (2 + k) (if d.seen (7 + 2 * k) then 1 else -1) x.stamp else d
  | none => d

/-- At an active Z edge of the primary encoder each chip of a pair records its P, and the active sends it (R407). -/
def Dev.zRecord (d : Dev) (e : Nat) : Dev :=
  if d.joined && d.get PAC_CFG PAC_CFG.SRC == e then
    let d := d.modPair (fun x => { x with zP := some d.P })
    d.when d.activeOfPair (·.brdSend 0x07 [2, e, unsignedOf 56 d.P])
  else d

/-- What the edges of one tick do: counts, Z edges, product detects, gates, captures. -/
def Dev.consume (d : Dev) (es : List Edge) : Dev :=
  let d := d.each [0, 1] (fun e d => d.decoder e es)
  let d := d.each [0, 1] (fun k d => d.stepInput k es)
  let d := d.each [0, 1] (fun e d => match edgeOf es (3 * e + 2) with
    | some x => if x.level then (d.zEdge e).zRecord e else d
    | none => d)
  es.foldl (fun d x =>
    let d := if 10 ≤ x.i && x.i < 14 && x.level then d.startOnPd (x.i - 10) x.stamp else d
    let d := if x.i = 14 || x.i = 15 then gateEdge (x.i - 14) x.level x.stamp d else d
    d.capEvent x.i x.level x.times x.stamp) d

/-- GLITCH_FILTER_ACCEPT: the inputs whose change is accepted on this tick. -/
def glitchFilterAccept (l : List Nat) (d : Dev) : Dev := let r := d.gather l Dev.acceptOne; r.1.consume r.2

/-- One gap closes (R62). -/
def Dev.closeGap (d : Dev) (i : Nat) : Dev × List Edge :=
  let x := d.inp i
  match x.gapEnd with
  | none => (d, [])
  | some g =>
    if d.now < g then (d, [])
    else
      let d := d.setInp i { x with gapEnd := none }
      let v := x.filt && !d.isStuck i
      let e : Edge := ⟨i, v, d.now, d.eventTimes 0⟩
      if v = x.passed then (d, []) else (d.passEdge e, [e])

/-- RATE_GAP_CLOSE: the inputs whose gap closes on this tick. -/
def rateGapClose (l : List Nat) (d : Dev) : Dev := let r := d.gather l Dev.closeGap; r.1.consume r.2

/-- INPUT_STUCK (R61): the consumer sees the input as inactive from this tick; a gate test on it ends (R263). -/
def inputStuck (i : Nat) (d : Dev) : Dev :=
  let x := d.inp i
  match x.activeAt with
  | none => d
  | some (t, m) =>
    if m = 0 || d.isStuck i || d.now ≤ t + usTicks m then d
    else
      let d := ((d.flag (inSts i) PAC_IN_STS.STUCK).put (inSts i) PAC_IN_STS.STUCK_NOW 1).pacInEvt i PAC_EVT.INSTUCK
      let e : Edge := ⟨i, false, d.now, d.eventTimes 0⟩
      let d := if x.passed then (d.passEdge e).consume [e] else d
      if i = 14 || i = 15 then d.gateAbort (i - 14) false else d

/-- STUCK_RELEASE (R61). -/
def stuckRelease (i : Nat) (d : Dev) : Dev :=
  match (d.inp i).inactiveAt with
  | none => d
  | some (t, r) => if d.isStuck i && decide (t + usTicks r ≤ d.now) then d.put (inSts i) PAC_IN_STS.STUCK_NOW 0 else d

/-! ## The meanings -/

/-- INPUT_TRANSITION (R59): the input and the eighth of the tick in which its pin changes (R351). -/
def execInputTransition (i : Fin 32) (j : Fin 8) (dt : Nat) (s : State) : Host.Outcome State Fault Refusal :=
  .next ((s.pass dt).onIsl 6 (inputTransition i.val j.val))

/-- INPUT_POL_WRITE (R59): a write of an input's IN_CFG. -/
def execInputPolWrite (q : Req) (i : Fin 32) (v : Word) (s : State) : Host.Outcome State Fault Refusal :=
  .next (s.devCommand q (inCfg i.val) v (inCfgWrite i.val))

/-- GLITCH_FILTER_ACCEPT (R60). -/
def execGlitchFilterAccept (l : List (Fin 32)) (dt : Nat) (s : State) : Host.Outcome State Fault Refusal :=
  .next ((s.pass dt).onIsl 6 (glitchFilterAccept (l.map (·.val))))

/-- RATE_GAP_CLOSE (R62). -/
def execRateGapClose (l : List (Fin 32)) (dt : Nat) (s : State) : Host.Outcome State Fault Refusal :=
  .next ((s.pass dt).onIsl 6 (rateGapClose (l.map (·.val))))

/-- INPUT_STUCK (R61). -/
def execInputStuck (i : Fin 32) (dt : Nat) (s : State) : Host.Outcome State Fault Refusal :=
  .next ((s.pass dt).onIsl 6 (inputStuck i.val))

/-- STUCK_RELEASE (R61). -/
def execStuckRelease (i : Fin 32) (dt : Nat) (s : State) : Host.Outcome State Fault Refusal :=
  .next ((s.pass dt).onIsl 6 (stuckRelease i.val))

end Sys2Proof.Machine
end

