-- ==== Sys2Proof/Machine/Inspect.lean ====
section
/-! DEFINITION. The frame record: statistics, expected image, registration, streaks and the report, and the panes
(spec/11_inspection.md, R290 to R301). -/

namespace Sys2Proof.Machine

/-- A frame under evaluation: port, frame, width, LINES, knots, column window, levels, and the planes inspected. -/
structure Eval where
  cam : Nat
  f : CamFrame
  w : Nat
  lines : Nat
  clp : Nat
  knots : List Int
  first : Nat
  last : Nat
  levels : Levels
  planes : List Nat
  deriving DecidableEq, Repr

/-- A setting of the frame's generation (R288): 1 WIN, 2 to 4 LVL, 5 DET, 6 REG, 7 PANE. -/
def Eval.set (e : Eval) (i : Nat) (f : Fld) : Nat := (e.f.set.getD i 0).fld f

/-- The window's pixels. -/
def Eval.inWindow (e : Eval) (x : Nat) : Bool := e.first ≤ x && x ≤ e.last

/-- What a frame of a port is evaluated with. -/
def Dev.evalOf (d : Dev) (n : Nat) (f : CamFrame) : Eval :=
  let win := f.set.getD 1 0
  let lv (i : Nat) (g : Fld) : Int := (f.set.getD i 0).fld g
  { cam := n, f := f, w := d.camPixels n, lines := d.camLines n, clp := d.clp n, knots := d.knots n
    first := win.fld CAM_WIN.COL_FIRST, last := min (d.camPixels n - 1) (win.fld CAM_WIN.COL_LAST)
    levels := ((lv 2 CAM_LVL_R.WHITE, lv 3 CAM_LVL_G.WHITE, lv 4 CAM_LVL_B.WHITE),
      (lv 2 CAM_LVL_R.BLACK, lv 3 CAM_LVL_G.BLACK, lv 4 CAM_LVL_B.BLACK))
    planes := (List.range 8).filter (fun k => (d.get (CAM_CFG n) CAM_CFG.PLANES).testBit k) }

/-- The pixels of a frame by row; FLIP_Y numbers them in the reverse order of arrival (R285). -/
def Dev.frameImg (d : Dev) (n : Nat) (f : CamFrame) : Img :=
  let lines := d.camLines n
  let flip := d.framing n ≠ 0 && d.bit (CAM_CFG n) CAM_CFG.FLIP_Y
  f.lines.foldl (fun (g : Img) l => g.setIfInBounds (if flip then lines - 1 - l.row else l.row) (some l.px.toArray))
    (Array.replicate lines none)

/-- The frame after demosaic (R289). -/
def Dev.frameRgb (d : Dev) (n : Nat) (f : CamFrame) : Rgb :=
  Mosaic.all ⟨d.frameImg n f, d.camPixels n, d.get (CAM_CFG n) CAM_CFG.MOSAIC, if d.framing n = 0 then (f.y0 % 2).toNat else 0⟩

/-! ## The expected image (R292 to R294) -/

/-- w_k × 512 of a colour plane (R292). -/
def Dev.planeWeight (d : Dev) (k : Nat) : Int :=
  let v := d.rdN (INS_RESP k)
  signedOf 8 v + 2 * signedOf 8 (v / 256) + signedOf 8 (v / 65536)

/-- The colour response of a plane. -/
def Dev.planeResp (d : Dev) (k : Nat) : Int × Int × Int :=
  let v := d.rdN (INS_RESP k)
  (signedOf 8 v, signedOf 8 (v / 256), signedOf 8 (v / 65536))

/-- The job lines of a grid line (R283). -/
def gridJobLines (clp y : Nat) : Nat := ((y + 1) * clp + 255) / 256 - (y * clp + 255) / 256

/-- The values fired into a grid line by the planes inspected (R292). -/
def Dev.gridDrops (d : Dev) (e : Eval) (job y : Nat) : Drops :=
  (d.fir.fired.filter (fun x => x.job == job && 256 * x.line / e.clp == y && e.planes.contains (d.colour x.chan))).flatMap
    (fun x => (x.vals.zipIdx).filterMap (fun (p : Nat × Nat) =>
      if p.1 = 0 then none
      else (pixelOf e.knots e.w (d.dotOf x.chan p.2)).map (fun px => (px, d.colour x.chan, p.1))))

/-- The plane dots that map into each pixel. -/
def Eval.dots (e : Eval) : Array Nat :=
  (dotRange e.knots).foldl (fun (a : Array Nat) dot => match pixelOf e.knots e.w dot with
    | some x => a.modify x (· + 1)
    | none => a) (Array.replicate e.w 0)

/-- The classes of a grid line, none outside the job or where the page store returned them uncorrectable (R292, R294). -/
def Dev.expLine (d : Dev) (e : Eval) (ue : List Int) (y : Int) : Option (Array Nat) :=
  match e.f.job with
  | none => none
  | some (job, bits) =>
    if y < 0 || ue.contains y then none
    else
      some (expRow (d.get INS_MEDIUM INS_MEDIUM.D0) ((List.range 8).map (fun k => if e.planes.contains k then d.planeWeight k else 0))
        e.w e.dots (gridJobLines e.clp y.toNat) (2 ^ bits - 1) y.toNat (d.gridDrops e job y.toNat))

/-- A nozzle of an inspected plane in the window: E_lines and E_drops (R293). -/
structure NozExp where
  chan : Nat
  noz : Nat
  dot : Int
  plane : Nat
  lines : Nat
  drops : Nat
  deriving DecidableEq, Repr

/-- A lower-numbered camera's window maps to a plane dot (R297). -/
def Dev.lowerSees (d : Dev) (n : Nat) (dot : Int) : Bool :=
  (List.range n).any (fun k =>
    d.camOn k &&
      (match pixelOf (d.knots k) (d.camPixels k) dot with
        | some x =>
          let win := (d.cam k).set.getD 1 0
          decide (win.fld CAM_WIN.COL_FIRST ≤ x) && decide (x ≤ win.fld CAM_WIN.COL_LAST)
        | none => false))

/-- The nozzles a frame's report is about, with their counts (R293, R297, R298). -/
def Dev.nozzlesSeen (d : Dev) (e : Eval) (job : Nat) : List NozExp :=
  (d.channels.filter (fun c => e.planes.contains (d.colour c))).flatMap (fun c =>
    (List.range (d.nozzles c)).filterMap (fun n =>
      let dot : Int := d.dotOf c n
      match pixelOf e.knots e.w dot with
      | none => none
      | some x =>
        if !e.inWindow x || d.lowerSees e.cam dot then none
        else
          let hits := d.fir.fired.filter (fun v => v.job == job && v.chan == c && v.vals.getD n 0 != 0 &&
            decide (e.f.y0 ≤ 256 * v.line / e.clp) && decide ((256 * v.line / e.clp : Nat) < e.f.y0 + e.lines))
          some ⟨c, n, dot, d.colour c, min 65535 ((hits.map (fun v => 256 * v.line / e.clp)).eraseDups).length,
            min 65535 hits.length⟩))

/-! ## Registration (R295) -/

/-- DX and DY in 1/16, and QUAL. -/
structure Reg where
  dx : Int
  dy : Int
  qual : Nat
  deriving DecidableEq, Repr

/-- The column and row profiles of a frame compared with those of the class centres; a comparison without a result is a
value the spec does not state. QUAL is the lesser of the two correlations (the model's reading). -/
def register (e : Eval) (dark : Array (Option (Array (Option Int)))) (exp : Int → Option (Array Nat)) : Reg :=
  let rows := (List.range e.lines).filter (fun r => (dark.getD r none).isSome && (exp (e.f.y0 + r)).isSome)
  let m (r x : Nat) : Option Int := (dark.getD r none).bind (fun v => v.getD x none)
  let c (r x : Nat) : Int := ((exp (e.f.y0 + r)).getD #[]).getD x 0
  let colM : Profile := ((List.range e.w).map (fun x => profileMean (rows.filterMap (fun r => m r x)))).toArray
  let colE : Profile := ((List.range e.w).map (fun x => profileMean (rows.map (fun r => c r x)))).toArray
  let rowOf_ (g : Nat → Option Int) : Profile :=
    ((List.range e.lines).map (fun r => if rows.contains r then g r else none)).toArray
  let rowM := rowOf_ (fun r => profileMean ((List.range e.w).filterMap (m r)))
  let rowE := rowOf_ (fun r => profileMean ((List.range e.w).map (c r)))
  let free (k : Nat) : Int × Int := ((Config.unstated (10 + k) e.f.num % 16 : Nat), (Config.unstated (12 + k) e.f.num % 2 ^ 20 : Nat))
  let x := (bestShift colM colE (e.set 6 CAM_REG.SEARCH_X)).getD (free 0)
  let y := (bestShift rowM rowE (e.set 6 CAM_REG.SEARCH_Y)).getD (free 1)
  ⟨x.1, y.1, (max 0 (min 1024 (rdiv (1024 * min x.2 y.2) 1048576))).toNat⟩

/-! ## Streaks and the report (R296 to R298) -/

/-- The accumulation over the compared lines, with the shift in force. -/
def accumulate (e : Eval) (rgb : Rgb) (dark : Array (Option (Array (Option Int)))) (exp : Int → Option (Array Nat)) (sx sy : Int) :
    Array ColAcc :=
  let den := darkDen (luma e.levels.1) (luma e.levels.2)
  let col (white black v : Int) : Int := 2 ^ 20 * darkness white black v / darkDen white black
  (List.range e.lines).foldl (fun (a : Array ColAcc) r =>
    match dark.getD r none, rgb.getD r none, exp (e.f.y0 + r - sy) with
    | some ms, some ps, some cs =>
      (List.range e.w).foldl (fun a (x : Nat) =>
        let k := (x : Int) - sx
        if k < 0 || (e.w : Int) ≤ k then a
        else
          match ms.getD x none, ps.getD x none with
          | some m, some p =>
            a.modify x (fun q => q.add den (e.set 5 CAM_DET.DEV_TH) (cs.getD k.toNat 0) m
              (col e.levels.1.1 e.levels.2.1 p.1) (col e.levels.1.2.1 e.levels.2.2.1 p.2.1) (col e.levels.1.2.2 e.levels.2.2.2 p.2.2))
          | _, _ => a) a
    | _, _, _ => a) (Array.replicate e.w {})

/-- A dip with its candidates: kind of deviation, column, expected coordinate in 1/16 pixel, plane dot, nozzles. -/
structure Dip where
  dark : Bool
  x : Nat
  u : Int
  noz : List NozExp
  deriving DecidableEq, Repr

/-- The dips of a frame with the nozzles that may have made them (R296, R297). -/
def Dev.dipsOf (d : Dev) (e : Eval) (cols : Array ColAcc) (dx : Int) (seen : List NozExp) : List Dip :=
  (List.range e.w).flatMap (fun x =>
    [false, true].filterMap (fun dark =>
      if !e.inWindow x || !isDip cols dark x then none
      else
        let u := dipCentre cols dark x - dx
        let dot := dotAt e.knots e.w u
        some ⟨dark, x, u, seen.filter (fun v => v.dot == dot && decide (e.set 5 CAM_DET.MIN_LINES ≤ v.lines) &&
          (if dark then decide (d.planeWeight v.plane < 0) else decide (0 < d.planeWeight v.plane)))⟩))

/-- Dips in order of columns: one with candidates takes an opposite dip within DEV_REACH columns with it (R296). -/
def pairDips (reach : Nat) (all : List Dip) : List Dip → List Dip → List (Dip × Bool)
  | _, [] => []
  | used, p :: t =>
    if used.contains p || p.noz.isEmpty then pairDips reach all used t
    else
      match all.find? (fun o => o.dark != p.dark && !used.contains o && ((o.x : Int) - p.x).natAbs ≤ reach) with
      | some o => (p, true) :: pairDips reach all (o :: p :: used) t
      | none => (p, false) :: pairDips reach all (p :: used) t

/-- A fraction; with a denominator of 0 the spec states no value. -/
def ratioOf (what num den : Nat) : Nat × Nat := if den = 0 then (Config.unstated 14 what % 2, 1) else (num, den)

/-- The share of a plane in a dip (R297, stage 1). -/
def Dev.planeShare (d : Dev) (mosaic : Nat) (cols : Array ColAcc) (p : Dip) (k : Nat) : Nat × Nat :=
  let planes := (p.noz.map (·.plane)).eraseDups
  let drops (k : Nat) : Nat := ((p.noz.filter (fun v => v.plane == k)).map (·.drops)).sum
  let among (ks : List Nat) : Nat × Nat :=
    if ks.contains k then ratioOf k (drops k) (ks.map drops).sum else (0, 1)
  if planes.length ≤ 1 || mosaic = 0 then among planes
  else
    let mean (x : Int) : Int × Int × Int :=
      let q := if x < 0 then {} else cols.getD x.toNat {}
      (q.cR / max 1 q.n, q.cG / max 1 q.n, q.cB / max 1 q.n)
    let a := mean (p.x - 3)
    let b := mean (p.x + 3)
    let m := mean p.x
    let o := ((a.1 + b.1) / 2 - m.1, (a.2.1 + b.2.1) / 2 - m.2.1, (a.2.2 + b.2.2) / 2 - m.2.2)
    let cos (k : Nat) : Int := cosine o (d.planeResp k)
    let good := planes.filter (fun k => 524288 ≤ cos k)
    match good.find? (fun k => planes.all (fun j => j == k || cos j + 65536 ≤ cos k)) with
    | some win => if win = k then (1, 1) else (0, 1)
    | none => among (if good.isEmpty then planes else good)

/-- A hit of the report with its vision pane entry. -/
structure Hit where
  entry : NhEntry
  plane : Nat
  u : Int
  deriving DecidableEq, Repr

/-- The hits of a dip: kind, coverage and share of each candidate (R296, R297, R259). -/
def Dev.hitsOf (d : Dev) (e : Eval) (mosaic : Nat) (cols : Array ColAcc) (lineFirst lineLast : Nat) (p : Dip × Bool) : List Hit :=
  let a := cols.getD p.1.x {}
  let den := darkDen (luma e.levels.1) (luma e.levels.2)
  let kind : Fin 4 := if p.2 then 3 else if deepDip a p.1.dark den (e.set 5 CAM_DET.MISS_TH) then 1 else 2
  p.1.noz.map (fun v =>
    let ps := d.planeShare mosaic cols p.1 v.plane
    let own := ratioOf v.chan v.drops ((p.1.noz.filter (fun z => z.plane == v.plane)).map (·.drops)).sum
    let cov := ratioOf v.noz (min (a.count p.1.dark) v.lines) v.lines
    ⟨⟨Fin.ofNat 64 v.chan, v.noz, kind, cov.1, cov.2, ps.1 * own.1, ps.2 * own.2, lineFirst, lineLast⟩, v.plane, p.1.u⟩)

/-- The 12 bytes of a hit in the vision pane (R298). -/
def Hit.bytes (h : Hit) : List Byte :=
  leBytes 1 h.entry.chan.val ++ leBytes 1 h.entry.kind.val ++ leBytes 2 h.entry.noz ++
    leBytes 2 (rdiv (1024 * h.entry.covNum) h.entry.covDen).toNat ++ leBytes 1 (rdiv (128 * h.entry.shNum) h.entry.shDen).toNat ++
    leBytes 1 h.plane ++ leBytes 4 (unsignedOf 32 h.u)

/-! ## The statistics record (R290) -/

/-- First and last job line of a frame with a job, else all ones (R290). -/
def Eval.jobLines (e : Eval) : Nat × Nat :=
  if e.f.job.isSome then
    ((e.f.y0 * e.clp / 256).toNat, (((e.f.y0 + e.lines) * e.clp - 1) / 256).toNat)
  else (2 ^ 40 - 1, 2 ^ 40 - 1)

/-- The 80-byte record. -/
def Eval.record (e : Eval) (rgb : Rgb) (flags findings : Nat) (r : Reg) : List Byte :=
  let ps := windowPixels rgb e.first e.last
  let stat (what : Nat) (vs : List Int) : List Byte :=
    let s := statOf (16 * e.f.num + what) vs
    leBytes 2 s.1 ++ leBytes 2 s.2.1 ++ leBytes 2 s.2.2.1 ++ leBytes 2 s.2.2.2
  let jl := e.jobLines
  leBytes 4 e.f.num ++ leBytes 2 e.f.gen ++ leBytes 1 e.cam ++ leBytes 1 flags ++ leBytes 4 (timeNs e.f.start) ++
    leBytes 6 (timeSec e.f.start) ++ leBytes 2 e.f.lines.length ++ leBytes 2 (min 65535 e.f.shortLines) ++
    leBytes 2 (min 65535 e.f.longLines) ++ leBytes 2 (min 65535 e.f.missing) ++ leBytes 2 findings ++
    leBytes 2 (unsignedOf 16 r.dx) ++ leBytes 2 (unsignedOf 16 r.dy) ++ leBytes 2 r.qual ++ leBytes 2 0 ++
    leBytes 4 ((e.f.job.map (·.1)).getD 0) ++ leBytes 5 jl.1 ++ leBytes 3 0 ++ leBytes 5 jl.2 ++ leBytes 3 0 ++
    stat 0 (ps.map (·.1)) ++ stat 1 (ps.map (·.2.1)) ++ stat 2 (ps.map (·.2.2))

/-! ## Panes (R299 to R301) -/

/-- The images of a pane that wait; the vision buffer holds 16 frames, the others 2 (R301). -/
def paneRoom (pane : Nat) : Nat := if pane = 2 then 16 else 2

/-- A frame's image joins its pane's buffer, or the buffer is full (R301). -/
def Dev.addPane (d : Dev) (n : Nat) (img : PaneImg) : Dev :=
  let x := d.cam n
  let mine := x.panes.filter (fun p => p.pane == img.pane)
  if mine.length < paneRoom img.pane then d.setCam n { x with panes := x.panes ++ [img] }
  else if img.pane = 2 then
    match mine.find? (fun p => p.sent == 0) with
    | some old => d.setCam n { x with panes := x.panes.erase old ++ [img], gap := (2 :: x.gap).eraseDups }
    | none => d.setCam n { x with gap := (2 :: x.gap).eraseDups }
  else
    (d.count INS_DROP (if img.pane = 1 then hiHalf else loHalf) 1).setCam n { x with gap := (img.pane :: x.gap).eraseDups }

/-- One component of the display pane: the box mean between BLACK and WHITE as a byte, rounded down (R300). -/
def dispByte (white black : Int) (sum : Int) (cells : Nat) : Nat :=
  let den := (white - black) * cells
  if den ≤ 0 then Config.unstated 15 sum.toNat % 256
  else (max 0 (min 255 (255 * (sum - black * cells) / den))).toNat

/-- The display image of a frame: box averages of the window; missing pixels are 0 (R286, R300). -/
def Eval.display (e : Eval) (rgb : Rgb) (colour : Bool) (sx sy : Nat) : List Byte :=
  let w := (e.last + 1 - e.first) / 2 ^ sx
  let h := e.lines / 2 ^ sy
  let at_ (r x : Nat) : Int × Int × Int := (((rgb.getD r none).bind (fun v => v.getD x none)).getD (0, 0, 0))
  (List.range h).flatMap (fun i => (List.range w).flatMap (fun j =>
    let cells := (List.range (2 ^ sy)).flatMap (fun a => (List.range (2 ^ sx)).map (fun b =>
      at_ (i * 2 ^ sy + a) (e.first + j * 2 ^ sx + b)))
    let n := cells.length
    let one (white black : Int) (vs : List Int) : Byte := BitVec.ofNat 8 (dispByte white black vs.sum n)
    if colour then
      [one e.levels.1.1 e.levels.2.1 (cells.map (·.1)), one e.levels.1.2.1 e.levels.2.2.1 (cells.map (·.2.1)),
        one e.levels.1.2.2 e.levels.2.2.2 (cells.map (·.2.2))]
    else [one (luma e.levels.1) (luma e.levels.2) (cells.map luma)]))

/-- The bytes of one window line for the coding pane: raw samples, or RGB as in the display pane (R300). -/
def Eval.codeLine (e : Eval) (img : Img) (rgb : Rgb) (src : Bool) (r : Nat) : List Byte :=
  (List.range (e.last + 1 - e.first)).flatMap (fun k =>
    if src then
      let p := ((rgb.getD r none).bind (fun v => v.getD (e.first + k) none)).getD (0, 0, 0)
      [BitVec.ofNat 8 (dispByte e.levels.1.1 e.levels.2.1 p.1 1), BitVec.ofNat 8 (dispByte e.levels.1.2.1 e.levels.2.2.1 p.2.1 1),
        BitVec.ofNat 8 (dispByte e.levels.1.2.2 e.levels.2.2.2 p.2.2 1)]
    else leBytes 2 ((img.px r (e.first + k)).getD 0))

/-- The engine that the firmware has assigned to the coding pane and that is encoding (R300). -/
def Dev.codingEngine (d : Dev) : Option Nat :=
  [0, 1].find? (fun k => d.bit (CMP_CX_STS k) CMP_CX_STS.ASSIGNED && (d.cxSt k).use == 1 && d.cxState k == 1)

/-- A frame's coding pane: its window goes to the engine, and the engine's blocks are its image (R300). -/
def Dev.codePane (d : Dev) (n : Nat) (e : Eval) (img : Img) (rgb : Rgb) : Dev :=
  match d.codingEngine with
  | none => d
  | some k =>
    let x := d.cxSt k
    let rows := (List.range e.lines).map (e.codeLine img rgb (e.set 7 CAM_PANE.CODE_SRC = 1))
    let lb := (rows.map List.length).headD 0
    let line : Word := BitVec.ofNat 32 (64 * 65536 + lb)
    let own : CxSt := { x with cfg := x.cfg.setFld CMP_CX_CFG.BLOCKED 1, line := line, flushes := [] }
    let d := d.setCx k { x with stream := x.stream ++ rows.flatten }
    let method := x.cfg.fld CMP_CX_CFG.METHOD
    d.addPane n ⟨1, method, e.f.num, e.f.gen, cxOutput own rows.flatten true, 0⟩

/-- A frame's panes (R300): the display pane by DEC, the coding pane, the vision pane. -/
def Dev.formPanes (d : Dev) (n : Nat) (e : Eval) (img : Img) (rgb : Rgb) (rec_ : List Byte) (hits : List Hit) : Dev :=
  let on (f : Fld) : Bool := e.set 7 f == 1
  let d := if on CAM_PANE.VIS_EN then d.addPane n ⟨2, 0, e.f.num, e.f.gen, rec_ ++ hits.flatMap Hit.bytes, 0⟩ else d
  let d := if on CAM_PANE.DISP_EN then
      let x := d.cam n
      let k := if x.dispGen = some e.f.gen then x.dispN else 0
      let d := d.setCam n { x with dispGen := some e.f.gen, dispN := k + 1 }
      if k % (e.set 7 CAM_PANE.DEC + 1) = 0 then
        d.addPane n ⟨0, e.set 7 CAM_PANE.DISP_RGB, e.f.num, e.f.gen,
          e.display rgb (on CAM_PANE.DISP_RGB) (e.set 7 CAM_PANE.SX) (e.set 7 CAM_PANE.SY), 0⟩
      else d
    else d
  if on CAM_PANE.CODE_EN then d.codePane n e img rgb else d

/-! ## FRAME_RECORD and PANE_SEND -/

/-- FRAME_RECORD (R290, R294 to R298, R300): the oldest closed frame; `ue` are the grid lines whose expected data the page
store returned uncorrectable. -/
def frameRecord (n : Nat) (ue : List Int) (d : Dev) : Dev :=
  match (d.cam n).closed with
  | [] => d
  | f :: rest =>
    let e := d.evalOf n f
    let x := d.cam n
    let img := d.frameImg n f
    let rgb := d.frameRgb n f
    let dark := darkRows e.levels rgb
    let noExp := d.scan || d.framing n = 1 || f.job.isNone
    let table := ((List.range (e.lines + 2 * x.sy.natAbs)).map (fun (k : Nat) =>
      d.expLine e ue (f.y0 - x.sy.natAbs + (k : Int)))).toArray
    let exp (y : Int) : Option (Array Nat) :=
      let k := y - (f.y0 - x.sy.natAbs)
      if k < 0 then none else table.getD k.toNat none
    let r := register e dark exp
    let noReg := noExp || decide (r.qual < e.set 6 CAM_REG.Q_MIN) || 16 < (r.dx - 16 * x.sx).natAbs || 16 < (r.dy - 16 * x.sy).natAbs
    let expUe := !noExp && ue.any (fun y => decide (f.y0 ≤ y) && decide (y < f.y0 + e.lines))
    let seen := if noReg then [] else d.nozzlesSeen e ((f.job.map (·.1)).getD 0)
    let cols := if noReg then #[] else accumulate e rgb dark exp x.sx x.sy
    let jl := e.jobLines
    let all := if noReg then [] else d.dipsOf e cols r.dx seen
    let dips := pairDips (e.set 5 CAM_DET.DEV_REACH) all [] all
    let hits := dips.flatMap (d.hitsOf e (d.get (CAM_CFG n) CAM_CFG.MOSAIC) cols jl.1 jl.2)
    let clear := (seen.filter (fun v => decide (e.set 5 CAM_DET.MIN_LINES ≤ v.lines) &&
        !hits.any (fun h => h.entry.chan.val == v.chan && h.entry.noz == v.noz))).map
      (fun v => (⟨Fin.ofNat 64 v.chan, v.noz, 0, 0, 1, 0, 1, jl.1, jl.2⟩ : NhEntry))
    let flag (b : Bool) (k : Nat) : Nat := if b then 2 ^ k else 0
    let flags := flag (decide (f.lines.length < e.lines)) 0 + flag f.long 1 + flag (f.shortLines != 0) 2 + flag (f.longLines != 0) 3 +
      flag f.overrun 4 + flag noReg 5 + flag expUe 6 + flag noExp 7
    let rec_ := e.record rgb flags (min 65535 hits.length) r
    let d := d.modCam n (fun x => { x with
      closed := rest
      sx := if noReg then x.sx else rdiv r.dx 16
      sy := if noReg then x.sy else rdiv r.dy 16 })
    let d := d.each (List.range 20) (fun j d => d.wrN (CAM_STAT n j) (leField rec_ (4 * j) 4))
    let d := (d.put (CAM_GEN n) loHalf f.gen).camEvt n CAM_EVT.FRAME
    let d := (d.when (noReg && !noExp) (·.camEvt n CAM_EVT.NOREG)).when expUe (·.camEvt n CAM_EVT.EXP_UE)
    let d := d.formPanes n e img rgb rec_ hits
    if noReg then d else nhReport (hits.map (·.entry) ++ clear) d

/-- The image whose piece goes next: vision first, then display, then coding, lower ports first (R301). -/
def Dev.nextPane (d : Dev) : Option (Nat × PaneImg) :=
  [2, 0, 1].findSome? (fun pane => [0, 1, 2, 3].findSome? (fun n =>
    ((d.cam n).panes.find? (fun p => p.pane == pane)).map (fun p => (n, p))))

/-- The 16-byte header of a PANE body (R299). -/
def paneHeader (n : Nat) (p : PaneImg) (last gap : Bool) : List Byte :=
  leBytes 1 p.pane ++ leBytes 1 n ++
    leBytes 1 ((if p.sent = 0 then 1 else 0) + (if last then 2 else 0) + (if gap then 4 else 0)) ++
    leBytes 1 p.format ++ leBytes 4 p.frame ++ leBytes 4 p.sent ++ leBytes 2 p.gen ++ leBytes 2 0

/-- PANE_SEND (R299, R301): the next piece goes to VC2 once no older VC2 frame waits for credit, on version 2 or 3. -/
def paneSend (d : Dev) : Dev :=
  if !d.tethUp || d.tethVer < 2 || d.teth.wait.any (fun f => f.vc == 2) then d
  else
    match d.nextPane with
    | none => d
    | some (n, p) =>
      let piece := (p.bytes.drop p.sent).take (d.teth.maxPay - 16)
      let last := p.bytes.length ≤ p.sent + piece.length
      let x := d.cam n
      let d := d.sendFrame 2 0x20 (paneHeader n p last (x.gap.contains p.pane) ++ piece)
      d.setCam n { x with
        gap := x.gap.filter (· != p.pane)
        panes := if last then x.panes.erase p
          else x.panes.map (fun q => if q = p then { p with sent := p.sent + piece.length } else q) }

/-! ## The meanings -/

/-- FRAME_RECORD (R290). -/
def execFrameRecord (n : Fin 4) (ue : List Int) (dt : Nat) (s : State) : Host.Outcome State Fault Refusal :=
  .next ((s.pass dt).onIsl 5 (frameRecord n.val ue))

/-- PANE_SEND (R301). -/
def execPaneSend (dt : Nat) (s : State) : Host.Outcome State Fault Refusal := .next ((s.pass dt).onIsl 5 paneSend)

end Sys2Proof.Machine
end

