-- ==== Sys2Proof/Machine/Pair.lean ====
section
/-! DEFINITION. The pair (spec/16_bridle_pair.md): joining, heartbeat, guard, roles, takeover, position synchronisation, line
records, mirroring, agreed changes and swaps. -/

namespace Sys2Proof.Machine

/-- The chip takes a role; a change of it ends every loop-back (R444, cause 11). -/
def Dev.takeRole (d : Dev) (role sync cause : Nat) : Dev :=
  let changed := d.role != role
  let d := d.setRole role sync cause
  if changed then d.lbEndAll 11 else d

/-! ## The output digest and the JOIN exchange (R398, R399) -/

/-- The output digest (R399). -/
def Dev.digest (d : Dev) : Nat :=
  let w (a : Nat) : List Byte := leBytes 4 (d.rdN a)
  let chan (c : Nat) : List Byte :=
    (List.range 1024).flatMap (fun i => w (WAV_SEG c i)) ++ w (HC_FIR_CFG c) ++ w (HC_FIR_MININT c) ++ w (HC_ALIGN c) ++ w (HC_LVR_CFG c)
  crc32c (d.pwr.geom ++ d.channels.flatMap chan ++ w FIR_CFG ++ w FIR_NH_CFG)

/-- GLB_CAP bits [15:0] (R31). -/
def Dev.capLow (d : Dev) : Nat := d.hcCount + 256 * d.laneCount

/-- GLB_FEAT.BRD_VER (R32). -/
def brdVer : Nat := 1

/-- A JOIN body (R398). -/
def Dev.joinBody (d : Dev) (phase ver reason : Nat) : List Byte :=
  leBytes 1 phase ++ leBytes 1 brdVer ++ leBytes 1 ver ++ leBytes 1 reason ++ leBytes 1 (if d.strap.rank then 1 else 0) ++
    leBytes 1 d.role ++ leBytes 2 d.capLow ++ leBytes 8 Config.uid.toNat ++ leBytes 4 d.digest ++
    leBytes 4 Config.firmwareVersion.toNat ++ leBytes 8 0

/-- The Bridle link is up. -/
def Dev.brdUp (d : Dev) : Bool := d.bl.phase == 3

/-- A JOIN frame leaves. -/
def Dev.sendJoin (d : Dev) (phase ver reason : Nat) : Dev := d.emit (.bridle 0x01 ((d.joinBody phase ver reason).map BitVec.toNat))

/-- JOIN_OFFER_SEND: every 10 µs while the link is up, every 1 s while REFUSED (R398, R399). -/
def joinOfferSend (d : Dev) : Dev :=
  let gap := if d.role = 4 then secTicks 1 else usTicks 10
  if d.brdUp && decide (d.pair.offerAt + gap ≤ d.now) then (d.sendJoin 1 0 0).modPair (fun x => { x with offerAt := d.now }) else d

/-- The peer's fields in a JOIN body are kept (R422). -/
def Dev.peerJoin (d : Dev) (bs : List Byte) : Dev :=
  let d := d.wrN BRD_PEER (1 + 16 * (leField bs 4 1 % 2) + 256 * (leField bs 5 1 % 8) + 65536 * (leField bs 1 1 % 16))
  let d := (d.wrN BRD_PEER_UID_LO (leField bs 8 4)).wrN BRD_PEER_UID_HI (leField bs 12 4)
  (d.wrN BRD_PEER_DIGEST (leField bs 16 4)).drivePins

/-- The reason to refuse a peer, the lowest that applies; 0 for none (R399). -/
def Dev.joinReason (d : Dev) (bs : List Byte) : Nat :=
  lowest
    [(1, leField bs 6 2 != d.capLow), (2, leField bs 4 1 == (if d.strap.rank then 1 else 0)), (3, leField bs 1 1 == 0),
     (4, leField bs 16 4 != d.digest), (5, d.role == 3 && leField bs 5 1 == 3)]

/-- A join is refused (R399): a chip that is not ACTIVE takes the role REFUSED and reports it. -/
def Dev.joinRefused (d : Dev) (reason : Nat) (byPeer : Bool) : Dev :=
  if d.role = 3 || d.role = 0 then d
  else
    let side := if byPeer then 1 else 0
    let d := (d.wrN BRD_JOINREJ (reason + 256 * side)).flag BRD_EVT BRD_EVT.JOIN_REJ
    let d := d.notify 0x0101 [BitVec.ofNat 32 reason, BitVec.ofNat 32 side, d.rd BRD_PEER_UID_LO, d.rd BRD_PEER_UID_HI]
    d.takeRole 4 0 8

/-! ## The guard (R402) -/

/-- The guard is armed, unless a boundary scan has taken the outputs (R402, R449). -/
def Dev.guardArm (d : Dev) : Dev :=
  if d.test.scanned then d
  else
  let d := d.put BRD_STS BRD_STS.GUARD_OK 1
  (d.modPair (fun x => { x with kickAt := d.now, relinquishAt := none, lapseAt := none, needJoin := false })).drivePins

/-- Every strobe is inactive and every waveform at rest (R93, R402). -/
def Dev.forceRest (d : Dev) : Dev :=
  d.each (d.hcs.map (·.1)) (fun c d => d.modHc c (fun x => { x with wave := none, strobes := [] }))

/-- The guard lapses (R402): outputs at rest, PAIR_ACT low, a running job stops with STOP_WHY = 1, GUARD_LAPSE; after any
lapse but RELINQUISH a soft reset follows, and a chip of a pair must join before the guard re-arms. -/
def Dev.guardLapse (d : Dev) (relinquish : Bool) : Dev :=
  if !d.guardOk then d
  else
    let d := (d.put BRD_STS BRD_STS.GUARD_OK 0).flag BRD_EVT BRD_EVT.GUARD_LAPSE
    let d := (d.forceRest.jobStop 1).modPair (fun x =>
      if relinquish then { x with relinquishAt := some d.now } else { x with lapseAt := some d.now, needJoin := d.role != 0 })
    d.drivePins

/-- A write of BRD_KICK: from FIRMWARE only (R402, R422). -/
def kickWrite (q : Req) (d : Dev) : Dev × Status :=
  if q.port.val = 0 then (d.modPair (fun x => { x with kickAt := d.now }), .ok) else (d, .access)

/-- GUARD_KICK_TIMEOUT (R402). -/
def guardKickTimeout (d : Dev) : Dev :=
  if d.guardOk && decide (d.pair.kickAt + usTicks (d.get BRD_GUARD BRD_GUARD.KICK_TMO) ≤ d.now) then d.guardLapse false else d

/-- GUARD_REARM: 1 ms after a RELINQUISH (R402). -/
def guardRearm (d : Dev) : Dev :=
  match d.pair.relinquishAt with
  | some t => if decide (t + msTicks 1 ≤ d.now) && !d.guardOk then d.guardArm else d
  | none => d

/-! ## Joining and catching up (R403, R407, R410, R412, R413) -/

/-- The records a standby offers at a join (R413): CHANNEL and NOZZLE records that are VALID and were plausible. -/
def Dev.goodRids (d : Dev) : List Nat :=
  keelRids.filter (fun r => 0x10 ≤ r && (d.keelNewest r).isSome && !d.cal.implaus.contains r)

/-- A standby starts to catch up: it asks for a snapshot, offering its records at a join, and synchronises position. -/
def Dev.catchUp (d : Dev) (rids : List Nat) (cause : Nat) : Dev :=
  let d := d.modPair (fun x => { x with
    detachAt := none, manual := false, joinLine := none, matched := [], snap := false, syncWait := true, zP := none })
  let d := d.takeRole 2 1 cause
  d.brdSend 0x20 (8 :: rids)

/-- The chip becomes STANDBY (R403, R405). -/
def Dev.becomeStandby (d : Dev) (cause : Nat) : Dev :=
  let d := d.modHost (fun x => { x with foreign := true })
  (d.modPair (fun x => { x with props := [], asked := [], swap := none })).catchUp d.goodRids cause

/-- Steps 1 and 2 of a rejoin are done, and no job runs: IN_SYNC (R410). -/
def Dev.caughtUp (d : Dev) : Dev :=
  if d.standby && d.sync = 1 && d.pair.snap && !d.pair.syncWait && d.pair.joinLine.isNone then d.setSync 2 0 else d

/-- The join succeeds (R398): the version, the guard of a restarted chip, the standby's role. -/
def Dev.joinDone (d : Dev) (ver : Nat) : Dev :=
  let d := d.put BRD_STS BRD_STS.VER ver
  let d := if d.pair.needJoin && !d.guardOk then d.guardArm else d
  if (d.role = 1 || d.role = 4) && d.peerRole = 3 then d.becomeStandby 0
  else if d.role = 4 then (d.modPair (fun x => { x with seekAt := d.now })).takeRole 1 0 0
  else d

/-- Both chips have sent and received a CONFIRM with the same VER, not 0, and REASON 0 (R398). -/
def Dev.joinCheck (d : Dev) : Dev :=
  match d.pair.sentConf, d.pair.gotConf with
  | some (v, 0), some (w, 0) => if v = w && v ≠ 0 && !d.joined then d.joinDone v else d
  | _, _ => d

/-- JOIN_OFFER (R398, R399): once joined, it refreshes what is known of the peer. -/
def joinOffer (bs : List Byte) (d : Dev) : Dev :=
  if !d.brdUp || d.role = 0 then d
  else
    let d := d.peerJoin bs
    let why := if d.joined then 0 else d.joinReason bs
    let ver := if why = 0 then min brdVer (leField bs 1 1) else 0
    let d := (d.sendJoin 2 ver why).modPair (fun x => { x with sentConf := some (ver, why) })
    if why ≠ 0 then d.joinRefused why false else d.joinCheck

/-- JOIN_CONFIRM (R398, R399). -/
def joinConfirm (bs : List Byte) (d : Dev) : Dev :=
  if !d.brdUp || d.role = 0 then d
  else
    let d := (d.peerJoin bs).modPair (fun x => { x with gotConf := some (leField bs 2 1, leField bs 3 1) })
    if leField bs 3 1 ≠ 0 && !d.joined then d.joinRefused (leField bs 3 1) true else d.joinCheck

/-! ## Heartbeat, roles, takeover (R401, R403 to R406) -/

/-- The class of the peer's heartbeat: 0 NONE, 1 STANDBY, 2 ACTIVE. -/
def Dev.hbPeer (d : Dev) : Nat := d.get BRD_STS BRD_STS.HB_PEER

/-- PAIR_HEARTBEAT, with a flag of BRD_EVT as its detail. -/
def Dev.hbEvent (d : Dev) (f : Fld) : Dev := (d.flag BRD_EVT f).notify 0x0105 [BitVec.ofNat 32 (2 ^ f.lo)]

/-- A STATE frame has arrived within the last 20 µs. -/
def Dev.stateRecent (d : Dev) : Bool :=
  match d.pair.rxAt with
  | some t => decide (d.now < t + usTicks 20)
  | none => false

/-- Both chips are ACTIVE (R405): rank 0 stays, rank 1 yields and begins its hold-off. -/
def Dev.dual (d : Dev) : Dev :=
  let d := d.hbEvent BRD_EVT.DUAL
  if !d.strap.rank then d
  else
    let d := (d.put BRD_STS BRD_STS.HOLDOFF 1).modPair (fun x => { x with holdAt := d.now, yielded := true })
    d.becomeStandby 9

/-- The peer's heartbeat takes a class (R401, R405). -/
def Dev.setHb (d : Dev) (k : Nat) : Dev :=
  if d.hbPeer = k then d
  else
    let d := d.put BRD_STS BRD_STS.HB_PEER k
    if k = 0 then
      let d := d.hbEvent BRD_EVT.HB_FAIL
      if d.stateRecent then d.hbEvent BRD_EVT.HB_WIRE else d
    else
      let d := d.modPair (fun x => { x with lost := false })
      if k = 2 && d.role = 3 then d.dual else d

/-- The class of an interval between edges, in ticks (R401). -/
def hbClass (n : Nat) : Nat := if 320 ≤ n && n ≤ 480 then 2 else if 640 ≤ n && n ≤ 960 then 1 else 0

/-- HEARTBEAT_EDGE (R401): two consecutive intervals of one class set it; any other interval sets NONE. -/
def heartbeatEdge (d : Dev) : Dev :=
  match d.pair.hbAt with
  | none => d.modPair (fun x => { x with hbAt := some d.now, hbLast := 0 })
  | some t =>
    let k := hbClass (d.now - t)
    let again := k = d.pair.hbLast
    let d := d.modPair (fun x => { x with hbAt := some d.now, hbLast := k })
    if k = 0 || again then d.setHb k else d

/-- HEARTBEAT_MISS: no edge for MISS µs (R401). -/
def heartbeatMiss (d : Dev) : Dev :=
  match d.pair.hbAt with
  | none => d
  | some t =>
    if t + usTicks (d.get BRD_HB BRD_HB.MISS) ≤ d.now then (d.modPair (fun x => { x with hbAt := none, hbLast := 0 })).setHb 0 else d

/-- The chip claims the ACTIVE role (R403). -/
def Dev.claim (d : Dev) : Dev := d.takeRole 3 0 10

/-- ARB_CLAIM: PAIR_ARB_N has been released for 1 ms without a break (R403). -/
def arbClaim (d : Dev) : Dev :=
  if d.role ≠ 1 || d.hbPeer = 2 || !d.guardOk || d.now < d.pair.seekAt + msTicks 1 || d.bit BRD_STS BRD_STS.HOLDOFF then d
  else if d.strap.rank then (d.put BRD_STS BRD_STS.HOLDOFF 1).modPair (fun x => { x with holdAt := d.now })
  else d.claim

/-- CLAIM_HOLDOFF_END: rank 1 checks again, with PAIR_ARB_N released or not (R403). -/
def claimHoldoffEnd (released : Bool) (d : Dev) : Dev :=
  if d.role ≠ 1 || !d.bit BRD_STS BRD_STS.HOLDOFF || d.now < d.pair.holdAt + usTicks 50 then d
  else
    let d := d.put BRD_STS BRD_STS.HOLDOFF 0
    if released && d.hbPeer ≠ 2 && d.guardOk then d.claim else d

/-- The lines at risk at a takeover: fired here after the last line that the old active recorded as fired (R406). -/
def Dev.riskLines (d : Dev) : Nat :=
  (d.fir.recs.filter (fun r =>
    let last := (d.pair.peerFired.find? (fun p => p.1 == r.chan)).map (·.2)
    r.disp ≤ 1 && (match last with
      | some l => if d.reverse then decide (r.line < l) else decide (l < r.line)
      | none => true))).length

/-- TAKEOVER: PAIR_ARB_N has been released for ARB_FILT µs (R404 to R406). -/
def takeover (d : Dev) : Dev :=
  if !d.standby || d.bit BRD_STS BRD_STS.HOLDOFF || d.hbPeer = 2 || !d.guardOk || (d.pair.yielded && d.stateRecent) then d
  else
    let synced := d.sync = 2
    let risk := d.riskLines
    let top := d.pair.peerFired.foldl (fun m p => max m p.2) 0
    let d := d.modPair (fun x => { x with yielded := false, asked := [], joinLine := none, syncWait := false, swap := none })
    let d := (d.takeRole 3 0 11).flag BRD_EVT BRD_EVT.TAKEOVER
    let d := (d.count BRD_TAKE hiHalf 1).put BRD_TAKE BRD_TAKE.RISK (min 65535 risk)
    let d := d.notify 0x0103 [d.rd BRD_TAKE, BitVec.ofNat 32 top, BitVec.ofNat 32 (top / 2 ^ 32)]
    if synced then d else firStop d

/-- HOLDOFF_END: the hold-off of a chip that yielded (R405). -/
def holdoffEnd (d : Dev) : Dev :=
  if d.standby && d.bit BRD_STS BRD_STS.HOLDOFF && decide (d.pair.holdAt + usTicks 50 ≤ d.now) then d.put BRD_STS BRD_STS.HOLDOFF 0
  else d

/-- PEER_LOST (R405). -/
def peerLost (d : Dev) : Dev :=
  if d.role = 3 && d.hbPeer = 0 && d.pair.rxAt.isSome && !d.stateRecent && !d.pair.lost then
    (d.modPair (fun x => { x with lost := true })).hbEvent BRD_EVT.PEER_LOST
  else d

/-- OWN_HEARTBEAT_SILENT: the driver releases PAIR_ARB_N (R402). -/
def ownHeartbeatSilent (d : Dev) : Dev :=
  if d.pair.arb then (d.modPair (fun x => { x with silent := true })).drivePins else d

/-! ## STATE frames (R397, R405, R412, R414) -/

/-- STATE_SEND: every 5 µs while the link is up. -/
def stateSend (d : Dev) : Dev :=
  if d.brdUp && decide (d.pair.txAt + usTicks 5 ≤ d.now) then
    let d := d.modPair (fun x => { x with txAt := d.now })
    d.emit (.bridle 0x03 ([d.role, d.sync, d.hbPeer, lineAfter (d.headJob.bind (·.front)), d.devTime / 2 ^ 32,
      if d.tethUp then 1 else 0] ++ d.ras.jobs.flatMap d.jobFields))
  else d

/-- The head job starts on the standby with the active's S, and when it is already running there at a line (R408, R410). -/
def Dev.standbyStart (d : Dev) (j : Job) (s : Int) (line : Option Nat) : Dev :=
  if d.headJob.map (·.id) = some j.id then d.startGo { j with resume := line.orElse (fun _ => j.resume) } s else d

/-- The standby's job queue follows the active's (R412). -/
def Dev.followNote (d : Dev) (n : JobNote) : Dev :=
  let d := match d.jobOf n.id with
    | some _ => d.modJob n.id (fun j => { j with last := n.last })
    | none =>
      if n.state.val = 5 || n.state.val = 6 || 16 ≤ d.ras.jobs.length then d
      else
        let j : Job := ⟨n.id, n.bits.val, n.autoarm, n.last, n.mask.toNat, 1, none, none⟩
        { d with ras := { d.ras with jobs := d.ras.jobs ++ [j] } }
  match d.jobOf n.id with
  | none => d
  | some j =>
    let head := d.headJob.map (·.id) = some n.id
    if !head then d
    else if n.state.val = 2 && j.state = 1 then d.armHead
    else if n.state.val = 1 && j.state = 2 then d.disarm
    else if n.state.val = 4 && j.state = 3 then d.jobStop 1
    else d

/-- BRD_STATE: a STATE frame arrives (R397, R405, R412, R414). -/
def brdState (role sync : Nat) (front : Option Nat) (ns : Nat) (tether : Bool) (jobs : List JobNote) (d : Dev) : Dev :=
  if !d.brdUp then d
  else
    let diff : Int := (d.devTime / 2 ^ 32 : Nat) - (ns : Int)
    let d := d.modPair (fun x => { x with
      rxAt := some d.now, peerSync := sync, peerFront := front.getD 0, peerTether := tether, lost := false })
    let d := (d.put BRD_PEER ⟨8, 3⟩ role).wrN BRD_TOFF (unsignedOf 32 (max (-2147483648) (min 2147483647 diff)))
    let d := (d.when (decide (1000 < diff.natAbs)) (·.flag BRD_EVT BRD_EVT.TIMEDIFF)).drivePins
    if d.role = 3 && role = 3 then d.dual
    else if d.role = 1 && d.joined && role = 3 then d.becomeStandby 0
    else if d.standby && role = 3 then jobs.foldl Dev.followNote d
    else d

/-! ## Position and start (R407, R408) -/

/-- P, p and the furthest position shift by a number of sub-lines; R72 does not apply (R407). -/
def Dev.shiftP (d : Dev) (by_ : Int) : Dev :=
  let d := d.anchor
  let fine := by_ * 16777216
  let d := d.each [0, 1, 2, 3] (fun i d => d.setSource i { d.source i with off := (d.source i).off + fine })
  { d with pac := { d.pac with
    p0 := d.pac.p0 + fine, held := d.pac.held + by_, pc := d.pac.pc + fine, hwm := d.pac.hwm + by_, hwmPos := d.pac.hwmPos + fine } }

/-- POSITION_SYNC: the active's P, recorded at the last Z edge, or while both chips are STOPPED (R407). -/
def positionSync (peerP : Int) (d : Dev) : Dev :=
  if !d.standby || !d.joined then d
  else
    match d.pair.zP with
    | some p =>
      let first := d.pair.syncWait
      let d := d.modPair (fun x => { x with zP := none, syncWait := false })
      if first then (d.shiftP (peerP - p)).caughtUp
      else if ((d.source d.pac.use).ratio : Int) < (peerP - p).natAbs * 16777216 then (d.flag BRD_EVT BRD_EVT.POSDIFF).detach 3
      else d.caughtUp
    | none =>
      if d.pair.syncWait && d.pacState = 5 then
        ((d.shiftP (peerP - d.P)).modPair (fun x => { x with syncWait := false })).caughtUp
      else d

/-- SYNC_START: the active has fixed S (R408); a digest that differs detaches (R399). -/
def syncStart (job : Nat) (s : Int) (d : Dev) : Dev :=
  if !d.standby || d.sync = 0 then d
  else if d.digest ≠ d.rdN BRD_PEER_DIGEST then d.detach 5
  else
    match d.jobOf job with
    | none => d
    | some j =>
      if 3 ≤ j.state then d
      else if j.chans.any (fun c => decide (s + 256 * (j.resume.getD 0 : Nat) + d.rowDelay c - d.P < 2048)) then d.detach 4
      else d.standbyStart j s none

/-! ## Line records (R409) -/

/-- The channel line of a record, nearest to the channel's own place, from its 16 bits. -/
def Dev.recLine (d : Dev) (c tag : Nat) : Nat :=
  let near := ((d.hc c).m.orElse (fun _ => (d.hc c).lastFired)).getD 0
  let up := (tag + 65536 - near % 65536) % 65536
  if up < 32768 || near + up < 65536 then near + up else near + up - 65536

/-- One record of the peer. -/
def Dev.peerRecord (d : Dev) (r : PeerRec) : Dev :=
  let c := r.chan.val
  let l := d.recLine c r.tag.val
  let d := d.modPair (fun x => { x with
    recs := x.recs ++ [⟨c, r.disp.val, l, r.crc.val, r.cause.val, d.now⟩]
    peerFired := if r.disp.val ≤ 1 then (c, l) :: x.peerFired.filter (fun p => p.1 != c) else x.peerFired })
  d.compareRecs

/-- LINEREC (R409). -/
def lineRec (rs : List PeerRec) (d : Dev) : Dev := if d.joined then rs.foldl Dev.peerRecord d else d

/-- LINEREC_LAG: an own record without a partner for 50 µs (R409). -/
def lineRecLag (d : Dev) : Dev :=
  let old (r : LineRec) : Bool := decide (r.at_ + usTicks 50 ≤ d.now)
  let lag := d.fir.recs.any old
  let d := { d with fir := { d.fir with recs := d.fir.recs.filter (fun r => !old r) } }
  let d := d.modPair (fun x => { x with recs := x.recs.filter (fun r => !old r) })
  if lag then d.detach 2 else d

/-! ## Rejoining (R410) -/

/-- A detached standby rejoins. -/
def Dev.rejoin (d : Dev) : Dev := if d.standby && d.sync = 0 && d.joined then d.catchUp [] 0 else d

/-- REJOIN_TIMER: 1 ms after a detach not caused by DETACH. -/
def rejoinTimer (d : Dev) : Dev :=
  match d.pair.detachAt with
  | some t => if !d.pair.manual && decide (t + msTicks 1 ≤ d.now) then d.rejoin else d
  | none => d

/-! ## BRD_CMD (R402, R410, R418, R423) -/

/-- A write of BRD_CMD: the first of RELINQUISH, DETACH, REJOIN, SWAP that applies to the role acts. -/
def brdCmdWrite (v : Word) (d : Dev) : Dev :=
  if v.bit 1 && d.guardOk then d.guardLapse true
  else if v.bit 3 && d.standby then
    if d.sync = 0 then d.modPair (fun x => { x with manual := true }) else d.detach 7
  else if v.bit 2 && d.standby then d.rejoin
  else if v.bit 0 && d.activeOfPair then
    d.swapStart 1 (if v.bit 4 then some (d.rdN BRD_SWAP_AT_LO + 2 ^ 32 * (d.rdN BRD_SWAP_AT_HI % 256)) else none)
  else d

/-! ## Mirrored state (R412, R413) -/

/-- The mirrored nozzles of a message: key, the byte of NH_STATE, the three sums, the run of clears. -/
def Dev.takeNozzles (d : Dev) : Nat → List Nat → Dev
  | 0, _ => d
  | k + 1, key :: b :: m :: w :: v :: n :: t =>
    let c := key / 4096
    let z := key % 4096
    let d := d.setNoz c z ⟨0, 8⟩ b
    (d.setNozEv c z ⟨m, w, v, n, (d.nozEv c z).eff⟩).takeNozzles k t
  | _, _ => d

/-- A record of the active comes to the standby (R412, R413): committed to its own Keel, and taken. -/
def Dev.takeRecord (d : Dev) (rid : Nat) (body : List Byte) : Dev :=
  if (keelSlots rid).isNone || d.keelBody rid = some body then d
  else
    let d := d.keelRequest rid body
    let c := rid - 0x10
    if 0x10 ≤ rid && rid < 0x50 && !(bodySets body).any (fun x => (setFault x).isSome) then d.takeSets c body else d

/-- The nozzles whose state differs from 0 or that hold evidence, as the snapshot carries them. -/
def Dev.allNozzles (d : Dev) : List (Nat × Nat) :=
  d.channels.flatMap (fun c => (List.range (d.nozzles c)).filterMap (fun n =>
    if d.noz c n ⟨0, 8⟩ ≠ 0 || d.nozEv c n ≠ {} then some (c, n) else none))

/-- The active sends SYNC and a full snapshot (R407, R412): the last message names F where a job runs. -/
def Dev.snapshot (d : Dev) : Dev :=
  let d := d.brdSend 0x07 [0, d.get PAC_CFG PAC_CFG.SRC]
  let d := d.mirrorNozzles d.allNozzles
  let d := keelRids.foldl (fun d r => match d.keelBody r with
    | some b => if 0x10 ≤ r then d.mirror (2 :: r :: b.map BitVec.toNat) else d
    | none => d) d
  let d := d.ras.jobs.foldl (fun d j => d.mirrorJob j.id) d
  let d := d.mirrorLatch.mirrorTime
  let d := d.host.log.foldl (fun d e =>
    d.mirror (e.2.fields (if e.1 < d.host.logN % 65536 then d.host.logN / 65536 * 65536 + e.1 else d.host.logN / 65536 * 65536 - 65536 + e.1))) d
  d.mirror (if d.jobRunning then [0, d.frontOf] else [0])

/-- The records that the active asks the standby for (R413): those it could not use at its last start. -/
def Dev.wanted (d : Dev) (rids : List Nat) : List Nat :=
  rids.filter (fun r => 0x10 ≤ r && (keelSlots r).isSome && ((d.keelNewest r).isNone || d.cal.implaus.contains r))

/-- A NOZZLE record that came back is in force as an agreed change of KIND 4 (R413); PIN is taken at once. -/
def Dev.restoreNozzles (d : Dev) (b : List Byte) : Dev :=
  let es := (List.range (min 8192 (leField b 0 2))).map (fun i => (leField b (4 + 4 * i) 1, leField b (5 + 4 * i) 1, leField b (6 + 4 * i) 2))
  let ok := es.filter (fun e => d.hasChannel e.1 && e.2.2 < d.nozzles e.1 && e.2.1 % 8 ≤ 5)
  let d := ok.foldl (fun d e => d.setNoz e.1 e.2.2 fPin (e.2.1 / 8 % 2)) d
  let cs := (ok.filter (fun e => d.noz e.1 e.2.2 fState ≠ e.2.1 % 8)).map (fun e => (⟨e.1, e.2.2, e.2.1 % 8, 2, none⟩ : NhChange))
  if d.nh.flight.isSome then { d with nh := { d.nh with wait := d.nh.wait ++ cs } } else d.launch cs

/-- A record's body comes from the standby (R413): checked, committed, posted, and brought into force by agreed changes. -/
def Dev.restoreRecord (d : Dev) (rid : Nat) (b : List Byte) : Dev :=
  let chan := 0x10 ≤ rid && rid < 0x50
  if chan && (b.length ≠ 912 || (bodySets b).any (fun x => (setFault x).isSome)) then d
  else
    let seq := match d.keelNewest rid with
      | some s => (d.slotSeq rid s + 1) % 2 ^ 32
      | none => 1
    let d := (d.keelRequest rid b).notify 0x0107 [BitVec.ofNat 32 rid, BitVec.ofNat 32 seq]
    if chan then
      let c := rid - 0x10
      let d := d.takeSets c b
      let d := ((d.wrN (HC_CAL_SET_NEXT c) (d.get (HC_CAL_TCFG c) HC_CAL_TCFG.START_SET)).wr (HC_CAL_SET_AT_LO c) 0).wr (HC_CAL_SET_AT_HI c) 0
      let d := calSetArm c d
      let d := (d.wr (HC_LVR_BANK_AT_LO c) 0).wr (HC_LVR_BANK_AT_HI c) 0
      bankArm c (d.each (List.range 128) (fun j d => d.wr (WAV_CLASS_NEXT c j) (bodyWord b (400 + 4 * j))))
    else d.restoreNozzles b

/-- The Latch of the active as its standby shows it (R412, R416). -/
def Dev.takeLatch (d : Dev) (held w lease : Nat) : Dev :=
  d.modHost (fun x => { x with
    holder := if held = 0 then none else some ⟨w % 256, w / 256 % 256, w / 65536⟩
    foreign := true, lease := lease, leaseEnd := d.now + msTicks lease, waiting := none })

/-- A snapshot has ended: the maps follow the mirrored states, and the join line is fixed where a job runs (R410). -/
def Dev.snapshotEnd (d : Dev) (front : Option Nat) : Dev :=
  let d := if d.nh.flight.isNone then d.computeMaps else d
  let d := d.modPair (fun x => { x with snap := true })
  match front, d.headJob with
  | some f, some j =>
    let l := f + d.get BRD_LEAD BRD_LEAD.JOIN_LEAD
    let d := d.modPair (fun x => { x with joinLine := some l, matched := [] })
    if j.state = 3 then d.dropBelow j l
    else d.standbyStart j (signedOf 56 (d.rd64 FIR_S_LO FIR_S_HI)) (some l)
  | _, _ => d.caughtUp

/-- A message of a job: its fields, and S kept for a start at a join line. -/
def Dev.takeJob (d : Dev) (f : List Nat) : Dev :=
  let g (i : Nat) : Nat := f.getD i 0
  let note : JobNote := ⟨g 0, Fin.ofNat 4 (g 1), g 2 = 1, g 3, BitVec.ofNat 64 (g 4), Fin.ofNat 8 (g 5),
    if g 6 = 0 then none else some (g 6 - 1), signedOf 56 (g 7)⟩
  let d := if d.jobRunning then d else d.wr64 FIR_S_LO FIR_S_HI (g 7)
  if g 5 = 5 || g 5 = 6 then d else d.followNote note

/-- A MIRROR frame (R412, R413), by its first field: 0 the end of a snapshot, 1 nozzles, 2 a Keel record, 3 a job, 4 the
Latch, 5 the selected domain, 6 an entry of the message log; 8 to 10 restore records to the active. -/
def mirrorFrame (f : List Nat) (d : Dev) : Dev :=
  if !d.joined then d
  else
    let t := f.drop 1
    let bytes (l : List Nat) : List Byte := l.map (BitVec.ofNat 8)
    if d.standby then
      match f.headD 99 with
      | 0 => d.snapshotEnd t.head?
      | 1 => d.takeNozzles t.length t
      | 2 => d.takeRecord (t.headD 0) (bytes (t.drop 1))
      | 3 => d.takeJob t
      | 4 => d.takeLatch (t.getD 0 0) (t.getD 1 0) (t.getD 2 0)
      | 5 => if t.headD 0 = d.selDom then d else timeSwitch d
      | 6 =>
        let k := t.headD 0
        let e : LogEntry := ⟨t.getD 1 0, t.getD 2 0, t.getD 3 0, t.getD 4 0, t.getD 5 0, t.getD 6 0, (t.drop 7).map (BitVec.ofNat 32)⟩
        d.modHost (fun x => { x with log := tput emptyLog x.log (k % 65536) e, logN := max x.logN (k + 1) })
      | 9 => match d.keelBody (t.headD 0) with
        | some b => d.brdSend 0x20 (10 :: t.headD 0 :: b.map BitVec.toNat)
        | none => d
      | _ => d
    else if d.activeOfPair then
      match f.headD 99 with
      | 8 =>
        let want := d.wanted t
        let d := d.modPair (fun x => { x with asking := want })
        if want.isEmpty then d.snapshot else want.foldl (fun d r => d.brdSend 0x20 [9, r]) d
      | 10 =>
        if !d.pair.asking.contains (t.headD 0) then d
        else
          let d := d.modPair (fun x => { x with asking := x.asking.filter (· != t.headD 0) })
          let d := d.restoreRecord (t.headD 0) (bytes (t.drop 1))
          if d.pair.asking.isEmpty then d.snapshot else d
      | _ => d
    else d

/-- BRD_TEMP: the active's temperatures for the evaluation tick (R314). -/
def brdTemp (l : List (Nat × Option Int)) (d : Dev) : Dev := if d.standby then d.modCal (fun x => { x with temps := l }) else d

/-- BRD_SWITCH (R414). -/
def brdSwitch (dom : Nat) (d : Dev) : Dev := if d.standby && d.selDom ≠ dom then timeSwitch d else d

/-! ## Agreed changes (R415) -/

/-- U + GUARD: the nearest line that a chip can still meet on some channels. -/
def Dev.meetable (d : Dev) (mask : Nat) : Nat := d.unreleased mask + d.get BRD_LEAD BRD_LEAD.GUARD

/-- PROPOSE: the standby answers with its line. -/
def proposed (id kind mask line : Nat) (payload : List Nat) (d : Dev) : Dev :=
  if !d.standby || !d.joined then d
  else
    let named := ((d.pair.asked.find? (fun p => p.id == id)).map (·.named)).getD line
    let d := d.modPair (fun x => { x with
      asked := x.asked.filter (fun p => p.id != id) ++ [⟨id, kind, mask, named, line, 1, d.now, payload⟩] })
    d.brdSend 0x05 [id, max line (d.meetable mask)]

/-- A line in a _LO, _HI pair of registers, whose _HI holds 8 bits of it. -/
def Dev.putLine (d : Dev) (lo hi l : Nat) : Dev := (d.wrN lo (l % 2 ^ 32)).put hi ⟨0, 8⟩ (l / 2 ^ 32)

/-- Do something on each channel of a mask. -/
def Dev.onMask (d : Dev) (mask : Nat) (f : Nat → Dev → Dev) : Dev := d.each ((List.range 64).filter (fun c => mask.testBit c)) f

/-- A channel whose island was reset takes up firing at a line (R24): its timing is latched afresh, and what lies below the line
is dropped as a RESUME drops it. -/
def Dev.restartChannel (d : Dev) (c l : Nat) : Dev :=
  match d.headJob with
  | none => d
  | some j =>
    let d := d.modHc c (fun x => { x with
      restart := none
      blks := x.blks.map (fun (b : Nat × Blk) =>
        if b.1 / 2 ^ 34 = j.id && keyLine b.1 + 64 ≤ l then (b.1, { b.2 with st := .voided }) else b) })
    (d.latch c).startChannel j.bits l c

/-- The restart line of a channel is agreed (R415). -/
def Dev.restartAt (d : Dev) (c l : Nat) : Dev := if (d.hc c).restart.isSome then d.restartChannel c l else d

/-- The change takes its agreed line; LATE where that is later than the line it named. -/
def Dev.agreeLine (d : Dev) (p : PairProp) (l : Nat) : Dev :=
  let late := decide (p.named < l)
  match p.kind with
  | 1 => d.onMask p.mask (fun c d => (d.putLine (HC_ROWDLY_AT_LO c) (HC_ROWDLY_AT_HI c) l).when
      (late && d.bit (HC_GEOM_STS c) HC_GEOM_STS.PENDING) (·.flag (HC_GEOM_STS c) HC_GEOM_STS.LATE))
  | 2 => d.onMask p.mask (fun c d => (d.putLine (HC_LVR_BANK_AT_LO c) (HC_LVR_BANK_AT_HI c) l).when
      (late && d.bit (HC_LVR_STS c) HC_LVR_STS.PENDING && d.pacBusy) (·.flag (HC_LVR_EVT c) HC_LVR_EVT.BANK_LATE))
  | 3 => d.onMask p.mask (fun c d => (d.putLine (HC_CAL_SET_AT_LO c) (HC_CAL_SET_AT_HI c) l).when
      (late && d.bit (HC_CAL_STS c) HC_CAL_STS.PENDING) (·.flag (HC_CAL_STS c) HC_CAL_STS.LATE))
  | 4 =>
    let d : Dev := { d with nh := { d.nh with flight := d.nh.flight.map (fun u => { u with leff := l }) } }
    match d.nh.flight with
    | some u => u.changes.foldl (fun d x => d.setNozEv x.chan x.noz { d.nozEv x.chan x.noz with eff := some l }) d
    | none => d
  | 5 => d.onMask p.mask (fun c d => d.restartAt c l)
  | 6 =>
    match d.jobOf (p.payload.headD 0) with
    | some j => (d.modJob j.id (fun j => { j with resume := some l })).dropBelow j l
    | none => d
  | 7 => d.modPair (fun x => { x with swap := x.swap.map (fun y => (l, y.2)) })
  | _ => d

/-- An agreed change is settled on the active. -/
def Dev.propDone (d : Dev) (id : Nat) : Dev := d.modPair (fun x => { x with props := x.props.filter (fun p => p.id != id) })

/-- The active applies a change alone at L_p (R415); a swap is refused. -/
def Dev.applyAlone (d : Dev) (p : PairProp) : Dev :=
  let d := (d.propDone p.id).flag BRD_EVT BRD_EVT.AGREE_TMO
  if p.kind = 7 then (d.modPair (fun x => { x with swap := none })).flag BRD_EVT BRD_EVT.SWAP_REJ else d.agreeLine p p.line

/-- AGREE (R415): COMMIT at L_a, or another proposal, up to three. -/
def agreed (id la : Nat) (d : Dev) : Dev :=
  match d.pair.props.find? (fun p => p.id == id) with
  | none => d
  | some p =>
    if !d.activeOfPair then d
    else if d.unreleased p.mask ≤ la then ((d.propDone id).brdSend 0x06 [id, la]).agreeLine p la
    else if 3 ≤ p.tries then d.applyAlone p
    else
      let l := d.meetable p.mask
      let d := d.modPair (fun x => { x with
        props := x.props.map (fun y => if y.id = id then { y with line := l, tries := y.tries + 1, at_ := d.now } else y) })
      d.brdSend 0x04 ([id, p.kind, p.mask, l] ++ p.payload)

/-- The changes in the payload of a nozzle health update. -/
def payloadChanges : Nat → List Nat → List NhChange
  | 0, _ => []
  | k + 1, c :: n :: st :: src :: at_ :: t => ⟨c, n, st, src, if at_ = 0 then none else some at_⟩ :: payloadChanges k t
  | _, _ => []

/-- The standby arms an agreed change at L_eff (R415). -/
def Dev.armAgreed (d : Dev) (p : PairProp) (l : Nat) : Dev :=
  let word (i : Nat) : Word := BitVec.ofNat 32 (p.payload.getD i 0)
  match p.kind with
  | 1 => d.onMask p.mask (fun c d => rowdlyArm c ((d.wr (HC_ROWDLY_NEXT c) (word 0)).putLine (HC_ROWDLY_AT_LO c) (HC_ROWDLY_AT_HI c) l))
  | 2 => d.onMask p.mask (fun c d =>
      let d := ((d.wr (WAV_SEL_NEXT c) (word 0)).wr (WAV_GREY_NEXT0 c) (word 1)).wr (WAV_GREY_NEXT1 c) (word 2)
      let d := d.each (List.range 128) (fun j d => d.wr (WAV_CLASS_NEXT c j) (word (3 + j)))
      bankArm c (d.putLine (HC_LVR_BANK_AT_LO c) (HC_LVR_BANK_AT_HI c) l))
  | 3 => d.onMask p.mask (fun c d => calSetArm c ((d.wr (HC_CAL_SET_NEXT c) (word 0)).putLine (HC_CAL_SET_AT_LO c) (HC_CAL_SET_AT_HI c) l))
  | 4 => d.launchAt (payloadChanges p.payload.length p.payload) l
  | 6 =>
    match d.jobOf (p.payload.headD 0) with
    | some j => if j.state = 4 then d.resumeJob j l else d
    | none => d
  | 7 => d.modPair (fun x => { x with swap := some (l, p.payload.headD 0) })
  | _ => d

/-- The standby's side of an agreed change has failed (R415). -/
def Dev.agreeFailed (d : Dev) : Dev := (d.flag BRD_EVT BRD_EVT.AGREE_TMO).detach 6

/-- BRD_COMMIT (R415). -/
def brdCommit (id l : Nat) (d : Dev) : Dev :=
  match d.pair.asked.find? (fun p => p.id == id) with
  | none => d
  | some p =>
    if !d.standby then d
    else
      let d := d.modPair (fun x => { x with asked := x.asked.filter (fun p => p.id != id) })
      if l < d.unreleased p.mask then d.agreeFailed else (d.armAgreed p l).agreeLine p l

/-- AGREE_TIMEOUT: 100 µs without an answer (R415). -/
def agreeTimeout (d : Dev) : Dev :=
  let old (p : PairProp) : Bool := decide (p.at_ + usTicks 100 ≤ d.now)
  if d.activeOfPair then (d.pair.props.filter old).foldl Dev.applyAlone d
  else if d.standby && d.pair.asked.any old then
    (d.modPair (fun x => { x with asked := x.asked.filter (fun p => !old p) })).agreeFailed
  else d

/-! ## Swaps (R417, R418) -/

/-- TETHER_LOSS_SWAP (R418). -/
def tetherLossSwap (d : Dev) : Dev :=
  if d.activeOfPair && d.bit BRD_CFG BRD_CFG.AUTO_SWAP && !d.tethUp && decide (d.teth.downAt + msTicks 1 ≤ d.now) && d.pair.peerTether
  then d.swapStart 3 none else d

/-- The swap line has come: in web mode P is at it, in scan mode a pass is over; at once with no job running (R417). -/
def Dev.swapDue (d : Dev) (l : Nat) : Bool :=
  !d.jobRunning || (if d.scan then !d.passActive else decide (d.fir.s + 256 * (l : Int) ≤ d.P))

/-- SWAP_EXECUTE (R417). -/
def swapExecute (d : Dev) : Dev :=
  match d.pair.swap with
  | none => d
  | some (l, cause) =>
    if !d.swapDue l || d.pair.props.any (fun p => p.kind == 7) then d
    else if d.activeOfPair then
      if d.pair.peerSync ≠ 2 then (d.modPair (fun x => { x with swap := none })).flag BRD_EVT BRD_EVT.SWAP_REJ
      else
        let d := (d.modPair (fun x => { x with swap := none, swapHold := some d.now, props := [] })).modHost (fun x => { x with foreign := true })
        ((d.takeRole 2 2 12).flag BRD_EVT BRD_EVT.SWAPPED).notify 0x0104 [BitVec.ofNat 32 l, BitVec.ofNat 32 (l / 2 ^ 32), BitVec.ofNat 32 cause]
    else if d.standby then
      let d := d.modPair (fun x => { x with swap := none, asked := [] })
      ((d.takeRole 3 0 12).flag BRD_EVT BRD_EVT.SWAPPED).notify 0x0104 [BitVec.ofNat 32 l, BitVec.ofNat 32 (l / 2 ^ 32), BitVec.ofNat 32 cause]
    else d

/-- SWAP_HOLD_END: 10 µs after a swap the former active releases PAIR_ARB_N (R417). -/
def swapHoldEnd (d : Dev) : Dev :=
  match d.pair.swapHold with
  | some t => if t + usTicks 10 ≤ d.now then (d.modPair (fun x => { x with swapHold := none })).drivePins else d
  | none => d

/-! ## The meanings -/

/-- JOIN_OFFER_SEND (R398). -/
def execJoinOfferSend (dt : Nat) (s : State) : Host.Outcome State Fault Refusal := .next ((s.pass dt).onDev joinOfferSend)

/-- JOIN_OFFER: the 32-byte body (R398). -/
def execJoinOffer (bs : List Byte) (dt : Nat) (s : State) : Host.Outcome State Fault Refusal := .next ((s.pass dt).onDev (joinOffer bs))

/-- JOIN_CONFIRM: the 32-byte body (R398). -/
def execJoinConfirm (bs : List Byte) (dt : Nat) (s : State) : Host.Outcome State Fault Refusal :=
  .next ((s.pass dt).onDev (joinConfirm bs))

/-- HEARTBEAT_EDGE (R401). -/
def execHeartbeatEdge (dt : Nat) (s : State) : Host.Outcome State Fault Refusal := .next ((s.pass dt).onIsl 7 heartbeatEdge)

/-- HEARTBEAT_MISS (R401). -/
def execHeartbeatMiss (dt : Nat) (s : State) : Host.Outcome State Fault Refusal := .next ((s.pass dt).onIsl 7 heartbeatMiss)

/-- GUARD_KICK (R402). -/
def execGuardKick (q : Req) (v : Word) (s : State) : Host.Outcome State Fault Refusal :=
  .next (s.statusCommand q BRD_KICK v (fun _ => kickWrite q))

/-- GUARD_KICK_TIMEOUT (R402). -/
def execGuardKickTimeout (dt : Nat) (s : State) : Host.Outcome State Fault Refusal := .next ((s.pass dt).onDev guardKickTimeout)

/-- LOCKSTEP_MISMATCH (R402). -/
def execLockstepMismatch (dt : Nat) (s : State) : Host.Outcome State Fault Refusal := .next ((s.pass dt).onDev (·.guardLapse false))

/-- REFCLK_LOSS (R402). -/
def execRefclkLoss (dt : Nat) (s : State) : Host.Outcome State Fault Refusal := .next ((s.pass dt).onDev (·.guardLapse false))

/-- RELINQUISH (R402). -/
def execRelinquish (q : Req) (s : State) : Host.Outcome State Fault Refusal := .next (s.devCommand q BRD_CMD 2 brdCmdWrite)

/-- GUARD_REARM (R402). -/
def execGuardRearm (dt : Nat) (s : State) : Host.Outcome State Fault Refusal := .next ((s.pass dt).onDev guardRearm)

/-- ARB_CLAIM (R403). -/
def execArbClaim (dt : Nat) (s : State) : Host.Outcome State Fault Refusal := .next ((s.pass dt).onDev arbClaim)

/-- CLAIM_HOLDOFF_END (R403). -/
def execClaimHoldoffEnd (released : Bool) (dt : Nat) (s : State) : Host.Outcome State Fault Refusal :=
  .next ((s.pass dt).onDev (claimHoldoffEnd released))

/-- TAKEOVER (R404). -/
def execTakeover (dt : Nat) (s : State) : Host.Outcome State Fault Refusal := .next ((s.pass dt).onDev takeover)

/-- HOLDOFF_END (R405). -/
def execHoldoffEnd (dt : Nat) (s : State) : Host.Outcome State Fault Refusal := .next ((s.pass dt).onDev holdoffEnd)

/-- PEER_LOST (R405). -/
def execPeerLost (dt : Nat) (s : State) : Host.Outcome State Fault Refusal := .next ((s.pass dt).onDev peerLost)

/-- STATE_SEND (R397). -/
def execStateSend (dt : Nat) (s : State) : Host.Outcome State Fault Refusal := .next ((s.pass dt).onDev stateSend)

/-- BRD_STATE: role, sync state, F, device time in ns, its Tether link up, its open jobs (R397). -/
def execBrdState (role : Fin 5) (sync : Fin 3) (front : Option Nat) (ns : Nat) (tether : Bool) (jobs : List JobNote) (dt : Nat)
    (s : State) : Host.Outcome State Fault Refusal :=
  .next ((s.pass dt).onDev (brdState role.val sync.val front ns tether jobs))

/-- POSITION_SYNC (R407). -/
def execPositionSync (peerP : Int) (dt : Nat) (s : State) : Host.Outcome State Fault Refusal :=
  .next ((s.pass dt).onDev (positionSync peerP))

/-- SYNC_START (R408). -/
def execSyncStart (job : Word) (start : Int) (dt : Nat) (s : State) : Host.Outcome State Fault Refusal :=
  .next ((s.pass dt).onDev (syncStart job.toNat start))

/-- LINEREC (R409). -/
def execLinerec (rs : List PeerRec) (dt : Nat) (s : State) : Host.Outcome State Fault Refusal := .next ((s.pass dt).onDev (lineRec rs))

/-- LINEREC_LAG (R409). -/
def execLinerecLag (dt : Nat) (s : State) : Host.Outcome State Fault Refusal := .next ((s.pass dt).onDev lineRecLag)

/-- BRD_DETACH (R410). -/
def execBrdDetach (q : Req) (s : State) : Host.Outcome State Fault Refusal := .next (s.devCommand q BRD_CMD 8 brdCmdWrite)

/-- BRD_REJOIN (R410). -/
def execBrdRejoin (q : Req) (s : State) : Host.Outcome State Fault Refusal := .next (s.devCommand q BRD_CMD 4 brdCmdWrite)

/-- REJOIN_TIMER (R410). -/
def execRejoinTimer (dt : Nat) (s : State) : Host.Outcome State Fault Refusal := .next ((s.pass dt).onDev rejoinTimer)

/-- MIRROR (R412). -/
def execMirror (f : List Nat) (dt : Nat) (s : State) : Host.Outcome State Fault Refusal := .next ((s.pass dt).onDev (mirrorFrame f))

/-- BRD_TEMP: temperatures in 1/16 °C by channel, none where the source is faulty (R314). -/
def execBrdTemp (l : List (Nat × Option Int)) (dt : Nat) (s : State) : Host.Outcome State Fault Refusal :=
  .next ((s.pass dt).onDev (brdTemp l))

/-- BRD_SWITCH (R414). -/
def execBrdSwitch (dom : Fin 2) (dt : Nat) (s : State) : Host.Outcome State Fault Refusal :=
  .next ((s.pass dt).onDev (brdSwitch dom.val))

/-- PROPOSE (R415). -/
def execPropose (id : Fin 65536) (kind : Fin 256) (mask : BitVec 64) (line : BitVec 40) (payload : List Nat) (dt : Nat) (s : State) :
    Host.Outcome State Fault Refusal :=
  .next ((s.pass dt).onDev (proposed id.val kind.val mask.toNat line.toNat payload))

/-- AGREE (R415). -/
def execAgree (id : Fin 65536) (line : BitVec 40) (dt : Nat) (s : State) : Host.Outcome State Fault Refusal :=
  .next ((s.pass dt).onDev (agreed id.val line.toNat))

/-- BRD_COMMIT (R415). -/
def execBrdCommit (id : Fin 65536) (line : BitVec 40) (dt : Nat) (s : State) : Host.Outcome State Fault Refusal :=
  .next ((s.pass dt).onDev (brdCommit id.val line.toNat))

/-- AGREE_TIMEOUT (R415). -/
def execAgreeTimeout (dt : Nat) (s : State) : Host.Outcome State Fault Refusal := .next ((s.pass dt).onDev agreeTimeout)

/-- BRD_SWAP, with AT_EN or without (R418). -/
def execBrdSwap (q : Req) (atEn : Bool) (s : State) : Host.Outcome State Fault Refusal :=
  .next (s.devCommand q BRD_CMD (if atEn then 17 else 1) brdCmdWrite)

/-- TETHER_LOSS_SWAP (R418). -/
def execTetherLossSwap (dt : Nat) (s : State) : Host.Outcome State Fault Refusal := .next ((s.pass dt).onDev tetherLossSwap)

/-- SWAP_EXECUTE (R417). -/
def execSwapExecute (dt : Nat) (s : State) : Host.Outcome State Fault Refusal := .next ((s.pass dt).onDev swapExecute)

/-- SWAP_HOLD_END (R417). -/
def execSwapHoldEnd (dt : Nat) (s : State) : Host.Outcome State Fault Refusal := .next ((s.pass dt).onDev swapHoldEnd)

/-- OWN_HEARTBEAT_SILENT (R402). -/
def execOwnHeartbeatSilent (dt : Nat) (s : State) : Host.Outcome State Fault Refusal := .next ((s.pass dt).onDev ownHeartbeatSilent)

end Sys2Proof.Machine
end

