-- ==== Sys2Proof/Machine/Islands.lean ====
section
/-! DEFINITION. Islands (spec/01_architecture.md, R16, R18, R22 to R26, R34; R441): crossing watchdogs and isolation, gating,
reset, and a channel's restart; and the two ends of a training that can isolate a memory channel (R222, R226). -/

namespace Sys2Proof.Machine

/-- An island code that exists and can be gated, reset or isolated (R12). -/
def islExists (code : Nat) : Bool := (1 ≤ code && code ≤ 7) || (0x40 ≤ code && code ≤ 0x7F)

/-- The island that a loop-back slot uses (R442). -/
def Dev.lbIsland (d : Dev) (k : Nat) : Nat :=
  let i := d.lbInst k
  match d.lbIf k with
  | 1 => 1
  | 2 => 0x40 + i
  | 3 => 5
  | 4 => 3 + i
  | 5 => 0x40 + i / 2
  | _ => 7

/-- The island of a March test's group (R446). -/
def bistIsland (g : Nat) : Nat := if g < 64 then 0x40 + g else if g = 64 then 2 else if g = 65 then 5 else if g = 66 then 1 else 0

/-- The loop-backs of an island end, and a March test there is aborted (R444, R446, cause 11). -/
def Dev.lbIslandEnd (d : Dev) (code : Nat) : Dev :=
  let d := d.each [0, 1, 2, 3] (fun k d => if d.lbIsland k = code then d.lbEnd k 11 else d)
  if d.test.bistRun.map bistIsland = some code then d.bistEnd 4 else d

/-- What stops when an island stops (R23, R167, R119, R444): its links go down, a channel's outputs are at rest. -/
def Dev.islandStops (d : Dev) (code : Nat) : Dev :=
  let d := d.lbIslandEnd code
  if code = 1 then d.linkIsolated false
  else if code = 7 then ((d.linkIsolated true).ethDown 0).ethDown 1
  else if 0x40 ≤ code then
    let c := code - 0x40
    let d := d.modHc c (fun x => { x with wave := none, strobes := [] })
    if d.get (HC_LVR_STS c) HC_LVR_STS.STATE = 0 then d else d.lvrDown c
  else d

/-- The guard lapses when the fabric, time or Tether island is isolated, or a memory island in use (R402). -/
def Dev.guardIsland (d : Dev) (code : Nat) : Bool :=
  code == 1 || code == 2 || code == 6 || ((code == 3 || code == 4) && d.bit (MEM_CFG (code - 3)) MEM_CFG.PRESENT)

/-- What an isolation does beside its marks (R22, R23, R25, R402). -/
def Dev.isolated (d : Dev) (code : Nat) : Dev :=
  let d := d.islandStops code
  let d := if code = 3 || code = 4 then d.memoryLost else d
  if d.guardIsland code then d.guardLapse false else d

/-- The island is isolated already. -/
def Dev.isIsolated (d : Dev) (code : Nat) : Bool := d.bit (PWR_ISL code) PWR_ISL.ISOLATED

/-- CROSSING_TIMEOUT: the crossings, as source and destination islands, whose watchdogs expire in one management cycle (R16,
R22, R26). -/
def crossingTimeout (xs : List (Nat × Nat)) (d : Dev) : Dev :=
  let xs := xs.filter (fun x => islExists x.2 && !d.isIsolated x.2 && !d.bit (PWR_ISL x.2) PWR_ISL.GATED)
  let codes := (xs.map (·.2)).eraseDups
  match codes with
  | [] => d
  | c :: t =>
    let low := t.foldl min c
    let src (code : Nat) : Nat := ((xs.find? (fun x => x.2 == code)).map (·.1)).getD 0
    let d := codes.foldl (fun d code => d.isolateMark code (src code)) d
    let d := d.faultLast low (src low) codes.length
    codes.foldl Dev.isolated d

/-- FAULT_FLAG_RESET: the flags of the islands still isolated set again (R34). -/
def faultFlagReset (d : Dev) : Dev := d.each islandCodes (fun c d => if d.isIsolated c then d.setFaultBit c else d)

/-! ## Gate and reset (R18, R24, R441) -/

/-- A write of PWR_ISLc (R441): RESET before GATE; to an island that a power state has gated it waits for Hover. -/
def islWrite (code : Nat) (v : Word) (d : Dev) : Dev :=
  if !islExists code || (0x40 ≤ code && d.hcCount ≤ code - 0x40) then d
  else
    let st := d.get PWR_STS PWR_STS.STATE
    let asleep := 3 ≤ st && st ≤ 6 && d.bit (PWR_ISL code) PWR_ISL.GATED && !d.bit (PWR_ISL code) PWR_ISL.GATE
    if asleep then { d with pwr := { d.pwr with heldIsl := d.pwr.heldIsl ++ [(code, v)] } }
    else
      let d := d.typedWrite (PWR_ISL code) v
      let ask (k : Nat) (d : Dev) : Dev := { d with islReq := d.islReq.filter (fun r => r.1 != code) ++ [(code, k)] }
      if v.bit 1 then ask 2 d
      else if v.bit 0 then (if d.bit (PWR_ISL code) PWR_ISL.GATED then d else ask 1 d)
      else if d.bit (PWR_ISL code) PWR_ISL.GATED then d.islGate code false
      else { d with islReq := d.islReq.filter (fun r => r.1 != code || r.2 != 1) }

/-- Registers that an island's reset leaves as the Kite image set them: the geometry, the memory block, SCAN (R53, R208). -/
def loadedReg (a : Nat) : Bool :=
  (0x100000 ≤ a && a < 0x200000 && (a - 0x100000) % 0x4000 < 0x1C) || a == MEM_CFG 0 || a == MEM_CFG 1 || a == FIR_CFG ||
    a == CMP_STORE_EXT || a == CMP_STORE_NEED || a == BRD_STS

/-- A register lies in an island. -/
def inIsland (code a : Nat) : Bool :=
  match regionOf a with
  | .none_ => false
  | .island k => k == code
  | .channel c => 0x40 + c == code

/-- An island's registers at its reset: settings are put back from the firmware's copy, what the hardware set is at its reset
value; INH_NOW still shows the pin (R93). -/
def Dev.resetRegs (d : Dev) (code : Nat) : Dev :=
  let as := ((d.regs.map (·.1)).filter (fun a => inIsland code a && !loadedReg a))
  let e := as.foldl (fun d a =>
    let rw := (regMasks a).1
    d.wrN a ((d.rdN a &&& rw) ||| ((regReset a).toNat &&& (0xFFFFFFFF ^^^ rw)))) d
  e.when (d.bit FIR_STS FIR_STS.INH_NOW) (·.put FIR_STS FIR_STS.INH_NOW 1)

/-- The store without the bytes of one channel: its devices are trained anew and hold nothing valid (R215). -/
def clearStore (d : Dev) (n : Nat) (m : Store) : Store :=
  ⟨m.cells.filter (fun x => (d.memMap x.1).1 != n), m.bad.filter (fun x => (d.memMap (x.1 * 128)).1 != n)⟩

/-- The nozzle states of one channel come from the NOZZLE record in force, and its map is computed (R256, R265). -/
def Dev.reloadChannel (d : Dev) (c : Nat) : Dev :=
  let d := d.loadChannel c
  let d := match d.keelBody 0x60 with
    | none => d
    | some b => (List.range (min 8192 (leField b 0 2))).foldl (fun d i =>
        let s := leField b (5 + 4 * i) 1
        let n := leField b (6 + 4 * i) 2
        if leField b (4 + 4 * i) 1 = c && n < d.nozzles c && s % 8 ≤ 5 then (d.setNoz c n fState (s % 8)).setNoz c n fPin (s / 8 % 2) else d) d
  d.computeMap false (fun c n => d.noz c n fState) c

/-- What the units of an island hold, at its reset (R12, R24). -/
def Dev.resetUnits (d : Dev) (code : Nat) : Dev :=
  if code = 1 then { d with teth := { downAt := d.now } }
  else if code = 2 then
    let d := (d.jobStop 1).clearChannels
    ({ d with ras := {}, cx := [], hcs := d.hcs.map (fun (h : Nat × HcSt) => (h.1, { h.2 with blks := [], run := none, ended := [] })) }).put
      FIR_STS FIR_STS.JOB 0
  else if code = 3 || code = 4 then
    let n := code - 3
    let d : Dev := { d.memoryLost with dch := tput (fun _ => {}) d.dch n {} }
    if d.bit (MEM_CFG n) MEM_CFG.PRESENT then d.startTraining n .initial (d.get (MEM_CFG n) MEM_CFG.BIN_MAX) 1 else d
  else if code = 5 then { d with cams := [] }
  else if code = 6 then
    let d := d.jobStop 1
    let d := { d with pac := {}, src := [], trg := [], cap := [], time := {}, fir := {} }
    d.each (List.range 32) (fun i d => d.inputReset i)
  else if code = 7 then
    let d := (d.put BRD_STS BRD_STS.LINK 0).put BRD_STS BRD_STS.HB_PEER 0
    ({ d with bl := { downAt := d.now }, txq := [] }).modPair (fun x => { x with hbAt := none, hbLast := 0 })
  else
    let c := code - 0x40
    ({ d with hcs := tput (fun _ => {}) d.hcs c {} }).reloadChannel c

/-- The reset of an island (R24): it ends an isolation; the island stays gated where GATE is 1 (R441). -/
def State.islandReset (s : State) (code : Nat) : State :=
  let d := (s.dev.islandStops code)
  let m := if code = 3 || code = 4 then clearStore d (code - 3) s.mem else s.mem
  let d := (d.resetRegs code).resetUnits code
  let d := (d.put (PWR_ISL code) PWR_ISL.ISOLATED 0).put (PWR_ISL code) PWR_ISL.GATED 0
  let gate := d.bit (PWR_ISL code) PWR_ISL.GATE
  let d := (d.put (PWR_ISL code) PWR_ISL.GATED (if gate then 1 else 0)).put (PWR_ISL code) PWR_ISL.RUNNING (if gate then 0 else 1)
  { s with dev := d, mem := m }

/-- ISLAND_GATE_COMPLETE: no crossing into or out of the island is left, and what was asked takes effect (R18). -/
def islandGateComplete (code : Nat) (s : State) : State :=
  match s.dev.islReq.find? (fun r => r.1 == code) with
  | none => s
  | some (_, k) =>
    let s := s.onDev (fun d => { d with islReq := d.islReq.filter (fun r => r.1 != code) })
    if k = 2 then s.islandReset code else s.onDev (fun d => (d.islandStops code).islGate code true)

/-- CHANNEL_RESTART: the firmware names the line at which a reset channel takes up firing (R24), once its link is UP again; a
pair agrees on it (R415). -/
def channelRestart (c line : Nat) (d : Dev) : Dev :=
  if !d.jobRunning || !d.fir.chans.contains c || (d.hc c).m.isSome || !d.lvrUp c || !d.islUp (0x40 + c) then d
  else
    let d := d.modHc c (fun x => { x with restart := some line })
    if d.activeOfPair && d.joined then d.propose 5 (2 ^ c) line [] else d.restartAt c line

/-! ## Trainings that isolate, and what follows the training of a start-up or a wake (R222, R226, R429, R436) -/

/-- Every memory channel in use is RUN. -/
def Dev.memReady (d : Dev) : Bool := d.memChannels.all (fun n => d.get (MEM_STS n) MEM_STS.STATE == 2)

/-- A memory channel that a failed training has isolated takes the guard with it. -/
def Dev.afterTraining (d : Dev) (n : Nat) (was : Bool) : Dev := if !was && d.isIsolated (3 + n) then d.isolated (3 + n) else d

/-- Trained at start-up, the part goes on to links and trims; trained at a wake from Furled, its links start (R429, R436). -/
def Dev.trainedOn (d : Dev) : Dev :=
  if !d.memReady then d
  else if d.get PWR_STS PWR_STS.STAGE = 5 then
    let d := d.put PWR_STS PWR_STS.STAGE 6
    (d.each d.memChannels (fun n d => d.initStart n)).linksStart false
  else if d.get PWR_STS PWR_STS.STATE = 6 && d.pwr.wakeKind = 4 then d.linksStart false
  else d

/-! ## The meanings -/

/-- TRAINING_DONE (R221, R222). -/
def execTrainingDone (n : Fin 2) (ok : Bool) (failStep : Nat) (s : State) : Host.Outcome State Fault Refusal :=
  .next (s.onIsl (3 + n.val) (fun d =>
    let busy := (d.memCh n.val).train != .idle
    let r := (trainingDone n.val ok failStep d).afterTraining n.val (d.isIsolated (3 + n.val))
    if busy then r.trainedOn else r))

/-- FREQ_DONE (R226). -/
def execFreqDone (n : Fin 2) (ok : Bool) (failStep : Nat) (s : State) : Host.Outcome State Fault Refusal :=
  .next (s.onIsl (3 + n.val) (fun d => (freqDone n.val ok failStep d).afterTraining n.val (d.isIsolated (3 + n.val))))

/-- CROSSING_TIMEOUT: sources and destinations (R16, R22). -/
def execCrossingTimeout (xs : List (Fin 128 × Fin 128)) (dt : Nat) (s : State) : Host.Outcome State Fault Refusal :=
  .next ((s.pass dt).onDev (crossingTimeout (xs.map (fun x => (x.1.val, x.2.val)))))

/-- FAULT_FLAG_RESET (R34). -/
def execFaultFlagReset (dt : Nat) (s : State) : Host.Outcome State Fault Refusal := .next ((s.pass dt).onDev faultFlagReset)

/-- ISLAND_GATE: a write of PWR_ISLc without RESET (R18). -/
def execIslandGate (q : Req) (code : Fin 128) (v : Word) (s : State) : Host.Outcome State Fault Refusal :=
  .next (s.devCommand q (PWR_ISL code.val) (v.setFld PWR_ISL.RESET 0) (islWrite code.val))

/-- ISLAND_RESET: a write of PWR_ISLc with RESET = 1 (R24). -/
def execIslandReset (q : Req) (code : Fin 128) (v : Word) (s : State) : Host.Outcome State Fault Refusal :=
  .next (s.devCommand q (PWR_ISL code.val) (v.setFld PWR_ISL.RESET 1) (islWrite code.val))

/-- ISLAND_GATE_COMPLETE (R18). -/
def execIslandGateComplete (code : Fin 128) (dt : Nat) (s : State) : Host.Outcome State Fault Refusal :=
  .next (islandGateComplete code.val (s.pass dt))

/-- CHANNEL_RESTART (R24). -/
def execChannelRestart (c : Fin 64) (line : BitVec 40) (dt : Nat) (s : State) : Host.Outcome State Fault Refusal :=
  .next ((s.pass dt).onDev (channelRestart c.val line.toNat))

end Sys2Proof.Machine
end

