-- ==== Sys2Proof/Machine/Power.lean ====
section
/-! DEFINITION. Supply, resets and power states (spec/17_startup_power.md, R424 to R429, R432, R436 to R441). Reading and
configuring a Kite image is in Kite.lean. -/

namespace Sys2Proof.Machine

/-! ## Resets (R427, R428) -/

/-- The kinds of reset. -/
inductive ResetKind where
  | power | hard | soft
  deriving DecidableEq, Repr

/-- The rails (R425): all enabled and all in their windows. -/
def railsGood : Nat := 0x1F1F

/-- Change the power controller's hidden state. -/
def Dev.modPwr (d : Dev) (f : PwrSt → PwrSt) : Dev := { d with pwr := f d.pwr }

/-- What a reset leaves of the device: the straps, the pins' levels, the Keel store, the scan's instruction, what has left the
part; a soft reset leaves time running and keeps the RWS and sticky fields (R9, R336, R427). -/
def Dev.fromReset (d : Dev) (kind : ResetKind) : Dev :=
  let soft := kind == .soft
  let e : Dev := {
    strap := d.strap, now := d.now, free := d.free, out := d.out
    cal := { keel := d.cal.keel }
    time := if soft then { d.time with servoPaused := true } else {}
    pair := { needJoin := kind != .power && d.pair.needJoin, seekAt := d.now }
    test := { ir := d.test.ir, boundary := d.test.boundary, scanned := d.test.scanned && kind != .power }
    pwr := { held := true, vin := d.pwr.vin, uvWarn := d.pwr.uvWarn, railTry := d.pwr.railTry, railsOff := d.pwr.railsOff
             bootB := d.pwr.bootB } }
  let e : Dev := e.each (List.range 32) (fun i e => { e with input := tput (fun _ => {}) e.input i { raw := (tget (fun _ => {}) d.input i).raw } })
  let e := e.put BRD_CFG BRD_CFG.EN (d.get BRD_CFG BRD_CFG.EN)
  let e := e.put BRD_STS BRD_STS.RANK (if d.strap.rank then 1 else 0)
  let e := e.put PWR_BOOT PWR_BOOT.FIRST (if d.pwr.bootB then 1 else 0)
  let e := e.put PWR_STS PWR_STS.UVWARN (if d.pwr.uvWarn then 1 else 0)
  let e := e.put FIR_STS FIR_STS.INH_NOW (d.get FIR_STS FIR_STS.INH_NOW)
  let e := e.wr PWR_RAIL (d.rd PWR_RAIL)
  let e := if kind = .power then e else e.put GLB_FAULT_LAST GLB_FAULT_LAST.COUNT (d.get GLB_FAULT_LAST GLB_FAULT_LAST.COUNT)
  if soft then
    let e := (e.wr PWR_UV (d.rd PWR_UV)).put BRD_EVT BRD_EVT.GUARD_LAPSE (d.get BRD_EVT BRD_EVT.GUARD_LAPSE)
    e.each [0, 1] (fun k e => (e.wr (TIM_D_INC_LO k) (d.rd (TIM_D_INC_LO k))).wr (TIM_D_INC_HI k) (d.rd (TIM_D_INC_HI k)))
  else e

/-- PWR_RST_CAUSE after a reset: its cause, the rail of the last rail fault, the soft resets since the last hard one (R440). -/
def resetCause (old : Nat) (kind : ResetKind) (cause : Nat) : Nat :=
  match kind with
  | .power => cause
  | .hard => cause + 2 ^ 8 * (old / 2 ^ 8 % 16)
  | .soft => cause + 2 ^ 8 * (old / 2 ^ 8 % 16) + 2 ^ 16 * min 255 (old / 2 ^ 16 % 256 + 1)

/-- A reset (R427): the guard lapses, every island is held, the page store contents are lost. -/
def State.chipReset (s : State) (kind : ResetKind) (cause : Nat) : State :=
  let d := s.dev.guardLapse false
  let e := (d.fromReset kind).wrN PWR_RST_CAUSE (resetCause (d.rdN PWR_RST_CAUSE) kind cause)
  { s with mem := Store.empty, dev := e }

/-- Power is there: a reset can act. -/
def Dev.powered (d : Dev) : Bool := d.pwr.vin && !d.pwr.railsOff

/-! ## Supply and rails (R424 to R426) -/

/-- The rails by their order of starting, as bits of PWR_RAIL. -/
def railGroups : List Nat := [1, 6, 8, 16]

/-- The rails enabled. -/
def Dev.railEn (d : Dev) : Nat := d.rdN PWR_RAIL / 256 % 32

/-- The last group of rails that is enabled is in its window, and the next one is enabled. -/
def Dev.railNext (d : Dev) : Dev :=
  let en := d.railEn
  let inWin := railGroups.foldl (fun m g => if en &&& g = g then m ||| g else m) 0
  let nxt := (railGroups.find? (fun g => en &&& g ≠ g)).getD 0
  d.wrN PWR_RAIL (inWin + 256 * (en ||| nxt))

/-- The first rail starts (R425, R429). -/
def Dev.railsStart (d : Dev) : Dev := (d.wrN PWR_RAIL 0x100).put PWR_STS PWR_STS.STAGE 1

/-- POWER_ON (R424, R427): VIN rises above 4.40 V. -/
def powerOn (s : State) : State :=
  if s.dev.pwr.vin then s
  else
    let s := s.onDev (·.modPwr (fun x => { x with vin := true, uvWarn := false, railsOff := false, railTry := [] }))
    (s.chipReset .power 1).onDev Dev.railsStart

/-- UVLO (R424): every island is held in reset, and the rails are off. -/
def uvlo (s : State) : State :=
  if !s.dev.pwr.vin then s
  else
    let s := s.onDev (·.modPwr (fun x => { x with vin := false }))
    (s.chipReset .hard (s.dev.get PWR_RST_CAUSE PWR_RST_CAUSE.CAUSE)).onDev (·.wrN PWR_RAIL 0)

/-- UV_WARNING (R426): the guard lapses, no new Keel commit starts, the event is posted and set. -/
def uvWarning (d : Dev) : Dev :=
  if !d.pwr.vin || d.pwr.uvWarn then d
  else
    let cur := d.nextCommit
    let d : Dev := { d with cal := { d.cal with commits := d.cal.commits.map (fun r => if some r = cur then r else { r with deferred := true }) } }
    let d := d.modPwr (fun x => { x with uvWarn := true })
    ((d.put PWR_STS PWR_STS.UVWARN 1).flag PWR_EVT PWR_EVT.UVWARN).guardLapse false |>.notify 0x0110 []

/-- UV_WARNING_CLEAR (R424). -/
def uvWarningClear (d : Dev) : Dev := (d.modPwr (fun x => { x with uvWarn := false })).put PWR_STS PWR_STS.UVWARN 0

/-- RAIL_START (R425): the rails that start have been in their windows for 0.5 ms. -/
def railStart (d : Dev) : Dev :=
  if d.pwr.held && d.powered && d.railEn ≠ 0 then d.railNext else d

/-- RAIL_FAULT (R425): a hard reset with every rail off; three within 10 s keep the rails off. -/
def railFault (rail : Nat) (s : State) : State :=
  let d := s.dev
  if !d.powered || !(d.railEn).testBit rail then s
  else
    let tries := d.now :: d.pwr.railTry.filter (fun t => decide (d.now < t + secTicks 10))
    let s := s.onDev (·.modPwr (fun x => { x with railTry := tries, railsOff := decide (3 ≤ tries.length) }))
    (s.chipReset .hard 4).onDev (fun d => (d.wrN PWR_RAIL 0).put PWR_RST_CAUSE ⟨8, 4⟩ (rail + 1))

/-- RAIL_RETRY (R425): 100 ms after a rail fault the rails are sequenced again. -/
def railRetry (d : Dev) : Dev :=
  match d.pwr.railTry with
  | t :: _ => if d.powered && d.pwr.held && d.railEn = 0 && decide (t + msTicks 100 ≤ d.now) then d.railsStart else d
  | [] => d

/-- PIN_RESET (R427). -/
def pinReset (s : State) : State :=
  if s.dev.powered then (s.chipReset .hard 2).onDev (fun d => { d with test := { d.test with scanned := false } }) else s

/-- GUARD_RESET (R427): after a guard lapse other than RELINQUISH, when a Keel commit in progress has ended, at most 2 ms later. -/
def guardReset (s : State) : State :=
  match s.dev.pair.lapseAt with
  | some t =>
    if !s.dev.guardOk && (s.dev.nextCommit.isNone || decide (t + msTicks 2 ≤ s.dev.now)) then s.chipReset .soft 6 else s
  | none => s

/-- RESET_RELEASE (R429): the rails are up and no warning holds the part; the Keel store is scanned, and the boot goes on to
the image. -/
def resetRelease (d : Dev) : Dev :=
  let wait := d.pwr.held || d.get PWR_STS PWR_STS.STAGE = 0
  if !wait || !d.powered || d.pwr.uvWarn || d.rdN PWR_RAIL ≠ railsGood then d
  else
    let d := d.modPwr (fun x => { x with held := false, releaseAt := d.now, slotTried := 0 })
    let d := d.keelScan.loadDac
    (d.each (List.range 32) (fun i d => d.inputReset i)).put PWR_STS PWR_STS.STAGE 3

/-! ## Hover and READY (R429, R316) -/

/-- The correction word that start-up finds for an output: the procedure's checks passed, and its readings are good. -/
def Dev.startDac (d : Dev) (rs : List (Nat × List Int)) (o : Nat) : Word :=
  match rs.find? (fun r => r.1 == o) with
  | some (_, m) =>
    match dacResult m with
    | .ok w => if d.hasChannel (o / 2) && d.lvrUp (o / 2) then w else d.rd (CAL_DAC o)
    | _ => d.rd (CAL_DAC o)
  | none => d.rd (CAL_DAC o)

/-- DAC calibration of every output at start-up, from the bandgap code and the readings by output; an output whose procedure
fails keeps its correction. -/
def Dev.startCal (d : Dev) (code : Nat) (rs : List (Nat × List Int)) : Dev :=
  let d := d.vrefCode code
  if d.bit CAL_STS CAL_STS.VREF_BAD || d.bit FIR_STS FIR_STS.INH_NOW || rs.isEmpty then d
  else
    let ws := (List.range 128).map (fun o => d.startDac rs o)
    let d := (ws.zipIdx).foldl (fun d p => d.wr (CAL_DAC p.2) p.1) d
    d.keelCommitOne ⟨2, dacBody ws (code % 65536), false⟩ true

/-- A time in ms since the release of reset, saturating at 16 bits. -/
def Dev.bootMs (d : Dev) : Nat := min 65535 ((d.now - d.pwr.releaseAt) / msTicks 1)

/-- HOVER (R429): DAC calibration has ended and every memory channel is RUN; the outputs come up. -/
def hover (code : Nat) (rs : List (Nat × List Int)) (d : Dev) : Dev :=
  if d.get PWR_STS PWR_STS.STAGE ≠ 6 || !d.memReady then d
  else
    let d := d.startCal code rs
    let d := (d.put PWR_STS PWR_STS.STAGE 7).put PWR_STS PWR_STS.STATE 1
    let d := d.put PWR_TIME loHalf d.bootMs
    if d.role = 0 || (d.role = 1 && !d.pair.needJoin) then d.guardArm else d

/-- READY (R429). -/
def ready (d : Dev) : Dev :=
  if d.get PWR_STS PWR_STS.STATE ≠ 1 || d.bit PWR_STS PWR_STS.READY ||
      !d.memChannels.all (fun n => d.bit (MEM_STS n) MEM_STS.INIT_DONE) ||
      (d.bit TTH_CFG TTH_CFG.EN && d.get TTH_STS TTH_STS.LINK ≠ 3) then d
  else
    let d := (d.put PWR_STS PWR_STS.READY 1).flag PWR_EVT PWR_EVT.READY
    if d.get PWR_TIME hiHalf = 0 then d.put PWR_TIME hiHalf d.bootMs else d

/-- A write of PWR_BOOT (R432, R440). -/
def pwrBootWrite (v : Word) (d : Dev) : Dev := (d.typedWrite PWR_BOOT v).put PWR_BOOT PWR_BOOT.PERSISTED 0

/-- BOOT_RECORD_WRITE (R432). -/
def bootRecordWrite (d : Dev) : Dev :=
  if d.bit PWR_BOOT PWR_BOOT.PERSISTED then d
  else (d.modPwr (fun x => { x with bootB := d.bit PWR_BOOT PWR_BOOT.FIRST })).put PWR_BOOT PWR_BOOT.PERSISTED 1

/-! ## Power states (R436 to R439) -/

/-- Entry to Moored (3) or Furled (4) is allowed (R437). -/
def Dev.mayEnter (d : Dev) (t : Nat) : Bool :=
  d.jobGap && (t == 3 || d.ras.jobs.isEmpty) && d.cal.proc.isNone && !(d.gateSt 0).run && !(d.gateSt 1).run &&
    d.cal.commits.isEmpty && d.objResult != 1 && d.objResult != 2 && d.role != 2 && d.role != 3

/-- Entry starts (R437, R228): loop-backs end, the Tether link goes down, memory goes to self-refresh for Moored. -/
def Dev.entryStart (d : Dev) (t : Nat) : Dev :=
  let d := d.lbEndAll 11
  let d := ((if d.linkSt false = 0 then d else d.linkDown false).lanesOff false).setLinkSt false 0
  let d := (d.modPwr (fun x => { x with target := t, wakeAfter := false, wakeAt := none, tethQuietAt := d.now })).put PWR_STS PWR_STS.STATE 5
  if t = 3 then d.each d.memChannels (fun n d => d.selfRefresh n) else d

/-- A command is refused. -/
def Dev.pwrRej (d : Dev) : Dev := d.flag PWR_EVT PWR_EVT.REJ

/-- PWR_CMD.ENTER (R437, R438, R440). -/
def powerEnter (t : Nat) (d : Dev) : Dev :=
  let st := d.get PWR_STS PWR_STS.STATE
  if t = 1 then (if st = 1 then d else if st = 3 || st = 4 then d.wakeCause else d.pwrRej)
  else if t ≠ 3 && t ≠ 4 then d.pwrRej
  else if st = t then d
  else if st = 1 && d.mayEnter t then d.entryStart t
  else d.pwrRej

/-- A write of PWR_CMD (R427, R437, R440): HARD before SOFT, both only with CONFIRM; then ENTER, then WAKE. -/
def pwrCmdWrite (v : Word) (s : State) : State :=
  let ok := v.fld PWR_CMD.CONFIRM = 0x5253
  if v.bit 9 && ok then s.chipReset .hard 3
  else if v.bit 8 && ok then s.chipReset .soft 5
  else s.onDev (fun d =>
    let d := if v.bit 9 || v.bit 8 then d.pwrRej else d
    let d := if v.bit 3 then powerEnter (v.fld PWR_CMD.TARGET) d else d
    if v.bit 4 then d.wakeCause else d)

/-- The islands that a power state gates (R436). -/
def gatedIn (t : Nat) : List Nat := [5] ++ (List.range 64).map (0x40 + ·) ++ (if t = 4 then [2, 3, 4] else [])

/-- In Furled the devices have no supply: their contents, and the segments in them, are lost (R228, R425, R436). -/
def Dev.memOff (d : Dev) : Dev :=
  let d := d.memoryLost
  let d := (d.clearBit PWR_RAIL 12).clearBit PWR_RAIL 4
  d.each d.memChannels (fun n d => ((d.setQueue n []).put (MEM_STS n) MEM_STS.STATE 0).put (MEM_STS n) MEM_STS.INIT_DONE 0)

/-- The state has been entered (R436, R437). -/
def State.entered (s : State) (t : Nat) : State :=
  let s := s.onDev (fun d => d.each (gatedIn t) (fun c d => if d.bit (PWR_ISL c) PWR_ISL.GATED then d else (d.islandStops c).islGate c true))
  let s := if t = 4 then { s with mem := Store.empty, dev := s.dev.memOff } else s
  s.onDev (fun d => (d.put PWR_STS PWR_STS.STATE t).flag PWR_EVT PWR_EVT.ENTERED)

/-- ENTRY_DONE (R437): the step in progress has ended; a wake cause that came meanwhile starts the wake. -/
def entryDone (s : State) : State :=
  let d := s.dev
  let t := d.pwr.target
  let quiet := t = 4 || d.memChannels.all (fun n => d.get (MEM_STS n) MEM_STS.STATE == 5)
  if d.get PWR_STS PWR_STS.STATE ≠ 5 || !quiet then s
  else if d.pwr.wakeAfter then s.onDev (fun d => if t = 3 then d.wakeStart 3 else (d.wakeStart 3).modPwr (fun x => { x with wakeKind := 1 }))
  else s.entered t

/-- The time from now to the next known event, in units of 2^-32 ns (R439). -/
def Dev.tNext (d : Dev) : Option Nat :=
  let trgs := (List.range 16).filterMap (fun n =>
    if (d.rd PWR_AUTO_TRG).bit n && d.bit (TRG_STS n) TRG_STS.ARMED && decide (d.trgTime n < d.trgTarget n) then
      some (d.trgTarget n - d.trgTime n) else none)
  let at_ := ((d.rdN PWR_WAKE_AT_SEC_LO + 2 ^ 32 * (d.rdN PWR_WAKE_AT_SEC_HI % 65536)) * 1000000000 + d.rdN PWR_WAKE_AT_NS) * 2 ^ 32
  let all := if d.devTime < at_ then (at_ - d.devTime) :: trgs else trgs
  match all with
  | [] => none
  | x :: t => some (t.foldl min x)

/-- A number of ms in units of 2^-32 ns. -/
def msTime (n : Nat) : Nat := n * 1000000 * 2 ^ 32

/-- The wake time of a state (R436). -/
def wakeMs (t : Nat) : Nat := if t = 4 then 250 else 2

/-- GUARD. -/
def Dev.autoGuard (d : Dev) : Nat := d.get PWR_AUTO PWR_AUTO.GUARD

/-- The deepest state allowed whose wake time and guard fit (R439); DEEPEST 3 is reserved and allows none. -/
def Dev.autoState (d : Dev) : Nat :=
  let fits (t : Nat) : Bool := (match d.tNext with
    | none => true
    | some x => decide (msTime (wakeMs t + d.autoGuard) < x)) && d.mayEnter t
  let deep := d.get PWR_AUTO PWR_AUTO.DEEPEST
  if deep = 2 && fits 4 then 4 else if (deep = 1 || deep = 2) && fits 3 then 3 else 1

/-- The wake from a state is scheduled before the next event; a wake time that has passed wakes at once (R439). -/
def Dev.schedule (d : Dev) (t : Nat) : Dev :=
  match d.tNext with
  | none => d.modPwr (fun x => { x with wakeAt := none })
  | some x =>
    let need := msTime (wakeMs t + d.autoGuard)
    if x < need then d.wakeCause else d.modPwr (fun y => { y with wakeAt := some (d.devTime + x - need) })

/-- AUTO_STATE_EVAL (R439): every 1 ms. -/
def autoStateEval (d : Dev) : Dev :=
  if !d.bit PWR_AUTO PWR_AUTO.EN || d.now < d.pwr.evalAt + msTicks 1 then d
  else
    let d := d.modPwr (fun x => { x with evalAt := d.now })
    let d := d.wrN PWR_NEXT (match d.tNext with
      | none => 0xFFFFFFFF
      | some x => min 0xFFFFFFFF (x / msTime 1))
    let st := d.get PWR_STS PWR_STS.STATE
    if st = 1 then
      let t := d.autoState
      if t = 1 then d else (d.entryStart t).schedule t
    else if st = 3 || st = 4 then d.schedule st
    else if st = 5 then d.schedule d.pwr.target
    else d

/-- SCHEDULED_WAKE (R438, R439). -/
def scheduledWake (d : Dev) : Dev :=
  match d.pwr.wakeAt with
  | some t => if t ≤ d.devTime then d.wakeCause else d
  | none => d

/-- TETHER_SIGNAL_WAKE (R438): signal on a lane after 1 ms without. -/
def tetherSignalWake (d : Dev) : Dev :=
  let st := d.get PWR_STS PWR_STS.STATE
  if st < 3 || 5 < st then d
  else if d.pwr.tethQuietAt + msTicks 1 ≤ d.now then d.wakeCause
  else d.modPwr (fun x => { x with tethQuietAt := d.now })

/-- WAKE_DONE (R436, R438, R441): Hover is reached, held writes act, a held ARM acts; after Furled the initialisation pass runs
again. -/
def wakeDone (s : State) : State :=
  let d := s.dev
  if d.get PWR_STS PWR_STS.STATE ≠ 6 || (d.pwr.wakeKind = 4 && !d.memReady) then s
  else
    let kind := d.pwr.wakeKind
    let held := d.pwr.heldIsl
    let arm := d.pwr.armHeld
    let late := match d.tNext with
      | some x => d.bit PWR_AUTO PWR_AUTO.EN && decide (x < msTime d.autoGuard)
      | none => false
    let d := d.modPwr (fun x => { x with heldIsl := [], armHeld := false, wakeKind := 0 })
    let d := (d.put PWR_STS PWR_STS.STATE 1).flag PWR_EVT PWR_EVT.WOKE
    let d := if late then d.flag PWR_EVT PWR_EVT.LATEWAKE else d
    let d := if kind = 4 then (d.each d.memChannels (fun n d => d.initStart n)).put PWR_STS PWR_STS.READY 0
      else d.each d.memChannels (fun n d => if d.get (MEM_STS n) MEM_STS.STATE = 5 then d.memRun n else d)
    let d := held.foldl (fun d h => islWrite h.1 h.2 d) d
    { s with dev := if arm then firArm d else d }

/-! ## The meanings -/

/-- POWER_ON (R424, R427). -/
def execPowerOn (dt : Nat) (s : State) : Host.Outcome State Fault Refusal := .next (powerOn (s.pass dt))

/-- UVLO (R424). -/
def execUvlo (dt : Nat) (s : State) : Host.Outcome State Fault Refusal := .next (uvlo (s.pass dt))

/-- UV_WARNING (R426). -/
def execUvWarning (dt : Nat) (s : State) : Host.Outcome State Fault Refusal := .next ((s.pass dt).onDev uvWarning)

/-- UV_WARNING_CLEAR (R424). -/
def execUvWarningClear (dt : Nat) (s : State) : Host.Outcome State Fault Refusal := .next ((s.pass dt).onDev uvWarningClear)

/-- RAIL_START (R425). -/
def execRailStart (dt : Nat) (s : State) : Host.Outcome State Fault Refusal := .next ((s.pass dt).onDev railStart)

/-- RAIL_FAULT of a rail: 0 VAUX, 1 VIO, 2 AVDD, 3 VCORE, 4 VDDQ (R425). -/
def execRailFault (rail : Fin 5) (dt : Nat) (s : State) : Host.Outcome State Fault Refusal := .next (railFault rail.val (s.pass dt))

/-- RAIL_RETRY (R425). -/
def execRailRetry (dt : Nat) (s : State) : Host.Outcome State Fault Refusal := .next ((s.pass dt).onDev railRetry)

/-- PIN_RESET (R427). -/
def execPinReset (dt : Nat) (s : State) : Host.Outcome State Fault Refusal := .next (pinReset (s.pass dt))

/-- HARD_RESET: PWR_CMD.HARD with CONFIRM (R427). -/
def execHardReset (q : Req) (confirm : Fin 65536) (s : State) : Host.Outcome State Fault Refusal :=
  .next (s.command q PWR_CMD (BitVec.ofNat 32 (0x200 + 2 ^ 16 * confirm.val)) pwrCmdWrite)

/-- SOFT_RESET: PWR_CMD.SOFT with CONFIRM (R427). -/
def execSoftReset (q : Req) (confirm : Fin 65536) (s : State) : Host.Outcome State Fault Refusal :=
  .next (s.command q PWR_CMD (BitVec.ofNat 32 (0x100 + 2 ^ 16 * confirm.val)) pwrCmdWrite)

/-- GUARD_RESET (R427). -/
def execGuardReset (dt : Nat) (s : State) : Host.Outcome State Fault Refusal := .next (guardReset (s.pass dt))

/-- RESET_RELEASE (R429). -/
def execResetRelease (dt : Nat) (s : State) : Host.Outcome State Fault Refusal := .next ((s.pass dt).onDev resetRelease)

/-- HOVER: the bandgap code, and the readings of the outputs that were measured (R429, R316). -/
def execHover (bandgap : Fin 65536) (rs : List (Nat × List Int)) (dt : Nat) (s : State) : Host.Outcome State Fault Refusal :=
  .next ((s.pass dt).onDev (hover bandgap.val rs))

/-- READY (R429). -/
def execReady (dt : Nat) (s : State) : Host.Outcome State Fault Refusal := .next ((s.pass dt).onDev ready)

/-- BOOT_RECORD_WRITE (R432). -/
def execBootRecordWrite (dt : Nat) (s : State) : Host.Outcome State Fault Refusal := .next ((s.pass dt).onDev bootRecordWrite)

/-- POWER_ENTER: PWR_CMD.ENTER with its TARGET (R437). -/
def execPowerEnter (q : Req) (target : Fin 8) (s : State) : Host.Outcome State Fault Refusal :=
  .next (s.command q PWR_CMD (BitVec.ofNat 32 (8 + target.val)) pwrCmdWrite)

/-- ENTRY_DONE (R437). -/
def execEntryDone (dt : Nat) (s : State) : Host.Outcome State Fault Refusal := .next (entryDone (s.pass dt))

/-- POWER_WAKE: PWR_CMD.WAKE (R438). -/
def execPowerWake (q : Req) (s : State) : Host.Outcome State Fault Refusal := .next (s.command q PWR_CMD 16 pwrCmdWrite)

/-- TETHER_SIGNAL_WAKE (R438). -/
def execTetherSignalWake (dt : Nat) (s : State) : Host.Outcome State Fault Refusal := .next ((s.pass dt).onDev tetherSignalWake)

/-- SCHEDULED_WAKE (R439). -/
def execScheduledWake (dt : Nat) (s : State) : Host.Outcome State Fault Refusal := .next ((s.pass dt).onDev scheduledWake)

/-- WAKE_DONE (R436). -/
def execWakeDone (dt : Nat) (s : State) : Host.Outcome State Fault Refusal := .next (wakeDone (s.pass dt))

/-- AUTO_STATE_EVAL (R439). -/
def execAutoStateEval (dt : Nat) (s : State) : Host.Outcome State Fault Refusal := .next ((s.pass dt).onDev autoStateEval)

end Sys2Proof.Machine
end

