-- ==== Sys2Proof/Machine/Test.lean ====
section
/-! DEFINITION. Loop-backs, self-tests and the test access port (spec/18_test.md, R442 to R452). -/

namespace Sys2Proof.Machine

/-! ## Loop-back slots (R442 to R445, R452) -/

/-- The interface, depth, instance and pattern form a row of R442 and R445. -/
def lbRow (iface depth inst pat : Nat) : Bool :=
  let prbs := 1 ≤ pat && pat ≤ 3
  match iface with
  | 1 => (((depth == 1 || depth == 2) && prbs) || (depth == 3 && pat ≤ 3)) && inst ≤ 15
  | 2 => (depth == 1 && pat == 3) || (depth == 2 && prbs)
  | 3 => depth == 1 && 3 ≤ pat && pat ≤ 5 && inst ≤ 3
  | 4 => (depth == 1 || depth == 2) && (pat == 3 || pat == 4) && inst ≤ 1
  | 5 => depth == 1 && pat == 4 && inst ≤ 127
  | 6 => (depth == 1 || depth == 2) && pat == 3 && inst ≤ 1
  | 7 => (((depth == 1 || depth == 2) && prbs) || (depth == 3 && pat ≤ 3)) && inst ≤ 1
  | _ => false

/-- An island is in use by a slot other than `k`, a March test, a calibration procedure or a gate test (R443, reason 3). -/
def Dev.testUses (d : Dev) (k code : Nat) : Bool :=
  [0, 1, 2, 3].any (fun j => j != k && d.lbOn j && d.lbIsland j == code) || d.test.bistRun.map bistIsland == some code ||
    (match d.cal.proc with
      | some p => 0x40 + p.chan == code
      | none => false) ||
    [0, 1].any (fun g => (d.gateSt g).run && 0x40 + (d.gateSt g).chan == code)

/-- A job is ARMED or RUNNING, or a pass armed or active (R443, reason 1). -/
def Dev.printing (d : Dev) : Bool := !d.jobGap

/-- Jobs or an object stand in the way of a memory test (R443, reason 6). -/
def Dev.memWork (d : Dev) : Bool := !d.ras.jobs.isEmpty || d.objResult == 1 || d.objResult == 2

/-- Why a loop-back is refused, by the settings in its slot's register: the first reason of R443, or 0. -/
def Dev.lbReason (d : Dev) (k port : Nat) : Nat :=
  let w := d.rd (TST_LB_CFG k)
  let f := d.lbIf k
  let i := d.lbInst k
  let lane := f == 1 || f == 7
  let li := if f = 7 then 16 + i else i
  let conds : List (Nat × Bool) := [
    (1, d.printing && !d.lbOutside k),
    (2, (lane && d.linkSt (f == 7) == 3 && d.laneState li == 5) || (f == 2 && d.role == 3) || (f == 7 && (d.role == 2 || d.role == 3))),
    (3, 1 ≤ f && f ≤ 7 && d.testUses k (d.lbIsland k)),
    (4, !lbRow f (w.fld TST_LB_CFG.DEPTH) i (w.fld TST_LB_CFG.PAT)),
    (5, f == 6 && port == 2 + i),
    (6, f == 4 && (d.memWork || d.get (MEM_STS i) MEM_STS.STATE != 2)),
    (7, (f == 1 && d.laneCount ≤ i) || (f == 2 && !d.hasChannel i) || (f == 5 && !d.hasChannel (i / 2)))]
  ((conds.find? (fun c => c.2)).map (·.1)).getD 0

/-- The looped resource leaves its own traffic (R442). -/
def Dev.lbTake (d : Dev) (k : Nat) : Dev :=
  let i := d.lbInst k
  match d.lbIf k with
  | 1 => d.setLane i 0
  | 2 => (if d.lvrUp i then d.lvrDown i else d).lvrState i 0
  | 6 => d.ethDown i
  | 7 => d.setLane (16 + i) 0
  | _ => d

/-- Change a slot's hidden state. -/
def Dev.setLb (d : Dev) (k : Nat) (x : LbSt) : Dev := { d with test := { d.test with lb := tput (fun _ => {}) d.test.lb k x } }

/-- A slot's hidden state. -/
def Dev.lbSt (d : Dev) (k : Nat) : LbSt := tget (fun _ => {}) d.test.lb k

/-- LOOPBACK_ENTER (R443, R452). -/
def loopbackEnter (k port : Nat) (v : Word) (d : Dev) : Dev :=
  if d.lbOn k then d
  else
    let d := d.typedWrite (TST_LB_CFG k) v
    let r := d.lbReason k port
    if r ≠ 0 then d.wrN (TST_LB_STS k) (4 + 2 ^ 12 * r)
    else
      let d := d.lbTake k
      let d := ((d.wrN (TST_LB_STS k) 1).wrN (TST_LB_BITS_LO k) 0).wrN (TST_LB_BITS_HI k) 0
      (d.wrN (TST_LB_ERR k) 0).setLb k { at_ := d.now }

/-- LOOPBACK_EXIT (R444): a write with EN = 0. -/
def loopbackExit (k : Nat) (v : Word) (d : Dev) : Dev :=
  if d.lbOn k then (d.lbEnd k 8).typedWrite (TST_LB_CFG k) v else d.typedWrite (TST_LB_CFG k) v

/-- A write of TST_LBk_CFG. -/
def lbCfgWrite (k port : Nat) (v : Word) (d : Dev) : Dev := if v.bit 31 then loopbackEnter k port v d else loopbackExit k v d

/-- LOOPBACK_TIMEOUT (R444): TIME ms after entry, 100 ms at most for memory. -/
def loopbackTimeout (k : Nat) (d : Dev) : Dev :=
  let t := d.get (TST_LB_TIME k) TST_LB_TIME.TIME
  let t := if d.lbIf k = 4 then min 100 t else t
  if decide ((d.lbSt k).at_ + msTicks t ≤ d.now) then d.lbEnd k 10 else d

/-- The checker counts units and errors (R445). -/
def Dev.lbCount (d : Dev) (k units errs : Nat) : Dev :=
  let b := min (2 ^ 48 - 1) (d.rd64 (TST_LB_BITS_LO k) (TST_LB_BITS_HI k) + units)
  (d.wr64 (TST_LB_BITS_LO k) (TST_LB_BITS_HI k) b).count (TST_LB_ERR k) whole errs

/-- The checker is a PRBS checker of bits, which must lock (R445). -/
def Dev.lbBits (d : Dev) (k : Nat) : Bool :=
  let f := d.lbIf k
  f == 1 || f == 7 || (f == 2 && d.get (TST_LB_CFG k) TST_LB_CFG.DEPTH == 2)

/-- Bits in error reach a locked checker: the sixteenth within 64 bits clears LOCK, and it reseeds (R445). -/
def Dev.lbErrors (d : Dev) (k : Nat) : Nat → Dev
  | 0 => d
  | n + 1 =>
    let x := d.lbSt k
    let r := (true :: x.recent).take 64
    let d := d.lbCount k 1 1
    if 16 ≤ r.count true then
      ((d.put (TST_LB_STS k) TST_LB_STS.LOCK 0).flag (TST_LB_STS k) TST_LB_STS.LOCKLOST).setLb k { x with good := 0, recent := [] }
    else (d.setLb k { x with recent := r }).lbErrors k n

/-- A run of units, all correct or all in error, reaches the checker (R445). -/
def Dev.lbFeed (d : Dev) (k n : Nat) (ok : Bool) : Dev :=
  if !d.lbBits k then d.lbCount k n (if ok then 0 else n)
  else if d.get (TST_LB_CFG k) TST_LB_CFG.PAT = 0 then d
  else
    let x := d.lbSt k
    let locked := d.bit (TST_LB_STS k) TST_LB_STS.LOCK
    if ok then
      if locked then (d.lbCount k n 0).setLb k { x with recent := (List.replicate (min n 64) false ++ x.recent).take 64 }
      else if x.good + n < 64 then d.setLb k { x with good := x.good + n }
      else ((d.put (TST_LB_STS k) TST_LB_STS.LOCK 1).lbCount k (x.good + n - 64) 0).setLb k { x with good := 64, recent := [] }
    else if locked then d.lbErrors k n
    else d.setLb k { x with good := 0 }

/-- LOOPBACK_RUN (R452): the slot reaches RUN, and what its checker receives from then on. -/
def loopbackRun (k : Nat) (units : List (Nat × Bool)) (d : Dev) : Dev :=
  if !d.lbOn k then d
  else units.foldl (fun d u => d.lbFeed k u.1 u.2) (d.put (TST_LB_STS k) TST_LB_STS.STATE 2)

/-! ## Self-tests (R446, R447, R452) -/

/-- A March test of a group is refused: under reasons 1, 3 and 6 of R443, and by the group's own conditions (R446). -/
def Dev.bistRefused (d : Dev) (port g : Nat) : Bool :=
  d.printing || d.testUses 4 (bistIsland g) || (g < 64 && d.hcCount ≤ g) || (g == 64 && d.memWork) ||
    (g == 66 && d.bit TTH_CFG TTH_CFG.EN) || (g == 67 && port != 6) || 67 < g

/-- A channel's released lines are lost; their blocks become eligible again (R192, R446). -/
def Dev.linesLost (d : Dev) (c : Nat) : Dev :=
  d.modHc c (fun x => { x with
    lines := [], rMax := none
    blks := x.blks.map (fun b =>
      (b.1, if b.2.st = .released && x.lines.any (fun l => l.line / 64 == b.1 % 2 ^ 34) then { b.2 with st := .held } else b.2)) })

/-- What a March test destroys (R446). -/
def Dev.bistLoss (d : Dev) (g : Nat) : Dev :=
  if g < 64 then d.linesLost g
  else if g = 64 then { d with ras := { d.ras with segs := [], eng := [] }, cx := [] }
  else if g = 65 then d.each [0, 1, 2, 3] (fun n d => d.closeFrames n)
  else if g = 66 then d.modLk false (fun x => { x with kept := [] })
  else { d with host := {} }

/-- A write of TST_BIST_CMD (R446, R452). -/
def bistCmdWrite (port : Nat) (v : Word) (d : Dev) : Dev :=
  let g := v.fld TST_BIST_CMD.GROUP
  if !v.bit 0 then d
  else if d.test.bistRun.isSome then { d with test := { d.test with bistAgain := true } }
  else if d.bistRefused port g then d.put TST_BIST_STS TST_BIST_STS.STATE 5
  else ({ d with test := { d.test with bistRun := some g } }.put TST_BIST_STS TST_BIST_STS.STATE 1).bistLoss g

/-- BIST_DONE: none wrong, or the March element and word address of the first failure (R446). -/
def bistDone (fail : Option (Nat × Nat)) (d : Dev) : Dev :=
  if d.test.bistRun.isNone then d
  else
    match fail with
    | none => d.bistEnd 2
    | some (elem, addr) =>
      (((d.put TST_BIST_STS ⟨28, 4⟩ elem).put TST_BIST_STS ⟨8, 20⟩ addr).put TST_BIST_STS TST_BIST_STS.BIST_FAIL 1).bistEnd 3

/-- A write of TST_MRAM_CMD (R447, R452). -/
def mramCmdWrite (v : Word) (d : Dev) : Dev :=
  if !v.bit 0 then d
  else if d.test.mramRun then { d with test := { d.test with mramAgain := true } }
  else if d.get PWR_STS PWR_STS.STATE ≠ 1 || d.jobRunning || d.passActive || !d.cal.commits.isEmpty then d.put TST_MRAM_STS TST_MRAM_STS.STATE 5
  else { d with test := { d.test with mramRun := true } }.put TST_MRAM_STS TST_MRAM_STS.STATE 1

/-- MRAM_TEST_DONE: none wrong, or the Keel address of the first failure; the reserved area is left at 0 (R447). -/
def mramTestDone (fail : Option Nat) (d : Dev) : Dev :=
  if !d.test.mramRun then d
  else
    let again := d.test.mramAgain
    let d : Dev := { d with
      test := { d.test with mramRun := false, mramAgain := false }
      cal := { d.cal with keel := d.cal.keel.filter (fun x => x.1 < 0x31800 || 0x40000 ≤ x.1) } }
    let d := match fail with
      | none => d
      | some a => (d.put TST_MRAM_STS ⟨12, 20⟩ a).put TST_MRAM_STS TST_MRAM_STS.MRAM_FAIL 1
    d.put TST_MRAM_STS TST_MRAM_STS.STATE (if again then 5 else if fail.isSome then 3 else 2)

/-! ## The test access port (R448, R449) -/

/-- The instructions that give the boundary cells the output balls (R449). -/
def scans (code : Nat) : Bool := code == 0 || (4 ≤ code && code ≤ 7)

/-- An instruction is loaded. -/
def jtagLoad (code : Nat) (d : Dev) : Dev :=
  let d : Dev := { d with test := { d.test with ir := code } }
  if scans code then { d with test := { d.test with scanned := true } }.guardLapse false else d

/-- SAMPLE/PRELOAD (R448): the cells are loaded for a later scan; no effect on the device. -/
def samplePreload (cells : List Bool) (d : Dev) : Dev := { d with test := { d.test with ir := 2, boundary := cells } }

/-- The codes that R448 lists. -/
def jtagCodes : List Nat := [0, 1, 2, 4, 5, 6, 7, 0x10]

/-- BYPASS, or a code that R448 does not list. -/
def jtagBypass (code : Nat) (d : Dev) : Dev := if jtagCodes.contains code then d else jtagLoad 0x3F d

/-! ## The meanings -/

/-- LOOPBACK_ENTER: a write of TST_LBk_CFG with EN = 1 (R443). -/
def execLoopbackEnter (q : Req) (k : Fin 4) (v : Word) (s : State) : Host.Outcome State Fault Refusal :=
  .next (s.devCommand q (TST_LB_CFG k.val) (v.setFld TST_LB_CFG.EN 1) (lbCfgWrite k.val q.port.val))

/-- LOOPBACK_RUN: runs of units as the checker receives them, with whether they are correct (R445, R452). -/
def execLoopbackRun (k : Fin 4) (units : List (Nat × Bool)) (dt : Nat) (s : State) : Host.Outcome State Fault Refusal :=
  .next ((s.pass dt).onDev (loopbackRun k.val units))

/-- LOOPBACK_EXIT: a write of TST_LBk_CFG with EN = 0 (R444). -/
def execLoopbackExit (q : Req) (k : Fin 4) (v : Word) (s : State) : Host.Outcome State Fault Refusal :=
  .next (s.devCommand q (TST_LB_CFG k.val) (v.setFld TST_LB_CFG.EN 0) (lbCfgWrite k.val q.port.val))

/-- LOOPBACK_TIMEOUT (R444). -/
def execLoopbackTimeout (k : Fin 4) (dt : Nat) (s : State) : Host.Outcome State Fault Refusal :=
  .next ((s.pass dt).onDev (loopbackTimeout k.val))

/-- BIST_START (R446). -/
def execBistStart (q : Req) (group : Fin 256) (s : State) : Host.Outcome State Fault Refusal :=
  .next (s.devCommand q TST_BIST_CMD (BitVec.ofNat 32 (1 + 256 * group.val)) (bistCmdWrite q.port.val))

/-- BIST_DONE (R446). -/
def execBistDone (fail : Option (Fin 16 × BitVec 20)) (dt : Nat) (s : State) : Host.Outcome State Fault Refusal :=
  .next ((s.pass dt).onDev (bistDone (fail.map (fun f => (f.1.val, f.2.toNat)))))

/-- MRAM_TEST_START (R447). -/
def execMramTestStart (q : Req) (s : State) : Host.Outcome State Fault Refusal :=
  .next (s.devCommand q TST_MRAM_CMD 1 mramCmdWrite)

/-- MRAM_TEST_DONE (R447). -/
def execMramTestDone (fail : Option (BitVec 20)) (dt : Nat) (s : State) : Host.Outcome State Fault Refusal :=
  .next ((s.pass dt).onDev (mramTestDone (fail.map BitVec.toNat)))

/-- TEST_LOGIC_RESET (R448): IDCODE is selected. -/
def execTestLogicReset (dt : Nat) (s : State) : Host.Outcome State Fault Refusal := .next ((s.pass dt).onDev (jtagLoad 1))

/-- EXTEST (R449). -/
def execExtest (dt : Nat) (s : State) : Host.Outcome State Fault Refusal := .next ((s.pass dt).onDev (jtagLoad 0))

/-- IDCODE (R448). -/
def execIdcode (dt : Nat) (s : State) : Host.Outcome State Fault Refusal := .next ((s.pass dt).onDev (jtagLoad 0x01))

/-- SAMPLE/PRELOAD (R448). -/
def execSamplePreload (cells : List Bool) (dt : Nat) (s : State) : Host.Outcome State Fault Refusal :=
  .next ((s.pass dt).onDev (samplePreload cells))

/-- CLAMP (R449). -/
def execClamp (dt : Nat) (s : State) : Host.Outcome State Fault Refusal := .next ((s.pass dt).onDev (jtagLoad 4))

/-- HIGHZ (R449). -/
def execHighz (dt : Nat) (s : State) : Host.Outcome State Fault Refusal := .next ((s.pass dt).onDev (jtagLoad 5))

/-- EXTEST_PULSE (R449). -/
def execExtestPulse (dt : Nat) (s : State) : Host.Outcome State Fault Refusal := .next ((s.pass dt).onDev (jtagLoad 6))

/-- EXTEST_TRAIN (R449). -/
def execExtestTrain (dt : Nat) (s : State) : Host.Outcome State Fault Refusal := .next ((s.pass dt).onDev (jtagLoad 7))

/-- BYPASS, and every unlisted code (R448). -/
def execBypass (code : Fin 64) (dt : Nat) (s : State) : Host.Outcome State Fault Refusal :=
  .next ((s.pass dt).onDev (jtagBypass code.val))

end Sys2Proof.Machine
end

