-- ==== Sys2Proof/Machine/Views.lean ====
section
/-! DEFINITION. What a register reads: its stored value, or for the read-only fields that follow other state the value computed from
that state (the register tables of spec/01 to 17). -/

namespace Sys2Proof.Machine

/-- 0 or 1. -/
def one (b : Bool) : Nat := if b then 1 else 0

/-- The sum of 2^i over the numbers below `n` that have a property. -/
def maskFrom (n : Nat) (p : Nat → Bool) : Nat := (List.range n).foldl (fun m i => if p i then m + 2 ^ i else m) 0

/-- The low and the high word of a number. -/
def lowWord (v : Nat) : Word := BitVec.ofNat 32 v
def highWord (v : Nat) : Word := BitVec.ofNat 32 (v / 2 ^ 32)

/-- The FRAC, NS, SEC_LO and SEC_HI words of a time in units of 2^-16 ns (R332). -/
def timeWords (t : Nat) : List Word :=
  [BitVec.ofNat 32 (t % 65536), BitVec.ofNat 32 (t / 65536 % 1000000000), lowWord (t / 65536 / 1000000000),
    BitVec.ofNat 32 (t / 65536 / 1000000000 / 2 ^ 32 % 65536)]

/-- One of the four words of a time, by offset from the FRAC register. -/
def timeWord (t off : Nat) : Word := (timeWords t).getD (off / 4) 0

/-- A sub-line position in a _LO, _HI pair: 56 bits (PAC_POS). -/
def posWord (p : Int) (high : Bool) : Word := let v := unsignedOf 56 p; if high then highWord v else lowWord v

/-- GLB_ views (R30, R31, R33). -/
def Dev.globalView (d : Dev) (a : Nat) : Word :=
  if a = GLB_CAP then
    BitVec.ofNat 32 (2 * 2 ^ 28 + 4 * 2 ^ 24 + (16 - popCount (d.rdN CMP_DX_RETIRED)) * 2 ^ 16 + d.laneCount * 2 ^ 8 + d.hcCount)
  else if a = GLB_ISL_FAULT then
    (d.rd a).setFld GLB_ISL_FAULT.HC_ANY (one (d.rdN GLB_HC_FAULT0 != 0 || d.rdN GLB_HC_FAULT1 != 0))
  else if a = GLB_UID_LO then lowWord Config.uid.toNat
  else if a = GLB_UID_HI then highWord Config.uid.toNat
  else d.rd a

/-- PWR_STS: Hover with a job running or a pass active is Aloft (R436). -/
def Dev.powerView (d : Dev) (a : Nat) : Word :=
  if a = PWR_STS && d.get PWR_STS PWR_STS.STATE = 1 && (d.jobRunning || d.passActive) then (d.rd a).setFld PWR_STS.STATE 2
  else d.rd a

/-- TTH_ views (R168, R169). -/
def Dev.tetherView (d : Dev) (a : Nat) : Word :=
  if a = TTH_MASK then (d.rd a).setFld hiHalf (d.rxMask false)
  else if a = TTH_SEQ then BitVec.ofNat 32 (d.teth.txSeq % 65536 * 65536 + d.teth.rxSeq % 65536)
  else if a = TTH_REPLAY then BitVec.ofNat 32 ((d.teth.kept.map (fun f => f.bytes.length)).sum % 2 ^ 21)
  else if a = TTH_REPLAY_FR then BitVec.ofNat 32 (d.teth.kept.length % 2 ^ 15)
  else if TTH_TXCRED 0 ≤ a && a ≤ TTH_TXCRED 2 then
    let v := (a - TTH_TXCRED 0) / 4
    BitVec.ofNat 32 (min 65535 (vcGet d.teth.limit v - vcGet d.teth.used v))
  else d.rd a

/-- The engine's work in the code of CMP_DXn_STS, and its channel and key. -/
def EngWork.code : EngWork → Nat × Option (Nat × Nat)
  | .idle => (0, none)
  | .decode c k => (1, some (c, k))
  | .verify c k => (2, some (c, k))
  | .object => (3, none)

/-- CMP_DXn_STS (R254). -/
def Dev.engineView (d : Dev) (e : Nat) : Word :=
  let x := d.eng e
  let (work, at_) := x.work.code
  let (c, m) := match at_ with
    | some (c, k) => (c, d.blkMethod c k)
    | none => (0, 0)
  let rate := if x.rates.isEmpty then 0 else x.rates.sum / x.rates.length / 1024
  BitVec.ofNat 32 (min 511 rate * 2 ^ 23 + one x.retired * 2 ^ 22 + m * 2 ^ 20 + work * 2 ^ 18 + c)

/-- CMP_ views (R200, R254). -/
def Dev.rasterView (d : Dev) (a : Nat) : Word :=
  if a = CMP_RFL_STS then
    BitVec.ofNat 32 (one d.creditHeld * 2 ^ 21 + d.ras.jobs.length * 2 ^ 16 + d.segFree)
  else if a = CMP_STORE_FREE then BitVec.ofNat 32 (d.extFree % 2 ^ 28)
  else if a = CMP_FRONT_LO then lowWord ((d.headJob.bind (·.front)).getD noLine)
  else if a = CMP_FRONT_HI then highWord ((d.headJob.bind (·.front)).getD noLine)
  else if a = CMP_JOB_HEAD then BitVec.ofNat 32 ((d.headJob.map (·.id)).getD 0)
  else if a = CMP_DX_BUSY then
    BitVec.ofNat 32 (maskFrom 16 (fun e => (d.eng e).work.code.1 == 2) * 65536 + maskFrom 16 (fun e => (d.eng e).work.code.1 == 1))
  else if CMP_DX_STS 0 ≤ a && a ≤ CMP_DX_STS 15 then d.engineView ((a - CMP_DX_STS 0) / 4)
  else d.rd a

/-- CHK_ views (R391): RESULT, BYTES and the summary. -/
def Dev.checkView (d : Dev) (a : Nat) : Word :=
  if a = CHK_SUM then d.chkSum
  else if CU_CFG 0 ≤ a && a < CU_CFG 8 then
    let k := (a - CU_CFG 0) / 0x80
    if a = CU_RESULT_LO k then lowWord (d.cuResult k)
    else if a = CU_RESULT_HI k then highWord (d.cuResult k)
    else if a = CU_BYTES k then d.cuBytes k
    else d.rd a
  else d.rd a

/-- TIM_, TRG_, CAP_ views (R353, R354). -/
def Dev.timeView (d : Dev) (a : Nat) : Word :=
  if a = TIM_STS then
    BitVec.ofNat 32 (4 * one (d.domHold d.selDom) + 2 * one (d.time.h != 0) + d.selDom)
  else if TIM_DEV_FRAC ≤ a && a ≤ TIM_DEV_SEC_HI then timeWord (d.devTime / 65536) (a - TIM_DEV_FRAC)
  else if a = TIM_H_LO then lowWord (unsignedOf 48 (d.time.h / 65536))
  else if a = TIM_H_HI then highWord (unsignedOf 48 (d.time.h / 65536))
  else if a = TIM_GPIO_IN then
    BitVec.ofNat 32 (maskFrom 16 (fun g => d.bit (inSts (16 + g)) PAC_IN_STS.LEVEL) +
      65536 * maskFrom 4 (fun i => d.bit (inSts (10 + i)) PAC_IN_STS.LEVEL))
  else if TIM_D_CFG 0 ≤ a && a < TIM_D_CFG 2 then
    let dom := (a - TIM_D_CFG 0) / 0x80
    if a = TIM_D_STS dom then (d.rd a).setFld TIM_D_STS.SELECTED (one (d.selDom == dom))
    else if TIM_D_FRAC dom ≤ a && a ≤ TIM_D_SEC_HI dom then timeWord (d.domTime dom / 65536) (a - TIM_D_FRAC dom)
    else d.rd a
  else if CAP_CFG 0 ≤ a && a < CAP_CFG 16 then
    let n := (a - CAP_CFG 0) / 0x40
    let head := (d.capq n).head?
    if CAP_FRAC n ≤ a && a ≤ CAP_SEC_HI n then timeWord ((head.map (·.time)).getD 0) (a - CAP_FRAC n)
    else if a = CAP_POS_LO n then posWord ((head.map (·.pos)).getD 0) false
    else if a = CAP_POS_HI n then posWord ((head.map (·.pos)).getD 0) true
    else if a = CAP_STS n then (d.rd a).setFld ⟨0, 4⟩ (d.capq n).length
    else d.rd a
  else d.rd a

/-- ETH_ views (R355): the head of the transmit timestamp queue. -/
def Dev.ethView (d : Dev) (a : Nat) : Word :=
  let p := (a - ETH_CFG 0) / 0x100
  let head := (d.txQueue p).head?
  if a = ETH_STS p then (d.rd a).setFld ETH_STS.TXQ (d.txQueue p).length
  else if a = ETH_TXQ_TAG p then
    match head with
    | some x => BitVec.ofNat 32 (2 ^ 31 + x.dom % 2 * 65536 + x.tag % 65536)
    | none => 0
  else if ETH_TXQ_FRAC p ≤ a && a ≤ ETH_TXQ_SEC_HI p then timeWord ((head.map (·.time)).getD 0) (a - ETH_TXQ_FRAC p)
  else d.rd a

/-- INS_ and CAMn_ views (R303). -/
def Dev.cameraView (d : Dev) (a : Nat) : Word :=
  if a = INS_STS then
    BitVec.ofNat 32 (maskFrom 4 (fun n => d.rdN (CAM_EVT n) != 0) + 16 * maskFrom 4 (fun n => !(d.cam n).frames.isEmpty))
  else if a = INS_RING then
    BitVec.ofNat 32 (((List.range 4).map (fun n => d.camNeed n (d.rd (CAM_CFG n)))).sum + 1048575) / 1048576
  else if CAM_CFG 0 ≤ a && a < CAM_CFG 4 then
    let n := (a - CAM_CFG 0) / 0x100
    if a = CAM_STS n then
      ((d.rd a).setFld CAM_STS.FRAME_OPEN (one (!(d.cam n).frames.isEmpty))).setFld hiHalf
        ((((d.cam n).frames.getLast?).map (fun f => f.lines.length)).getD 0 % 65536)
    else d.rd a
  else d.rd a

/-- OWN_ and HAT_ views (R381). -/
def Dev.hostView (d : Dev) (a : Nat) : Word :=
  if a = OWN_STS || a = OWN_HOLDER || a = OWN_LEASE_LEFT || a = OWN_WAIT then d.ownView a
  else if a = HAT_EPOCH0 then
    BitVec.ofNat 32 (d.epoch 0 + 256 * d.epoch 1 + 65536 * d.epoch 2 + 16777216 * d.epoch 3)
  else if a = HAT_EPOCH1 then BitVec.ofNat 32 (d.epoch 4 + 256 * d.epoch 5)
  else if a = HAT_SUMMARY then d.hatchSummary
  else if HAT_D 0 0 ≤ a && a < HAT_D 8 0 then
    let n := (a - HAT_D 0 0) / 0x80
    if a = HAT_STS n then d.hatchSts n
    else if a = HAT_AGE n then d.hatchAge n
    else if a = HAT_CFG n && n ≠ 7 then 0
    else d.rd a
  else d.rd a

/-- KEEL_ views (R331). -/
def Dev.keelView (d : Dev) (a : Nat) : Word :=
  if a = KEEL_STS then d.keelSts
  else if KEEL_KEY_STS 0 ≤ a && a ≤ KEEL_KEY_STS 3 then BitVec.ofNat 32 (d.keyState ((a - KEEL_KEY_STS 0) / 4))
  else if a = KEEL_REC_STS then d.keelRecView false
  else if a = KEEL_REC_SEQ then d.keelRecView true
  else d.rd a

/-- The nozzles of a channel whose state is one of some codes. -/
def Dev.countStates (d : Dev) (c : Nat) (codes : List Nat) : Nat :=
  ((List.range (d.nozzles c)).filter (fun n => codes.contains (d.noz c n fState))).length

/-- PAC_ and FIR_ views (R79, R105, R278). -/
def Dev.pacingView (d : Dev) (a : Nat) : Word :=
  if a = PAC_POS_LO then posWord d.P false
  else if a = PAC_POS_HI then posWord d.P true
  else if a = PAC_HWM_LO then posWord d.hwm false
  else if a = PAC_HWM_HI then posWord d.hwm true
  else if a = PAC_VEL then BitVec.ofNat 32 (unsignedOf 32 (max (-(2 ^ 31)) (min (2 ^ 31 - 1) (rdiv d.pac.v 256))))
  else if a = FIR_NH_STS then
    BitVec.ofNat 32 ((d.channels.map (fun c => d.countStates c [3, 4, 5])).sum + one d.nh.flight.isSome * 2 ^ 24 +
      one d.nh.prop.isSome * 2 ^ 25)
  else d.rd a

/-- A channel's block (R53, R105, R200, R277). -/
def Dev.channelView (d : Dev) (c a : Nat) : Word :=
  if a = HC_LINE_LO c then lowWord (((d.hc c).m).getD 0)
  else if a = HC_LINE_HI c then highWord (((d.hc c).m).getD 0)
  else if a = HC_RFL_STS c then
    let b := (d.headJob.map (·.bits)).getD 3
    BitVec.ofNat 32 (min 255 (d.leadCap c b) * 2 ^ 24 +
      ((d.hc c).lines.filter (fun x => !d.usedUp c x.line)).length % 256 * 2 ^ 16 + one (d.inEngine c))
  else if a = HC_RFL_VOID_RUN c then BitVec.ofNat 32 (min 65535 (d.hc c).voidN)
  else if a = HC_NH_STS c then
    BitVec.ofNat 32 (d.countStates c [3, 4, 5] + d.countStates c [1, 2] * 2 ^ 16 +
      one (match d.nh.flight with
        | some u => u.chans.contains c
        | none => false) * 2 ^ 31)
  else d.rd a

/-- NH_PATCH_NEXT shows the map in force where no update in flight touches the channel (R276). -/
def Dev.patchView (d : Dev) (c a : Nat) : Word :=
  let off := (a - 0x400000) % 0x4000
  if 0x1800 ≤ off && off < 0x2000 then
    match d.nh.flight with
    | some u => if u.chans.contains c then d.rd a else d.rd (a - 0x800)
    | none => d.rd (a - 0x800)
  else d.rd a

/-- The present value of a register. -/
def Dev.peek (d : Dev) (a : Nat) : Word :=
  if 0x400000 ≤ a then d.patchView ((a - 0x400000) / 0x4000) a
  else if 0x100000 ≤ a then d.channelView ((a - 0x100000) / 0x4000) a
  else
    match a / 0x10000 with
    | 0 => d.globalView a
    | 1 => d.powerView a
    | 2 => d.tetherView a
    | 4 => d.rasterView a
    | 5 => d.checkView a
    | 6 => if ETH_CFG 0 ≤ a then d.ethView a else d.timeView a
    | 7 => d.cameraView a
    | 8 => d.hostView a
    | 9 => if a = BRD_DIGEST then BitVec.ofNat 32 d.digest else d.rd a
    | 10 => d.keelView a
    | 11 => d.pacingView a
    | _ => d.rd a

end Sys2Proof.Machine
end

