-- ==== Sys2Proof/Machine/Writes.lean ====
section
/-! DEFINITION. What a write does to each register (R9, R11, and the register tables of spec/01 to 18): the limits on its fields, the
commands, and the writes that a chapter gives a rule of their own. -/

namespace Sys2Proof.Machine

/-- A field below a limit takes the limit; above a limit, that limit. -/
def atLeast (f : Fld) (n : Nat) (v : Word) : Word := if v.fld f < n then v.setFld f n else v
def atMost (f : Fld) (n : Nat) (v : Word) : Word := if n < v.fld f then v.setFld f n else v

/-- The written value with the limits that the register tables put on its fields. -/
def clampWrite (a : Nat) (v : Word) : Word :=
  if a = GLB_XING_TMO then atLeast GLB_XING_TMO.TIMEOUT 1 v
  else if a = PWR_UV then atMost PWR_UV.WARN 260 (atLeast PWR_UV.WARN 45 v)
  else if a = MEM_CE_CFG 0 || a = MEM_CE_CFG 1 then atLeast MEM_CE_CFG.WINDOW 1 v
  else if a = MEM_SCRUB_CFG 0 || a = MEM_SCRUB_CFG 1 then atLeast MEM_SCRUB_CFG.PERIOD 1 v
  else if a = MEM_RETRAIN_CFG 0 || a = MEM_RETRAIN_CFG 1 then atLeast MEM_RETRAIN_CFG.OSC_PERIOD 1 v
  else if a = CMP_RFL_CFG then atLeast CMP_RFL_CFG.REREQ_TRIES 1 v
  else if a = BRD_CFG then atLeast BRD_CFG.VOID_SWAP 1 v
  else if a = BRD_HB then atLeast BRD_HB.MISS 2 (atLeast BRD_HB.ARB_FILT 1 v)
  else if a = BRD_GUARD then atLeast BRD_GUARD.KICK_TMO 10 v
  else if a = BRD_LEAD then atLeast BRD_LEAD.GUARD 1 v
  else if a = FIR_ILACE then atMost FIR_ILACE.NPASS 16 v
  else if a = FIR_NH_CFG then
    atMost FIR_NH_CFG.COVER 100 (atLeast FIR_NH_CFG.COVER 1 (atLeast FIR_NH_CFG.CLEAR_N 1 (atLeast FIR_NH_CFG.CONF 1
      (atLeast FIR_NH_CFG.REACH 1 v))))
  else if a = FIR_NH_LEAD then atLeast FIR_NH_LEAD.LEAD 64 v
  else if a = FIR_GATE_CFG 0 || a = FIR_GATE_CFG 1 then atLeast FIR_GATE_CFG.REP 1 (atLeast FIR_GATE_CFG.GVAL 1 v)
  else if TST_LB_CFG 0 ≤ a && a % 0x20 = TST_LB_TIME 0 % 0x20 && a < TST_LB_CFG 4 then atLeast TST_LB_TIME.TIME 1 v
  else v

/-- A write by the access types of R9 with the register's limits. -/
def plainWrite (a : Nat) (v : Word) (d : Dev) : Dev := d.typedWrite a (clampWrite a v)

/-- An effect on everything but the page store, ending well. -/
def okDev (f : Dev → Dev) (s : State) : State × Status := (s.onDev f, .ok)

/-- An effect that ends in a status. -/
def statusDev (f : Dev → Dev × Status) (s : State) : State × Status := let r := f s.dev; ({ s with dev := r.1 }, r.2)

/-- Power control (R440, R441). -/
def powerWrite (a : Nat) (v : Word) (s : State) : State × Status :=
  if a = PWR_CMD then (pwrCmdWrite v s, .ok)
  else if a = PWR_BOOT then okDev (pwrBootWrite v) s
  else if PWR_ISL 1 ≤ a && a < PWR_ISL 0x80 then okDev (islWrite ((a - PWR_ISL 0) / 4) v) s
  else okDev (plainWrite a v) s

/-- Tether (R168, R169). -/
def tetherWrite (a : Nat) (v : Word) (d : Dev) : Dev :=
  if a = TTH_CFG then tthCfgWrite v d
  else if a = TTH_CMD then d.when (v.bit 0) tthRetrain
  else if a = TTH_TMO then tthTmoWrite v d
  else plainWrite a v d

/-- Raster flow and engines (R200, R254, R255). -/
def rasterWrite (q : Req) (a : Nat) (v : Word) (d : Dev) : Dev × Status :=
  if a = CMP_RFL_CMD then (d.when (v.bit 0) cmpResume, .ok)
  else if a = CMP_OBJ_CMD then objOnly q (objCmdWrite v) d
  else if a = CMP_OBJ_STS then (d, .access)
  else if CMP_OBJ_CFG ≤ a && a < CMP_OBJ_STS then objRegWrite q a v d
  else if CMP_CX_CFG 0 ≤ a && a < CMP_CX_CFG 2 then
    let k := (a - CMP_CX_CFG 0) / 0x40
    if a = CMP_CX_CMD k then (cxCmdWrite q k v d, .ok)
    else if a < CMP_CX_CMD k then (cxRegWrite q k a v d, .ok)
    else (plainWrite a v d, .ok)
  else (plainWrite a v d, .ok)

/-- Check units (R384 to R391). -/
def checkWrite (q : Req) (a : Nat) (v : Word) (s : State) : State × Status :=
  if CU_CFG 0 ≤ a && a < CU_CFG 8 then
    let k := (a - CU_CFG 0) / 0x80
    if a = CU_CMD k then (cuCmdWrite q k v s, .ok)
    else if a = CU_DIN8 k then okDev (cuOwned q k (cuDin k 1 v)) s
    else if a = CU_DIN16 k then okDev (cuOwned q k (cuDin k 2 v)) s
    else if a = CU_DIN32 k then okDev (cuOwned q k (cuDin k 4 v)) s
    else if a = CU_STS k then okDev (cuOwned q k (plainWrite a v)) s
    else okDev (cuOwned q k (cuRegWrite k (plainWrite a v))) s
  else okDev (plainWrite a v) s

/-- Time, triggers, captures and their inputs (R353, R354). -/
def timeWrite (a : Nat) (v : Word) (d : Dev) : Dev :=
  if a = TIM_CFG then timCfgWrite v d
  else if a = TIM_CMD then timCmdWrite v d
  else if a = TIM_GPIO_DIR || a = TIM_GPIO_OUT then gpioWrite a v d
  else if TIM_D_CFG 0 ≤ a && a < TIM_D_CFG 2 then
    let dom := (a - TIM_D_CFG 0) / 0x80
    if a = TIM_D_CMD dom then domainCmd dom v d else plainWrite a v d
  else if TRG_CFG 0 ≤ a && a < TRG_CFG 16 then
    let n := (a - TRG_CFG 0) / 0x40
    if a = TRG_CMD n then trgCmdWrite n v d
    else if a = TRG_CFG n then d.typedWrite a (atMost TRG_CFG.A 8 v)
    else if a = TRG_OUT n then d.typedWrite a (atLeast TRG_OUT.WIDTH 1 v)
    else if TRG_T_FRAC n ≤ a && a ≤ TRG_COUNT n then trgRegWrite n a v d
    else plainWrite a v d
  else if CAP_CFG 0 ≤ a && a < CAP_CFG 16 then
    let n := (a - CAP_CFG 0) / 0x40
    if a = CAP_CFG n then capCfgWrite n v d
    else if a = CAP_CMD n then capCmd n v d
    else plainWrite a v d
  else if TIM_IN_CFG 0 ≤ a && a < TIM_IN_CFG 20 && a % 0x10 = 0 then
    let i := (a - TIM_IN_CFG 0) / 0x10
    inCfgWrite (if i < 4 then 10 + i else 12 + i) v d
  else plainWrite a v d

/-- The Ethernet ports (R355). -/
def ethWrite (a : Nat) (v : Word) (d : Dev) : Dev :=
  let p := (a - ETH_CFG 0) / 0x100
  if a = ETH_CFG p then ethCfgWrite p v d
  else if a = ETH_TXQ_CMD p then txqCmd p v d
  else plainWrite a v d

/-- The inspection island (R287, R288, R303). -/
def cameraWrite (a : Nat) (v : Word) (d : Dev) : Dev :=
  if a = INS_COMMIT then insCommit v d
  else if a = INS_MEDIUM || (INS_RESP 0 ≤ a && a ≤ INS_RESP 7) then insStaticWrite a v d
  else if CAM_MAP 0 0 ≤ a && a < CAM_MAP 4 0 then camStaticWrite ((a - CAM_MAP 0 0) / 0x100) a v d
  else if CAM_CFG 0 ≤ a && a < CAM_CFG 4 then
    let n := (a - CAM_CFG 0) / 0x100
    if a = CAM_CFG n then camCfgWrite n v d
    else if a < CAM_PULSE n then camStaticWrite n a v d
    else if a = CAM_PULSE n then camPulseWrite n v d
    else plainWrite a v d
  else plainWrite a v d

/-- The Latch and the Hatches (R362 to R374, R381). -/
def hostWrite (q : Req) (a : Nat) (v : Word) (d : Dev) : Dev × Status :=
  if a = OWN_REQ then (latchRequest q v d, .ok)
  else if a = OWN_CMD then ownCmdWrite q v d
  else if a = HAT_CMD then (d.when (v.bit 0) (hatchReset q), .ok)
  else if HAT_D 0 0 ≤ a && a < HAT_D 8 0 then
    let n := (a - HAT_D 0 0) / 0x80
    if a < HAT_CTRL n then hatchWrite q n ((a - HAT_D n 0) / 4) v d
    else if a = HAT_CTRL n then hatchCtrl q n v d
    else if a = HAT_AGE n then (d, .access)
    else if a = HAT_CFG n then (hatchCfgWrite n v d, .ok)
    else (plainWrite a v d, .ok)
  else (plainWrite a v d, .ok)

/-- The pair (R419). -/
def pairWrite (q : Req) (a : Nat) (v : Word) (d : Dev) : Dev × Status :=
  if a = BRD_CMD then (brdCmdWrite v d, .ok)
  else if a = BRD_KICK then kickWrite q d
  else (plainWrite a v d, .ok)

/-- Calibration and Keel (R306, R315, R329); the bandgap code that a procedure's check reads is free here. -/
def calWrite (q : Req) (a : Nat) (v : Word) (d : Dev) : Dev × Status :=
  if a = CAL_CMD then
    let (x, d) := d.fresh
    (calCmdWrite (x % 65536) v d, .ok)
  else if a = CAL_ADC_REQ then (adcReqWrite v d, .ok)
  else if a = KEEL_KEY_CMD then keyCmdWrite q v d
  else (plainWrite a v d, .ok)

/-- Pacing, firing, nozzle health and gates (R79, R105, R278). -/
def pacingWrite (a : Nat) (v : Word) (d : Dev) : Dev :=
  if a = PAC_CFG then pacCfgWrite v d
  else if a = PAC_CMD then pacCmdWrite v d
  else if a = PAC_ADV_CFG then pacAdvCfgWrite v d
  else if a = PAC_ENC_CFG then pacEncCfgWrite v d
  else if PAC_IN_CFG 0 ≤ a && a < PAC_IN_CFG 10 && a % 0x10 = 0 then inCfgWrite ((a - PAC_IN_CFG 0) / 0x10) v d
  else if a = FIR_CMD then firCmdWrite v d
  else if a = FIR_NH_CMD then firNhCmdWrite v d
  else if a = FIR_GATE_CMD 0 || a = FIR_GATE_CMD 1 then gateCmdWrite ((a - FIR_GATE_CMD 0) / 0x40) v d
  else if a = FIR_GATE_IN_CFG 0 || a = FIR_GATE_IN_CFG 1 then inCfgWrite (14 + (a - FIR_GATE_IN_CFG 0) / 0x40) v d
  else plainWrite a v d

/-- Test (R444, R446, R447). -/
def testWrite (q : Req) (a : Nat) (v : Word) (d : Dev) : Dev :=
  if a = TST_BIST_CMD then bistCmdWrite q.port.val v d
  else if a = TST_MRAM_CMD then mramCmdWrite v d
  else if TST_LB_CFG 0 ≤ a && a < TST_LB_CFG 4 && a % 0x20 = 0 then lbCfgWrite ((a - TST_LB_CFG 0) / 0x20) q.port.val v d
  else plainWrite a v d

/-- A head channel's block (R53, R105, R134, R277, R331). -/
def channelWrite (c a : Nat) (v : Word) (d : Dev) : Dev :=
  if a = HC_LVR_CFG c then lvrCfgWrite c v d
  else if a = HC_LVR_CMD c then d.when (v.bit 0) (lvrRestart c)
  else if a = HC_NH_CMD c then nhCmdWrite c v d
  else if a = HC_FIR_MININT c then d.typedWrite a (atLeast HC_FIR_MININT.MIN_INT 3200 v)
  else if a = WAV_TRIM_A c then wavTrimWrite c false v d
  else if a = WAV_TRIM_B c then wavTrimWrite c true v d
  else if a = WAV_REST c then wavRestWrite c v d
  else if WAV_SEG c 0 ≤ a && a < WAV_SEG c 0 + 0x1000 then wavSegWrite c ((a - WAV_SEG c 0) / 4) v d
  else plainWrite a v d

/-- A nozzle health window: NH_STATE takes PIN, for the channel's nozzles (R271, R276). -/
def patchWrite (c a : Nat) (v : Word) (d : Dev) : Dev :=
  let j := (a - NH_STATE c 0) / 4
  if a < NH_PATCH c 0 then
    let d := d.each (((List.range 4).map (fun i => 4 * j + i)).filter (fun n => n < d.nozzles c))
      (fun n d => d.setNoz c n fPin (v.fld (nozFld n fPin)))
    { d with nh := { d.nh with recordDue := true } }
  else d

/-- One write of a register that is no part of a wider value. -/
def regWrite (q : Req) (a : Nat) (v : Word) (s : State) : State × Status :=
  if 0x400000 ≤ a then okDev (patchWrite ((a - 0x400000) / 0x4000) a v) s
  else if 0x100000 ≤ a then okDev (channelWrite ((a - 0x100000) / 0x4000) a v) s
  else
    match a / 0x10000 with
    | 1 => powerWrite a v s
    | 2 => okDev (tetherWrite a v) s
    | 3 => okDev (fun d => if a = MEM_CMD 0 then memCmdWrite 0 v d else if a = MEM_CMD 1 then memCmdWrite 1 v d else plainWrite a v d) s
    | 4 => statusDev (rasterWrite q a v) s
    | 5 => checkWrite q a v s
    | 6 => okDev (if ETH_CFG 0 ≤ a then ethWrite a v else timeWrite a v) s
    | 7 => okDev (cameraWrite a v) s
    | 8 => statusDev (hostWrite q a v) s
    | 9 => statusDev (pairWrite q a v) s
    | 10 => statusDev (calWrite q a v) s
    | 11 => okDev (pacingWrite a v) s
    | 12 => okDev (testWrite q a v) s
    | _ => okDev (plainWrite a v) s

/-! ## Values wider than 32 bits (R11) -/

/-- Which part of a wider value a register is for accesses: a target of a trigger is a _LO, _HI pair; what stands at the head of a
FIFO or queue does not change until it is removed and is no capture (R11, R333). -/
def accessKind (a : Nat) : RegKind :=
  match regKind a with
  | .lo => .lo
  | .hi => .hi
  | .plain => .plain
  | k =>
    let off := (a - TRG_CFG 0) % 0x40
    if TRG_CFG 0 ≤ a && a < TRG_CFG 16 then (if off = 0x10 then .lo else if off = 0x14 then .hi else .plain)
    else if TRG_CFG 16 ≤ a then .plain
    else k

/-- The position source whose ratio a _HI register belongs to, in the order of SRC (R57). -/
def ratioOwner (hi : Nat) : Option Nat :=
  if PAC_RATIO_ENC0_HI ≤ hi && hi ≤ PAC_RATIO_STEP1_HI then some ((hi - PAC_RATIO_ENC0_HI) / 8) else none

/-- A wide value takes effect: both of its words at once (R11). -/
def wideWrite (q : Req) (hi : Nat) (lo v : Word) (d : Dev) : Dev × Status :=
  let a := hi - 4
  let both (d : Dev) : Dev := plainWrite hi v (d.typedWrite a lo)
  if 0x100000 ≤ hi then
    let c := (hi - 0x100000) / 0x4000
    if hi = HC_ROWDLY_AT_HI c then (rowdlyAtWrite c lo v d, .ok)
    else if hi = HC_LVR_BANK_AT_HI c then (bankAtWrite c lo v d, .ok)
    else if hi = HC_CAL_SET_AT_HI c then (calSetAtWrite c lo v d, .ok)
    else (both d, .ok)
  else if hi = TIM_D_INC_HI 0 then (incWrite 0 (wide lo v) d, .ok)
  else if hi = TIM_D_INC_HI 1 then (incWrite 1 (wide lo v) d, .ok)
  else if TRG_CFG 0 ≤ hi && hi < TRG_CFG 16 then
    let n := (hi - TRG_CFG 0) / 0x40
    (trgRegWrite n hi v (trgRegWrite n a lo d), .ok)
  else if hi = CMP_OBJ_SRC_HI || hi = CMP_OBJ_DST_HI then
    let (d, st) := objRegWrite q a lo d
    if st = .ok then objRegWrite q hi v d else (d, st)
  else if CMP_CX_CFG 0 ≤ hi && hi < CMP_CX_CFG 2 then
    let k := (hi - CMP_CX_CFG 0) / 0x40
    (cxRegWrite q k hi v (cxRegWrite q k a lo d), .ok)
  else if CU_CFG 0 ≤ hi && hi < CU_CFG 8 then
    let k := (hi - CU_CFG 0) / 0x80
    if hi = CU_STATE_HI k then (cuOwned q k (cuStateWrite k (wide lo v)) d, .ok)
    else (cuOwned q k (cuRegWrite k both) d, .ok)
  else
    match ratioOwner hi with
    | some i => (ratioWrite i a hi (wide lo v) d, .ok)
    | none => (both d, .ok)

/-- One write: of a _LO register into the port's hold register, of a _HI register with the low word from it, of any other register
at once (R11). -/
def regEffect (q : Req) (a : Nat) (v : Word) (s : State) : State × Status :=
  match accessKind a with
  | .lo => okDev (·.holdLow q a v) s
  | .hi => statusDev (fun d => wideWrite q a (d.lowPart q (a - 4)) v d) s
  | _ => regWrite q a v s

end Sys2Proof.Machine
end

