-- ==== Sys2Proof/Machine/Bus.lean ====
section
/-! DEFINITION. Register reads and writes through a port (R7 to R11, R29, R333, R356 to R363) and the SERVICE port's transactions
(R358). -/

namespace Sys2Proof.Machine

/-- Reads by FIRMWARE, JTAG and the latch holder clear RC bits; reads from other ports do not (R363). -/
def Dev.mayClear (d : Dev) (q : Req) : Bool := q.port.val == 0 || q.port.val == 6 || d.isHolder q

/-- A read by the kind of register: what it captures for the port (R11, R290, R333), and the value it returns. -/
def Dev.readKind (d : Dev) (q : Req) (a : Nat) : Dev × Word :=
  match accessKind a with
  | .lo => (d.capture q (a + 4) (d.peek (a + 4)), d.peek a)
  | .hi => (d, d.captured q a)
  | .frac => (d.each [4, 8, 12] (fun k e => e.capture q (a + k) (d.peek (a + k))), d.peek a)
  | .ns => (d, d.captured q a)
  | .secLo => (d, d.captured q a)
  | .secHi => (d, d.captured q a)
  | .plain =>
    let off := (a - CAM_CFG 0) % 0x100
    if CAM_CFG 0 ≤ a && a < CAM_CFG 4 && 0x80 ≤ off && off < 0xD0 then
      if off = 0x80 then (d.each (List.range 20) (fun j e => e.capture q (a + 4 * j) (d.peek (a + 4 * j))), d.peek a)
      else (d, d.captured q a)
    else (d, d.peek a)

/-- One read: the checks, then the value, what it captures and, where the reader may, the clearing of RC bits (R9, R363). -/
def Dev.busRead (d : Dev) (q : Req) (a width : Nat) (clear : Bool) : Dev × Status × Word :=
  if !d.sessionOk q then (d, .session, 0)
  else
    match d.reach a width with
    | .error => (d.accessWake a, .access, 0)
    | .silent => (d, .ok, 0)
    | .ok =>
      let (e, v) := d.readKind q a
      (if clear then e.readClear a else e, .ok, v)

/-- One write of the bus (R9, R11, R362). -/
def State.busWrite (s : State) (q : Req) (a width : Nat) (v : Word) : State × Status :=
  if width ≠ 32 && s.dev.sessionOk q then (s.onDev (·.accessWake a), .access)
  else s.write q a v (regEffect q a v)

/-- A read whose result leaves on its port. -/
def State.readReport (s : State) (q : Req) (a width : Nat) : State :=
  let (d, st, v) := s.dev.busRead q a width (s.dev.mayClear q)
  { s with dev := d.emit (.access q.port.val st.code v) }

/-! ## The SERVICE port (R358) -/

/-- A word, most significant byte first, as the SPI target sends it. -/
def spiWord (v : Word) : List Byte := (leBytes 4 v.toNat).reverse

/-- The requester of an SPI transaction. -/
def spiReq (urgent : Bool) : Req := ⟨5, 0, urgent⟩

/-- The status byte when the access is over: READY and CODE (R358). -/
def spiStatus (st : Status) : Byte := BitVec.ofNat 8 (0x80 + st.code)

/-- SPI READ. -/
def spiRead (a : Word) (s : State) : State :=
  let q := spiReq false
  let (d, st, v) := s.dev.busRead q a.toNat 32 (s.dev.mayClear q)
  { s with dev := d.emit (.spi (spiStatus st :: spiWord (if st = .ok then v else 0))) }

/-- SPI WRITE and WRITE_URGENT. -/
def spiWrite (urgent : Bool) (a v : Word) (s : State) : State :=
  let (s, st) := s.busWrite (spiReq urgent) a.toNat 32 v
  s.onDev (·.emit (.spi [spiStatus st]))

/-! ## The meanings -/

/-- REGISTER_WRITE (R9): any register, any address, any width. -/
def execRegisterWrite (q : Req) (a : Word) (width : Nat) (v : Word) (s : State) : Host.Outcome State Fault Refusal :=
  .next (State.report (s.busWrite q a.toNat width v) q 0)

/-- READ_CLEAR (R9, R363): any register, any address, any width. -/
def execReadClear (q : Req) (a : Word) (width : Nat) (s : State) : Host.Outcome State Fault Refusal :=
  .next (s.readReport q a.toNat width)

/-- LO_READ_CAPTURE (R11). -/
def execLoReadCapture (q : Req) (a : Word) (s : State) : Host.Outcome State Fault Refusal := .next (s.readReport q a.toNat 32)

/-- LO_WRITE_HOLD (R11). -/
def execLoWriteHold (q : Req) (a v : Word) (s : State) : Host.Outcome State Fault Refusal :=
  .next (State.report (s.busWrite q a.toNat 32 v) q 0)

/-- HI_WRITE_COMMIT (R11). -/
def execHiWriteCommit (q : Req) (a v : Word) (s : State) : Host.Outcome State Fault Refusal :=
  .next (State.report (s.busWrite q a.toNat 32 v) q 0)

/-- FRAC_READ_CAPTURE (R333). -/
def execFracReadCapture (q : Req) (a : Word) (s : State) : Host.Outcome State Fault Refusal := .next (s.readReport q a.toNat 32)

/-- STAT_CAPTURE: a read of CAMn_STAT0 (R290). -/
def execStatCapture (q : Req) (n : Fin 4) (s : State) : Host.Outcome State Fault Refusal := .next (s.readReport q (CAM_STAT n.val 0) 32)

/-- SPI_READ (R358). -/
def execSpiRead (a : Word) (s : State) : Host.Outcome State Fault Refusal := .next (spiRead a s)

/-- SPI_WRITE (R358). -/
def execSpiWrite (a v : Word) (s : State) : Host.Outcome State Fault Refusal := .next (spiWrite false a v s)

/-- SPI_WRITE_URGENT (R358, R371). -/
def execSpiWriteUrgent (a v : Word) (s : State) : Host.Outcome State Fault Refusal := .next (spiWrite true a v s)

end Sys2Proof.Machine
end

