-- ==== Sys2Proof/Machine/Sash.lean ====
section
/-! DEFINITION. Sash (R359 to R361): requests and their responses on the ports that carry it. -/

namespace Sys2Proof.Machine

/-- A port carries Sash now: its link is up, Tether at version 2 or 3 (R356). -/
def Dev.sashUp (d : Dev) (port : Nat) : Bool :=
  match port with
  | 1 => d.tethUp && 2 ≤ d.tethVer
  | 2 => d.bit (ETH_STS 0) ETH_STS.LINK
  | 3 => d.bit (ETH_STS 1) ETH_STS.LINK
  | 4 => d.brdUp
  | _ => false

/-- The sessions a port holds (R360). -/
def sessionMax (port : Nat) : Nat := if port = 2 || port = 3 then 8 else 2

/-- The largest Sash message of a port; the spec gives none for BRIDLE (R360). -/
def Dev.sashLimit (d : Dev) (port : Nat) : Option Nat :=
  match port with
  | 1 => some d.teth.maxPay
  | 4 => none
  | _ => some 1472

/-- A message of `n` bytes fits the carrier. -/
def Dev.fits (d : Dev) (port n : Nat) : Bool :=
  match d.sashLimit port with
  | some m => decide (n ≤ m)
  | none => true

/-- The header of a request is well formed (R359, R361): reserved fields 0, COUNT in range, DATA as long as OP and COUNT say, request
and response within the carrier's limit. -/
def Dev.sashGood (d : Dev) (op : Nat) (r : SashReq) : Bool :=
  let n := r.data.length
  let c := r.count.val
  let reply := if op = 0x10 then 16 + 4 * c else 16
  r.flags.val < 2 && r.status.val = 0 && r.resv.val = 0 && d.fits r.port.val (16 + n) && d.fits r.port.val reply &&
    (match op with
      | 0x01 => r.session.val = 0 && n = 4
      | 0x10 => 1 ≤ c && c ≤ 64 && n = 0
      | 0x11 => 1 ≤ c && c ≤ 64 && n = 4 * c
      | 0x12 => 4 ≤ c && c ≤ 4096 && c % 4 = 0 && n = c && r.addr.toNat + c ≤ 2 ^ 24
      | 0x02 => n = 0
      | 0x03 => n = 0
      | _ => false)

/-- A response to a request: OP + 0x80, and the request's SEQ and ADDR (R359). -/
def sashReply (r : SashReq) (op ver session count : Nat) (st : Status) (data : List Byte) : List Byte :=
  sashMsg ver (op + 0x80) st.code session r.seq.val r.addr.toNat count data

/-- The requester of the accesses of a request. -/
def sashWho (r : SashReq) : Req := ⟨r.port, r.session.val, r.flags.val % 2 == 1⟩

/-- READ: registers in ascending order up to the first that fails: how many completed, their data, the status (R361). -/
def sashReadLoop (q : Req) : Nat → Nat → Dev → Dev × Nat × List Byte × Status
  | 0, _, d => (d, 0, [], .ok)
  | k + 1, a, d =>
    let (d, st, v) := d.busRead q a 32 (d.mayClear q)
    if st = .ok then
      let (d, n, bs, st) := sashReadLoop q k (a + 4) d
      (d, n + 1, leBytes 4 v.toNat ++ bs, st)
    else (d, 0, [], st)

/-- WRITE: registers in ascending order up to the first that fails (R361). -/
def sashWriteLoop (q : Req) : Nat → Nat → List Byte → State → State × Nat × Status
  | 0, _, _, s => (s, 0, .ok)
  | k + 1, a, bs, s =>
    let (s, st) := s.busWrite q a 32 (BitVec.ofNat 32 (leNat (bs.take 4)))
    if st = .ok then
      let (s, n, st) := sashWriteLoop q k (a + 4) (bs.drop 4) s
      (s, n + 1, st)
    else (s, 0, st)

/-- The staging area lies at the start of the system region (R181; the place is the model's choice). BLOB fails as an access does
while the page store takes none. -/
def sashBlob (r : SashReq) (s : State) : State × Status :=
  if s.dev.islUp 3 && s.dev.get (MEM_STS 0) MEM_STS.STATE ≠ 0 then ({ s with mem := storePut s.mem r.addr.toNat r.data }, .ok)
  else (s, .access)

/-- Change a session. -/
def Dev.modSession (d : Dev) (port num : Nat) (f : Session → Session) : Dev :=
  d.modHost (fun x => { x with sessions := x.sessions.map (fun y => if y.port = port && y.num = num then f y else y) })

/-- The response leaves, and is kept for a retry (R360). -/
def Dev.sashAnswer (d : Dev) (r : SashReq) (msg : List Byte) : Dev :=
  (d.modSession r.port.val r.session.val (fun y => { y with lastSeq := some r.seq.val, lastResp := msg })).sashSend r.port.val msg

/-- The lowest session number from 1 that is free on a port (the numbers are the model's choice). -/
def freeSession (used : List Nat) : Nat := ((List.range 9).map (· + 1)).find? (fun n => !used.contains n) |>.getD 9

/-- OPEN (R360). -/
def sashOpen (r : SashReq) (s : State) : State :=
  let p := r.port.val
  let d := s.dev
  let used := (d.host.sessions.filter (fun x => x.port == p)).map (·.num)
  let refuse (st : Status) : State := s.onDev (·.sashSend p (sashReply r 0x01 r.ver.val 0 0 st []))
  if !d.sashUp p then s
  else if !d.sashGood 0x01 r then refuse .badReq
  else if r.ver.val = 0 then refuse .version
  else if sessionMax p ≤ used.length then refuse .busy
  else
    let num := freeSession used
    let ver := min r.ver.val ((d.rdN GLB_FEAT / 4096) % 16)
    let x : Session := ⟨p, num, leNat r.data, ver, none, [], d.now⟩
    s.onDev (fun d => (d.modHost (fun y => { y with sessions := y.sessions ++ [x] })).sashSend p (sashReply r 0x01 ver num 0 .ok []))

/-- A request within a session (R360): SESSION, then VERSION, then the retry, then the header; every message keeps it open. -/
def sashRequest (op : Nat) (r : SashReq) (act : State → State × Nat × List Byte × Status) (s : State) : State :=
  let p := r.port.val
  if !s.dev.sashUp p then s
  else
    match s.dev.host.sessions.find? (fun x => x.port == p && x.num == r.session.val) with
    | none => s.onDev (·.sashSend p (sashReply r op r.ver.val r.session.val 0 .session []))
    | some x =>
      let s := s.onDev (fun d => d.modSession p x.num (fun y => { y with at_ := d.now }))
      if r.ver.val ≠ x.ver then s.onDev (·.sashSend p (sashReply r op x.ver x.num 0 .version []))
      else if x.lastSeq = some r.seq.val then s.onDev (·.sashSend p x.lastResp)
      else if !s.dev.sashGood op r then s.onDev (·.sashAnswer r (sashReply r op x.ver x.num 0 .badReq []))
      else
        let (s, n, data, st) := act s
        s.onDev (·.sashAnswer r (sashReply r op x.ver x.num n st data))

/-- CLOSE, after its response. -/
def sashClose (r : SashReq) (s : State) : State :=
  let open_ := s.dev.host.sessions.any (fun x => x.port == r.port.val && x.num == r.session.val && x.ver == r.ver.val &&
    x.lastSeq != some r.seq.val)
  let may := s.dev.sashUp r.port.val && open_ && s.dev.sashGood 0x02 r
  let s := sashRequest 0x02 r (fun s => (s, 0, [], .ok)) s
  if may then s.onDev (·.closeSession r.port.val r.session.val) else s

/-- KEEPALIVE. -/
def sashKeepalive (r : SashReq) (s : State) : State := sashRequest 0x03 r (fun s => (s, 0, [], .ok)) s

/-- READ. -/
def sashRead (r : SashReq) (s : State) : State :=
  sashRequest 0x10 r (fun s =>
    let (d, n, bs, st) := sashReadLoop (sashWho r) r.count.val r.addr.toNat s.dev
    ({ s with dev := d }, n, bs, st)) s

/-- WRITE. -/
def sashWrite (r : SashReq) (s : State) : State :=
  sashRequest 0x11 r (fun s =>
    let (s, n, st) := sashWriteLoop (sashWho r) r.count.val r.addr.toNat r.data s
    (s, n, [], st)) s

/-- BLOB. -/
def sashBlobWrite (r : SashReq) (s : State) : State :=
  sashRequest 0x12 r (fun s =>
    let (s, st) := sashBlob r s
    (s, if st = .ok then r.count.val else 0, [], st)) s

/-- A Sash message from its bytes (R359), and its OP. -/
def parseSash (port : Fin 7) (bs : List Byte) : Nat × SashReq :=
  let f (o n : Nat) : Nat := leNat ((bs.drop o).take n)
  (f 1 1, ⟨port, Fin.ofNat 256 (f 0 1), Fin.ofNat 256 (f 2 1), Fin.ofNat 256 (f 3 1), Fin.ofNat 65536 (f 4 2), Fin.ofNat 65536 (f 6 2),
    BitVec.ofNat 32 (f 8 4), Fin.ofNat 65536 (f 12 2), Fin.ofNat 65536 (f 14 2), bs.drop 16⟩)

/-- A Sash message on a port, by its OP; one that is too short for a header or has an OP of no request is malformed (R361). -/
def sashMessage (port : Fin 7) (bs : List Byte) (s : State) : State :=
  let (op, r) := parseSash port bs
  if bs.length < 16 then s.onDev (·.sashSend port.val (sashReply r op r.ver.val r.session.val 0 .badReq []))
  else
    match op with
    | 0x01 => sashOpen r s
    | 0x02 => sashClose r s
    | 0x03 => sashKeepalive r s
    | 0x10 => sashRead r s
    | 0x11 => sashWrite r s
    | 0x12 => sashBlobWrite r s
    | _ => sashRequest op r (fun s => (s, 0, [], .badReq)) s

/-! ## The meanings -/

/-- SASH_OPEN (R360). -/
def execSashOpen (r : SashReq) (s : State) : Host.Outcome State Fault Refusal := .next (sashOpen r s)

/-- SASH_CLOSE (R360). -/
def execSashClose (r : SashReq) (s : State) : Host.Outcome State Fault Refusal := .next (sashClose r s)

/-- SASH_KEEPALIVE (R359). -/
def execSashKeepalive (r : SashReq) (s : State) : Host.Outcome State Fault Refusal := .next (sashKeepalive r s)

/-- SASH_READ (R361). -/
def execSashRead (r : SashReq) (s : State) : Host.Outcome State Fault Refusal := .next (sashRead r s)

/-- SASH_WRITE (R361). -/
def execSashWrite (r : SashReq) (s : State) : Host.Outcome State Fault Refusal := .next (sashWrite r s)

/-- SASH_BLOB (R359). -/
def execSashBlob (r : SashReq) (s : State) : Host.Outcome State Fault Refusal := .next (sashBlobWrite r s)

end Sys2Proof.Machine
end

