-- ==== Sys2Proof/Machine/Kite.lean ====
section
/-! DEFINITION. Kite images (spec/17_startup_power.md, R432 to R435, R480): reading a slot, the load checks with the geometry
checks of R51, the memory checks of R209 and the capacity check of R186, and applying the configuration (R429). -/

namespace Sys2Proof.Machine

/-- A rejection (R435): code, index of the block, item of R51, detail, and the optional blocks skipped before it. -/
structure Reject where
  code : Nat
  block : Nat := 0
  item : Nat := 0
  detail : Nat := 0
  skipped : Nat := 0
  deriving DecidableEq, Repr

/-- PWR_LOAD_A or PWR_LOAD_B (R440). -/
def Reject.word (r : Reject) : Nat := 2 ^ 24 * min 255 r.skipped + 2 ^ 16 * r.item + 2 ^ 8 * min 255 r.block + r.code

/-- A block of an image: its index, TYPE, FLAGS, body, BCRC, and the offset of its header (R433). -/
structure KBlk where
  idx : Nat
  type : Nat
  flags : Nat
  body : List Byte
  bcrc : Nat
  off : Nat
  deriving DecidableEq, Repr

/-- COMPRESSED. -/
def KBlk.coded (b : KBlk) : Bool := b.flags.testBit 0

/-! ## Codes 2 to 8 (R433, R434, R480) -/

/-- The highest format version (R32, R433). -/
def kiteVer : Nat := 1

/-- The largest image (R433). -/
def kiteMax : Nat := 33554432

/-- A body length is allowed for a type (R480). -/
def lenAllowed (type n : Nat) : Bool :=
  if type = 3 then n == 16
  else if type = 6 then n == 32
  else if type = 0xF0 then n == 68
  else if type = 4 || type = 5 then n % 8 == 0
  else true

/-- The length of a body is allowed: of a COMPRESSED body, the SIZE of its wrapper (R480). -/
def bodyAllowed (type flags : Nat) (body : List Byte) : Bool :=
  if flags.testBit 0 then decide (12 ≤ body.length) && lenAllowed type (leField body 4 4) else lenAllowed type body.length

/-- The walk over the blocks from an offset (R480). -/
def kiteWalk (img : List Byte) : Nat → Nat → Nat → Except Reject (List KBlk)
  | 0, i, off => if off = img.length then .ok [] else .error { code := 5, block := i, detail := off }
  | k + 1, i, off =>
    let len := leField img (off + 4) 4
    let flags := leField img (off + 2) 2
    let type := leField img off 2
    let body := (img.drop (off + 16)).take len
    let next := off + 16 + up4 len
    if img.length < next || 2 ≤ flags || leField img (off + 12) 4 ≠ 0 || !bodyAllowed type flags body then
      .error { code := 5, block := i, detail := off }
    else
      match kiteWalk img k (i + 1) next with
      | .error r => .error r
      | .ok t => .ok (⟨i, type, flags, body, leField img (off + 8) 4, off⟩ :: t)

/-- The types with a meaning (R434). -/
def knownTypes : List Nat := [1, 2, 3, 4, 5, 6, 0xF0]

/-- The TYPE check (R434): the optional blocks skipped. -/
def kiteTypes (n : Nat) : List KBlk → List Nat → Nat → Except Reject Nat
  | [], seen, k =>
    match [1, 2, 3].find? (fun t => !seen.contains t) with
    | some t => .error { code := 8, block := n, detail := t, skipped := k }
    | none => .ok k
  | b :: t, seen, k =>
    if knownTypes.contains b.type then
      if (b.type ≠ 5 && seen.contains b.type) || (b.type = 0xF0 && !t.isEmpty) then
        .error { code := 8, block := b.idx, detail := b.type, skipped := k }
      else kiteTypes n t (b.type :: seen) k
    else if 0x8000 ≤ b.type then kiteTypes n t seen (k + 1)
    else .error { code := 8, block := b.idx, detail := b.type, skipped := k }

/-- An image read (R433): its SERIAL, its bytes, its blocks, the optional blocks skipped. -/
structure Kite where
  serial : Nat
  image : List Byte
  blks : List KBlk
  skipped : Nat
  deriving DecidableEq, Repr

/-- Codes 2 to 8 on what a slot holds (R435). -/
def kiteRead (slot : List Byte) : Except Reject Kite :=
  let fver := leField slot 4 2
  let total := leField slot 8 4
  let nblk := leField slot 12 2
  let die := leField slot 20 2
  if leField slot 0 4 ≠ 0x4554494B then .error { code := 2 }
  else if fver = 0 || kiteVer < fver then .error { code := 3, detail := fver }
  else if die ≠ 0x0A64 then .error { code := 4, detail := die }
  else if total < 32 + 16 * nblk || kiteMax < total || slot.length < total then .error { code := 5, detail := 8 }
  else if leField slot 6 2 ≠ 0 then .error { code := 5, detail := 6 }
  else if leField slot 14 2 ≠ 0 then .error { code := 5, detail := 14 }
  else if leField slot 22 6 ≠ 0 then .error { code := 5, detail := 22 }
  else
    let img := slot.take total
    match kiteWalk img nblk 0 32 with
    | .error r => .error r
    | .ok blks =>
      if crc32c (img.take 28) ≠ leField img 28 4 then .error { code := 6 }
      else
        match blks.find? (fun b => crc32c b.body != b.bcrc) with
        | some b => .error { code := 7, block := b.idx }
        | none =>
          match kiteTypes nblk blks [] 0 with
          | .error r => .error r
          | .ok k => .ok ⟨leField img 16 4, img, blks, k⟩

/-! ## Codes 9 to 11 (R434, R435) -/

/-- The body of a block as its type reads it: a COMPRESSED body decoded. -/
def KBlk.plain (b : KBlk) : List Byte := if b.coded then (objectDecode b.body).out else b.body

/-- Code 9 on a keyed device (R328, R435): the signature covers the image up to the header of its block. -/
def Dev.kiteSigned (d : Dev) (k : Kite) : Except Reject Unit :=
  match k.blks.find? (fun b => b.type == 0xF0) with
  | none => .error { code := 9, block := k.blks.length, skipped := k.skipped }
  | some b =>
    let body := b.plain
    let slot := leField body 0 1
    if slot < 4 && d.keyState slot == 1 && Config.ed25519Ok (d.keyOfSlot slot) (body.drop 4) (k.image.take b.off) then .ok ()
    else .error { code := 9, block := b.idx, detail := slot, skipped := k.skipped }

/-- Code 10 (R247): every COMPRESSED body of a known type decodes. -/
def Kite.decodes (k : Kite) : Except Reject Unit :=
  match k.blks.find? (fun b => knownTypes.contains b.type && b.coded && !(objectDecode b.body).done) with
  | none => .ok ()
  | some b => .error { code := 10, block := b.idx, detail := (objectDecode b.body).count, skipped := k.skipped }

/-- The index of the first block of a type. -/
def Kite.indexOf (k : Kite) (type : Nat) : Nat := ((k.blks.find? (fun b => b.type == type)).map (·.idx)).getD 0

/-- The body of the first block of a type, none of it where the image has no such block. -/
def Kite.body (k : Kite) (type : Nat) : List Byte := ((k.blks.find? (fun b => b.type == type)).map (·.plain)).getD []

/-- Codes 2 to 11 on what a slot holds; `entryOk` is the firmware's own entry check (R435). -/
def Dev.kiteAccept (d : Dev) (slot : List Byte) (entryOk : Bool) : Except Reject Kite :=
  match kiteRead slot with
  | .error r => .error r
  | .ok k =>
    match (if d.keyed then d.kiteSigned k else .ok ()) with
    | .error r => .error r
    | .ok _ =>
      match k.decodes with
      | .error r => .error r
      | .ok _ => if entryOk then .ok k else .error { code := 11, block := k.indexOf 1, skipped := k.skipped }

/-! ## Reading the slots (R431, R432) -/

/-- PWR_LOAD_x of a slot. -/
def pwrLoad (slot : Nat) : Nat := if slot = 0 then PWR_LOAD_A else PWR_LOAD_B

/-- A slot is rejected: the load report, then the other slot, or NOIMAGE when both have been tried (R431, R432, R435). -/
def Dev.slotReject (d : Dev) (slot : Nat) (r : Reject) : Dev :=
  let tried := d.pwr.slotTried ||| 2 ^ slot
  let d := (d.wrN (pwrLoad slot) r.word).wrN PWR_LOAD_DETAIL r.detail
  let d := ((d.modPwr (fun x => { x with slotTried := tried, image := [] })).put PWR_STS PWR_STS.FALLBACK 1).put PWR_STS PWR_STS.SIGNED 0
  let d := (d.wrN PWR_SERIAL 0).put PWR_STS PWR_STS.SLOT 0
  if tried = 3 then (d.put PWR_STS PWR_STS.STAGE 8).put PWR_STS PWR_STS.STATE 7 else d.put PWR_STS PWR_STS.STAGE 3

/-- The slot to read: the one named by FIRST, then the other (R432). -/
def Dev.slotNext (d : Dev) : Nat :=
  let first := if d.pwr.bootB then 1 else 0
  if d.pwr.slotTried.testBit first then 1 - first else first

/-- A slot is accepted: the boot goes on to Configuration (R429, R440). -/
def Dev.slotAccept (d : Dev) (slot : Nat) (k : Kite) : Dev :=
  let second := d.pwr.slotTried ≠ 0
  let d := ((d.modPwr (fun x => { x with image := k.image })).put PWR_STS PWR_STS.STAGE 4).put PWR_STS PWR_STS.SLOT slot
  let d := (d.put PWR_STS PWR_STS.SIGNED (if d.keyed then 1 else 0)).put PWR_STS PWR_STS.FALLBACK (if second then 1 else 0)
  (d.wrN PWR_SERIAL k.serial).wrN (pwrLoad slot) (2 ^ 24 * min 255 k.skipped)

/-- IMAGE_READ (R429, R432, R435): the boot ROM reads one slot. A flash that cannot be read rejects both. -/
def imageRead (flash : Bool) (slot : List Byte) (entryOk : Bool) (d : Dev) : Dev :=
  if d.get PWR_STS PWR_STS.STAGE ≠ 3 || d.pwr.held then d
  else if !flash then (d.slotReject 0 { code := 1 }).slotReject 1 { code := 1 }
  else
    match d.kiteAccept slot entryOk with
    | .error r => d.slotReject d.slotNext r
    | .ok k => d.slotAccept d.slotNext k

/-! ## The geometry block (R50, R51) -/

/-- A channel record, with its record number. -/
structure GeoChan where
  rec_ : Nat
  chan : Nat
  colour : Nat
  rows : Nat
  cflags : Nat
  n : Nat
  resv : Nat
  x : Nat
  rowdly : Nat
  offs : List Nat
  deriving DecidableEq, Repr

/-- An overlap record. -/
structure GeoOvl where
  rec_ : Nat
  low : Nat
  high : Nat
  mode : Nat
  resv : Nat
  width : Nat
  split : Nat
  deriving DecidableEq, Repr

/-- A station record. -/
structure GeoSt where
  rec_ : Nat
  kind : Nat
  index : Nat
  resv : Nat
  offset : Nat
  deriving DecidableEq, Repr

/-- NCH, NOVL and NST. -/
def geoNch (g : List Byte) : Nat := leField g 2 1
def geoNovl (g : List Byte) : Nat := leField g 3 1
def geoNst (g : List Byte) : Nat := leField g 4 1

/-- The channel records. -/
def geoChans (g : List Byte) : List GeoChan :=
  (List.range (geoNch g)).map (fun i =>
    let o := 16 + 32 * i
    ⟨1 + i, leField g o 1, leField g (o + 1) 1, leField g (o + 2) 1, leField g (o + 3) 1, leField g (o + 4) 2,
      leField g (o + 6) 2, leField g (o + 8) 4, leField g (o + 12) 4, (List.range 8).map (fun r => leField g (o + 16 + 2 * r) 2)⟩)

/-- The overlap records. -/
def geoOvls (g : List Byte) : List GeoOvl :=
  (List.range (geoNovl g)).map (fun i =>
    let o := 16 + 32 * geoNch g + 8 * i
    ⟨1 + geoNch g + i, leField g o 1, leField g (o + 1) 1, leField g (o + 2) 1, leField g (o + 3) 1, leField g (o + 4) 2,
      leField g (o + 6) 2⟩)

/-- The station records. -/
def geoStations (g : List Byte) : List GeoSt :=
  (List.range (geoNst g)).map (fun i =>
    let o := 16 + 32 * geoNch g + 8 * geoNovl g + 8 * i
    ⟨1 + geoNch g + geoNovl g + i, leField g o 1, leField g (o + 1) 1, leField g (o + 2) 2, leField g (o + 4) 4⟩)

/-- The stride of a channel record. -/
def GeoChan.stride (c : GeoChan) : Nat := 2 ^ (c.cflags / 4 % 4)

/-- The highest plane dot a channel covers (R51, item 7). -/
def GeoChan.top (c : GeoChan) : Nat := c.x + (c.n - 1) * c.stride

/-- The row offsets of the rows a channel has. -/
def GeoChan.used (c : GeoChan) : List Nat := c.offs.take c.rows

/-- The plane dots that the ranges of two channels share (R48). -/
def sharedDots (a b : GeoChan) : Nat := min a.top b.top + 1 - max a.x b.x

/-- The record of a channel number. -/
def chanRec (cs : List GeoChan) (n : Nat) : Option GeoChan := cs.find? (fun c => c.chan == n)

/-- Item 4 fails. -/
def GeoChan.badField (c : GeoChan) : Bool :=
  7 < c.colour || c.rows = 0 || 8 < c.rows || c.n = 0 || 4096 < c.n || c.n % c.rows ≠ 0 || 16 ≤ c.cflags || c.resv ≠ 0

/-- Item 5 fails. -/
def GeoChan.badOffs (c : GeoChan) : Bool :=
  !c.used.contains 0 || c.used.any (fun k => 1023 < k) || (c.offs.drop c.rows).any (· ≠ 0)

/-- Item 6 fails: the skew storage of R43, compared exactly. -/
def GeoChan.badSkew (c : GeoChan) : Bool := 65536 * 8 < c.n / c.rows * 3 * c.used.foldl (· + ·) 0

/-- Item 8 fails. -/
def GeoOvl.badField (o : GeoOvl) (cs : List GeoChan) : Bool :=
  1 < o.mode || o.resv ≠ 0 || o.low = o.high ||
    (match chanRec cs o.low, chanRec cs o.high with
      | some a, some b => a.colour != b.colour
      | _, _ => true)

/-- Item 9 fails at an overlap record (R48, R49). -/
def GeoOvl.badPlace (o : GeoOvl) (cs : List GeoChan) (os : List GeoOvl) : Bool :=
  o.width = 0 || 1023 < o.width || o.width < o.split ||
    (match chanRec cs o.low, chanRec cs o.high with
      | some a, some b => b.x ≤ a.x || sharedDots a b ≠ o.width
      | _, _ => true) ||
    os.any (fun p => p.rec_ < o.rec_ && (p.low = o.low || p.high = o.high))

/-- Two channels have an overlap record. -/
def ovlOf (os : List GeoOvl) (a b : Nat) : Bool := os.any (fun o => (o.low = a && o.high = b) || (o.low = b && o.high = a))

/-- Item 9 fails at a channel, the later of two or three whose ranges break R49. -/
def GeoChan.badRange (c : GeoChan) (cs : List GeoChan) (os : List GeoOvl) : Bool :=
  let before := cs.filter (fun a => a.rec_ < c.rec_ && a.colour = c.colour)
  before.any (fun a => 0 < sharedDots a c && !ovlOf os a.chan c.chan) ||
    before.any (fun a => before.any (fun b => a.rec_ < b.rec_ &&
      max (max a.x b.x) c.x ≤ min (min a.top b.top) c.top))

/-- The INDEX values of a station's kind. -/
def stationIndexes (kind : Nat) : Nat := if kind = 2 then 2 else 4

/-- Item 10 fails. -/
def GeoSt.bad (s : GeoSt) (ss : List GeoSt) : Bool :=
  2 < s.kind || stationIndexes s.kind ≤ s.index || s.resv ≠ 0 ||
    ss.any (fun t => t.rec_ < s.rec_ && t.kind = s.kind && t.index = s.index)

/-- The header fails item 1. -/
def geoBadHeader (g : List Byte) : Bool :=
  leField g 0 2 ≠ 1 || leField g 6 2 ≠ 0 || 2 ≤ leField g 5 1 || geoNch g = 0 || 64 < geoNch g || 63 < geoNovl g || 16 < geoNst g ||
    g.length ≠ 16 + 32 * geoNch g + 8 * geoNovl g + 8 * geoNst g

/-- The items of R51 in order, each with the records that fail it. -/
def geoItems (g : List Byte) : List (Nat × List Nat) :=
  let cs := geoChans g
  let os := geoOvls g
  let ss := geoStations g
  let chans (f : GeoChan → Bool) : List Nat := (cs.filter f).map (·.rec_)
  [(1, if geoBadHeader g then [0] else []),
    (2, if leField g 8 4 = 0 || leField g 12 4 = 0 then [0] else []),
    (3, chans (fun c => 63 < c.chan || cs.any (fun b => b.rec_ < c.rec_ && b.chan = c.chan))),
    (4, chans GeoChan.badField),
    (5, chans GeoChan.badOffs),
    (6, chans GeoChan.badSkew),
    (7, chans (fun c => 262143 < c.top)),
    (8, (os.filter (fun o => o.badField cs)).map (·.rec_)),
    (9, chans (fun c => c.badRange cs os) ++ (os.filter (fun o => o.badPlace cs os)).map (·.rec_)),
    (10, (ss.filter (fun s => s.bad ss)).map (·.rec_))]

/-- The first item of R51 that fails and its first record (code 12). -/
def geoFault (g : List Byte) : Option (Nat × Nat) :=
  (geoItems g).findSome? (fun (i : Nat × List Nat) =>
    match i.2 with
    | [] => none
    | r :: _ => some (i.1, r))

/-! ## The memory block and the capacity (R186, R208, R209) -/

/-- DEVICE of a memory block. -/
def memDev (m : List Byte) : Nat := leField m 3 1

/-- The capacity of one channel in GiB (R204, R209). -/
def memChanGiB (m : List Byte) : Nat :=
  rankGiB (memDev m % 2 = 1) (memDev m / 2 % 4) * (if memDev m / 8 % 2 = 1 then 2 else 1)

/-- The field that fails R209, by its offset (code 14). -/
def memBad (m : List Byte) : Option Nat :=
  let f (i : Nat) : Nat := leField m i 1
  if leField m 0 2 ≠ 1 then some 0
  else if 16 ≤ memDev m then some 3
  else if leField m 14 2 ≠ 0 then some 14
  else if f 2 ≠ 1 && f 2 ≠ 2 then some 2
  else if memDev m / 2 % 4 = 3 then some 3
  else if 4 < f 4 then some 4
  else if 32 < memChanGiB m then some 3
  else if 8 < f 5 && f 2 = 2 then some 5
  else if f 6 = 0 || f 6 % 2 = 1 then some 6
  else if f 7 = 0 then some 7
  else if f 8 = 0 then some 8
  else none

/-- Σ W(c), at 3 bits per nozzle. -/
def geoSumW (g : List Byte) : Nat := (geoChans g).foldl (fun a c => a + lineBytes c.n 3) 0

/-- SPAN (R44). -/
def geoSpan (g : List Byte) : Nat :=
  let cs := geoChans g
  let top := cs.foldl (fun a c => max a (c.rowdly + 256 * c.used.foldl max 0)) 0
  let low := cs.foldl (fun a c => min a c.rowdly) (2 ^ 32)
  (top - low + 255) / 256

/-- NEED in bytes. -/
def geoNeed (g : List Byte) : Nat := geoSumW g * (geoSpan g + 8192)

/-- A camera station is declared (R181). -/
def geoCamera (g : List Byte) : Bool := (geoStations g).any (fun s => s.kind = 0)

/-- HAVE in bytes. -/
def storeHave (g m : List Byte) : Nat :=
  (memChanGiB m * leField m 2 1 * 2 ^ 30 - 2 ^ 30 - (if geoCamera g then 2 ^ 29 else 0)) * 3 / 4

/-! ## Configuration (R3, R429, R434, R435, codes 12 to 16) -/

/-- The pairs of words of an INSPECTION or REGISTERS body. -/
def wordPairs (b : List Byte) : List (Nat × Word) :=
  (List.range (b.length / 8)).map (fun i => (leField b (8 * i) 4, BitVec.ofNat 32 (leField b (8 * i + 4) 4)))

/-- The REGISTERS blocks, in image order. -/
def Kite.regBlks (k : Kite) : List KBlk := k.blks.filter (fun b => b.type == 5)

/-- R3: the first disabled channel that the geometry names, else the first disabled lane that the link settings require. -/
def Dev.kiteResource (d : Dev) (k : Kite) : Option Reject :=
  let bad := ((geoChans (k.body 2)).map (·.chan)).filter (fun c => decide (d.hcCount ≤ c))
  match bad with
  | c :: t => some { code := 13, block := k.indexOf 2, detail := t.foldl min c, skipped := k.skipped }
  | [] =>
    let wants (b : KBlk) : Bool :=
      (wordPairs b.plain).any (fun p => p.1 == TTH_CFG && decide (d.laneCount < p.2.fld TTH_CFG.MIN_LANES))
    (k.regBlks.find? wants).map (fun b => { code := 13, block := b.idx, detail := 0x100 + d.laneCount, skipped := k.skipped })

/-- Codes 12 to 15 (R435). -/
def Dev.kiteConfig (d : Dev) (k : Kite) : Option Reject :=
  let g := k.body 2
  let m := k.body 3
  match geoFault g with
  | some (i, r) => some { code := 12, block := k.indexOf 2, item := i, detail := r, skipped := k.skipped }
  | none =>
    match d.kiteResource k with
    | some r => some r
    | none =>
      match memBad m with
      | some o => some { code := 14, block := k.indexOf 3, detail := o, skipped := k.skipped }
      | none =>
        let short := geoNeed g - storeHave g m
        if short = 0 then none
        else some { code := 15, block := k.indexOf 2, detail := (short + geoSumW g - 1) / geoSumW g, skipped := k.skipped }

/-- The geometry registers of a channel record (R53). -/
def Dev.loadGeoChan (d : Dev) (c : GeoChan) : Dev :=
  let k (r : Nat) : Nat := c.offs.getD r 0
  let off (r : Nat) : Nat := k r + 2 ^ 10 * k (r + 1) + 2 ^ 20 * k (r + 2)
  let d := d.wrN (HC_GEOM_NOZ c.chan) (c.n + 2 ^ 16 * (c.rows - 1) + 2 ^ 23 * (c.cflags / 2 % 2) + 2 ^ 24 * (c.cflags % 2) +
    2 ^ 25 * (c.cflags / 4 % 4) + 2 ^ 28 * c.colour + 2 ^ 31)
  let d := (d.wrN (HC_GEOM_X c.chan) c.x).wrN (HC_ROWDLY c.chan) c.rowdly
  ((d.wrN (HC_ROWOFF0 c.chan) (off 0)).wrN (HC_ROWOFF1 c.chan) (off 3)).wrN (HC_ROWOFF2 c.chan) (k 6 + 2 ^ 10 * k 7)

/-- HC_OVL of an overlap's low channel (R53). -/
def Dev.loadGeoOvl (d : Dev) (o : GeoOvl) : Dev :=
  d.wrN (HC_OVL o.low) (o.high + 2 ^ 7 + 2 ^ 8 * o.width + 2 ^ 18 * o.split + 2 ^ 28 * o.mode)

/-- The geometry block is applied (R50 to R53, R80). -/
def Dev.loadGeometry (d : Dev) (g : List Byte) : Dev :=
  let d := (geoChans g).foldl Dev.loadGeoChan d
  let d := (geoOvls g).foldl Dev.loadGeoOvl d
  let d := (d.put FIR_CFG FIR_CFG.SCAN (leField g 5 1 % 2)).modPwr (fun x => { x with geom := g })
  { d with stations := (geoStations g).map (fun s => ⟨s.kind, s.index, signedOf 32 s.offset⟩) }

/-- The memory block is applied (R208). -/
def Dev.loadMemory (d : Dev) (g m : List Byte) : Dev :=
  let b (i : Nat) : Nat := leField m i 1
  let d := d.each (List.range (b 2)) (fun n d =>
    let w := memDev m % 2 + 2 * (memDev m / 2 % 4) + 8 * (memDev m / 8 % 2) + 2 ^ 4 * b 4 + 2 ^ 8 * (b 5 % 16) + 2 ^ 12
    (d.wrN (MEM_CFG n) w).setMemCh n { d.memCh n with cl := b 6, trcd := b 7, trp := b 8, modeRegs := [b 9, b 10, b 11, b 12, b 13] })
  (d.wrN CMP_STORE_EXT (storeHave g m / 4096)).wrN CMP_STORE_NEED ((geoNeed g + 4095) / 4096)

/-- The flags that say that a write was refused, by register and mask (R435, code 16). -/
def refusalFlags : List (Nat × Nat) :=
  [(PAC_EVT, 2 ^ 9), (FIR_EVT, 2 ^ 9 + 2), (TIM_EVT, 2 ^ 7 + 2), (KEEL_EVT, 2 ^ 5), (PWR_EVT, 2 ^ 5), (BRD_EVT, 2 ^ 14), (MEM_EVT 0, 2 ^ 9),
    (MEM_EVT 1, 2 ^ 9), (CMP_CX_EVT 0, 4), (CMP_CX_EVT 1, 4)] ++
  (List.range 4).map (fun n => (CAM_EVT n, 2 ^ 10)) ++ (List.range 16).map (fun n => (TRG_STS n, 2 ^ 5)) ++
  (List.range 8).map (fun n => (CU_STS n, 2 ^ 6)) ++ (List.range 64).map (fun c => (HC_LVR_EVT c, 2 ^ 7)) ++
  (List.range 64).map (fun c => (HC_GEOM_STS c, 4))

/-- A refusal flag is set in a later state and not in an earlier one. -/
def Dev.refusedSince (before after : Dev) : Bool :=
  refusalFlags.any (fun f => (after.rdN f.1 &&& f.2) &&& ((before.rdN f.1 &&& f.2) ^^^ f.2) ≠ 0)

/-- The firmware's own writes of an image's pairs, in order; the address of the first that fails (R434, code 16). -/
def State.writePairs (s : State) : List (Nat × Word) → State × Option Nat
  | [] => (s, none)
  | (a, v) :: t =>
    let (s', st) := s.busWrite ⟨0, 0, false⟩ a 32 v
    if st ≠ .ok || s.dev.refusedSince s'.dev then (s', some a) else s'.writePairs t

/-- The pairs of several blocks, in order: the first failure with its block. -/
def State.writeBlks (s : State) : List (Nat × List (Nat × Word)) → State × Option (Nat × Nat)
  | [] => (s, none)
  | (i, ps) :: t =>
    match s.writePairs ps with
    | (s', some a) => (s', some (i, a))
    | (s', none) => s'.writeBlks t

/-- Geometry and memory are applied, unused islands are gated, the Keel records that need the geometry act (R52, R256, R310). -/
def Dev.loadPlane (d : Dev) (k : Kite) : Dev :=
  let d := (d.loadGeometry (k.body 2)).loadMemory (k.body 2) (k.body 3)
  let d := d.each islandCodes (fun c d => if d.islUnused c then d.islGate c true else d)
  let d := d.each d.channels (fun c d => d.loadChannel c)
  d.loadNozzles.computeMaps

/-- The pairs of the image: the INSPECTION block, then the REGISTERS blocks (R287, R434). -/
def Kite.writes (k : Kite) : List (Nat × List (Nat × Word)) :=
  ((k.blks.filter (fun b => b.type == 4)).map (fun b => (b.idx, (wordPairs b.plain).map (fun p => (0x70000 + p.1, p.2))))) ++
  (k.regBlks.map (fun b => (b.idx, wordPairs b.plain)))

/-- The firmware starts: the cameras' settings are generation 0, the role is SINGLE or SEEKING, memory training starts (R221, R287,
R403, R429). -/
def Dev.firmwareStart (d : Dev) (k : Kite) : Dev :=
  let d := d.each [0, 1, 2, 3] (fun n d => d.modCam n (fun x => { x with set := d.shadow n, gen := 0, useGen := 0, commit := none }))
  let d := (d.modPwr (fun x => { x with net := k.body 6 })).when (d.pwr.slotTried ≠ 0) (·.flag PWR_EVT PWR_EVT.FALLBACK)
  let d := if d.bit BRD_CFG BRD_CFG.EN then (d.modPair (fun x => { x with seekAt := d.now })).takeRole 1 0 0 else d.takeRole 0 0 0
  (d.each d.memChannels (fun n d => d.startTraining n .initial (d.get (MEM_CFG n) MEM_CFG.BIN_MAX) 1)).put PWR_STS PWR_STS.STAGE 5

/-- CONFIGURATION (R429, R435): the load checks 12 to 16, then the configuration is applied. A rejection undoes what it did. -/
def configuration (s : State) : State :=
  if s.dev.get PWR_STS PWR_STS.STAGE ≠ 4 || s.dev.pwr.held then s
  else
    let slot := s.dev.get PWR_STS PWR_STS.SLOT
    match kiteRead s.dev.pwr.image with
    | .error r => s.onDev (·.slotReject slot r)
    | .ok k =>
      match s.dev.kiteConfig k with
      | some r => s.onDev (·.slotReject slot r)
      | none =>
        match (s.onDev (·.loadPlane k)).writeBlks k.writes with
        | (_, some (i, a)) => s.onDev (·.slotReject slot { code := 16, block := i, detail := a, skipped := k.skipped })
        | (s', none) => s'.onDev (·.firmwareStart k)

/-! ## The meanings -/

/-- IMAGE_READ (R429, R432, R435): the flash can be read; what the slot holds; the firmware's own entry check. -/
def execImageRead (flash : Bool) (slot : List Byte) (entryOk : Bool) (dt : Nat) (s : State) : Host.Outcome State Fault Refusal :=
  .next ((s.pass dt).onDev (imageRead flash slot entryOk))

/-- CONFIGURATION (R429, R435). -/
def execConfiguration (dt : Nat) (s : State) : Host.Outcome State Fault Refusal := .next (configuration (s.pass dt))

end Sys2Proof.Machine
end

