-- ==== Sys2Proof/Machine/FwMsg.lean ====
section
/-! DEFINITION. The firmware's messages, events and telemetry (spec/14_host_access.md, R375, R377 to R380), and the JTAG port's
register accesses (R450). -/

namespace Sys2Proof.Machine

/-! ## Requests and replies (R368, R375, R377) -/

/-- The firmware runs: after Configuration, and in MEMFAULT (R429, R431). -/
def Dev.fwRuns (d : Dev) : Bool :=
  let st := d.get PWR_STS PWR_STS.STAGE
  !d.pwr.held && 5 ≤ st && st ≠ 8

/-- The results of R377. -/
inductive FwResult where
  | ok | unknownType | badArg | busy | rejected | notFound | version
  deriving DecidableEq, Repr

/-- RESULT. -/
def FwResult.code : FwResult → Nat
  | .ok => 0 | .unknownType => 1 | .badArg => 2 | .busy => 3 | .rejected => 4 | .notFound => 5 | .version => 6

/-- A message header (R368). -/
def msgHead (type len tag : Nat) : Word := BitVec.ofNat 32 (2 ^ 24 + 2 ^ 16 * type + 2 ^ 8 * len + tag)

/-- The firmware posts the replies that wait on outbound Hatches that are EMPTY, oldest first. -/
def Dev.drainReplies (d : Dev) : Dev :=
  d.each [4, 5, 6] (fun n d =>
    match (d.hatch n).st, d.host.replies.find? (fun r => r.1 == n) with
    | .empty, some r => (d.modHost (fun x => { x with replies := x.replies.erase r })).firmwarePost n r.2.1 r.2.2
    | _, _ => d)

/-- A REPLY on the Hatch that answers HTn (R367, R377). -/
def Dev.fwReply (d : Dev) (n rx tag : Nat) (r : FwResult) (payload : List Word) : Dev :=
  let ws := msgHead 0x81 (1 + payload.length) tag :: BitVec.ofNat 32 r.code :: payload
  (d.modHost (fun x => { x with replies := x.replies ++ [(n + 4, rx, ws)] })).drainReplies

/-- The message in an inbound Hatch that the firmware can take now (R375). -/
def Dev.fwMessage (d : Dev) (n : Nat) : Option (List Word) :=
  let waiting := (d.host.replies.filter (fun r => r.1 == n + 4)).length
  if d.fwRuns && (d.hatch n).st = .full && decide (waiting < 16) then some (d.hatchWords n) else none

/-- TYPE and TAG of a message, and word i. -/
def msgVer (ws : List Word) : Nat := (ws.getD 0 0).toNat / 2 ^ 24
def msgType (ws : List Word) : Nat := (ws.getD 0 0).toNat / 2 ^ 16 % 256
def msgTag (ws : List Word) : Nat := (ws.getD 0 0).toNat % 256
def msgWord (ws : List Word) (i : Nat) : Nat := (ws.getD i 0).toNat

/-- A request of a TYPE: read, acknowledged, done, and answered on HT0 to HT2; a notice on HT3 that fails is reported (R377). The
row of PING also answers a TYPE that the firmware does not have. -/
def fwRequest (type n : Nat) (f : List Word → State → State × FwResult × List Word) (s : State) : State :=
  match s.dev.fwMessage n with
  | none => s.onDev (·.when s.dev.fwRuns (·.drainReplies))
  | some ws =>
    let t := msgType ws
    let unknown := t = 0 || 8 < t
    if t ≠ type && !(type = 1 && unknown) then s
    else
      let rx := (s.dev.hatch n).sport
      let s := s.onDev (·.hatchEmpty n 1)
      let (s, r, payload) :=
        if msgVer ws = 0 || 1 < msgVer ws then (s, FwResult.version, [])
        else if unknown then (s, FwResult.unknownType, [])
        else f ws s
      s.onDev (fun d =>
        if n < 3 then d.fwReply n rx (msgTag ws) r payload
        else if r = .ok then d
        else d.notify 0x000A [BitVec.ofNat 32 (t + 2 ^ 8 * msgTag ws + 2 ^ 16 * r.code)])

/-- Bytes as words, least significant byte first, the last padded with 0. -/
def bytesToWords : Nat → List Byte → List Word
  | 0, _ => []
  | _ + 1, [] => []
  | k + 1, bs => BitVec.ofNat 32 (leNat (bs.take 4)) :: bytesToWords k (bs.drop 4)

/-- KEEL_READ: up to 52 bytes of the record in force from an offset. -/
def fwKeelRead (ws : List Word) (s : State) : State × FwResult × List Word :=
  match s.dev.keelBody (msgWord ws 1 % 256) with
  | none => (s, .notFound, [])
  | some b =>
    let bs := (b.drop (msgWord ws 2)).take 52
    (s, .ok, BitVec.ofNat 32 bs.length :: bytesToWords 13 bs)

/-- An entry of the message log as it stands in the ring (R379): its first four bytes, NS, and the words. -/
def LogEntry.words14 (e : LogEntry) : List Word :=
  (BitVec.ofNat 32 (e.hatch + 2 ^ 8 * e.event + 2 ^ 16 * e.port + 2 ^ 24 * e.epoch) :: BitVec.ofNat 32 e.ns :: e.words).take 14

/-- LOG_READ. -/
def fwLogRead (ws : List Word) (s : State) : State × FwResult × List Word :=
  let i := msgWord ws 1
  if 65536 ≤ i then (s, .badArg, [])
  else if s.dev.host.logN ≤ i then (s, .notFound, [])
  else (s, .ok, (tget emptyLog s.dev.host.log i).words14)

/-- TELEM_SET: the list up to the first index is kept, the given addresses follow it (R380: at most 64). -/
def fwTelemSet (ws : List Word) (s : State) : State × FwResult × List Word :=
  let first := msgWord ws 1 / 2 ^ 16 % 256
  let n := msgWord ws 1 / 2 ^ 24
  let old := s.dev.host.telem
  if 14 < n || 64 < first + n || old.addrs.length < first then (s, .badArg, [])
  else
    let new := (List.range n).map (fun i => msgWord ws (2 + i))
    (s.onDev (fun d => d.modHost (fun x => { x with telem :=
      { x.telem with period := msgWord ws 1 % 65536, addrs := old.addrs.take first ++ new, at_ := d.now } })), .ok, [])

/-- CX_ASSIGN. -/
def fwCxAssign (ws : List Word) (s : State) : State × FwResult × List Word :=
  let k := msgWord ws 1 % 2
  let use := msgWord ws 1 / 2 % 4
  if use = 3 then (s, .badArg, [])
  else if s.dev.cxState k = 1 then (s, .busy, [])
  else (s.onDev (fun d => (d.setCx k { d.cxSt k with use := use }).put (CMP_CX_STS k) CMP_CX_STS.ASSIGNED (if use = 0 then 0 else 1)), .ok, [])

/-- The staging area holds a range (R359: 16 MiB). -/
def inStaging (off len : Nat) : Bool := off + len ≤ 2 ^ 24

/-- OBJ_LOAD: an object in the staging area is decoded (R247). -/
def fwObjLoad (ws : List Word) (s : State) : State × FwResult × List Word :=
  let off := msgWord ws 1
  let len := msgWord ws 2
  if !inStaging off len then (s, .badArg, [])
  else if s.dev.objResult = 1 || s.dev.objResult = 2 then (s, .busy, [])
  else
    let (bs, ue) := storeRead s.dev s.mem off len
    let r := objectDecode bs
    if ue then (s, .rejected, [0])
    else if r.done then (s.onDev (·.modHost (fun x => { x with lastObj := some r.out })), .ok, [BitVec.ofNat 32 r.count])
    else (s, .rejected, [BitVec.ofNat 32 r.count])

/-- FLASH_WRITE: the last object decoded goes to a slot once it has passed codes 2 to 11 (R432). -/
def fwFlashWrite (entryOk : Bool) (ws : List Word) (s : State) : State × FwResult × List Word :=
  let slot := msgWord ws 1 % 2
  if slot = s.dev.get PWR_STS PWR_STS.SLOT then (s, .badArg, [])
  else
    match s.dev.host.lastObj with
    | none => (s, .notFound, [])
    | some img =>
      match s.dev.kiteAccept img entryOk with
      | .error _ => (s, .rejected, [])
      | .ok _ => (s.onDev (·.emit (.flash slot img)), .ok, [])

/-- PTP_SEND: a frame in the staging area goes out with a two-step timestamp, and one-step where D4 gives offsets (R344). -/
def fwPtpSend (eighth : Int) (sent : Bool) (ws : List Word) (s : State) : State × FwResult × List Word :=
  let p := msgWord ws 1 % 4
  let off := msgWord ws 2
  let len := msgWord ws 3
  if 2 ≤ p || len = 0 || !inStaging off len then (s, .badArg, [])
  else if (storeRead s.dev s.mem off len).2 || !s.dev.islUp 7 then (s, .rejected, [])
  else
    let one := if msgWord ws 4 = 0 then none else some (msgWord ws 4 % 65536, msgWord ws 4 / 65536)
    (s.onDev (ethFrameTx p eighth (some (msgWord ws 1 / 65536)) one sent (storeRead s.dev s.mem off len).1), .ok, [])

/-! ## Events (R378) -/

/-- EVENT_POST: the oldest event held goes out on HT7; when that makes room, EVENTS_LOST reports what was dropped. -/
def eventPost (d : Dev) : Dev :=
  if !d.fwRuns then d
  else
    let d := d.drainReplies
    match (d.hatch 7).st, d.host.events with
    | .empty, e :: t =>
      let lost := d.host.eventsLost
      let d := d.modHost (fun x => { x with events := t, eventsLost := 0 })
      let d := if lost = 0 then d else d.notify 0x0009 [BitVec.ofNat 32 lost]
      d.firmwarePost 7 (d.get (HAT_CFG 7) HAT_CFG.RXPORT)
        (msgHead 0x82 (4 + e.detail.length) 0 :: BitVec.ofNat 32 e.code :: BitVec.ofNat 32 e.ns :: BitVec.ofNat 32 e.sec ::
          BitVec.ofNat 32 (e.sec / 2 ^ 32 % 65536) :: e.detail)
    | _, _ => d

/-! ## Telemetry (R380) -/

/-- The listed registers in order, read as the firmware without clearing (R363). -/
def telemRead : List Nat → Dev → Dev × List Byte
  | [], d => (d, [])
  | a :: t, d =>
    let (d, _, v) := d.busRead ⟨0, 0, false⟩ a 32 false
    let (d, bs) := telemRead t d
    (d, leBytes 4 v.toNat ++ bs)

/-- VALUES as they are sent: raw, or coded by the engine assigned to telemetry; and FORMAT. -/
def Dev.telemCode (d : Dev) (bs : List Byte) : Nat × List Byte :=
  match [0, 1].find? (fun k => d.bit (CMP_CX_STS k) CMP_CX_STS.ASSIGNED && (d.cxSt k).use == 2) with
  | none => (0, bs)
  | some k =>
    let cfg := (d.rd (CMP_CX_CFG k)).setFld CMP_CX_CFG.BLOCKED 0
    let m := cfg.fld CMP_CX_CFG.METHOD
    if m = 1 || m = 2 then (m, cxUnit { cfg := cfg } bs true []) else (0, bs)

/-- TELEMETRY: one pass each period, sent on links of version 2 or 3. -/
def telemetry (d : Dev) : Dev :=
  let t := d.host.telem
  if !d.fwRuns || t.period = 0 || t.addrs.isEmpty || d.now < t.at_ + msTicks t.period then d
  else
    let d := d.modHost (fun x => { x with telem := { x.telem with at_ := d.now } })
    if !d.tethUp || d.tethVer < 2 then d
    else
      let (d, bs) := telemRead t.addrs d
      let (fmt, out) := d.telemCode bs
      let now := d.devTime
      (d.modHost (fun x => { x with telem := { x.telem with seq := (t.seq + 1) % 2 ^ 32 } })).sendFrame 2 0x21
        (leBytes 1 fmt ++ leBytes 1 0 ++ leBytes 2 t.addrs.length ++ leBytes 4 t.seq ++ leBytes 4 (timeNs now) ++ leBytes 6 (timeSec now) ++
          leBytes 2 0 ++ out)

/-! ## JTAG (R448, R450) -/

/-- SASHREG: Update-DR starts an access as the JTAG port, and its result waits for Capture-DR. -/
def sashReg (dr : BitVec 72) (s : State) : State :=
  let s := s.onDev (fun d => { d with test := { d.test with ir := 0x10 } })
  let q : Req := ⟨6, 0, dr.toNat.testBit 1⟩
  let a := dr.toNat / 4 % 2 ^ 30 * 4
  let done (st : Status) (v : Word) (d : Dev) : Dev :=
    { d with test := { d.test with sashDone := some (st.code, v.toNat) } }.emit (.access 6 st.code v)
  if dr.toNat.testBit 0 then
    let (s, st) := s.busWrite q a 32 (BitVec.ofNat 32 (dr.toNat / 2 ^ 32))
    s.onDev (done st 0)
  else
    let (d, st, v) := s.dev.busRead q a 32 (s.dev.mayClear q)
    { s with dev := done st v d }

/-! ## The meanings -/

/-- PING on an inbound Hatch (R377). -/
def execPing (n : Fin 4) (dt : Nat) (s : State) : Host.Outcome State Fault Refusal :=
  .next (fwRequest 1 n.val (fun _ s => (s, .ok, [Config.firmwareVersion])) (s.pass dt))

/-- KEEL_READ (R377). -/
def execKeelRead (n : Fin 4) (dt : Nat) (s : State) : Host.Outcome State Fault Refusal := .next (fwRequest 2 n.val fwKeelRead (s.pass dt))

/-- LOG_READ (R377, R379). -/
def execLogRead (n : Fin 4) (dt : Nat) (s : State) : Host.Outcome State Fault Refusal := .next (fwRequest 3 n.val fwLogRead (s.pass dt))

/-- TELEM_SET (R377, R380). -/
def execTelemSet (n : Fin 4) (dt : Nat) (s : State) : Host.Outcome State Fault Refusal := .next (fwRequest 4 n.val fwTelemSet (s.pass dt))

/-- CX_ASSIGN (R377). -/
def execCxAssign (n : Fin 4) (dt : Nat) (s : State) : Host.Outcome State Fault Refusal := .next (fwRequest 5 n.val fwCxAssign (s.pass dt))

/-- OBJ_LOAD (R377, R247). -/
def execObjLoad (n : Fin 4) (dt : Nat) (s : State) : Host.Outcome State Fault Refusal := .next (fwRequest 6 n.val fwObjLoad (s.pass dt))

/-- FLASH_WRITE, with the image's own entry check (R377, R432). -/
def execFlashWrite (n : Fin 4) (entryOk : Bool) (dt : Nat) (s : State) : Host.Outcome State Fault Refusal :=
  .next (fwRequest 7 n.val (fwFlashWrite entryOk) (s.pass dt))

/-- PTP_SEND, with the eighth of the tick and whether the frame was sent (R344, R377). -/
def execPtpSend (n : Fin 4) (eighth : Int) (sent : Bool) (dt : Nat) (s : State) : Host.Outcome State Fault Refusal :=
  .next (fwRequest 8 n.val (fwPtpSend eighth sent) (s.pass dt))

/-- EVENT_POST (R378). -/
def execEventPost (dt : Nat) (s : State) : Host.Outcome State Fault Refusal := .next ((s.pass dt).onDev eventPost)

/-- TELEMETRY (R380). -/
def execTelemetry (dt : Nat) (s : State) : Host.Outcome State Fault Refusal := .next ((s.pass dt).onDev telemetry)

/-- SASHREG: the 72 bits of the data register at Update-DR (R450). -/
def execSashreg (dr : BitVec 72) (dt : Nat) (s : State) : Host.Outcome State Fault Refusal := .next (sashReg dr (s.pass dt))

end Sys2Proof.Machine
end

