-- ==== Sys2Proof/Machine/TetherFrames.lean ====
section
/-! DEFINITION. The frames of the Tether link (spec/06_tether.md, R142, R156 to R166): acceptance and delivery, protocol errors, ACK,
NAK, replay and credits. -/

namespace Sys2Proof.Machine

/-! ## Receiving (R159, R162, R164) -/

/-- The lowest version that carries a TYPE; 0 for an unknown one (R157). -/
def typeVer (t : Nat) : Nat :=
  if t = 1 || t = 3 || t = 0x10 then 1 else if t = 2 || t = 0x20 || t = 0x21 then 2 else if t = 4 || t = 5 then 3 else 0

/-- The types that the RIP sends (R157). -/
def fromRip (t : Nat) : Bool := t == 1 || t == 2 || t == 3 || t == 5 || t == 0x10

/-- The units of credit that a payload uses (R164). -/
def creditUnits (len : Nat) : Nat := max 1 ((len + 255) / 256)

/-- A frame's fields (R156). -/
structure RxFrame where
  type : Nat
  flags : Nat
  seq : Nat
  resv : Nat
  tag : Nat
  off : Nat
  payload : List Byte
  deriving DecidableEq, Repr

/-- UNSEQ. -/
def RxFrame.unseq (f : RxFrame) : Bool := f.flags.testBit 7

/-- A frame with a good CRC and the length its LEN says (R156, R162). -/
def parseFrame (bs : List Byte) : Option RxFrame :=
  let len := leField bs 4 2
  if bs.length = 20 + len && crc32c (bs.take (16 + len)) = leField bs (16 + len) 4 then
    some ⟨leField bs 0 1, leField bs 1 1, leField bs 2 2, leField bs 6 2, leField bs 8 4, leField bs 12 4, (bs.drop 16).take len⟩
  else none

/-- The body breaks the layout of its type (code 11). -/
def RxFrame.badBody (f : RxFrame) : Bool :=
  let op := leField f.payload 0 1
  if f.type = 1 then f.payload.length ≠ 32 || op = 0 || 2 < op
  else if f.type = 3 then f.payload.length ≠ 24 || op = 0 || 4 < op
  else if f.type = 5 then f.payload.length ≠ 16
  else false

/-- The lowest protocol error of codes 1 to 5 and 11 that a frame is, 0 for none (R159). -/
def Dev.frameCode (d : Dev) (f : RxFrame) : Nat :=
  let up := d.linkSt false = 3
  if typeVer f.type = 0 then 1
  else if up && d.tethVer < typeVer f.type then 2
  else if !fromRip f.type then 3
  else if f.flags &&& 0x78 ≠ 0 || f.resv ≠ 0 || (f.type ≠ 0x10 && (f.tag ≠ 0 || f.off ≠ 0)) || f.unseq != (f.type == 1) ||
      (f.type = 1 && f.seq ≠ 0) then 4
  else if up && d.teth.maxPay < f.payload.length then 5
  else if f.badBody then 11
  else 0

/-- A link message leaves (R161). -/
def Dev.linkMsg (d : Dev) (kind a b : Nat) : Dev := d.emit (.tetherLink kind a b)

/-- ACK of the last frame accepted (R162). -/
def Dev.sendAck (d : Dev) : Dev :=
  (d.linkMsg 1 ((d.teth.rxSeq + 65535) % 65536) 0).modLk false (fun x => { x with ackAt := d.now })

/-- NAK with the expected SEQ (R162). -/
def Dev.sendNak (d : Dev) : Dev :=
  ((d.linkMsg 2 d.teth.rxSeq 0).count TTH_CNT_RX TTH_CNT_RX.NAK 1).modLk false (fun x => { x with nak := true, nakAt := d.now })

/-- A frame is discarded; a failed or late one asks for the expected frame once (R162). -/
def Dev.discardFrame (d : Dev) (ask : Bool) : Dev :=
  let d := d.count TTH_CNT_RX hiHalf 1
  if ask && !d.teth.nak then d.sendNak else d

/-- The message of a JOB frame (R170). -/
def jobMsg (b : List Byte) : JobMsg :=
  ⟨leField b 1 1, leField b 4 4, leField b 8 5, leField b 16 8, leField b 2 1 + leField b 3 1 + leField b 13 1 + leField b 14 2⟩

/-- A JOB frame is delivered by its OP (R170). -/
def jobFrame (b : List Byte) (d : Dev) : Dev :=
  match leField b 0 1 with
  | 1 => jobOpen (jobMsg b) d
  | 2 => jobSetLast (jobMsg b) d
  | 3 => jobAbort (jobMsg b) d
  | _ => jobResume (jobMsg b) d

/-- An accepted frame is delivered to its virtual channel (R162). -/
def deliver (f : RxFrame) (s : State) : State :=
  if f.type = 2 then sashMessage 1 f.payload s
  else if f.type = 3 then s.onDev (jobFrame f.payload)
  else if f.type = 5 then s.onDev (rereqNo (leField f.payload 0 2))
  else segmentFrame (f.flags.testBit 0) (f.flags.testBit 1) (f.flags.testBit 2) f.tag f.off f.payload s

/-- A sequenced frame that is a protocol error: its code, and a SEGMENT frame abandons its segment (R159). -/
def Dev.frameError (d : Dev) (f : RxFrame) (code : Nat) : Dev :=
  let d := d.protoErr code
  if f.type ≠ 0x10 then d
  else
    match d.openSeg f.tag with
    | some g => d.abandonSeg g.id
    | none => d

/-- A frame beyond the LIMIT of its virtual channel (code 9). -/
def Dev.beyondCredit (d : Dev) (f : RxFrame) : Bool :=
  let v := f.type / 16
  decide (v < 2) && decide (vcGet d.teth.grant v < vcGet d.teth.recv v + creditUnits f.payload.length)

/-- A HELLO frame (R151, R159). -/
def helloFrame (f : RxFrame) (d : Dev) : Dev :=
  let code := d.frameCode f
  if code ≠ 0 then d.protoErr code
  else if leField f.payload 0 1 = 1 then helloOffer f.payload d
  else helloConfirm f.payload d

/-- A sequenced frame is accepted: acknowledged, then delivered or discarded as a protocol error; credit is granted for what it
freed (R159, R162, R164). -/
def acceptFrame (f : RxFrame) (s : State) : State :=
  let code := s.dev.frameCode f
  let v := f.type / 16
  let s := s.onDev (fun d =>
    let d := d.modLk false (fun x => { x with
      rxSeq := (x.rxSeq + 1) % 65536, acked := true, nak := false, recv := vcPut x.recv v (vcGet x.recv v + creditUnits f.payload.length) })
    d.sendAck)
  let s := if code ≠ 0 then s.onDev (·.frameError f code) else deliver f s
  s.onDev (fun d => if d.tethUp then d.grantCredit else d)

/-- FRAME_ACCEPT (R159, R162): the bytes of a received frame; a frame cut short fails its CRC. -/
def frameReceive (bs : List Byte) (s : State) : State :=
  let d := s.dev
  let st := d.linkSt false
  match parseFrame bs with
  | none => if st = 3 && d.teth.settled then s.onDev (·.discardFrame true) else s
  | some f =>
    if f.unseq then (if st = 2 || st = 3 then s.onDev (helloFrame f) else s)
    else if st ≠ 3 || !d.teth.settled then s
    else
      let ahead := (f.seq + 65536 - d.teth.rxSeq) % 65536
      if ahead ≠ 0 then s.onDev (·.discardFrame (decide (ahead < 32768)))
      else if d.beyondCredit f then s.onDev (fun d => (d.protoErr 9).linkDown false)
      else acceptFrame f s

/-- BAD_BLOCK (R142): the block is counted, and a frame in progress is lost. -/
def badBlock (i : Nat) (inFrame : Bool) (d : Dev) : Dev :=
  if laneLink i || d.laneState i < 3 || d.laneState i = 6 then d
  else
    let d := d.count (TTH_LANE_ERR i) TTH_LANE_ERR.BADBLK 1
    if inFrame && d.tethUp && d.teth.settled then d.discardFrame true else d

/-- ACK_REPEAT: every 10 µs while UP (R162). -/
def ackRepeat (d : Dev) : Dev :=
  if d.tethUp && d.teth.acked && decide (d.teth.ackAt + usTicks 10 ≤ d.now) then d.sendAck else d

/-- NAK_REPEAT: every 4 µs while the expected frame has not come (R162). -/
def nakRepeat (d : Dev) : Dev :=
  if d.tethUp && d.teth.nak && decide (d.teth.nakAt + usTicks 4 ≤ d.now) then d.sendNak else d

/-! ## Acknowledgement and replay (R160, R163) -/

/-- A SEQ that has not been sent (code 10). -/
def Dev.neverSent (d : Dev) (seq : Nat) : Bool := (seq + 65536 - d.teth.txSeq) % 65536 < 32768

/-- Every frame up to a SEQ is acknowledged. -/
def Dev.acknowledge (d : Dev) (seq : Nat) : Dev :=
  let left := d.teth.kept.filter (fun f => !((seq + 65536 - f.seq) % 65536 < 32768))
  if left.length = d.teth.kept.length then d
  else d.modLk false (fun x => { x with kept := left, ackAdv := d.now, replays := 0 })

/-- ACK(s). -/
def ackReceived (seq : Nat) (d : Dev) : Dev :=
  if !d.tethUp then d
  else if d.neverSent seq then (d.protoErr 10).linkDown false
  else d.acknowledge seq

/-- A replay, or at the replay limit the end of the link. -/
def Dev.replayOrDown (d : Dev) (seq : Nat) (timeout : Bool) : Dev :=
  if d.get TTH_TMO TTH_TMO.REPLAY_MAX ≤ d.teth.replays then (d.flag TTH_EVT TTH_EVT.REPLAY_MAX).linkDown false
  else d.replayFrom seq timeout

/-- NAK(s): frames before s are acknowledged, those from s resent; one that comes within 4 µs of a replay from s is ignored. -/
def nakReceived (seq : Nat) (d : Dev) : Dev :=
  if !d.tethUp then d
  else if d.neverSent seq then (d.protoErr 10).linkDown false
  else
    let late := match d.teth.replayAt with
      | some t => d.teth.replaySeq == seq && decide (d.now < t + usTicks 4)
      | none => false
    if late then d
    else
      let d := d.acknowledge ((seq + 65535) % 65536)
      if d.teth.kept.any (fun f => f.seq == seq) then d.replayOrDown seq false else d

/-- REPLAY_TMO: frames are outstanding and no ACK has advanced for REPLAY_TMO µs. -/
def replayTmo (d : Dev) : Dev :=
  match d.teth.kept with
  | f :: _ =>
    if d.tethUp && decide (d.teth.ackAdv + usTicks (d.get TTH_TMO TTH_TMO.REPLAY_TMO) ≤ d.now) then d.replayOrDown f.seq true else d
  | [] => d

/-! ## Credits and sending (R160, R164) -/

/-- CREDIT: the LIMIT of a virtual channel. -/
def creditReceived (v limit : Nat) (d : Dev) : Dev :=
  if d.tethUp then d.modLk false (fun x => { x with limit := vcPut x.limit v limit }) else d

/-- CREDIT of one virtual channel leaves. -/
def Dev.sendCredit (d : Dev) (v : Nat) : Dev :=
  let g := vcGet d.teth.grant v
  (d.linkMsg 3 v (g % 2 ^ 32)).modLk false (fun x => { x with sent := vcPut x.sent v g })

/-- CREDIT_SEND: for each virtual channel whose LIMIT has advanced. -/
def creditSend (d : Dev) : Dev :=
  if !d.tethUp then d
  else
    let d := d.grantCredit
    d.each [0, 1] (fun v d => if vcGet d.teth.grant v = vcGet d.teth.sent v then d else d.sendCredit v)

/-- CREDIT_REPEAT: every 10 µs while UP. -/
def creditRepeat (d : Dev) : Dev :=
  if d.tethUp && decide (d.teth.creditAt + usTicks 10 ≤ d.now) then
    let d := d.grantCredit.modLk false (fun x => { x with creditAt := d.now })
    (d.sendCredit 0).sendCredit 1
  else d

/-- The credit left on a virtual channel (R164). -/
def Dev.creditLeft (d : Dev) (v : Nat) : Int := signedOf 32 (vcGet d.teth.limit v + 2 ^ 32 - vcGet d.teth.used v % 2 ^ 32)

/-- The replay buffer takes one more frame (R160). -/
def Dev.replayRoom (d : Dev) (f : TxFrame) : Bool :=
  decide ((d.teth.kept.map (fun g => g.bytes.length)).sum + f.bytes.length ≤ 2 ^ 20) && decide (d.teth.kept.length < 16384)

/-- The oldest waiting frame that can go: the first of its virtual channel, with credit and room. -/
def Dev.sendable (d : Dev) : List Nat → List TxFrame → Option TxFrame
  | _, [] => none
  | seen, f :: t =>
    if !seen.contains f.vc && ((creditUnits f.payload.length : Nat) : Int) ≤ d.creditLeft f.vc && d.replayRoom f then some f
    else d.sendable (f.vc :: seen) t

/-- FRAME_SEND: types the version lacks are not sent; one frame leaves and is kept (R152, R160, R164). -/
def frameSend (d : Dev) : Dev :=
  if !d.tethUp || !d.teth.settled then d
  else
    let d := d.modLk false (fun x => { x with wait := x.wait.filter (fun f => typeVer f.type ≤ d.tethVer) })
    match d.sendable [] d.teth.wait with
    | none => d
    | some f =>
      let g : TxFrame := { f with seq := d.teth.txSeq }
      (d.modLk false (fun x => { x with
        wait := x.wait.erase f, kept := x.kept ++ [g], txSeq := (x.txSeq + 1) % 65536
        used := vcPut x.used f.vc (vcGet x.used f.vc + creditUnits f.payload.length)
        ackAdv := if x.kept.isEmpty then d.now else x.ackAdv })).emit (.tether g.bytes)

/-! ## The meanings -/

/-- BAD_BLOCK on a lane; whether a frame was in progress there (R142). -/
def execBadBlock (i : Fin 18) (inFrame : Bool) (dt : Nat) (s : State) : Host.Outcome State Fault Refusal :=
  .next ((s.pass dt).onIsl (linkIsland (laneLink i.val)) (badBlock i.val inFrame))

/-- FRAME_ACCEPT: the bytes received, from TYPE to CRC (R162). -/
def execFrameAccept (bs : List Byte) (dt : Nat) (s : State) : Host.Outcome State Fault Refusal :=
  .next (let s := s.pass dt; if s.dev.islUp 1 then frameReceive bs s else s)

/-- ACK_REPEAT (R162). -/
def execAckRepeat (dt : Nat) (s : State) : Host.Outcome State Fault Refusal := .next ((s.pass dt).onIsl 1 ackRepeat)

/-- NAK_REPEAT (R162). -/
def execNakRepeat (dt : Nat) (s : State) : Host.Outcome State Fault Refusal := .next ((s.pass dt).onIsl 1 nakRepeat)

/-- ACK(s) (R163). -/
def execAck (seq : Fin 65536) (dt : Nat) (s : State) : Host.Outcome State Fault Refusal := .next ((s.pass dt).onIsl 1 (ackReceived seq.val))

/-- NAK(s) (R163). -/
def execNak (seq : Fin 65536) (dt : Nat) (s : State) : Host.Outcome State Fault Refusal := .next ((s.pass dt).onIsl 1 (nakReceived seq.val))

/-- REPLAY_TMO (R163). -/
def execReplayTmo (dt : Nat) (s : State) : Host.Outcome State Fault Refusal := .next ((s.pass dt).onIsl 1 replayTmo)

/-- CREDIT for a virtual channel (R164). -/
def execCredit (v : Fin 3) (limit : Word) (dt : Nat) (s : State) : Host.Outcome State Fault Refusal :=
  .next ((s.pass dt).onIsl 1 (creditReceived v.val limit.toNat))

/-- CREDIT_SEND (R164). -/
def execCreditSend (dt : Nat) (s : State) : Host.Outcome State Fault Refusal := .next ((s.pass dt).onIsl 1 creditSend)

/-- CREDIT_REPEAT (R164). -/
def execCreditRepeat (dt : Nat) (s : State) : Host.Outcome State Fault Refusal := .next ((s.pass dt).onIsl 1 creditRepeat)

/-- FRAME_SEND (R160, R164). -/
def execFrameSend (dt : Nat) (s : State) : Host.Outcome State Fault Refusal := .next ((s.pass dt).onIsl 1 frameSend)

end Sys2Proof.Machine
end

