-- ==== Sys2Proof/Machine/Dispatch.lean ====
section
/-! DEFINITION. The arms: each command's meaning, by constructor. -/

namespace Sys2Proof.Machine

/-- A command's effect on everything but the queue. -/
def exec (i : Instr) (s : State) : Host.Outcome State Fault Refusal :=
  match i with
  | .registerWrite q a width v => Sys2Proof.Machine.execRegisterWrite q a width v s
  | .readClear q a width => Sys2Proof.Machine.execReadClear q a width s
  | .loReadCapture q a => Sys2Proof.Machine.execLoReadCapture q a s
  | .loWriteHold q a v => Sys2Proof.Machine.execLoWriteHold q a v s
  | .hiWriteCommit q a v => Sys2Proof.Machine.execHiWriteCommit q a v s
  | .crossingTimeout xs dt => Sys2Proof.Machine.execCrossingTimeout xs dt s
  | .faultFlagReset dt => Sys2Proof.Machine.execFaultFlagReset dt s
  | .islandGate q code v => Sys2Proof.Machine.execIslandGate q code v s
  | .islandReset q code v => Sys2Proof.Machine.execIslandReset q code v s
  | .islandGateComplete code dt => Sys2Proof.Machine.execIslandGateComplete code dt s
  | .channelRestart c line dt => Sys2Proof.Machine.execChannelRestart c line dt s
  | .rowdlyArm q c hi => Sys2Proof.Machine.execRowdlyArm q c hi s
  | .rowdlyApply c dt => Sys2Proof.Machine.execRowdlyApply c dt s
  | .inputTransition ix j dt => Sys2Proof.Machine.execInputTransition ix j dt s
  | .inputPolWrite q ix v => Sys2Proof.Machine.execInputPolWrite q ix v s
  | .glitchFilterAccept l dt => Sys2Proof.Machine.execGlitchFilterAccept l dt s
  | .rateGapClose l dt => Sys2Proof.Machine.execRateGapClose l dt s
  | .inputStuck ix dt => Sys2Proof.Machine.execInputStuck ix dt s
  | .stuckRelease ix dt => Sys2Proof.Machine.execStuckRelease ix dt s
  | .loopUpdate dt => Sys2Proof.Machine.execLoopUpdate dt s
  | .pacingEnable q v => Sys2Proof.Machine.execPacingEnable q v s
  | .pacingDisable q v => Sys2Proof.Machine.execPacingDisable q v s
  | .sourceChange q src bkp => Sys2Proof.Machine.execSourceChange q src bkp s
  | .zero q => Sys2Proof.Machine.execZero q s
  | .zarm q => Sys2Proof.Machine.execZarm q s
  | .zdisarm q => Sys2Proof.Machine.execZdisarm q s
  | .zPreset e dt => Sys2Proof.Machine.execZPreset e dt s
  | .restore q => Sys2Proof.Machine.execRestore q s
  | .restoreApply dt => Sys2Proof.Machine.execRestoreApply dt s
  | .backupSwitch dt => Sys2Proof.Machine.execBackupSwitch dt s
  | .loss dt => Sys2Proof.Machine.execLoss dt s
  | .mediumStopped dt => Sys2Proof.Machine.execMediumStopped dt s
  | .advIdle dt => Sys2Proof.Machine.execAdvIdle dt s
  | .advZero q => Sys2Proof.Machine.execAdvZero q s
  | .firArm q => Sys2Proof.Machine.execFirArm q s
  | .firDisarm q => Sys2Proof.Machine.execFirDisarm q s
  | .firStop q => Sys2Proof.Machine.execFirStop q s
  | .lineFire c dt => Sys2Proof.Machine.execLineFire c dt s
  | .strobeIssue c dt => Sys2Proof.Machine.execStrobeIssue c dt s
  | .lineSkip c dt => Sys2Proof.Machine.execLineSkip c dt s
  | .skipWindowEnd c dt => Sys2Proof.Machine.execSkipWindowEnd c dt s
  | .inhibitFall dt => Sys2Proof.Machine.execInhibitFall dt s
  | .inhibitRise dt => Sys2Proof.Machine.execInhibitRise dt s
  | .passGo q => Sys2Proof.Machine.execPassGo q s
  | .passActivate dt => Sys2Proof.Machine.execPassActivate dt s
  | .passAbort q => Sys2Proof.Machine.execPassAbort q s
  | .bodySend c dt => Sys2Proof.Machine.execBodySend c dt s
  | .statusFrame c bs dt => Sys2Proof.Machine.execStatusFrame c bs dt s
  | .holdOn c dt => Sys2Proof.Machine.execHoldOn c dt s
  | .holdOff c dt => Sys2Proof.Machine.execHoldOff c dt s
  | .lvrStatusTimeout c dt => Sys2Proof.Machine.execLvrStatusTimeout c dt s
  | .lvrCodeErrors c n dt => Sys2Proof.Machine.execLvrCodeErrors c n dt s
  | .lvrBridgeTraining c dt => Sys2Proof.Machine.execLvrBridgeTraining c dt s
  | .lvrRestart q c => Sys2Proof.Machine.execLvrRestart q c s
  | .linkStartRetry c dt => Sys2Proof.Machine.execLinkStartRetry c dt s
  | .lvrEnable q c v => Sys2Proof.Machine.execLvrEnable q c v s
  | .bridgeTs c verMax caps nmax id dt => Sys2Proof.Machine.execBridgeTs c verMax caps nmax id dt s
  | .ts2Echo c ver dt => Sys2Proof.Machine.execTs2Echo c ver dt s
  | .linkStartFailed c dt => Sys2Proof.Machine.execLinkStartFailed c dt s
  | .failedRetry c dt => Sys2Proof.Machine.execFailedRetry c dt s
  | .bankArm q c hi => Sys2Proof.Machine.execBankArm q c hi s
  | .bankImagePiece c dt => Sys2Proof.Machine.execBankImagePiece c dt s
  | .wavTrimWrite q c b v => Sys2Proof.Machine.execWavTrimWrite q c b v s
  | .trimApply c b dt => Sys2Proof.Machine.execTrimApply c b dt s
  | .wavSegWrite q c ix v => Sys2Proof.Machine.execWavSegWrite q c ix v s
  | .tthEnable q v => Sys2Proof.Machine.execTthEnable q v s
  | .tthDisable q v => Sys2Proof.Machine.execTthDisable q v s
  | .tthRetrain q => Sys2Proof.Machine.execTthRetrain q s
  | .eqSearchDone ix pass dt => Sys2Proof.Machine.execEqSearchDone ix pass dt s
  | .blockLock ix dt => Sys2Proof.Machine.execBlockLock ix dt s
  | .lockLoss ix bad dt => Sys2Proof.Machine.execLockLoss ix bad dt s
  | .marker ix lane epoch mask skew inverted dt => Sys2Proof.Machine.execMarker ix lane epoch mask skew inverted dt s
  | .markersMissed ix dt => Sys2Proof.Machine.execMarkersMissed ix dt s
  | .badBlock ix inFrame dt => Sys2Proof.Machine.execBadBlock ix inFrame dt s
  | .laneRetrain brd dt => Sys2Proof.Machine.execLaneRetrain brd dt s
  | .helloEnter brd dt => Sys2Proof.Machine.execHelloEnter brd dt s
  | .trainTmo brd dt => Sys2Proof.Machine.execTrainTmo brd dt s
  | .offerSend dt => Sys2Proof.Machine.execOfferSend dt s
  | .offer bs dt => Sys2Proof.Machine.execOffer bs dt s
  | .confirm bs dt => Sys2Proof.Machine.execConfirm bs dt s
  | .helloTmo dt => Sys2Proof.Machine.execHelloTmo dt s
  | .helloRestart dt => Sys2Proof.Machine.execHelloRestart dt s
  | .restripe brd epoch mask dt => Sys2Proof.Machine.execRestripe brd epoch mask dt s
  | .frameAccept bs dt => Sys2Proof.Machine.execFrameAccept bs dt s
  | .ackRepeat dt => Sys2Proof.Machine.execAckRepeat dt s
  | .nakRepeat dt => Sys2Proof.Machine.execNakRepeat dt s
  | .ack seq dt => Sys2Proof.Machine.execAck seq dt s
  | .nak seq dt => Sys2Proof.Machine.execNak seq dt s
  | .replayTmo dt => Sys2Proof.Machine.execReplayTmo dt s
  | .credit v limit dt => Sys2Proof.Machine.execCredit v limit dt s
  | .creditSend dt => Sys2Proof.Machine.execCreditSend dt s
  | .creditRepeat dt => Sys2Proof.Machine.execCreditRepeat dt s
  | .frameSend dt => Sys2Proof.Machine.execFrameSend dt s
  | .jobOpen arg job line mask other => Sys2Proof.Machine.execJobOpen arg job line mask other s
  | .jobSetlast arg job line mask other => Sys2Proof.Machine.execJobSetlast arg job line mask other s
  | .jobAbort arg job line mask other => Sys2Proof.Machine.execJobAbort arg job line mask other s
  | .jobResume arg job line mask other => Sys2Proof.Machine.execJobResume arg job line mask other s
  | .cmpResume q => Sys2Proof.Machine.execCmpResume q s
  | .autoarm dt => Sys2Proof.Machine.execAutoarm dt s
  | .jobProgress dt => Sys2Proof.Machine.execJobProgress dt s
  | .segment first last resend tag off bs => Sys2Proof.Machine.execSegment first last resend tag off bs s
  | .openLost tag dt => Sys2Proof.Machine.execOpenLost tag dt s
  | .blockDispatch dt => Sys2Proof.Machine.execBlockDispatch dt s
  | .blockDecodeDone e cycles dt => Sys2Proof.Machine.execBlockDecodeDone e cycles dt s
  | .advanceVerify e dt => Sys2Proof.Machine.execAdvanceVerify e dt s
  | .advanceVerifyDone e cycles dt => Sys2Proof.Machine.execAdvanceVerifyDone e cycles dt s
  | .engineAbandon e dt => Sys2Proof.Machine.execEngineAbandon e dt s
  | .rereqNo reqId => Sys2Proof.Machine.execRereqNo reqId s
  | .voidRunReport c dt => Sys2Proof.Machine.execVoidRunReport c dt s
  | .memRequest n tag x write ws errs => Sys2Proof.Machine.execMemRequest n tag x write ws errs s
  | .memReadReturn n errs => Sys2Proof.Machine.execMemReadReturn n errs s
  | .initPassDone n => Sys2Proof.Machine.execInitPassDone n s
  | .refresh n rank pullIn dt => Sys2Proof.Machine.execRefresh n rank pullIn dt s
  | .mr4Read n rank double dt => Sys2Proof.Machine.execMr4Read n rank double dt s
  | .trainingDone n ok failStep => Sys2Proof.Machine.execTrainingDone n ok failStep s
  | .dqsOscillator n ps dt => Sys2Proof.Machine.execDqsOscillator n ps dt s
  | .retrainAtGap n => Sys2Proof.Machine.execRetrainAtGap n s
  | .memCmdRetrain q n => Sys2Proof.Machine.execMemCmdRetrain q n s
  | .retrainDone n ok failStep => Sys2Proof.Machine.execRetrainDone n ok failStep s
  | .ceWindow n dt => Sys2Proof.Machine.execCeWindow n dt s
  | .stepDownAtGap n => Sys2Proof.Machine.execStepDownAtGap n s
  | .setbin q n bin => Sys2Proof.Machine.execSetbin q n bin s
  | .freqDone n ok failStep => Sys2Proof.Machine.execFreqDone n ok failStep s
  | .powerDown n rank dt => Sys2Proof.Machine.execPowerDown n rank dt s
  | .scrub n errs dt => Sys2Proof.Machine.execScrub n errs dt s
  | .objStart q => Sys2Proof.Machine.execObjStart q s
  | .objWaitEnd dt => Sys2Proof.Machine.execObjWaitEnd dt s
  | .objDone dt => Sys2Proof.Machine.execObjDone dt s
  | .objCancel q => Sys2Proof.Machine.execObjCancel q s
  | .cxStart q k => Sys2Proof.Machine.execCxStart q k s
  | .cxFlush q k => Sys2Proof.Machine.execCxFlush q k s
  | .cxFlushed k consumed dt => Sys2Proof.Machine.execCxFlushed k consumed dt s
  | .cxFinish q k => Sys2Proof.Machine.execCxFinish q k s
  | .cxAbort q k => Sys2Proof.Machine.execCxAbort q k s
  | .cxDone k dt => Sys2Proof.Machine.execCxDone k dt s
  | .cxOverflow k consumed dt => Sys2Proof.Machine.execCxOverflow k consumed dt s
  | .nhReport es dt => Sys2Proof.Machine.execNhReport es dt s
  | .nhEvidence q c noz kind => Sys2Proof.Machine.execNhEvidence q c noz kind s
  | .nhOverride q c noz st atEn => Sys2Proof.Machine.execNhOverride q c noz st atEn s
  | .nhReset q c => Sys2Proof.Machine.execNhReset q c s
  | .gateStart q k => Sys2Proof.Machine.execGateStart q k s
  | .gateAbort q k => Sys2Proof.Machine.execGateAbort q k s
  | .gateStrobe k dt => Sys2Proof.Machine.execGateStrobe k dt s
  | .gateWindowClose k dt => Sys2Proof.Machine.execGateWindowClose k dt s
  | .nhUpdate dt => Sys2Proof.Machine.execNhUpdate dt s
  | .proposalHoldEnd dt => Sys2Proof.Machine.execProposalHoldEnd dt s
  | .nhVeto q id => Sys2Proof.Machine.execNhVeto q id s
  | .nhUpdateApplied dt => Sys2Proof.Machine.execNhUpdateApplied dt s
  | .nozzleRecordWrite dt => Sys2Proof.Machine.execNozzleRecordWrite dt s
  | .ltrig n dt => Sys2Proof.Machine.execLtrig n dt s
  | .gridRephase n dt => Sys2Proof.Machine.execGridRephase n dt s
  | .lvalRise n dt => Sys2Proof.Machine.execLvalRise n dt s
  | .lineTmo n dt => Sys2Proof.Machine.execLineTmo n dt s
  | .ftmo n dt => Sys2Proof.Machine.execFtmo n dt s
  | .fvalRise n dt => Sys2Proof.Machine.execFvalRise n dt s
  | .fvalFall n dt => Sys2Proof.Machine.execFvalFall n dt s
  | .expose n dt => Sys2Proof.Machine.execExpose n dt s
  | .pclkLost n dt => Sys2Proof.Machine.execPclkLost n dt s
  | .insCommit q mask => Sys2Proof.Machine.execInsCommit q mask s
  | .camEnable q n v => Sys2Proof.Machine.execCamEnable q n v s
  | .frameRecord n ue dt => Sys2Proof.Machine.execFrameRecord n ue dt s
  | .statCapture q n => Sys2Proof.Machine.execStatCapture q n s
  | .paneSend dt => Sys2Proof.Machine.execPaneSend dt s
  | .adcRequest q input a => Sys2Proof.Machine.execAdcRequest q input a s
  | .adcConversionDone k sum dt => Sys2Proof.Machine.execAdcConversionDone k sum dt s
  | .vrefCheck code dt => Sys2Proof.Machine.execVrefCheck code dt s
  | .trimEvaluation codes dt => Sys2Proof.Machine.execTrimEvaluation codes dt s
  | .calSetArm q c hi => Sys2Proof.Machine.execCalSetArm q c hi s
  | .daccal q c outputs bandgap => Sys2Proof.Machine.execDaccal q c outputs bandgap s
  | .classcal q c gate bandgap => Sys2Proof.Machine.execClasscal q c gate bandgap s
  | .tpoint q c set gate bandgap => Sys2Proof.Machine.execTpoint q c set gate bandgap s
  | .loadset q c set bandgap => Sys2Proof.Machine.execLoadset q c set bandgap s
  | .storeset q c set bandgap => Sys2Proof.Machine.execStoreset q c set bandgap s
  | .calAbort q => Sys2Proof.Machine.execCalAbort q s
  | .procedureEnd meas dt => Sys2Proof.Machine.execProcedureEnd meas dt s
  | .keelCommit ok dt => Sys2Proof.Machine.execKeelCommit ok dt s
  | .keelDeferEnd rid dt => Sys2Proof.Machine.execKeelDeferEnd rid dt s
  | .deviceRecordCommit dt => Sys2Proof.Machine.execDeviceRecordCommit dt s
  | .keyProgram q slot confirm => Sys2Proof.Machine.execKeyProgram q slot confirm s
  | .keyRevoke q slot confirm => Sys2Proof.Machine.execKeyRevoke q slot confirm s
  | .incWrite q dom v => Sys2Proof.Machine.execIncWrite q dom v s
  | .domainSet q dom => Sys2Proof.Machine.execDomainSet q dom s
  | .domainStep q dom => Sys2Proof.Machine.execDomainStep q dom s
  | .cnterr dom errA errB dt => Sys2Proof.Machine.execCnterr dom errA errB dt s
  | .holdover dom dt => Sys2Proof.Machine.execHoldover dom dt s
  | .timeSwitch q => Sys2Proof.Machine.execTimeSwitch q s
  | .clearH q => Sys2Proof.Machine.execClearH q s
  | .slewDone dt => Sys2Proof.Machine.execSlewDone dt s
  | .ethFrameRx p eighth frame dt => Sys2Proof.Machine.execEthFrameRx p eighth frame dt s
  | .ethFrameTx p eighth twoStep oneStep sent frame dt => Sys2Proof.Machine.execEthFrameTx p eighth twoStep oneStep sent frame dt s
  | .txqPop q p => Sys2Proof.Machine.execTxqPop q p s
  | .txqFlush q p => Sys2Proof.Machine.execTxqFlush q p s
  | .ethCfgWrite q p v => Sys2Proof.Machine.execEthCfgWrite q p v s
  | .ethLinkUp p rf dt => Sys2Proof.Machine.execEthLinkUp p rf dt s
  | .ethLinkDown p rf dt => Sys2Proof.Machine.execEthLinkDown p rf dt s
  | .trgArm q n => Sys2Proof.Machine.execTrgArm q n s
  | .trgDisarm q n => Sys2Proof.Machine.execTrgDisarm q n s
  | .trgOccurrence n dt => Sys2Proof.Machine.execTrgOccurrence n dt s
  | .trgPulseEnd n dt => Sys2Proof.Machine.execTrgPulseEnd n dt s
  | .capPop q n => Sys2Proof.Machine.execCapPop q n s
  | .capFlush q n => Sys2Proof.Machine.execCapFlush q n s
  | .spiRead a => Sys2Proof.Machine.execSpiRead a s
  | .spiWrite a v => Sys2Proof.Machine.execSpiWrite a v s
  | .spiWriteUrgent a v => Sys2Proof.Machine.execSpiWriteUrgent a v s
  | .sashOpen r => Sys2Proof.Machine.execSashOpen r s
  | .sashClose r => Sys2Proof.Machine.execSashClose r s
  | .sashKeepalive r => Sys2Proof.Machine.execSashKeepalive r s
  | .sashRead r => Sys2Proof.Machine.execSashRead r s
  | .sashWrite r => Sys2Proof.Machine.execSashWrite r s
  | .sashBlob r => Sys2Proof.Machine.execSashBlob r s
  | .sessionTimeout port num dt => Sys2Proof.Machine.execSessionTimeout port num dt s
  | .latchRequest q v => Sys2Proof.Machine.execLatchRequest q v s
  | .latchKeep q => Sys2Proof.Machine.execLatchKeep q s
  | .latchRelease q => Sys2Proof.Machine.execLatchRelease q s
  | .latchHandover q port session client => Sys2Proof.Machine.execLatchHandover q port session client s
  | .latchSeize q => Sys2Proof.Machine.execLatchSeize q s
  | .latchExpire dt => Sys2Proof.Machine.execLatchExpire dt s
  | .hatchWrite q n ix v => Sys2Proof.Machine.execHatchWrite q n ix v s
  | .hatchGo q n => Sys2Proof.Machine.execHatchGo q n s
  | .hatchAck q n => Sys2Proof.Machine.execHatchAck q n s
  | .hatchUrgentWrite q n ix v => Sys2Proof.Machine.execHatchUrgentWrite q n ix v s
  | .hatchFillTimeout n dt => Sys2Proof.Machine.execHatchFillTimeout n dt s
  | .hatchReset q => Sys2Proof.Machine.execHatchReset q s
  | .ping n dt => Sys2Proof.Machine.execPing n dt s
  | .keelRead n dt => Sys2Proof.Machine.execKeelRead n dt s
  | .logRead n dt => Sys2Proof.Machine.execLogRead n dt s
  | .telemSet n dt => Sys2Proof.Machine.execTelemSet n dt s
  | .cxAssign n dt => Sys2Proof.Machine.execCxAssign n dt s
  | .objLoad n dt => Sys2Proof.Machine.execObjLoad n dt s
  | .flashWrite n entryOk dt => Sys2Proof.Machine.execFlashWrite n entryOk dt s
  | .ptpSend n eighth sent dt => Sys2Proof.Machine.execPtpSend n eighth sent dt s
  | .eventPost dt => Sys2Proof.Machine.execEventPost dt s
  | .telemetry dt => Sys2Proof.Machine.execTelemetry dt s
  | .cuStart q k => Sys2Proof.Machine.execCuStart q k s
  | .cuDin q k size v => Sys2Proof.Machine.execCuDin q k size v s
  | .cuStateWrite q k v => Sys2Proof.Machine.execCuStateWrite q k v s
  | .cuGo q k => Sys2Proof.Machine.execCuGo q k s
  | .cuBufferDone k dt => Sys2Proof.Machine.execCuBufferDone k dt s
  | .cuAbort q k => Sys2Proof.Machine.execCuAbort q k s
  | .cuRelease q k => Sys2Proof.Machine.execCuRelease q k s
  | .joinOfferSend dt => Sys2Proof.Machine.execJoinOfferSend dt s
  | .joinOffer bs dt => Sys2Proof.Machine.execJoinOffer bs dt s
  | .joinConfirm bs dt => Sys2Proof.Machine.execJoinConfirm bs dt s
  | .heartbeatEdge dt => Sys2Proof.Machine.execHeartbeatEdge dt s
  | .heartbeatMiss dt => Sys2Proof.Machine.execHeartbeatMiss dt s
  | .guardKick q v => Sys2Proof.Machine.execGuardKick q v s
  | .guardKickTimeout dt => Sys2Proof.Machine.execGuardKickTimeout dt s
  | .lockstepMismatch dt => Sys2Proof.Machine.execLockstepMismatch dt s
  | .refclkLoss dt => Sys2Proof.Machine.execRefclkLoss dt s
  | .relinquish q => Sys2Proof.Machine.execRelinquish q s
  | .guardRearm dt => Sys2Proof.Machine.execGuardRearm dt s
  | .arbClaim dt => Sys2Proof.Machine.execArbClaim dt s
  | .claimHoldoffEnd released dt => Sys2Proof.Machine.execClaimHoldoffEnd released dt s
  | .takeover dt => Sys2Proof.Machine.execTakeover dt s
  | .holdoffEnd dt => Sys2Proof.Machine.execHoldoffEnd dt s
  | .peerLost dt => Sys2Proof.Machine.execPeerLost dt s
  | .stateSend dt => Sys2Proof.Machine.execStateSend dt s
  | .brdState role sync front ns tether jobs dt => Sys2Proof.Machine.execBrdState role sync front ns tether jobs dt s
  | .positionSync peerP dt => Sys2Proof.Machine.execPositionSync peerP dt s
  | .syncStart job start dt => Sys2Proof.Machine.execSyncStart job start dt s
  | .linerec rs dt => Sys2Proof.Machine.execLinerec rs dt s
  | .linerecLag dt => Sys2Proof.Machine.execLinerecLag dt s
  | .brdDetach q => Sys2Proof.Machine.execBrdDetach q s
  | .brdRejoin q => Sys2Proof.Machine.execBrdRejoin q s
  | .rejoinTimer dt => Sys2Proof.Machine.execRejoinTimer dt s
  | .mirror f dt => Sys2Proof.Machine.execMirror f dt s
  | .brdTemp l dt => Sys2Proof.Machine.execBrdTemp l dt s
  | .brdSwitch dom dt => Sys2Proof.Machine.execBrdSwitch dom dt s
  | .propose id kind mask line payload dt => Sys2Proof.Machine.execPropose id kind mask line payload dt s
  | .agree id line dt => Sys2Proof.Machine.execAgree id line dt s
  | .brdCommit id line dt => Sys2Proof.Machine.execBrdCommit id line dt s
  | .agreeTimeout dt => Sys2Proof.Machine.execAgreeTimeout dt s
  | .brdSwap q atEn => Sys2Proof.Machine.execBrdSwap q atEn s
  | .tetherLossSwap dt => Sys2Proof.Machine.execTetherLossSwap dt s
  | .swapExecute dt => Sys2Proof.Machine.execSwapExecute dt s
  | .swapHoldEnd dt => Sys2Proof.Machine.execSwapHoldEnd dt s
  | .powerOn dt => Sys2Proof.Machine.execPowerOn dt s
  | .uvlo dt => Sys2Proof.Machine.execUvlo dt s
  | .uvWarning dt => Sys2Proof.Machine.execUvWarning dt s
  | .uvWarningClear dt => Sys2Proof.Machine.execUvWarningClear dt s
  | .railStart dt => Sys2Proof.Machine.execRailStart dt s
  | .railFault rail dt => Sys2Proof.Machine.execRailFault rail dt s
  | .railRetry dt => Sys2Proof.Machine.execRailRetry dt s
  | .pinReset dt => Sys2Proof.Machine.execPinReset dt s
  | .hardReset q confirm => Sys2Proof.Machine.execHardReset q confirm s
  | .softReset q confirm => Sys2Proof.Machine.execSoftReset q confirm s
  | .guardReset dt => Sys2Proof.Machine.execGuardReset dt s
  | .resetRelease dt => Sys2Proof.Machine.execResetRelease dt s
  | .imageRead flash slot entryOk dt => Sys2Proof.Machine.execImageRead flash slot entryOk dt s
  | .configuration dt => Sys2Proof.Machine.execConfiguration dt s
  | .hover bandgap rs dt => Sys2Proof.Machine.execHover bandgap rs dt s
  | .ready dt => Sys2Proof.Machine.execReady dt s
  | .bootRecordWrite dt => Sys2Proof.Machine.execBootRecordWrite dt s
  | .powerEnter q target => Sys2Proof.Machine.execPowerEnter q target s
  | .entryDone dt => Sys2Proof.Machine.execEntryDone dt s
  | .powerWake q => Sys2Proof.Machine.execPowerWake q s
  | .tetherSignalWake dt => Sys2Proof.Machine.execTetherSignalWake dt s
  | .scheduledWake dt => Sys2Proof.Machine.execScheduledWake dt s
  | .wakeDone dt => Sys2Proof.Machine.execWakeDone dt s
  | .autoStateEval dt => Sys2Proof.Machine.execAutoStateEval dt s
  | .loopbackEnter q k v => Sys2Proof.Machine.execLoopbackEnter q k v s
  | .loopbackRun k units dt => Sys2Proof.Machine.execLoopbackRun k units dt s
  | .loopbackExit q k v => Sys2Proof.Machine.execLoopbackExit q k v s
  | .loopbackTimeout k dt => Sys2Proof.Machine.execLoopbackTimeout k dt s
  | .bistStart q group => Sys2Proof.Machine.execBistStart q group s
  | .bistDone fail dt => Sys2Proof.Machine.execBistDone fail dt s
  | .mramTestStart q => Sys2Proof.Machine.execMramTestStart q s
  | .mramTestDone fail dt => Sys2Proof.Machine.execMramTestDone fail dt s
  | .testLogicReset dt => Sys2Proof.Machine.execTestLogicReset dt s
  | .extest dt => Sys2Proof.Machine.execExtest dt s
  | .idcode dt => Sys2Proof.Machine.execIdcode dt s
  | .samplePreload cells dt => Sys2Proof.Machine.execSamplePreload cells dt s
  | .clamp dt => Sys2Proof.Machine.execClamp dt s
  | .highz dt => Sys2Proof.Machine.execHighz dt s
  | .extestPulse dt => Sys2Proof.Machine.execExtestPulse dt s
  | .extestTrain dt => Sys2Proof.Machine.execExtestTrain dt s
  | .sashreg dr dt => Sys2Proof.Machine.execSashreg dr dt s
  | .bypass code dt => Sys2Proof.Machine.execBypass code dt s
  | .fracReadCapture q a => Sys2Proof.Machine.execFracReadCapture q a s
  | .pclkEdge n rising lval fval dval t0 t1 full dt => Sys2Proof.Machine.execPclkEdge n rising lval fval dval t0 t1 full dt s
  | .lvalFall n dt => Sys2Proof.Machine.execLvalFall n dt s
  | .memTrainingStepDone n => Sys2Proof.Machine.execMemTrainingStepDone n s
  | .ownHeartbeatSilent dt => Sys2Proof.Machine.execOwnHeartbeatSilent dt s
  | .camPulseEnd n dt => Sys2Proof.Machine.execCamPulseEnd n dt s

end Sys2Proof.Machine
end

