-- ==== Sys2Proof/Machine/Step.lean ====
section
/-! DEFINITION. One step: the command at the front of the queue; with none waiting, one tick of 1.25 ns passes. -/

namespace Sys2Proof.Machine

/-- One step. DESIGN CHOICE (log entry 2): on an empty queue one tick of the time island passes (R334, R341). -/
def step (s : State) : Host.Outcome State Fault Refusal :=
  match s.pending with
  | [] => .next (s.pass 1)
  | c :: t => exec c { s with pending := t }

/-- The state with the command that a word spells put at the front of its queue. -/
def State.withFetchWord (s : State) (nbits w : Nat) : State :=
  match decodeTableWord nbits w with
  | some c => { s with pending := c :: s.pending }
  | none => s

end Sys2Proof.Machine
end

