-- ==== Sys2Proof/Machine/LineCode.lean ====
section
/-! DEFINITION. How what leaves the part travels on its lanes: the blocks of the Tether and Bridle lanes (R141, R142, R148,
R156, R161) and the characters of the Louvre data lanes (R107, R108, R120). The commands and the outbox hold frames, link
messages and bodies; these functions give the blocks and characters of each. -/

namespace Sys2Proof.Machine

/-! ## Blocks -/

/-- A 66-bit block before scrambling: a control block (sync header 0b10) or a data block (0b01), and its eight bytes (R141). -/
structure Block where
  ctrl : Bool
  bytes : List Byte
  deriving DecidableEq, Repr

/-- The two bits of a block's sync header (R141). -/
def blockHeader (b : Block) : BitVec 2 := if b.ctrl then 0b10#2 else 0b01#2

/-- A control block of a type, its bytes 1 to 6, and the CRC-8 of bytes 0 to 6 as byte 7 (R142). -/
def checkedBlock (type : Nat) (body : List Byte) : Block :=
  let bs := leBytes 1 type ++ body
  ⟨true, bs ++ leBytes 1 (crcOf crc8Smbus bs)⟩

/-- IDLE (R142). -/
def idleBlock : Block := ⟨true, leBytes 8 0x1E⟩

/-- A LINK block of a message's KIND and ARG (R142, R161): a CREDIT carries VC in byte 2 and LIMIT in bytes 3 to 6, an ACK
or NAK its SEQ in bytes 2 and 3. -/
def linkBlock (kind a b : Nat) : Block :=
  checkedBlock 0x4B (leBytes 1 kind ++ (if kind = 3 then leBytes 1 a ++ leBytes 4 b else leBytes 2 a ++ leBytes 3 0))

/-- MARKER of a lane: LANE, EPOCH, MASK (R142). -/
def markerBlock (lane epoch mask : Nat) : Block :=
  checkedBlock 0x55 (leBytes 1 lane ++ leBytes 1 epoch ++ leBytes 2 mask ++ leBytes 2 0)

/-- RESTRIPE on a lane: the same fields (R142). -/
def restripeBlock (lane epoch mask : Nat) : Block :=
  checkedBlock 0x66 (leBytes 1 lane ++ leBytes 1 epoch ++ leBytes 2 mask ++ leBytes 2 0)

/-- The types of TERM0 to TERM7 (R142). -/
def termTypes : List Nat := [0x87, 0x99, 0xAA, 0xB4, 0xCC, 0xD2, 0xE1, 0xFF]

/-- The whole data blocks of the rest of a frame, then its TERM block with the last 0 to 7 bytes (R142, R156). The first
argument bounds the blocks. -/
def frameTail : Nat → List Byte → List Block
  | 0, _ => []
  | n + 1, bs =>
    if bs.length < 8 then [⟨true, leBytes 1 (termTypes.getD bs.length 0) ++ bs ++ List.replicate (7 - bs.length) 0⟩]
    else ⟨false, bs.take 8⟩ :: frameTail n (bs.drop 8)

/-- A frame as blocks: START with bytes 0 to 6, data blocks, TERM (R156). -/
def frameBlocks (bs : List Byte) : List Block :=
  ⟨true, leBytes 1 0x78 ++ bs.take 7⟩ :: frameTail (bs.length + 1) (bs.drop 7)

/-- The lanes of a mask in ascending order (R148). -/
def maskLanes (mask : Nat) : List Nat := (List.range 16).filter mask.testBit

/-- The lane on which aggregate block `i` after a RESTRIPE goes (R148). -/
def stripeLane (mask i : Nat) : Nat := (maskLanes mask).getD (i % (maskLanes mask).length) 0

/-- Aggregate block `i` is a link slot (R148). -/
def linkSlot (i : Nat) : Bool := i % 20 == 19

/-- One bit through the self-synchronising scrambler x^58 + x^39 + 1 of a lane: the register holds the last 58 bits sent,
the latest in bit 0 (R141). -/
def scrambleBit (reg : BitVec 58) (b : Bool) : Bool × BitVec 58 :=
  let o := b != (reg.getLsbD 38 != reg.getLsbD 57)
  (o, (reg <<< 1) ||| (if o then 1#58 else 0#58))

/-- The bits of a payload through the scrambler, first bit first (R141). -/
def scramble : BitVec 58 → List Bool → List Bool × BitVec 58
  | reg, [] => ([], reg)
  | reg, b :: t =>
    let x := scrambleBit reg b
    let y := scramble x.2 t
    (x.1 :: y.1, y.2)

/-- The receiver's side: the register holds the last 58 bits received (R141). -/
def descramble : BitVec 58 → List Bool → List Bool × BitVec 58
  | reg, [] => ([], reg)
  | reg, b :: t =>
    let y := descramble ((reg <<< 1) ||| (if b then 1#58 else 0#58)) t
    ((b != (reg.getLsbD 38 != reg.getLsbD 57)) :: y.1, y.2)

/-- The bits of a block's payload in the order of transmission: byte 0 first, each byte least significant bit first, which
is the order of Clause 49 that R141 names. PRESUMED (log entry 98). -/
def payloadBits (b : Block) : List Bool := b.bytes.flatMap (fun x => (List.range 8).map x.getLsbD)

/-! ## Louvre characters -/

/-- A character before 8b/10b coding: a control character Kx.y or a data byte (R107). -/
inductive LvrChar where
  | k (x y : Nat)
  | d (b : Byte)
  deriving DecidableEq, Repr

/-- Every fourth byte, from the first (R108). -/
def everyFourth : List Byte → List Byte
  | [] => []
  | b :: _ :: _ :: _ :: t => b :: everyFourth t
  | b :: _ => [b]

/-- The characters that a data lane carries for what leaves on the four of them (R107, R108, R120). -/
def lvrLane (lane : Nat) (s : Lvr) : List LvrChar :=
  let ts (ver n : Nat) : List LvrChar :=
    [.k 28 0, .d (BitVec.ofNat 8 lane), .d (BitVec.ofNat 8 ver), .d (BitVec.ofNat 8 n), .k 28 5, .k 28 5, .k 28 5, .k 28 5]
  match s with
  | .ts1 ver => ts ver 1
  | .ts2 ver => ts ver 2
  | .body bytes => .k 27 7 :: ((everyFourth (bytes.drop lane)).map .d ++ [.k 29 7])
  | .commit => [.k 28 2]
  | .commitBlank => [.k 28 3]
  | .abort => [.k 30 7]

/-- The blocks of what leaves on the Tether or Bridle lanes, for one lane where each lane carries its own (R142, R156, R161). -/
def outBlocks (lane : Nat) : Out → List Block
  | .tether frame => frameBlocks frame
  | .tetherLink kind a b => [linkBlock kind a b]
  | .restripe _ epoch mask => [restripeBlock lane epoch mask]
  | _ => []

end Sys2Proof.Machine
end

