-- ==== Sys2Proof/Safety.lean ====
section
/-! DEFINITION. The terms in which statements about the part are made: what a command leaves alone, what it runs to, when
a register access is allowed, and what a well-kept state is. -/

namespace Sys2Proof.Machine

/-- The parts of State beside the registers, the page store and the queue. -/
inductive Part where
  | strap | now | free | out | islReq | input | src | pac | stations | hcs | fir | ras | teth | bl | pair | dch | cx | nh
  | cams | cal | time | trg | cap | txq | host | cu | pwr | test
  deriving DecidableEq, Repr

/-- A part is the same in two states. -/
def Part.same (p : Part) (d t : Dev) : Prop :=
  match p with
  | .strap => t.strap = d.strap
  | .now => t.now = d.now
  | .free => t.free = d.free
  | .out => t.out = d.out
  | .islReq => t.islReq = d.islReq
  | .input => t.input = d.input
  | .src => t.src = d.src
  | .pac => t.pac = d.pac
  | .stations => t.stations = d.stations
  | .hcs => t.hcs = d.hcs
  | .fir => t.fir = d.fir
  | .ras => t.ras = d.ras
  | .teth => t.teth = d.teth
  | .bl => t.bl = d.bl
  | .pair => t.pair = d.pair
  | .dch => t.dch = d.dch
  | .cx => t.cx = d.cx
  | .nh => t.nh = d.nh
  | .cams => t.cams = d.cams
  | .cal => t.cal = d.cal
  | .time => t.time = d.time
  | .trg => t.trg = d.trg
  | .cap => t.cap = d.cap
  | .txq => t.txq = d.txq
  | .host => t.host = d.host
  | .cu => t.cu = d.cu
  | .pwr => t.pwr = d.pwr
  | .test => t.test = d.test

/-- Nothing differs between two states but the listed registers and the listed parts. -/
def Frame (regs : List Nat) (parts : List Part) (d t : Dev) : Prop :=
  (∀ a, a ∉ regs → t.rd a = d.rd a) ∧ ∀ p, p ∉ parts → p.same d t

/-- The commands that can change the page store: those that write any register (a reset stands behind PWR_CMD), the frames and
messages that carry data or such a write, the engines' and check units' ends, the memory controller's, and what ends the supply of
the devices. Every other command leaves every byte of it. -/
def mayStore : Instr → Bool
  | .registerWrite .. | .loWriteHold .. | .hiWriteCommit .. | .spiWrite .. | .spiWriteUrgent .. | .sashWrite .. | .sashBlob ..
  | .sashreg .. | .frameAccept .. | .segment .. | .cuBufferDone .. | .objDone .. | .cxFlushed .. | .cxDone .. | .cxOverflow ..
  | .memRequest .. | .memReadReturn .. | .scrub .. | .islandGateComplete .. | .configuration .. | .powerOn .. | .uvlo ..
  | .railFault .. | .pinReset .. | .hardReset .. | .softReset .. | .guardReset .. | .entryDone .. => true
  | _ => false

/-- The command completes: the page store and the queue stay as they are, and the rest is as `P` says. -/
def Runs (i : Instr) (s : State) (P : Dev → Prop) : Prop :=
  ∃ t, exec i s = .next t ∧ t.mem = s.mem ∧ t.pending = s.pending ∧ P t.dev

/-- The state after `dt` ticks, in which an event arrives. -/
def State.after (s : State) (dt : Nat) : Dev := (s.pass dt).dev

/-- The state in which an allowed write through a port acts: the holder's lease has restarted (R364). -/
def State.granted (s : State) (q : Req) : Dev := s.dev.renew q

/-- The state after an allowed write whose effect leaves the rest as `d`: a pair's active forwards the write, and the access
reports success (R356, R416). -/
def State.answered (s : State) (q : Req) (a : Nat) (v : Word) (d : Dev) : State :=
  { s with dev := (d.forward q a v).emit (.access q.port.val 0 0) }

/-- What leaves the part last. -/
def Dev.lastOut (d : Dev) : Option Out := d.out.getLast?

/-- A read of a register through a port passes every check (R2, R7, R29, R361). -/
def Readable (s : State) (q : Req) (a : Nat) : Prop := s.dev.sessionOk q = true ∧ s.dev.reach a 32 = .ok

/-- A write of a register through a port passes every check (R2, R7, R29, R361, R362). -/
def Allowed (s : State) (q : Req) (a : Nat) : Prop := s.dev.writeVerdict q a 32 = .allow

/-- The registers are in canonical form. -/
def Dev.regsWf (d : Dev) : Bool := twf regReset d.regs

/-- A well-kept state: the page store and the registers are in canonical form. -/
def State.wf (s : State) : Bool := s.mem.wf && s.dev.regsWf

/-- A fault or a refusal, which no command of this part ends in. -/
def Stops (i : Instr) (s : State) : Prop := ∀ t, exec i s ≠ .next t

end Sys2Proof.Machine
end

