-- ==== Sys2Proof/Certificates/Slice0/Obligations.lean ====
section
/-! DEFINITION. The statements about the part, for the provers. -/

open Sys2Proof Sys2Proof.Machine

/-- No command ends in a fault or a refusal: what the spec rejects (R7, R361) is answered with an error and a next state. -/
def Obligations.EveryCommandAnswersNext : Prop :=
  ∀ (i : Instr) (s : State), ∃ t, exec i s = .next t

/-- The queue belongs to step (log entry 1): exec of any command leaves it, and a step takes exactly its front. -/
def Obligations.CommandsLeaveTheQueue : Prop :=
  (∀ (i : Instr) (s t : State), exec i s = .next t → t.pending = s.pending) ∧
  (∀ (c : Instr) (l : List Instr) (s t : State), s.pending = c :: l → step s = .next t → t.pending = l)

/-- The invariant of the page store: one step, of any command at any operands, keeps its canonical form. -/
def Obligations.StepsKeepTheStoreForm : Prop :=
  ∀ s t : State, s.mem.wf = true → step s = .next t → t.mem.wf = true

/-- The reset state: nothing waits, nothing is listed, and every register holds the reset value of its table. -/
def Obligations.ResetIsWellKept : Prop :=
  (State.reset.wf = true ∧ State.reset.pending = [] ∧ State.reset.mem = Store.empty ∧ State.reset.dev.out = []) ∧
  (∀ a, State.reset.dev.rd a = regReset a)

/-- The commands that can change the page store are listed by mayStore; every other one leaves all of it. -/
def Obligations.OnlyStoringCommandsStore : Prop :=
  ∀ (i : Instr) (s t : State), mayStore i = false → exec i s = .next t →
    (∀ a, t.mem.byte a = s.mem.byte a) ∧ ∀ g, t.mem.isBad g = s.mem.isBad g

/-- R212: the storing operation of the engines, byte by byte and granule by granule. -/
def Obligations.StoredBytesReadBack : Prop :=
  (∀ (m : Store) (x : Nat) (bs : List Byte) (a : Nat),
     (storePut m x bs).byte a = if h : x ≤ a ∧ a - x < bs.length then bs[a - x]'h.2 else m.byte a) ∧
  (∀ (m : Store) (x : Nat) (bs : List Byte) (g : Nat),
     (storePut m x bs).isBad g = if x ≤ 128 * g ∧ 128 * g + 128 ≤ x + bs.length then false else m.isBad g) ∧
  (∀ (m : Store) (x : Nat) (bs : List Byte), (storePut m x bs).bytes x bs.length = bs)

/-- R7, R29, R361, R362: what a refused access answers, and that it does nothing else (but wake a gated block, R438). -/
def Obligations.RefusedWritesHaveNoEffect : Prop :=
  (∀ (s : State) (q : Req) (a v : Word) (st : Status), s.dev.writeVerdict q a.toNat 32 = .refuse st →
     Runs (.registerWrite q a 32 v) s fun t => t = (s.dev.accessWake a.toNat).emit (.access q.port.val st.code 0)) ∧
  (∀ (s : State) (q : Req) (a v : Word) (width : Nat), s.dev.sessionOk q = true → (width ≠ 32 ∨ a.toNat % 4 ≠ 0) →
     Runs (.registerWrite q a width v) s fun t => t = (s.dev.accessWake a.toNat).emit (.access q.port.val 1 0)) ∧
  (∀ (s : State) (q : Req) (a : Word) (width : Nat), s.dev.sessionOk q = true → (width ≠ 32 ∨ a.toNat % 4 ≠ 0) →
     Runs (.readClear q a width) s fun t => t = (s.dev.accessWake a.toNat).emit (.access q.port.val 1 0)) ∧
  (∀ (s : State) (q : Req) (a v : Word), q.port.val = 1 ∨ q.port.val = 2 ∨ q.port.val = 3 ∨ q.port.val = 5 →
     s.dev.sessionOk q = true → s.dev.reach a.toNat 32 = .ok → s.dev.isHolder q = false → latchFree a.toNat = false →
     Runs (.registerWrite q a 32 v) s fun t => t = (s.dev.accessWake a.toNat).emit (.access q.port.val 2 0))

/-- A command register reached by a plain register write does what the command's own row does. -/
def Obligations.RowsAreTheirRegisterWrites : Prop :=
  (∀ (s : State) (q : Req), exec (.firArm q) s = exec (.registerWrite q (BitVec.ofNat 32 FIR_CMD) 32 1) s) ∧
  (∀ (s : State) (q : Req), exec (.zero q) s = exec (.registerWrite q (BitVec.ofNat 32 PAC_CMD) 32 1) s) ∧
  (∀ (s : State) (q : Req), exec (.tthRetrain q) s = exec (.registerWrite q (BitVec.ofNat 32 TTH_CMD) 32 1) s) ∧
  (∀ (s : State) (q : Req), exec (.memCmdRetrain q 0) s = exec (.registerWrite q (BitVec.ofNat 32 (MEM_CMD 0)) 32 1) s) ∧
  (∀ (s : State) (q : Req), exec (.cxStart q 0) s = exec (.registerWrite q (BitVec.ofNat 32 (CMP_CX_CMD 0)) 32 1) s) ∧
  (∀ (s : State) (q : Req), exec (.timeSwitch q) s = exec (.registerWrite q (BitVec.ofNat 32 TIM_CMD) 32 1) s) ∧
  (∀ (s : State) (q : Req), exec (.latchSeize q) s = exec (.registerWrite q (BitVec.ofNat 32 OWN_CMD) 32 8) s) ∧
  (∀ (s : State) (q : Req), exec (.relinquish q) s = exec (.registerWrite q (BitVec.ofNat 32 BRD_CMD) 32 2) s) ∧
  (∀ (s : State) (q : Req), exec (.cuStart q 0) s = exec (.registerWrite q (BitVec.ofNat 32 (CU_CMD 0)) 32 1) s) ∧
  (∀ (s : State) (q : Req), exec (.powerWake q) s = exec (.registerWrite q (BitVec.ofNat 32 PWR_CMD) 32 16) s)

/-- R213: with one channel A = X; with two, the channel is bit g of X and A drops that bit; blocks of 2^g bytes alternate. -/
def Obligations.PageStoreAddressesAlternate : Prop :=
  (∀ (d : Dev) (x : Nat), d.bit (MEM_CFG 1) MEM_CFG.PRESENT = false → d.memMap x = (0, x)) ∧
  (∀ (d : Dev) (x : Nat), d.bit (MEM_CFG 1) MEM_CFG.PRESENT = true →
     (d.memMap x).1 = (if x.testBit (d.get (MEM_CFG 0) MEM_CFG.GRAIN + 8) then 1 else 0) ∧
     (d.memMap x).2 = (x >>> (d.get (MEM_CFG 0) MEM_CFG.GRAIN + 8 + 1)) * 2 ^ (d.get (MEM_CFG 0) MEM_CFG.GRAIN + 8) +
       x % 2 ^ (d.get (MEM_CFG 0) MEM_CFG.GRAIN + 8)) ∧
  (∀ (d : Dev) (x : Nat), d.bit (MEM_CFG 1) MEM_CFG.PRESENT = true →
     (d.memMap (x + 2 ^ (d.get (MEM_CFG 0) MEM_CFG.GRAIN + 8))).1 = 1 - (d.memMap x).1 ∧
     d.memUnmap (d.memMap x).1 (d.memMap x).2 = x) ∧
  (∀ (d : Dev) (n a : Nat), d.bit (MEM_CFG 1) MEM_CFG.PRESENT = true → n < 2 → d.memMap (d.memUnmap n a) = (n, a))

/-- R383: a START with a stray upper bit in POLY, INIT or XOROUT sets STS.REJ and leaves the unit as it was. -/
def Obligations.StartOutsideWidthIsRefused : Prop :=
  ∀ (s : State) (q : Req) (k : Fin 8) (j : Nat), Allowed s q (CU_CMD k.val) → cuWidth (s.dev.rd (CU_CFG k.val)) ≤ j →
    (s.dev.rd64 (CU_POLY_LO k.val) (CU_POLY_HI k.val)).testBit j = true ∨
      (s.dev.rd64 (CU_INIT_LO k.val) (CU_INIT_HI k.val)).testBit j = true ∨
      (s.dev.rd64 (CU_XOR_LO k.val) (CU_XOR_HI k.val)).testBit j = true →
    Runs (.cuStart q k) s fun t => Frame [CU_STS k.val, CHK_EVT] [.host, .out] s.dev t ∧
      t.rd (CU_STS k.val) = (s.dev.rd (CU_STS k.val)).setFld CU_STS.REJ 1 ∧
      t.get (CU_STS k.val) CU_STS.REJ = 1 ∧ t.cuState k.val = s.dev.cuState k.val ∧
      t.get (CU_STS k.val) CU_STS.OWNER = s.dev.get (CU_STS k.val) CU_STS.OWNER ∧
      t.cuReg k.val = s.dev.cuReg k.val ∧ t.cuSt k.val = s.dev.cuSt k.val

/-- R45: the cross-web origin, the stride and the plane dot of each nozzle, plain and mirrored. -/
def Obligations.NozzlesLieAtTheirDots : Prop :=
  (∀ (d : Dev) (c : Nat), d.stride c = 1 ∨ d.stride c = 2 ∨ d.stride c = 4 ∨ d.stride c = 8) ∧
  (∀ (d : Dev) (c n : Nat), d.bit (HC_GEOM_NOZ c) HC_GEOM_NOZ.MIRROR = false → d.dotOf c n = d.xOrigin c + n * d.stride c) ∧
  (∀ (d : Dev) (c n : Nat), d.bit (HC_GEOM_NOZ c) HC_GEOM_NOZ.MIRROR = true →
     d.dotOf c n = d.xOrigin c + (d.nozzles c - 1 - n) * d.stride c ∧ d.dotOf c n ≤ d.dotOf c 0) ∧
  (∀ (d : Dev) (c : Nat), 0 < d.nozzles c → (∃ n, n < d.nozzles c ∧ d.dotOf c n = d.xOrigin c) ∧ ∀ n, d.xOrigin c ≤ d.dotOf c n) ∧
  (∀ (d : Dev) (c n : Nat), n < d.nozzles c → d.nozzleAt c (d.dotOf c n) = some n)

/-- R46: rows interleaved or blocked, and N must be a multiple of nrows. -/
def Obligations.RowsOfNozzles : Prop :=
  (∀ (d : Dev) (c n : Nat), d.bit (HC_GEOM_NOZ c) HC_GEOM_NOZ.BLOCKED = false → d.rowOf c n = n % d.rows c) ∧
  (∀ (d : Dev) (c n : Nat), d.bit (HC_GEOM_NOZ c) HC_GEOM_NOZ.BLOCKED = true → d.rowOf c n = n / (d.nozzles c / d.rows c)) ∧
  (∀ (g : List Byte), (∃ r ∈ geoChans g, r.n % r.rows ≠ 0) → geoFault g ≠ none) ∧
  (∀ (d : Dev) (c n : Nat), n < d.nozzles c → d.nozzles c % d.rows c = 0 → d.rowOf c n < d.rows c)

/-- A step takes the command at the front of the queue and runs it with the queue's rest. -/
def Obligations.StepRunsFrontCommand : Prop :=
  ∀ (c : Instr) (s : State), step { s with pending := c :: s.pending } = exec c s

/-- On an empty queue one tick passes (the model's choice, log entry 2; what a tick does to the domains is R334). -/
def Obligations.IdleStepIsOneTick : Prop :=
  ∀ s : State, s.pending = [] → ∃ t, step s = .next t ∧ t.mem = s.mem ∧ t.pending = [] ∧
    t.dev.now = s.dev.now + 1 ∧ Frame [TIM_EVT] [.now, .time] s.dev t.dev ∧
    t.dev.time.a0 = s.dev.time.a0 + s.dev.domInc 0 ∧ t.dev.time.b0 = s.dev.time.b0 + s.dev.domInc 0 ∧
    t.dev.time.a1 = s.dev.time.a1 + s.dev.domInc 1 ∧ t.dev.time.b1 = s.dev.time.b1 + s.dev.domInc 1

/-- R9 on the registers of the GLB_ block: read-write bits take the value, W1C bits clear where 1 is written, the rest stay. -/
def Obligations.RegisterWriteObeysAccessTypes : Prop :=
  ∀ (s : State) (q : Req) (a v : Word), Allowed s q a.toNat → a.toNat < 0x10000 → a.toNat ≠ GLB_XING_TMO →
    accessKind a.toNat = .plain →
    Runs (.registerWrite q a 32 v) s fun t => Frame [a.toNat] [.out, .host] s.dev t ∧
      t.out.getLast? = some (.access q.port.val 0 0) ∧
      ∀ i, i < 32 → (t.rd a.toNat).toNat.testBit i =
        (if (regMasks a.toNat).1.testBit i then v.toNat.testBit i
         else (s.dev.rd a.toNat).toNat.testBit i && !((regMasks a.toNat).2.1.testBit i && v.toNat.testBit i))

/-- R9, R11, R290, R333, R358, R363: what each read returns, clears and captures. -/
def Obligations.ReadsReturnClearAndCapture : Prop :=
  (∀ (s : State) (q : Req) (a : Word), Readable s q a.toNat → accessKind a.toNat = .plain → ¬(0x70000 ≤ a.toNat ∧ a.toNat < 0x80000) →
     Runs (.readClear q a 32) s fun t => Frame [a.toNat] [.out] s.dev t ∧
       t.lastOut = some (.access q.port.val 0 (s.dev.peek a.toNat)) ∧
       (s.dev.mayClear q = true →
         t.rd a.toNat = s.dev.rd a.toNat &&& BitVec.ofNat 32 (0xFFFFFFFF ^^^ (regMasks a.toNat).2.2)) ∧
       (s.dev.mayClear q = false → t.rd a.toNat = s.dev.rd a.toNat)) ∧
  (∀ (s : State) (q : Req) (a : Word), Readable s q a.toNat → accessKind a.toNat = .lo →
     Runs (.loReadCapture q a) s fun t => Frame [a.toNat] [.host, .out] s.dev t ∧
       t.captured q (a.toNat + 4) = s.dev.peek (a.toNat + 4) ∧ t.lastOut = some (.access q.port.val 0 (s.dev.peek a.toNat))) ∧
  (∀ (s : State) (q : Req) (a : Word), Readable s q a.toNat → accessKind a.toNat = .frac →
     Runs (.fracReadCapture q a) s fun t => Frame [a.toNat] [.host, .out] s.dev t ∧
       (∀ k, k = 4 ∨ k = 8 ∨ k = 12 → t.captured q (a.toNat + k) = s.dev.peek (a.toNat + k)) ∧
       t.lastOut = some (.access q.port.val 0 (s.dev.peek a.toNat))) ∧
  (∀ (s : State) (q : Req) (n : Fin 4), Readable s q (CAM_STAT n.val 0) →
     Runs (.statCapture q n) s fun t => Frame [CAM_STAT n.val 0] [.host, .out] s.dev t ∧
       (∀ j, j < 20 → t.captured q (CAM_STAT n.val 0 + 4 * j) = s.dev.peek (CAM_STAT n.val 0 + 4 * j)) ∧
       t.lastOut = some (.access q.port.val 0 (s.dev.peek (CAM_STAT n.val 0)))) ∧
  (∀ (s : State) (a : Word), Readable s ⟨5, 0, false⟩ a.toNat → accessKind a.toNat = .plain → ¬(0x70000 ≤ a.toNat ∧ a.toNat < 0x80000) →
     Runs (.spiRead a) s fun t => Frame [a.toNat] [.out] s.dev t ∧
       t.lastOut = some (.spi (0x80 :: (leBytes 4 (s.dev.peek a.toNat).toNat).reverse)))

/-- R11: a _LO write is held, a _HI write makes the whole value take effect; R358: the SERVICE port's writes. -/
def Obligations.WideValuesTakeEffectHigh : Prop :=
  (∀ (s : State) (q : Req) (a v : Word), Allowed s q a.toNat → accessKind a.toNat = .lo →
     Runs (.loWriteHold q a v) s fun t => Frame [] [.host, .out] s.dev t ∧ t.lowPart q a.toNat = v ∧
       t.lastOut = some (.access q.port.val 0 0)) ∧
  (∀ (s : State) (q : Req) (v : Word), Allowed s q FIR_START_POS_HI →
     Runs (.hiWriteCommit q (BitVec.ofNat 32 FIR_START_POS_HI) v) s fun t =>
       Frame [FIR_START_POS_LO, FIR_START_POS_HI] [.host, .out] s.dev t ∧
       t.rd FIR_START_POS_LO = s.dev.lowPart q FIR_START_POS_LO ∧
       t.get FIR_START_POS_HI ⟨0, 24⟩ = v.toNat % 2 ^ 24 ∧ t.lastOut = some (.access q.port.val 0 0)) ∧
  (∀ (s : State) (a v : Word), Allowed s ⟨5, 0, false⟩ a.toNat → a.toNat < 0x10000 → a.toNat ≠ GLB_XING_TMO →
     accessKind a.toNat = .plain →
     Runs (.spiWrite a v) s fun t => Frame [a.toNat] [.host, .out] s.dev t ∧ t.rd a.toNat = (s.dev.typedWrite a.toNat v).rd a.toNat ∧
       t.lastOut = some (.spi [0x80])) ∧
  (∀ (s : State) (a v : Word), Allowed s ⟨5, 0, true⟩ a.toNat → a.toNat < 0x10000 → a.toNat ≠ GLB_XING_TMO →
     accessKind a.toNat = .plain →
     Runs (.spiWriteUrgent a v) s fun t => Frame [a.toNat] [.host, .out] s.dev t ∧
       t.rd a.toNat = (s.dev.typedWrite a.toNat v).rd a.toNat ∧ t.lastOut = some (.spi [0x80]))

/-- R16, R18, R22, R24, R26, R34: isolation, gating and reset of islands. -/
def Obligations.IslandCommandsComplete : Prop :=
  (∀ (s : State) (x y : Fin 128) (dt : Nat), islExists y.val = true → (s.after dt).isIsolated y.val = false →
     (s.after dt).bit (PWR_ISL y.val) PWR_ISL.GATED = false →
     exec (.crossingTimeout [(x, y)] dt) s =
       .next ((s.pass dt).onDev (fun d => ((d.isolateMark y.val x.val).faultLast y.val x.val 1).isolated y.val))) ∧
  (∀ (s : State) (x y z w : Fin 128) (dt : Nat), islExists y.val = true → islExists w.val = true → y.val < w.val →
     (s.after dt).isIsolated y.val = false → (s.after dt).isIsolated w.val = false →
     (s.after dt).bit (PWR_ISL y.val) PWR_ISL.GATED = false → (s.after dt).bit (PWR_ISL w.val) PWR_ISL.GATED = false →
     exec (.crossingTimeout [(z, w), (x, y)] dt) s =
       .next ((s.pass dt).onDev (fun d =>
         ((((d.isolateMark w.val z.val).isolateMark y.val x.val).faultLast y.val x.val 2).isolated w.val).isolated y.val))) ∧
  (∀ (s : State) (dt : Nat), Runs (.faultFlagReset dt) s fun t =>
     Frame [GLB_ISL_FAULT, GLB_HC_FAULT0, GLB_HC_FAULT1] [] (s.after dt) t) ∧
  (∀ (s : State) (q : Req) (code : Fin 128) (v : Word), Allowed s q (PWR_ISL code.val) → islExists code.val = true →
     (code.val < 0x40 ∨ code.val - 0x40 < s.dev.hcCount) → s.dev.get PWR_STS PWR_STS.STATE < 3 →
     Runs (.islandGate q code v) s fun t => Frame [PWR_ISL code.val] [.islReq, .host, .out] s.dev t ∧
       (v.bit 0 = true → s.dev.bit (PWR_ISL code.val) PWR_ISL.GATED = false → (code.val, 1) ∈ t.islReq)) ∧
  (∀ (s : State) (q : Req) (code : Fin 128) (v : Word), Allowed s q (PWR_ISL code.val) → islExists code.val = true →
     (code.val < 0x40 ∨ code.val - 0x40 < s.dev.hcCount) → s.dev.get PWR_STS PWR_STS.STATE < 3 →
     Runs (.islandReset q code v) s fun t => Frame [PWR_ISL code.val] [.islReq, .host, .out] s.dev t ∧ (code.val, 2) ∈ t.islReq) ∧
  (∀ (s : State) (code : Fin 128) (dt : Nat), (s.after dt).islReq.find? (fun r => r.1 == code.val) = some (code.val, 1) →
     Runs (.islandGateComplete code dt) s fun t =>
       t.get (PWR_ISL code.val) PWR_ISL.GATED = 1 ∧ t.get (PWR_ISL code.val) PWR_ISL.RUNNING = 0) ∧
  (∀ (s : State) (code : Fin 128) (dt : Nat), (s.after dt).islReq.find? (fun r => r.1 == code.val) = some (code.val, 2) →
     ∃ t, exec (.islandGateComplete code dt) s = .next t ∧ t.pending = s.pending ∧
       t.dev.get (PWR_ISL code.val) PWR_ISL.ISOLATED = 0 ∧
       (t.dev.bit (PWR_ISL code.val) PWR_ISL.GATED = t.dev.bit (PWR_ISL code.val) PWR_ISL.GATE) ∧
       (t.dev.bit (PWR_ISL code.val) PWR_ISL.RUNNING = !t.dev.bit (PWR_ISL code.val) PWR_ISL.GATE) ∧
       (code.val ≠ 3 → code.val ≠ 4 → t.mem = s.mem)) ∧
  (∀ (s : State) (c : Fin 64) (line : BitVec 40) (dt : Nat), (s.after dt).jobRunning = true →
     c.val ∈ (s.after dt).fir.chans → ((s.after dt).hc c.val).m = none → (s.after dt).lvrUp c.val = true →
     (s.after dt).islUp (0x40 + c.val) = true → (s.after dt).activeOfPair = false →
     exec (.channelRestart c line dt) s = .next ((s.pass dt).onDev (fun d =>
       (d.modHc c.val (fun x => { x with restart := some line.toNat })).restartChannel c.val line.toNat)))

/-- R80, R86, R90 to R94, R103, R119, R438: arming, stopping, firing and skipping of lines, and FIRE_INH_N. -/
def Obligations.FiringCommandsComplete : Prop :=
  (∀ (s : State) (q : Req), Allowed s q FIR_CMD → (s.granted q).get PWR_STS PWR_STS.STATE < 3 →
     (s.granted q).armEnds.jobRunning = false → exec (.firArm q) s = .next (s.answered q FIR_CMD 1 (s.granted q).armEnds.armHead)) ∧
  (∀ (s : State) (q : Req), Allowed s q FIR_CMD → (s.granted q).get PWR_STS PWR_STS.STATE < 3 →
     (s.granted q).armEnds.jobRunning = true →
     Runs (.firArm q) s fun t => t.fir.heldArm = true ∧ Frame [] [.fir, .out] (s.granted q).armEnds t) ∧
  (∀ (s : State) (q : Req), Allowed s q FIR_CMD → 3 ≤ (s.granted q).get PWR_STS PWR_STS.STATE →
     (s.granted q).get PWR_STS PWR_STS.STATE ≤ 6 →
     exec (.firArm q) s = .next (s.answered q FIR_CMD 1 ((s.granted q).modPwr (fun x => { x with armHeld := true })).wakeCause)) ∧
  (∀ (s : State) (q : Req), Allowed s q FIR_CMD →
     exec (.firDisarm q) s = .next (s.answered q FIR_CMD 2
       { s.granted q with fir := { (s.granted q).fir with heldArm := false } }.disarm)) ∧
  (∀ (s : State) (q : Req), Allowed s q FIR_CMD →
     exec (.firStop q) s = .next (s.answered q FIR_CMD 4 ((s.granted q).jobStop 1))) ∧
  (∀ (s : State) (c : Fin 64) (m dt : Nat), (s.after dt).canFire c.val = true → (s.after dt).pending c.val = some m →
     exec (.lineFire c dt) s = .next ((s.pass dt).onDev (fun d =>
       if d.bit FIR_STS FIR_STS.INH_NOW then d.inhibitLine c.val m else d.fireLine c.val m))) ∧
  (∀ (s : State) (c : Fin 64) (x : Strobe) (l : List Strobe) (dt : Nat), ((s.after dt).hc c.val).strobes = x :: l →
     x.at_ ≤ (s.after dt).now → x.live = true → (s.after dt).bit FIR_STS FIR_STS.INH_NOW = false →
     exec (.strobeIssue c dt) s = .next ((s.pass dt).onDev (fun d =>
       (d.modHc c.val (fun y => { y with strobes := l })).issueStrobe c.val x.line x.wfa x.wfb))) ∧
  (∀ (s : State) (c : Fin 64) (x : Strobe) (l : List Strobe) (dt : Nat), ((s.after dt).hc c.val).strobes = x :: l →
     x.at_ ≤ (s.after dt).now → x.live = true → (s.after dt).bit FIR_STS FIR_STS.INH_NOW = true →
     Runs (.strobeIssue c dt) s fun t => Frame [HC_INH_CNT c.val, HC_FIR_STS c.val] [.hcs] (s.after dt) t ∧
       (t.hc c.val).strobes = l ∧ t.get (HC_FIR_STS c.val) HC_FIR_STS.INH = 1 ∧
       t.get (HC_INH_CNT c.val) whole = min (2 ^ 32 - 1) ((s.after dt).get (HC_INH_CNT c.val) whole + 1)) ∧
  (∀ (s : State) (c : Fin 64) (m dt : Nat), (s.after dt).mustSkip c.val = true → (s.after dt).pending c.val = some m →
     exec (.lineSkip c dt) s = .next ((s.pass dt).onDev (fun d =>
       let e := (d.count (HC_SKIP_CNT c.val) whole 1).flag (HC_FIR_STS c.val) HC_FIR_STS.SKIP
       let e := e.wr64 (HC_SKIP_LAST_LO c.val) (HC_SKIP_LAST_HI c.val) (d.jobLine m)
       let e := (e.lvrAbort c.val).record c.val 2 m 0 0
       let e := (e.rollWindow c.val).modHc c.val (fun x => { x with winN := x.winN + 1 })
       if e.get FIR_CFG FIR_CFG.SKIP_MAX < (e.hc c.val).winN then (e.nextUp c.val m).overspeed c.val else e.nextUp c.val m))) ∧
  (∀ (s : State) (c : Fin 64) (dt : Nat), (s.after dt).firingOn = true →
     Runs (.skipWindowEnd c dt) s fun t => Frame [] [.hcs] (s.after dt) t ∧
       (800000 ≤ (s.after dt).now - ((s.after dt).hc c.val).winAt → (t.hc c.val).winN = 0)) ∧
  (∀ (s : State) (dt : Nat), Runs (.inhibitRise dt) s fun t => Frame [FIR_STS] [] (s.after dt) t ∧ t.get FIR_STS FIR_STS.INH_NOW = 0) ∧
  (∀ (s : State) (dt : Nat), (s.after dt).bit FIR_STS FIR_STS.INH_NOW = false →
     exec (.inhibitFall dt) s = .next ((s.pass dt).onDev (fun d =>
       let e := ((d.put FIR_STS FIR_STS.INH_NOW 1).flag FIR_EVT FIR_EVT.INHIBIT).count FIR_INH_CNT loHalf 1
       let e := e.each (e.hcs.map (·.1)) (fun c d =>
         match (d.hc c).wave with
         | some (t, _, _) =>
           let d := if d.now < t + d.strobeWidth c then (d.count (HC_INH_CNT c) whole 1).flag (HC_FIR_STS c) HC_FIR_STS.INH else d
           d.modHc c (fun x => { x with wave := none })
         | none => d)
       let e := e.gatesEnd.calAbort
       if e.bit FIR_CFG FIR_CFG.INH_STOP then e.jobStop 3 else e))) ∧
  (∀ (s : State) (dt : Nat), (s.after dt).bit FIR_STS FIR_STS.INH_NOW = true → exec (.inhibitFall dt) s = .next (s.pass dt))

/-- R54, R55, R96 to R99: passes and row delay changes. -/
def Obligations.PassCommandsComplete : Prop :=
  (∀ (s : State) (q : Req), Allowed s q FIR_CMD → (s.granted q).scan = true →
     ((s.granted q).describedPass.last < (s.granted q).describedPass.first ∨
       ∃ c ∈ (s.granted q).channels, 1048575 < (s.granted q).describedPass.last + (s.granted q).maxOff c) →
     Runs (.passGo q) s fun t => t.get FIR_EVT FIR_EVT.PASS_REJ = 1 ∧ t.fir.held = none ∧
       Frame [FIR_EVT] [.fir, .out] (s.granted q) t) ∧
  (∀ (s : State) (q : Req), Allowed s q FIR_CMD → (s.granted q).scan = true →
     (s.granted q).describedPass.first ≤ (s.granted q).describedPass.last →
     (∀ c ∈ (s.granted q).channels, (s.granted q).describedPass.last + (s.granted q).maxOff c ≤ 1048575) →
     exec (.passGo q) s = .next (s.answered q FIR_CMD 8 (
       if (s.granted q).passActive then
         { s.granted q with fir := { (s.granted q).fir with held := some (s.granted q).describedPass } }
       else (((s.granted q).armPass (s.granted q).describedPass).prepBanks (s.granted q).channels).checkPassSegs
         (s.granted q).describedPass))) ∧
  (∀ (s : State) (q : Req), Allowed s q FIR_CMD → (s.granted q).passActive = true →
     exec (.passAbort q) s = .next (s.answered q FIR_CMD 16
       (((s.granted q).abortLines.each (s.granted q).abortLines.fir.chans
         (fun c d => d.cutStrobes c)).passOver false))) ∧
  (∀ (s : State) (q : Req), Allowed s q FIR_CMD → (s.granted q).passActive = false →
     Runs (.passAbort q) s fun t => t.fir.armed = none ∧ Frame [FIR_STS] [.fir, .out] (s.granted q) t ∧
       ((s.granted q).fir.armed ≠ none → t.get FIR_STS FIR_STS.PASS_ARMED = 0)) ∧
  (∀ (s : State) (p : Pass) (dt : Nat), (s.after dt).fir.armed = some p → (s.after dt).passActive = false →
     ((s.after dt).bit FIR_CFG FIR_CFG.WAIT_ADV = false ∨ (s.after dt).bit PAC_ADV_CFG PAC_ADV_CFG.IDLE = true) →
     (s.after dt).headJob = none → (∀ c ∈ (s.after dt).channels, (s.after dt).bankCurrent c = true) →
     (∀ c ∈ (s.after dt).channels, if p.rev then (s.after dt).passTarget c ((s.after dt).passStart p c) p < (s.after dt).P
       else (s.after dt).P < (s.after dt).passTarget c ((s.after dt).passStart p c) p) →
     (s.after dt).startFault (s.after dt).channels 1 = none →
     Runs (.passActivate dt) s fun t => t.fir.active = some p ∧ t.fir.armed = none ∧ t.fir.chans = (s.after dt).channels ∧
       t.get FIR_STS FIR_STS.PASS_ARMED = 0 ∧ t.get FIR_STS FIR_STS.PASS_ACTIVE = 1 ∧
       t.get FIR_STS FIR_STS.PASS_DIR = (if p.rev then 1 else 0) ∧ t.get FIR_EVT FIR_EVT.PASS_START = 1) ∧
  (∀ (s : State) (p : Pass) (c : Nat) (dt : Nat), (s.after dt).fir.armed = some p → (s.after dt).passActive = false →
     ((s.after dt).bit FIR_CFG FIR_CFG.WAIT_ADV = false ∨ (s.after dt).bit PAC_ADV_CFG PAC_ADV_CFG.IDLE = true) →
     (s.after dt).headJob = none → (∀ c ∈ (s.after dt).channels, (s.after dt).bankCurrent c = true) →
     c ∈ (s.after dt).channels → p.rev = false → (s.after dt).passTarget c p.first p ≤ (s.after dt).P →
     Runs (.passActivate dt) s fun t => t.fir.armed = none ∧ t.get FIR_EVT FIR_EVT.PASS_REJ = 1 ∧
       t.get FIR_STS FIR_STS.PASS_ARMED = 0 ∧ Frame [FIR_STS, FIR_EVT] [.fir] (s.after dt) t) ∧
  (∀ (s : State) (q : Req) (c : Fin 64) (hi : Fin 256), Allowed s q (HC_ROWDLY_AT_HI c.val) →
     ((s.granted q).jobActive || (s.granted q).passBusy) = false → (s.granted q).activeOfPair = false →
     Runs (.rowdlyArm q c hi) s fun t => t.rd (HC_ROWDLY c.val) = s.dev.rd (HC_ROWDLY_NEXT c.val) ∧
       t.get (HC_GEOM_STS c.val) HC_GEOM_STS.PENDING = 0 ∧
       Frame [HC_ROWDLY c.val, HC_GEOM_STS c.val, HC_ROWDLY_AT_LO c.val, HC_ROWDLY_AT_HI c.val] [.host, .out] s.dev t) ∧
  (∀ (s : State) (q : Req) (c : Fin 64) (hi : Fin 256), Allowed s q (HC_ROWDLY_AT_HI c.val) →
     ((s.granted q).jobActive || (s.granted q).passBusy) = true →
     255 < ((s.dev.rdN (HC_ROWDLY_NEXT c.val) : Int) - (s.dev.hc c.val).dStart).natAbs →
     Runs (.rowdlyArm q c hi) s fun t => t.get (HC_GEOM_STS c.val) HC_GEOM_STS.REJECT = 1 ∧
       t.get (HC_GEOM_STS c.val) HC_GEOM_STS.PENDING = 0 ∧
       Frame [HC_GEOM_STS c.val, HC_ROWDLY_AT_LO c.val, HC_ROWDLY_AT_HI c.val] [.host, .out] s.dev t) ∧
  (∀ (s : State) (q : Req) (c : Fin 64) (hi : Fin 256), Allowed s q (HC_ROWDLY_AT_HI c.val) →
     ((s.granted q).jobActive || (s.granted q).passBusy) = true →
     ((s.dev.rdN (HC_ROWDLY_NEXT c.val) : Int) - (s.dev.hc c.val).dStart).natAbs ≤ 255 →
     Runs (.rowdlyArm q c hi) s fun t => t.get (HC_GEOM_STS c.val) HC_GEOM_STS.PENDING = 1 ∧
       Frame [HC_GEOM_STS c.val, HC_ROWDLY_AT_LO c.val, HC_ROWDLY_AT_HI c.val] [.host, .pair, .out] s.dev t) ∧
  (∀ (s : State) (c : Fin 64) (m dt : Nat), (s.after dt).pending c.val = some m →
     (s.after dt).bit (HC_GEOM_STS c.val) HC_GEOM_STS.PENDING = true →
     (s.after dt).atOrAfter ((s.after dt).rowDelayAt c.val) m = true → (s.after dt).canFire c.val = true →
     (s.after dt).bit FIR_STS FIR_STS.INH_NOW = false →
     exec (.rowdlyApply c dt) s = .next ((s.pass dt).onDev (fun d => d.fireLine c.val m)))

/-- R170 to R173, R200: jobs. -/
def Obligations.JobCommandsComplete : Prop :=
  (∀ (s : State) (arg : Fin 256) (job : Word) (line : BitVec 40) (mask : BitVec 64) (other : Nat), 16 ≤ s.dev.ras.jobs.length →
     exec (.jobOpen arg job line mask other) s = .next (s.onDev (·.sendResult 1 job.toNat 1))) ∧
  (∀ (s : State) (arg : Fin 256) (job : Word) (line : BitVec 40) (mask : BitVec 64) (other : Nat), s.dev.ras.jobs.length < 16 →
     (s.dev.jobOf job.toNat).isSome = true →
     exec (.jobOpen arg job line mask other) s = .next (s.onDev (·.sendResult 1 job.toNat 2))) ∧
  (∀ (s : State) (arg : Fin 256) (job : Word) (line : BitVec 40) (mask : BitVec 64), s.dev.ras.jobs.length < 16 →
     s.dev.jobOf job.toNat = none → mask ≠ 0 → (∀ c, mask.toNat.testBit c = true → s.dev.hasChannel c = true) →
     arg.val < 8 → arg.val % 4 ≠ 3 →
     (∀ c, mask.toNat.testBit c = true → 80 ≤ s.dev.leadCap c (arg.val % 4 + 1)) →
     exec (.jobOpen arg job line mask 0) s = .next (s.onDev (fun d =>
       let j : Job := ⟨job.toNat, arg.val % 4 + 1, arg.val.testBit 2, line.toNat, mask.toNat, 1, none, none⟩
       (({ d with ras := { d.ras with jobs := d.ras.jobs ++ [j] } }.sendResult 1 job.toNat 0).sendState j).mirrorJob job.toNat))) ∧
  (∀ (s : State) (arg : Fin 256) (job : Word) (line : BitVec 40) (mask : BitVec 64) (other : Nat), s.dev.jobOf job.toNat = none →
     exec (.jobSetlast arg job line mask other) s = .next (s.onDev (·.sendResult 2 job.toNat 6)) ∧
     exec (.jobAbort arg job line mask other) s = .next (s.onDev (·.sendResult 3 job.toNat 6)) ∧
     exec (.jobResume arg job line mask other) s = .next (s.onDev (·.sendResult 4 job.toNat 6))) ∧
  (∀ (s : State) (job : Word) (line : BitVec 40) (j : Job), s.dev.jobOf job.toNat = some j → j.atFront line.toNat = false →
     exec (.jobSetlast 0 job line 0 0) s = .next (s.onDev (fun d =>
       (((d.modJob job.toNat (fun j => { j with last := line.toNat })).mirrorJob job.toNat).sendResult 2 job.toNat 0).finishCheck))) ∧
  (∀ (s : State) (job : Word) (j : Job), s.dev.jobOf job.toNat = some j →
     exec (.jobAbort 0 job 0 0 0) s = .next (s.onDev (fun d =>
       let e := d.sendResult 3 job.toNat 0
       (if j.state = 3 then e.jobStop 1 else e).leaveQueue j 6 (j.state = 3)))) ∧
  (∀ (s : State) (job : Word) (line : BitVec 40) (j : Job), s.dev.jobOf job.toNat = some j → j.state = 4 →
     j.atFront line.toNat = false →
     exec (.jobResume 0 job line 0 0) s = .next (s.onDev (fun d => (d.sendResult 4 job.toNat 0).resumeJob j line.toNat))) ∧
  (∀ (s : State) (job : Word) (line : BitVec 40) (j : Job), s.dev.jobOf job.toNat = some j →
     (j.state ≠ 4 ∨ j.atFront line.toNat = true) →
     exec (.jobResume 0 job line 0 0) s = .next (s.onDev (·.sendResult 4 job.toNat 7))) ∧
  (∀ (s : State) (q : Req) (j : Job), Allowed s q CMP_RFL_CMD → (s.granted q).headJob = some j → j.state = 4 →
     j.atFront (s.dev.rdN CMP_RESUME_LO + 2 ^ 32 * (s.dev.rdN CMP_RESUME_HI % 256)) = false →
     exec (.cmpResume q) s = .next (s.answered q CMP_RFL_CMD 1
       ((s.granted q).resumeJob j (s.dev.rdN CMP_RESUME_LO + 2 ^ 32 * (s.dev.rdN CMP_RESUME_HI % 256))))) ∧
  (∀ (s : State) (j : Job) (l dt : Nat), (s.after dt).headJob = some j → (s.after dt).autoLine = some l → j.autoarm = true →
     j.state = 1 → (∀ c ∈ j.chans, ((s.after dt).blk c (blkKey j.id (l / 64))).st = .held) →
     exec (.autoarm dt) s = .next ((s.pass dt).onDev (·.armLoops.armHead))) ∧
  (∀ (s : State) (j : Job) (dt : Nat), (s.after dt).headJob = some j → j.state = 3 →
     (s.after dt).ras.progressAt + 800000 ≤ (s.after dt).now →
     Runs (.jobProgress dt) s fun t => Frame [] [.ras, .teth] (s.after dt) t ∧ t.ras.progressAt = (s.after dt).now ∧
       t.teth.wait = (s.after dt).teth.wait ++ [⟨0, 3, 0, jobBody 0x83 0 0 0 j.id j.frontOr 0 0⟩])

/-- R59 to R62: the conditioning chains of the discrete inputs. -/
def Obligations.InputCommandsComplete : Prop :=
  (∀ (s : State) (i : Fin 32) (j : Fin 8) (dt : Nat), (s.after dt).islUp 6 = true →
     Runs (.inputTransition i j dt) s fun t => Frame [] [.input] (s.after dt) t ∧
       (t.inp i.val).raw = !((s.after dt).inp i.val).raw ∧ (t.inp i.val).filt = ((s.after dt).inp i.val).filt ∧
       (t.inp i.val).passed = ((s.after dt).inp i.val).passed ∧
       (t.inp i.val).change = (if t.polLevel i.val = (t.inp i.val).filt then none
         else some ((s.after dt).now, j.val, (s.after dt).get (inCfg i.val) PAC_IN_CFG.FILT))) ∧
  (∀ (s : State) (q : Req) (i : Fin 32) (v : Word), Allowed s q (inCfg i.val) →
     Runs (.inputPolWrite q i v) s fun t => Frame [inCfg i.val] [.input, .host, .out] s.dev t ∧
       t.rd (inCfg i.val) = (s.dev.typedWrite (inCfg i.val) v).rd (inCfg i.val) ∧
       ((s.dev.typedWrite (inCfg i.val) v).polLevel i.val = s.dev.polLevel i.val → t.input = s.dev.input)) ∧
  (∀ (s : State) (l : List (Fin 32)) (dt : Nat), (s.after dt).islUp 6 = true →
     exec (.glitchFilterAccept l dt) s = .next ((s.pass dt).onDev (fun d =>
       (d.gather (l.map (·.val)) Dev.acceptOne).1.consume (d.gather (l.map (·.val)) Dev.acceptOne).2))) ∧
  (∀ (s : State) (i : Fin 32) (k j f dt : Nat), (s.after dt).islUp 6 = true →
     ((s.after dt).inp i.val).change = some (k, j, f) → k + f ≤ (s.after dt).now →
     (s.after dt).isStuck i.val = true →
     Runs (.glitchFilterAccept [i] dt) s fun t => Frame [] [.input] (s.after dt) t ∧
       (t.inp i.val).filt = !((s.after dt).inp i.val).filt ∧ (t.inp i.val).change = none ∧
       (t.inp i.val).passed = ((s.after dt).inp i.val).passed) ∧
  (∀ (s : State) (l : List (Fin 32)) (dt : Nat), (s.after dt).islUp 6 = true →
     exec (.rateGapClose l dt) s = .next ((s.pass dt).onDev (fun d =>
       (d.gather (l.map (·.val)) Dev.closeGap).1.consume (d.gather (l.map (·.val)) Dev.closeGap).2))) ∧
  (∀ (s : State) (i : Fin 32) (g dt : Nat), (s.after dt).islUp 6 = true → ((s.after dt).inp i.val).gapEnd = some g →
     g ≤ (s.after dt).now →
     ((((s.after dt).inp i.val).filt && !(s.after dt).isStuck i.val) = ((s.after dt).inp i.val).passed) →
     Runs (.rateGapClose [i] dt) s fun t => Frame [] [.input] (s.after dt) t ∧ (t.inp i.val).gapEnd = none ∧
       (t.inp i.val).passed = ((s.after dt).inp i.val).passed) ∧
  (∀ (s : State) (i : Fin 32) (k m dt : Nat), (s.after dt).islUp 6 = true → ((s.after dt).inp i.val).activeAt = some (k, m) →
     m ≠ 0 → (s.after dt).isStuck i.val = false → k + 800 * m < (s.after dt).now → ((s.after dt).inp i.val).passed = false →
     i.val ≠ 14 → i.val ≠ 15 →
     Runs (.inputStuck i dt) s fun t => Frame [inSts i.val, PAC_EVT] [] (s.after dt) t ∧
       t.get (inSts i.val) PAC_IN_STS.STUCK = 1 ∧ t.get (inSts i.val) PAC_IN_STS.STUCK_NOW = 1 ∧
       (i.val < 10 → t.get PAC_EVT PAC_EVT.INSTUCK = 1)) ∧
  (∀ (s : State) (i : Fin 32) (k m dt : Nat), (s.after dt).islUp 6 = true → ((s.after dt).inp i.val).activeAt = some (k, m) →
     m ≠ 0 → (s.after dt).isStuck i.val = false → k + 800 * m < (s.after dt).now → ((s.after dt).inp i.val).passed = true →
     exec (.inputStuck i dt) s = .next ((s.pass dt).onDev (fun d =>
       let d := ((d.flag (inSts i.val) PAC_IN_STS.STUCK).put (inSts i.val) PAC_IN_STS.STUCK_NOW 1).pacInEvt i.val PAC_EVT.INSTUCK
       let e : Edge := ⟨i.val, false, d.now, d.eventTimes 0⟩
       let d := (d.passEdge e).consume [e]
       if i.val = 14 ∨ i.val = 15 then d.gateAbort (i.val - 14) false else d))) ∧
  (∀ (s : State) (i : Fin 32) (k r dt : Nat), (s.after dt).islUp 6 = true → ((s.after dt).inp i.val).inactiveAt = some (k, r) →
     (s.after dt).isStuck i.val = true → k + 800 * r ≤ (s.after dt).now →
     Runs (.stuckRelease i dt) s fun t => Frame [inSts i.val] [] (s.after dt) t ∧ t.get (inSts i.val) PAC_IN_STS.STUCK_NOW = 0)

/-- R56 to R58, R67 to R69, R72 to R78: the pacing commands. -/
def Obligations.PacingCommandsComplete : Prop :=
  (∀ (s : State) (dt : Nat), (s.after dt).islUp 6 = true → (s.after dt).bit PAC_CFG PAC_CFG.EN = true →
     (s.after dt).pac.lastUpd + 1024 ≤ (s.after dt).now →
     ((s.after dt).pacState = 2 ∨ (s.after dt).pacState = 3 ∨ (s.after dt).pacState = 4) →
     exec (.loopUpdate dt) s = .next ((s.pass dt).onDev (fun d =>
       { d with pac := { d.pac with lastUpd := d.now } }.refreshRatios.loopStep))) ∧
  (∀ (s : State) (dt : Nat), (s.after dt).now < (s.after dt).pac.lastUpd + 1024 → exec (.loopUpdate dt) s = .next (s.pass dt)) ∧
  (∀ (s : State) (q : Req) (v : Word), Allowed s q PAC_CFG → (s.granted q).bit PAC_CFG PAC_CFG.EN = false →
     v.fld PAC_CFG.BKP ≠ 3 → (v.fld PAC_CFG.BKP ≠ 0 → v.fld PAC_CFG.BKP - 1 ≠ v.fld PAC_CFG.SRC) →
     advSource ((s.granted q).get PAC_ADV_CFG PAC_ADV_CFG.SRC) = none → (s.granted q).pacBusy = false →
     (s.granted q).enCheck (v.fld PAC_CFG.SRC) = true →
     exec (.pacingEnable q v) s = .next (s.answered q PAC_CFG (v.setFld PAC_CFG.EN 1)
       (((s.granted q).typedWrite PAC_CFG (v.setFld PAC_CFG.EN 1)).pacEnable))) ∧
  (∀ (s : State) (q : Req) (v : Word), Allowed s q PAC_CFG → (s.granted q).bit PAC_CFG PAC_CFG.EN = true →
     v.fld PAC_CFG.BKP ≠ 3 → (v.fld PAC_CFG.BKP ≠ 0 → v.fld PAC_CFG.BKP - 1 ≠ v.fld PAC_CFG.SRC) →
     advSource ((s.granted q).get PAC_ADV_CFG PAC_ADV_CFG.SRC) = none → (s.granted q).pacBusy = false →
     exec (.pacingDisable q v) s = .next (s.answered q PAC_CFG (v.setFld PAC_CFG.EN 0)
       (((s.granted q).typedWrite PAC_CFG (v.setFld PAC_CFG.EN 0)).pacDisable))) ∧
  (∀ (s : State) (q : Req) (src bkp : Fin 4), Allowed s q PAC_CFG → (s.granted q).bit PAC_CFG PAC_CFG.EN = true →
     (s.granted q).get PAC_CFG PAC_CFG.SRC ≠ src.val → bkp.val ≠ 3 → (bkp.val ≠ 0 → bkp.val - 1 ≠ src.val) →
     advSource ((s.granted q).get PAC_ADV_CFG PAC_ADV_CFG.SRC) = none → (s.granted q).pacBusy = false →
     exec (.sourceChange q src bkp) s = .next (s.answered q PAC_CFG
       (((s.dev.rd PAC_CFG).setFld PAC_CFG.SRC src.val).setFld PAC_CFG.BKP bkp.val)
       (((s.granted q).typedWrite PAC_CFG (((s.dev.rd PAC_CFG).setFld PAC_CFG.SRC src.val).setFld PAC_CFG.BKP bkp.val)).sourceChange
         (bkp.val ≠ 0 && bkp.val ≠ (s.granted q).get PAC_CFG PAC_CFG.BKP)))) ∧
  (∀ (s : State) (q : Req) (src bkp : Fin 4), Allowed s q PAC_CFG → (bkp.val = 3 ∨ (bkp.val ≠ 0 ∧ bkp.val - 1 = src.val)) →
     Runs (.sourceChange q src bkp) s fun t => Frame [PAC_EVT, PAC_STS] [.host, .out] s.dev t ∧
       t.get PAC_EVT PAC_EVT.CMDREJ = 1 ∧ t.get PAC_STS PAC_STS.REJ_WHY = 4) ∧
  (∀ (s : State) (q : Req), Allowed s q PAC_CMD → (s.granted q).jobActive = false → (s.granted q).passActive = false →
     Runs (.zero q) s fun t => Frame [] [.pac, .src, .hcs, .host, .out] s.dev t ∧ t.P = s.dev.preset ∧ t.pac.hwm = s.dev.preset) ∧
  (∀ (s : State) (q : Req), Allowed s q PAC_CMD → ((s.granted q).jobActive = true ∨ (s.granted q).passActive = true) →
     (Runs (.zero q) s fun t => Frame [PAC_EVT, PAC_STS] [.host, .out] s.dev t ∧ t.get PAC_EVT PAC_EVT.CMDREJ = 1 ∧
       t.get PAC_STS PAC_STS.REJ_WHY = 1) ∧
     (Runs (.zarm q) s fun t => Frame [PAC_EVT, PAC_STS] [.host, .out] s.dev t ∧ t.get PAC_EVT PAC_EVT.CMDREJ = 1 ∧
       t.get PAC_STS PAC_STS.REJ_WHY = 1)) ∧
  (∀ (s : State) (q : Req), Allowed s q PAC_CMD → (s.granted q).jobActive = false → (s.granted q).passActive = false →
     Runs (.zarm q) s fun t => Frame [] [.pac, .host, .out] s.dev t ∧ t.pac.zarm = true) ∧
  (∀ (s : State) (q : Req), Allowed s q PAC_CMD →
     Runs (.zdisarm q) s fun t => Frame [] [.pac, .host, .out] s.dev t ∧ t.pac.zarm = false) ∧
  (∀ (s : State) (e : Fin 2) (dt : Nat), (s.after dt).islUp 6 = true → (s.after dt).pac.zarm = true →
     (s.after dt).get PAC_CFG PAC_CFG.SRC = e.val →
     Runs (.zPreset e dt) s fun t => t.pac.zarm = false ∧ t.P = (s.after dt).preset ∧
       Frame [if e.val = 0 then PAC_ZMEAS0 else PAC_ZMEAS1, PAC_EVT] [.pac, .src, .hcs] (s.after dt) t) ∧
  (∀ (s : State) (q : Req), Allowed s q PAC_CMD → (s.granted q).backup = none →
     Runs (.restore q) s fun t => Frame [PAC_EVT, PAC_STS] [.host, .out] s.dev t ∧ t.get PAC_EVT PAC_EVT.CMDREJ = 1 ∧
       t.get PAC_STS PAC_STS.REJ_WHY = 3) ∧
  (∀ (s : State) (q : Req), Allowed s q PAC_CMD → (s.granted q).backup ≠ none →
     Runs (.restore q) s fun t => Frame [] [.pac, .host, .out] s.dev t ∧
       t.pac.restore = ((s.granted q).bit PAC_STS PAC_STS.ON_BACKUP || s.dev.pac.restore)) ∧
  (∀ (s : State) (dt : Nat), (s.after dt).islUp 6 = true → (s.after dt).pac.restore = true →
     (s.after dt).bit PAC_STS PAC_STS.ON_BACKUP = true → 256 ≤ (s.after dt).pac.nprim →
     Runs (.restoreApply dt) s fun t => Frame [PAC_STS] [.pac, .hcs] (s.after dt) t ∧ t.get PAC_STS PAC_STS.ON_BACKUP = 0 ∧
       t.pac.restore = false ∧ t.pac.use = (s.after dt).get PAC_CFG PAC_CFG.SRC ∧ t.P = (s.after dt).P) ∧
  (∀ (s : State) (dt : Nat), (s.after dt).islUp 6 = true → (s.after dt).pac.restore = true →
     (s.after dt).bit PAC_STS PAC_STS.ON_BACKUP = true → (s.after dt).pac.nprim < 256 →
     Runs (.restoreApply dt) s fun t => Frame [PAC_EVT, PAC_STS] [.pac] (s.after dt) t ∧
       t.get PAC_STS PAC_STS.REJ_WHY = 2 ∧ t.get PAC_EVT PAC_EVT.CMDREJ = 1 ∧ t.pac.restore = false) ∧
  (∀ (s : State) (b dt : Nat), (s.after dt).islUp 6 = true → (s.after dt).switchDue = true → (s.after dt).backup = some b →
     Runs (.backupSwitch dt) s fun t => Frame [PAC_STS, PAC_EVT] [.pac, .hcs] (s.after dt) t ∧ t.pac.use = b ∧
       t.get PAC_STS PAC_STS.ON_BACKUP = 1 ∧ t.get PAC_EVT PAC_EVT.SWITCH = 1 ∧ t.P = (s.after dt).P) ∧
  (∀ (s : State) (dt : Nat), (s.after dt).islUp 6 = true → (s.after dt).silent = true → (s.after dt).motionExpected = false →
     Runs (.mediumStopped dt) s fun t => Frame [PAC_STS, PAC_EVT] [.pac, .hcs, .out] (s.after dt) t ∧
       t.get PAC_STS PAC_STS.STATE = 5 ∧ t.get PAC_STS PAC_STS.LOCK = 0 ∧ t.get PAC_EVT PAC_EVT.STOP = 1 ∧ t.pac.v = 0 ∧
       t.P = (s.after dt).P) ∧
  (∀ (s : State) (dt : Nat), (s.after dt).islUp 6 = true → (s.after dt).silent = true → (s.after dt).motionExpected = true →
     (s.after dt).bit PAC_CFG PAC_CFG.LOSS_STOP = false →
     Runs (.loss dt) s fun t => Frame [PAC_STS, PAC_EVT] [.pac, .hcs] (s.after dt) t ∧
       t.get PAC_STS PAC_STS.STATE = 6 ∧ t.get PAC_STS PAC_STS.LOCK = 0 ∧ t.get PAC_EVT PAC_EVT.LOSS = 1 ∧ t.pac.v = 0 ∧
       t.P = (s.after dt).P) ∧
  (∀ (s : State) (dt : Nat), (s.after dt).islUp 6 = true → (s.after dt).silent = true → (s.after dt).motionExpected = true →
     (s.after dt).bit PAC_CFG PAC_CFG.LOSS_STOP = true → exec (.loss dt) s = .next ((s.pass dt).onDev (·.lossEnter.jobStop 4))) ∧
  (∀ (s : State) (dt : Nat), (s.after dt).islUp 6 = true →
     (s.after dt).pac.advAt + 800 * (s.after dt).get PAC_ADV_CFG PAC_ADV_CFG.SETTLE ≤ (s.after dt).now →
     Runs (.advIdle dt) s fun t => Frame [PAC_ADV_CFG] [] (s.after dt) t ∧ t.get PAC_ADV_CFG PAC_ADV_CFG.IDLE = 1) ∧
  (∀ (s : State) (q : Req), Allowed s q PAC_ADV_CFG →
     Runs (.advZero q) s fun t => Frame [PAC_ADV] [.host, .out] s.dev t ∧ t.rd PAC_ADV = 0)

/-- R117 to R120: the Louvre link's starts and losses. -/
def Obligations.LouvreLinkCommandsComplete : Prop :=
  (∀ (s : State) (c : Fin 64) (dt : Nat), (s.after dt).lvrUp c.val = true →
     ((s.after dt).hc c.val).frameAt + 16000 ≤ (s.after dt).now →
     exec (.lvrStatusTimeout c dt) s = .next ((s.pass dt).onDev (·.lvrDown c.val))) ∧
  (∀ (s : State) (c : Fin 64) (dt : Nat), (s.after dt).islUp (0x40 + c.val) = true → (s.after dt).lvrUp c.val = true →
     exec (.lvrBridgeTraining c dt) s = .next ((s.pass dt).onDev (·.lvrDown c.val))) ∧
  (∀ (s : State) (q : Req) (c : Fin 64), Allowed s q (HC_LVR_CMD c.val) →
     exec (.lvrRestart q c) s = .next (s.answered q (HC_LVR_CMD c.val) 1
       (if s.dev.bit (HC_LVR_CFG c.val) HC_LVR_CFG.EN then (s.granted q).lvrDown c.val else s.granted q))) ∧
  (∀ (s : State) (c : Fin 64) (dt : Nat), (s.after dt).lvrUp c.val = true →
     ∃ t, exec (.lvrStatusTimeout c dt) s = .next t ∧ (((s.after dt).hc c.val).frameAt + 16000 ≤ (s.after dt).now →
       t.dev.get (HC_LVR_EVT c.val) HC_LVR_EVT.DOWN = 1 ∧ t.dev.get (HC_LVR_STS c.val) HC_LVR_STS.STATE = 0 ∧
       t.dev.get (HC_LVR_STS c.val) HC_LVR_STS.VER = 0 ∧ (t.dev.hc c.val).image = none ∧ (t.dev.hc c.val).body = none)) ∧
  (∀ (s : State) (c : Fin 64) (n dt : Nat), (s.after dt).islUp (0x40 + c.val) = true →
     (s.after dt).bit (HC_LVR_CFG c.val) HC_LVR_CFG.EN = true → 0 < n →
     (((s.after dt).hc c.val).errs.filter (fun k => (s.after dt).now < k + 800)).length + n < 4 →
     Runs (.lvrCodeErrors c n dt) s fun t => Frame [HC_LVR_ERRCNT c.val, HC_LVR_EVT c.val] [.hcs] (s.after dt) t ∧
       t.get (HC_LVR_EVT c.val) HC_LVR_EVT.CODEERR = 1 ∧
       t.get (HC_LVR_ERRCNT c.val) hiHalf = min 65535 ((s.after dt).get (HC_LVR_ERRCNT c.val) hiHalf + n) ∧
       (t.hc c.val).errs = ((s.after dt).hc c.val).errs.filter (fun k => (s.after dt).now < k + 800) ++
         List.replicate n (s.after dt).now) ∧
  (∀ (s : State) (c : Fin 64) (n dt : Nat), (s.after dt).islUp (0x40 + c.val) = true →
     (s.after dt).bit (HC_LVR_CFG c.val) HC_LVR_CFG.EN = true → 4 ≤ n → (s.after dt).lvrUp c.val = true →
     ∃ t, exec (.lvrCodeErrors c n dt) s = .next t ∧ t.pending = s.pending ∧ t.mem = s.mem ∧
       t.dev.get (HC_LVR_STS c.val) HC_LVR_STS.STATE = 0 ∧ t.dev.get (HC_LVR_EVT c.val) HC_LVR_EVT.DOWN = 1 ∧
       t.dev.get (HC_LVR_EVT c.val) HC_LVR_EVT.CODEERR = 1) ∧
  (∀ (s : State) (q : Req) (c : Fin 64) (v : Word), Allowed s q (HC_LVR_CFG c.val) →
     s.dev.bit (HC_LVR_CFG c.val) HC_LVR_CFG.EN = false → s.dev.linksHeld = false →
     (v.fld HC_LVR_CFG.VER_MAX = 1 ∨ v.fld HC_LVR_CFG.VER_MAX = 2) → 16 ≤ v.fld HC_LVR_CFG.STB_W →
     exec (.lvrEnable q c v) s = .next (s.answered q (HC_LVR_CFG c.val) (v.setFld HC_LVR_CFG.EN 1)
       (((s.granted q).typedWrite (HC_LVR_CFG c.val) (v.setFld HC_LVR_CFG.EN 1)).lvrStart c.val))) ∧
  (∀ (s : State) (c : Fin 64) (dt : Nat), (s.after dt).islUp (0x40 + c.val) = true →
     (s.after dt).bit (HC_LVR_CFG c.val) HC_LVR_CFG.EN = true → (s.after dt).linksHeld = false →
     (s.after dt).looped 2 c.val = false → (s.after dt).get (HC_LVR_STS c.val) HC_LVR_STS.STATE = 0 →
     ((s.after dt).hc c.val).stateAt + 80000 ≤ (s.after dt).now →
     Runs (.linkStartRetry c dt) s fun t => Frame [HC_LVR_STS c.val] [.hcs, .out] (s.after dt) t ∧
       t.get (HC_LVR_STS c.val) HC_LVR_STS.STATE = 1 ∧ (t.hc c.val).ver = 0 ∧ (t.hc c.val).startAt = (s.after dt).now ∧
       t.lastOut = some (.louvre c.val (.ts1 ((s.after dt).get (HC_LVR_CFG c.val) HC_LVR_CFG.VER_MAX)))) ∧
  (∀ (s : State) (c : Fin 64) (dt : Nat), (s.after dt).islUp (0x40 + c.val) = true →
     (s.after dt).bit (HC_LVR_CFG c.val) HC_LVR_CFG.EN = true → (s.after dt).get (HC_LVR_STS c.val) HC_LVR_STS.STATE = 4 →
     ((s.after dt).hc c.val).stateAt + 80000000 ≤ (s.after dt).now →
     Runs (.failedRetry c dt) s fun t => Frame [HC_LVR_STS c.val] [.hcs, .out] (s.after dt) t ∧
       t.get (HC_LVR_STS c.val) HC_LVR_STS.STATE = 1 ∧ (t.hc c.val).startAt = (s.after dt).now ∧
       t.lastOut = some (.louvre c.val (.ts1 ((s.after dt).get (HC_LVR_CFG c.val) HC_LVR_CFG.VER_MAX)))) ∧
  (∀ (s : State) (c : Fin 64) (dt : Nat), (s.after dt).islUp (0x40 + c.val) = true →
     ((s.after dt).get (HC_LVR_STS c.val) HC_LVR_STS.STATE = 1 ∨ (s.after dt).get (HC_LVR_STS c.val) HC_LVR_STS.STATE = 2) →
     ((s.after dt).hc c.val).startAt + 8000000 ≤ (s.after dt).now →
     Runs (.linkStartFailed c dt) s fun t => Frame [HC_LVR_STS c.val] [.hcs] (s.after dt) t ∧
       t.get (HC_LVR_STS c.val) HC_LVR_STS.STATE = 4 ∧ (t.hc c.val).stateAt = (s.after dt).now) ∧
  (∀ (s : State) (c : Fin 64) (verMax caps nmax id dt : Nat), (s.after dt).islUp (0x40 + c.val) = true →
     (s.after dt).get (HC_LVR_STS c.val) HC_LVR_STS.STATE = 1 →
     Runs (.bridgeTs c verMax caps nmax id dt) s fun t => Frame [HC_LVR_ID c.val, HC_LVR_STS c.val] [.hcs, .out] (s.after dt) t ∧
       t.rdN (HC_LVR_ID c.val) = caps % 4 + 4 * (nmax % 16384) + 65536 * (id % 65536) ∧
       (nmax < (s.after dt).nozzles c.val → t.get (HC_LVR_STS c.val) HC_LVR_STS.STATE = 4) ∧
       ((s.after dt).nozzles c.val ≤ nmax → t.get (HC_LVR_STS c.val) HC_LVR_STS.STATE = 1 ∧
         (t.hc c.val).ver = min verMax ((s.after dt).get (HC_LVR_CFG c.val) HC_LVR_CFG.VER_MAX) ∧
         t.lastOut = some (.louvre c.val (.ts2 (t.hc c.val).ver)))) ∧
  (∀ (s : State) (c : Fin 64) (ver dt : Nat), (s.after dt).islUp (0x40 + c.val) = true →
     (s.after dt).get (HC_LVR_STS c.val) HC_LVR_STS.STATE = 1 → ((s.after dt).hc c.val).ver = ver → ver ≠ 0 →
     Runs (.ts2Echo c ver dt) s fun t => Frame [HC_LVR_STS c.val] [.hcs] (s.after dt) t ∧
       t.get (HC_LVR_STS c.val) HC_LVR_STS.STATE = 2 ∧
       (t.hc c.val).image = some ⟨0, (s.after dt).bankBytes c.val ((s.after dt).bankTiming c.val).1
         ((s.after dt).bankTiming c.val).2 ((s.after dt).confNow c.val), 0, false, ((s.after dt).bankTiming c.val).1,
         ((s.after dt).bankTiming c.val).2⟩) ∧
  (∀ (s : State) (c : Fin 64) (dt : Nat), (s.after dt).islUp (0x40 + c.val) = true → (s.after dt).lvrUp c.val = true →
     Runs (.holdOn c dt) s fun t => Frame [HC_LVR_HOLDCNT c.val, HC_FIR_STS c.val] [.hcs] (s.after dt) t ∧
       (t.hc c.val).hold = true ∧
       t.get (HC_LVR_HOLDCNT c.val) HC_LVR_HOLDCNT.HOLD_ON =
         min 65535 ((s.after dt).get (HC_LVR_HOLDCNT c.val) HC_LVR_HOLDCNT.HOLD_ON + 1) ∧
       (((s.after dt).hc c.val).hold = false → t.get (HC_FIR_STS c.val) HC_FIR_STS.HOLD = 1 ∧ (t.hc c.val).holdAt = (s.after dt).now)) ∧
  (∀ (s : State) (c : Fin 64) (dt : Nat), (s.after dt).islUp (0x40 + c.val) = true → ((s.after dt).hc c.val).hold = true →
     Runs (.holdOff c dt) s fun t => Frame [HC_LVR_HOLDCNT c.val, HC_FIR_STS c.val] [.hcs] (s.after dt) t ∧
       (t.hc c.val).hold = false ∧ t.get (HC_FIR_STS c.val) HC_FIR_STS.HOLD = 0 ∧
       t.get (HC_LVR_HOLDCNT c.val) hiHalf = max ((s.after dt).get (HC_LVR_HOLDCNT c.val) hiHalf)
         (min 65535 (((s.after dt).now - ((s.after dt).hc c.val).holdAt) / 800)))

/-- R109, R113, R117, R124, R125, R132, R136: what goes over a Louvre link. -/
def Obligations.LouvreDataCommandsComplete : Prop :=
  (∀ (s : State) (q : Req) (c : Fin 64) (hi : Fin 256), Allowed s q (HC_LVR_BANK_AT_HI c.val) →
     exec (.bankArm q c hi) s = .next (s.answered q (HC_LVR_BANK_AT_HI c.val) (BitVec.ofNat 32 (2 ^ 31 + hi.val))
       (bankArm c.val (((s.granted q).wr (HC_LVR_BANK_AT_LO c.val) ((s.granted q).lowPart q (HC_LVR_BANK_AT_LO c.val))).typedWrite
         (HC_LVR_BANK_AT_HI c.val) (BitVec.ofNat 32 (2 ^ 31 + hi.val)))))) ∧
  (∀ (s : State) (q : Req) (c : Fin 64) (hi : Fin 256) (f : Bool × Nat), Allowed s q (HC_LVR_BANK_AT_HI c.val) →
     s.dev.lvrUp c.val = false →
     s.dev.confFault c.val (s.dev.get (HC_FIR_MININT_EFF c.val) ⟨0, 20⟩) (s.dev.checkBits c.val) (s.dev.confNext c.val)
       (s.dev.hc c.val).restA (s.dev.hc c.val).restB = some f →
     Runs (.bankArm q c hi) s fun t => t.get (HC_LVR_EVT c.val) HC_LVR_EVT.BANK_REJ = 1 ∧
       t.get (HC_LVR_STS c.val) HC_LVR_STS.PENDING = 0 ∧ t.get (WAV_STS c.val) WAV_STS.TABLE_ERR = 1 ∧
       t.get (WAV_STS c.val) WAV_STS.ERR_OUT = (if f.1 then 1 else 0) ∧
       Frame [HC_LVR_BANK_AT_LO c.val, HC_LVR_BANK_AT_HI c.val, HC_LVR_EVT c.val, HC_LVR_STS c.val, WAV_STS c.val]
         [.hcs, .host, .out] s.dev t) ∧
  (∀ (s : State) (q : Req) (c : Fin 64) (hi : Fin 256), Allowed s q (HC_LVR_BANK_AT_HI c.val) →
     s.dev.lvrUp c.val = false →
     s.dev.confFault c.val (s.dev.get (HC_FIR_MININT_EFF c.val) ⟨0, 20⟩) (s.dev.checkBits c.val) (s.dev.confNext c.val)
       (s.dev.hc c.val).restA (s.dev.hc c.val).restB = none →
     Runs (.bankArm q c hi) s fun t => t.get (HC_LVR_STS c.val) HC_LVR_STS.PENDING = 1 ∧
       (t.hc c.val).nextConf = s.dev.confNext c.val ∧ (t.hc c.val).ready = false ∧
       Frame [HC_LVR_BANK_AT_LO c.val, HC_LVR_BANK_AT_HI c.val, HC_LVR_STS c.val] [.hcs, .pair, .host, .out] s.dev t) ∧
  (∀ (s : State) (c : Fin 64) (im : BankImg) (dt : Nat), (s.after dt).islUp (0x40 + c.val) = true →
     ((s.after dt).hc c.val).image = some im → im.sent < im.bytes.length →
     ((s.after dt).get (HC_LVR_STS c.val) HC_LVR_STS.STATE = 2 ∨ (s.after dt).get (HC_LVR_STS c.val) HC_LVR_STS.STATE = 3) →
     (s.after dt).lanesFree c.val = true → (s.after dt).pending c.val = none →
     Runs (.bankImagePiece c dt) s fun t => Frame [] [.hcs, .out] (s.after dt) t ∧
       (t.hc c.val).image = some { im with sent := im.sent + min 256 (im.bytes.length - im.sent) } ∧
       t.out.length = (s.after dt).out.length + 1 ∧
       (t.hc c.val).idleAt = (s.after dt).now + bodyTicks (min 256 (im.bytes.length - im.sent))) ∧
  (∀ (s : State) (q : Req) (c : Fin 64) (b : Bool) (v : Word), Allowed s q (if b then WAV_TRIM_B c.val else WAV_TRIM_A c.val) →
     Runs (.wavTrimWrite q c b v) s fun t =>
       Frame [if b then WAV_TRIM_B c.val else WAV_TRIM_A c.val] [.hcs, .host, .out] s.dev t ∧
       t.rd (if b then WAV_TRIM_B c.val else WAV_TRIM_A c.val) =
         (s.dev.typedWrite (if b then WAV_TRIM_B c.val else WAV_TRIM_A c.val) v).rd (if b then WAV_TRIM_B c.val else WAV_TRIM_A c.val) ∧
       (if b then (t.hc c.val).trimB else (t.hc c.val).trimA) =
         some (t.rd (if b then WAV_TRIM_B c.val else WAV_TRIM_A c.val))) ∧
  (∀ (s : State) (c : Fin 64) (b : Bool) (w : Word) (dt : Nat),
     (if b then ((s.after dt).hc c.val).trimB else ((s.after dt).hc c.val).trimA) = some w → (s.after dt).atRest c.val b = true →
     Runs (.trimApply c b dt) s fun t => Frame [WAV_STS c.val] [.hcs] (s.after dt) t ∧
       (if b then (t.hc c.val).trimB else (t.hc c.val).trimA) = none ∧
       (if b then (t.hc c.val).trimInB else (t.hc c.val).trimInA) = w ∧
       (clips w (if b then ((s.after dt).hc c.val).restB else ((s.after dt).hc c.val).restA) = true →
         t.get (WAV_STS c.val) WAV_STS.CLIP = 1)) ∧
  (∀ (s : State) (q : Req) (c : Fin 64) (i : Fin 1024) (v : Word), Allowed s q (WAV_SEG c.val i.val) →
     s.dev.get (WAV_SEL c.val) (if 512 ≤ i.val then WAV_SEL.WFB else WAV_SEL.WFA) = i.val % 512 / 32 →
     Runs (.wavSegWrite q c i v) s fun t => Frame [WAV_STS c.val] [.host, .out] s.dev t ∧ t.get (WAV_STS c.val) WAV_STS.BUSYWR = 1) ∧
  (∀ (s : State) (q : Req) (c : Fin 64) (i : Fin 1024) (v : Word), Allowed s q (WAV_SEG c.val i.val) →
     s.dev.get (WAV_SEL c.val) (if 512 ≤ i.val then WAV_SEL.WFB else WAV_SEL.WFA) ≠ i.val % 512 / 32 →
     s.dev.bit (HC_LVR_STS c.val) HC_LVR_STS.PENDING = false →
     Runs (.wavSegWrite q c i v) s fun t => Frame [WAV_SEG c.val i.val] [.host, .out] s.dev t ∧
       t.rd (WAV_SEG c.val i.val) = (s.dev.typedWrite (WAV_SEG c.val i.val) v).rd (WAV_SEG c.val i.val)) ∧
  (∀ (s : State) (c : Fin 64) (bs : List Byte) (dt : Nat), (s.after dt).islUp (0x40 + c.val) = true →
     ((s.after dt).get (HC_LVR_STS c.val) HC_LVR_STS.STATE = 2 ∨ (s.after dt).get (HC_LVR_STS c.val) HC_LVR_STS.STATE = 3) →
     (bs.length ≠ 12 ∨ leField bs 0 1 ≠ 0x81 ∨ crcOf crc16Ibm3740 (bs.take 10) ≠ leField bs 10 2) →
     Runs (.statusFrame c bs dt) s fun t => Frame [HC_LVR_EVT c.val] [] (s.after dt) t ∧
       t.get (HC_LVR_EVT c.val) HC_LVR_EVT.RETCRC = 1) ∧
  (∀ (s : State) (c : Fin 64) (bs : List Byte) (dt : Nat), (s.after dt).islUp (0x40 + c.val) = true →
     (s.after dt).get (HC_LVR_STS c.val) HC_LVR_STS.STATE = 3 → ((s.after dt).hc c.val).image = none →
     bs.length = 12 → leField bs 0 1 = 0x81 → crcOf crc16Ibm3740 (bs.take 10) = leField bs 10 2 →
     Runs (.statusFrame c bs dt) s fun t =>
       Frame [HC_LVR_EVT c.val, HC_LVR_STS c.val, HC_LVR_TEMP c.val, HC_LVR_HSTAT c.val, HC_LVR_ERRCNT c.val, HC_LVR_MISS c.val,
         HC_LVR_HOLDCNT c.val, HC_FIR_STS c.val] [.hcs] (s.after dt) t ∧
       (t.hc c.val).frameAt = (s.after dt).now ∧ (t.hc c.val).hold = (leField bs 1 1).testBit 0 ∧
       t.get (HC_LVR_STS c.val) HC_LVR_STS.STATE = 3 ∧ t.rdN (HC_LVR_TEMP c.val) = leField bs 4 2 ∧
       t.get (HC_LVR_STS c.val) HC_LVR_STS.HEAD_PRESENT = (if (leField bs 1 1).testBit 1 then 1 else 0) ∧
       t.get (HC_LVR_STS c.val) HC_LVR_STS.HEAD_FAULT = (if (leField bs 1 1).testBit 2 then 1 else 0) ∧
       t.get (HC_LVR_STS c.val) HC_LVR_STS.OVERTEMP = (if (leField bs 1 1).testBit 3 then 1 else 0) ∧
       t.rdN (HC_LVR_HSTAT c.val) = leField bs 8 2 + 65536 * leField bs 2 2 ∧
       (leField bs 6 1 ≠ 0 → t.get (HC_LVR_EVT c.val) HC_LVR_EVT.BRIDGE_ERR = 1)) ∧
  (∀ (s : State) (c : Fin 64) (m dt : Nat), (s.after dt).islUp (0x40 + c.val) = true → (s.after dt).pending c.val = some m →
     (s.after dt).lvrUp c.val = true → ((s.after dt).hc c.val).body = none → (s.after dt).masked m = false →
     ((s.after dt).hc c.val).idleAt + 80 ≤ (s.after dt).now → (s.after dt).lineReleased c.val m = true →
     (s.after dt).lineData c.val m = true →
     Runs (.bodySend c dt) s fun t => Frame [HC_LVR_STS c.val] [.hcs, .out] (s.after dt) t ∧
       t.get (HC_LVR_STS c.val) HC_LVR_STS.BANK = (s.after dt).bankFor c.val m % 2 ∧
       t.out.length = (s.after dt).out.length + 1 ∧
       ∃ b, (t.hc c.val).body = some b ∧ b.line = m ∧ b.data = true ∧ b.bank = (s.after dt).bankFor c.val m ∧
         b.endAt = (s.after dt).now + bodyTicks (lineBytes ((s.after dt).nozzles c.val) (s.after dt).fir.bits))

/-- R142, R144 to R147: lanes. -/
def Obligations.LaneCommandsComplete : Prop :=
  (∀ (s : State) (i : Fin 18) (pass : BitVec 16) (a z dt : Nat), (s.after dt).islUp (linkIsland (laneLink i.val)) = true →
     (s.after dt).laneState i.val = 1 → (s.after dt).blocksPast (laneLink i.val) ((s.after dt).laneSt i.val).at_ 1179648 = true →
     bestRun pass.toNat = some (a, z) →
     Runs (.eqSearchDone i pass dt) s fun t => Frame [laneSts i.val, TTH_LANE_EQ i.val] [.teth, .bl] (s.after dt) t ∧
       t.laneState i.val = 2 ∧ t.get (laneSts i.val) TTH_LANE_STS.CTLE = (a + z) / 2 % 16 ∧
       t.get (laneSts i.val) TTH_LANE_STS.EQ_FAIL = 0 ∧ (i.val < 16 → t.rdN (TTH_LANE_EQ i.val) = pass.toNat)) ∧
  (∀ (s : State) (i : Fin 18) (pass : BitVec 16) (dt : Nat), (s.after dt).islUp (linkIsland (laneLink i.val)) = true →
     (s.after dt).laneState i.val = 1 → (s.after dt).blocksPast (laneLink i.val) ((s.after dt).laneSt i.val).at_ 1179648 = true →
     bestRun pass.toNat = none →
     Runs (.eqSearchDone i pass dt) s fun t => Frame [laneSts i.val, TTH_LANE_EQ i.val, TTH_EVT] [.teth, .bl] (s.after dt) t ∧
       t.laneState i.val = 6 ∧ t.get (laneSts i.val) TTH_LANE_STS.EQ_FAIL = 1 ∧
       (i.val < 16 → t.rdN (TTH_LANE_EQ i.val) = pass.toNat ∧ t.get TTH_EVT TTH_EVT.EQ_FAIL = 1)) ∧
  (∀ (s : State) (i : Fin 18) (dt : Nat), (s.after dt).islUp (linkIsland (laneLink i.val)) = true →
     (s.after dt).laneState i.val = 2 →
     Runs (.blockLock i dt) s fun t => Frame [laneSts i.val] [.teth, .bl] (s.after dt) t ∧ t.laneState i.val = 3 ∧
       (t.laneSt i.val).at_ = (s.after dt).now ∧ (t.laneSt i.val).mark = none) ∧
  (∀ (s : State) (i : Fin 18) (bad dt : Nat), (s.after dt).islUp (linkIsland (laneLink i.val)) = true →
     (s.after dt).laneState i.val = 3 →
     Runs (.lockLoss i bad dt) s fun t => Frame [laneSts i.val, TTH_LANE_ERR i.val] [.teth, .bl] (s.after dt) t ∧
       t.laneState i.val = 2 ∧ (i.val < 16 → t.get (TTH_LANE_ERR i.val) TTH_LANE_ERR.BADHDR =
         min 65535 ((s.after dt).get (TTH_LANE_ERR i.val) TTH_LANE_ERR.BADHDR + bad))) ∧
  (∀ (s : State) (i : Fin 18) (bad dt : Nat), (s.after dt).islUp (linkIsland (laneLink i.val)) = true →
     (s.after dt).laneState i.val = 4 →
     Runs (.lockLoss i bad dt) s fun t => Frame [laneSts i.val, TTH_LANE_ERR i.val] [.teth, .bl] (s.after dt) t ∧
       t.laneState i.val = 2 ∧ (i.val < 16 → t.get (TTH_LANE_ERR i.val) TTH_LANE_ERR.LOCKLOSS =
         min 255 ((s.after dt).get (TTH_LANE_ERR i.val) TTH_LANE_ERR.LOCKLOSS + 1))) ∧
  (∀ (s : State) (i : Fin 16) (bad dt : Nat), (s.after dt).islUp 1 = true → (s.after dt).laneState i.val = 5 →
     (s.after dt).get TTH_STS TTH_STS.LINK = 3 → (s.after dt).tethVer < 3 →
     exec (.lockLoss (i.castLE (by decide)) bad dt) s = .next ((s.pass dt).onDev (fun d =>
       (((d.count (TTH_LANE_ERR i.val) TTH_LANE_ERR.BADHDR bad).count (TTH_LANE_ERR i.val) TTH_LANE_ERR.LOCKLOSS 1).setLane i.val 2).linkDown
         false))) ∧
  (∀ (s : State) (i : Fin 18) (lane : Fin 16) (epoch : Fin 256) (mask : BitVec 16) (skew : Nat) (inv : Bool) (k m dt : Nat),
     (s.after dt).islUp (linkIsland (laneLink i.val)) = true → (s.after dt).laneState i.val = 3 →
     ((s.after dt).laneSt i.val).mark = some (k, lane.val) →
     (s.after dt).blocks (laneLink i.val) ((s.after dt).now - k) = 16384 → skew ≤ 32 →
     ((s.after dt).lk (laneLink i.val)).er = some (epoch.val, m) →
     Runs (.marker i lane epoch mask skew inv dt) s fun t => Frame [laneSts i.val] [.teth, .bl] (s.after dt) t ∧
       t.laneState i.val = 4 ∧ t.laneNum i.val = lane.val ∧ t.get (laneSts i.val) TTH_LANE_STS.SKEW = skew ∧
       t.get (laneSts i.val) TTH_LANE_STS.SKEWERR = 0 ∧ t.get (laneSts i.val) TTH_LANE_STS.POLINV = (if inv then 1 else 0)) ∧
  (∀ (s : State) (i : Fin 18) (lane : Fin 16) (epoch : Fin 256) (mask : BitVec 16) (skew : Nat) (inv : Bool) (k dt : Nat),
     (s.after dt).islUp (linkIsland (laneLink i.val)) = true → (s.after dt).laneState i.val = 3 →
     ((s.after dt).laneSt i.val).mark = some (k, lane.val) →
     (s.after dt).blocks (laneLink i.val) ((s.after dt).now - k) = 16384 → 32 < skew →
     Runs (.marker i lane epoch mask skew inv dt) s fun t => Frame [laneSts i.val] [.teth, .bl] (s.after dt) t ∧
       t.laneState i.val = 3 ∧ t.get (laneSts i.val) TTH_LANE_STS.SKEWERR = 1 ∧
       (t.laneSt i.val).mark = some ((s.after dt).now, lane.val)) ∧
  (∀ (s : State) (i : Fin 18) (dt : Nat), (s.after dt).islUp (linkIsland (laneLink i.val)) = true →
     (s.after dt).laneState i.val = 4 → (s.after dt).marksLost i.val = true →
     Runs (.markersMissed i dt) s fun t => Frame [laneSts i.val, TTH_LANE_ERR i.val] [.teth, .bl] (s.after dt) t ∧
       t.laneState i.val = 3 ∧ (i.val < 16 → t.get (TTH_LANE_ERR i.val) TTH_LANE_ERR.LOCKLOSS =
         min 255 ((s.after dt).get (TTH_LANE_ERR i.val) TTH_LANE_ERR.LOCKLOSS + 1))) ∧
  (∀ (s : State) (i : Fin 16) (dt : Nat), (s.after dt).islUp 1 = true →
     3 ≤ (s.after dt).laneState i.val → (s.after dt).laneState i.val ≠ 6 →
     Runs (.badBlock (i.castLE (by decide)) false dt) s fun t => Frame [TTH_LANE_ERR i.val] [] (s.after dt) t ∧
       t.get (TTH_LANE_ERR i.val) TTH_LANE_ERR.BADBLK = min 255 ((s.after dt).get (TTH_LANE_ERR i.val) TTH_LANE_ERR.BADBLK + 1)) ∧
  (∀ (s : State) (i : Fin 16) (dt : Nat), (s.after dt).islUp 1 = true →
     3 ≤ (s.after dt).laneState i.val → (s.after dt).laneState i.val ≠ 6 → (s.after dt).tethUp = true →
     (s.after dt).teth.settled = true →
     exec (.badBlock (i.castLE (by decide)) true dt) s = .next ((s.pass dt).onDev (fun d =>
       (d.count (TTH_LANE_ERR i.val) TTH_LANE_ERR.BADBLK 1).discardFrame true)))

/-- R143, R147, R150 to R155, R167, R168: the phases of the Tether link. -/
def Obligations.TetherLinkCommandsComplete : Prop :=
  (∀ d : Dev, (d.linkDown false).rd TTH_STS = 0 ∧ (d.linkDown false).rd TTH_MASK = 0 ∧
     (d.linkDown false).get TTH_EVT TTH_EVT.DOWN = 1 ∧ (d.linkDown false).teth.kept = [] ∧ (d.linkDown false).teth.txSeq = 0 ∧
     (d.linkDown false).teth.rxSeq = 0 ∧ (d.linkDown false).teth.ms = 0 ∧ (d.linkDown false).teth.downAt = d.now) ∧
  (∀ (s : State) (q : Req) (v : Word), Allowed s q TTH_CFG → s.dev.bit TTH_CFG TTH_CFG.EN = false → s.dev.linksHeld = false →
     exec (.tthEnable q v) s = .next (s.answered q TTH_CFG (v.setFld TTH_CFG.EN 1)
       (((s.granted q).typedWrite TTH_CFG ((v.setFld TTH_CFG.EN 1).setFld TTH_CFG.MIN_LANES
         (max 1 (min s.dev.laneCount (v.fld TTH_CFG.MIN_LANES))))).linkTrain false))) ∧
  (∀ (s : State) (q : Req) (v : Word), Allowed s q TTH_CFG → s.dev.bit TTH_CFG TTH_CFG.EN = true →
     s.dev.get TTH_STS TTH_STS.LINK ≠ 0 →
     exec (.tthDisable q v) s = .next (s.answered q TTH_CFG (v.setFld TTH_CFG.EN 0)
       ((((s.granted q).typedWrite TTH_CFG ((v.setFld TTH_CFG.EN 0).setFld TTH_CFG.MIN_LANES
         (max 1 (min s.dev.laneCount (v.fld TTH_CFG.MIN_LANES))))).linkDown false).lanesOff false))) ∧
  (∀ (s : State) (q : Req), Allowed s q TTH_CMD → s.dev.linkEn false = true → s.dev.get TTH_STS TTH_STS.LINK ≠ 0 →
     exec (.tthRetrain q) s = .next (s.answered q TTH_CMD 1 ((s.granted q).linkDown false))) ∧
  (∀ (s : State) (b : Bool) (dt : Nat), (s.after dt).islUp (linkIsland b) = true → (s.after dt).linkEn b = true →
     (s.after dt).linkSt b = 0 → ((s.after dt).lk b).downAt + 800000 ≤ (s.after dt).now →
     exec (.laneRetrain b dt) s = .next ((s.pass dt).onDev (fun d =>
       let e := d.modLk b (fun x => { x with cfg := d.rd TTH_CFG, trainAt := d.now })
       (e.each (e.linkLanes b) (fun i d => d.laneStart i)).setLinkSt b 1))) ∧
  (∀ (s : State) (b : Bool) (dt : Nat), (s.after dt).islUp (linkIsland b) = true → (s.after dt).linkSt b = 1 →
     (∀ i ∈ (s.after dt).linkLanes b, (s.after dt).laneState i = 4) → (s.after dt).linkLanes b ≠ [] →
     exec (.helloEnter b dt) s = .next ((s.pass dt).onDev (·.helloEnter b))) ∧
  (∀ (s : State) (dt : Nat), (s.after dt).islUp 1 = true → (s.after dt).get TTH_STS TTH_STS.LINK = 1 →
     (s.after dt).teth.trainAt + 800000 * (10 * (s.after dt).get TTH_TMO TTH_TMO.TRAIN_TMO) ≤ (s.after dt).now →
     exec (.trainTmo false dt) s = .next ((s.pass dt).onDev (fun d =>
       if d.linkMin false ≤ popCount (d.rxMask false) then d.helloEnter false
       else (d.flag TTH_EVT TTH_EVT.TRAIN_TMO).linkFail false))) ∧
  (∀ (s : State) (dt : Nat), (s.after dt).islUp 7 = true → (s.after dt).bl.phase = 1 →
     (s.after dt).bl.trainAt + 40000000 ≤ (s.after dt).now →
     exec (.trainTmo true dt) s = .next ((s.pass dt).onDev (fun d =>
       if 1 ≤ popCount (d.rxMask true) then d.helloEnter true else d.linkFail true))) ∧
  (∀ (s : State) (dt : Nat), (s.after dt).islUp 1 = true → (s.after dt).get TTH_STS TTH_STS.LINK = 2 →
     (s.after dt).teth.verLowAt = none → (s.after dt).teth.offerAt + 8000 ≤ (s.after dt).now →
     Runs (.offerSend dt) s fun t => Frame [] [.teth, .out] (s.after dt) t ∧ t.teth.offerAt = (s.after dt).now ∧
       t.lastOut = some (.tether (TxFrame.bytes ⟨0, 1, 0, match (s.after dt).teth.sentConf with
         | some v => (s.after dt).helloBody 2 v
         | none => (s.after dt).helloBody 1 0⟩))) ∧
  (∀ (s : State) (bs : List Byte) (dt : Nat), (s.after dt).islUp 1 = true → (s.after dt).get TTH_STS TTH_STS.LINK = 2 →
     (s.after dt).teth.verLowAt = none → exec (.offer bs dt) s = .next ((s.pass dt).onDev (·.offerAnswer bs))) ∧
  (∀ (s : State) (bs : List Byte) (dt : Nat), (s.after dt).islUp 1 = true → (s.after dt).get TTH_STS TTH_STS.LINK = 3 →
     exec (.offer bs dt) s = .next ((s.pass dt).onDev (fun d =>
       let d := (d.linkDrop false).modLk false (fun x => { x with cfg := d.rd TTH_CFG })
       let d := d.each (d.linkLanes false) (fun i d => if d.laneState i = 5 then d.put (laneSts i) TTH_LANE_STS.STATE 4 else d)
       (d.helloEnter false).offerAnswer bs))) ∧
  (∀ (s : State) (bs : List Byte) (dt : Nat), (s.after dt).islUp 1 = true → (s.after dt).get TTH_STS TTH_STS.LINK = 2 →
     (s.after dt).teth.verLowAt = none → (s.after dt).teth.ms = 0 →
     exec (.confirm bs dt) s = .next ((s.pass dt).onDev (fun d =>
       ((d.peerHello bs).modLk false (fun x => { x with gotConf := some (leField bs 2 1) })).confirmed (leField bs 4 2)))) ∧
  (∀ (s : State) (dt : Nat), (s.after dt).islUp 1 = true → (s.after dt).get TTH_STS TTH_STS.LINK = 2 →
     (s.after dt).teth.verLowAt = none →
     (s.after dt).teth.helloAt + 800000 * (s.after dt).get TTH_TMO TTH_TMO.HELLO_TMO ≤ (s.after dt).now →
     exec (.helloTmo dt) s = .next ((s.pass dt).onDev (fun d => (d.flag TTH_EVT TTH_EVT.HELLO_TMO).linkDown false))) ∧
  (∀ (s : State) (k dt : Nat), (s.after dt).islUp 1 = true → (s.after dt).get TTH_STS TTH_STS.LINK = 2 →
     (s.after dt).teth.verLowAt = some k → k + 800000000 ≤ (s.after dt).now →
     exec (.helloRestart dt) s = .next ((s.pass dt).onDev (·.helloEnter false))) ∧
  (∀ (s : State) (b : Bool) (epoch : Fin 256) (mask : BitVec 16) (dt : Nat), (s.after dt).linkSt b ≠ 2 → (s.after dt).linkSt b ≠ 3 →
     exec (.restripe b epoch mask dt) s = .next (s.pass dt)) ∧
  (∀ (s : State) (b : Bool) (epoch : Fin 256) (mask : BitVec 16) (dt : Nat), (s.after dt).islUp (linkIsland b) = true →
     (s.after dt).linkSt b = 2 → ((s.after dt).lk b).er = none → ((s.after dt).lk b).ms = 0 →
     Runs (.restripe b epoch mask dt) s fun t => Frame [] [.teth, .bl] (s.after dt) t ∧
       (t.lk b).er = some (epoch.val, mask.toNat) ∧ (t.lk b).ms = 0) ∧
  (∀ (s : State) (b : Bool) (epoch : Fin 256) (mask : BitVec 16) (dt : Nat), (s.after dt).islUp (linkIsland b) = true →
     (s.after dt).linkSt b = 2 → ((s.after dt).lk b).er = none → mask ≠ 0 → ((s.after dt).lk b).ms = mask.toNat →
     ((s.after dt).lk b).es = epoch.val → ((s.after dt).lk b).settled = false →
     exec (.restripe b epoch mask dt) s = .next ((s.pass dt).onDev (fun d =>
       (d.modLk b (fun x => { x with er := some (epoch.val, mask.toNat) })).linkSettled b)))

/-- R152, R156, R159 to R164: frames. -/
def Obligations.TetherFrameCommandsComplete : Prop :=
  (∀ (s : State) (bs : List Byte) (dt : Nat), (s.after dt).islUp 1 = true → (s.after dt).get TTH_STS TTH_STS.LINK = 3 →
     (s.after dt).teth.settled = true → parseFrame bs = none → (s.after dt).teth.nak = false →
     Runs (.frameAccept bs dt) s fun t => Frame [TTH_CNT_RX] [.teth, .out] (s.after dt) t ∧
       t.teth.nak = true ∧ t.teth.rxSeq = (s.after dt).teth.rxSeq ∧ t.teth.nakAt = (s.after dt).now ∧
       t.lastOut = some (.tetherLink 2 (s.after dt).teth.rxSeq 0) ∧
       t.get TTH_CNT_RX hiHalf = min 65535 ((s.after dt).get TTH_CNT_RX hiHalf + 1)) ∧
  (∀ (s : State) (bs : List Byte) (f : RxFrame) (dt : Nat), (s.after dt).islUp 1 = true → (s.after dt).get TTH_STS TTH_STS.LINK = 3 →
     (s.after dt).teth.settled = true → parseFrame bs = some f → f.unseq = false →
     32768 ≤ (f.seq + 65536 - (s.after dt).teth.rxSeq) % 65536 →
     Runs (.frameAccept bs dt) s fun t => Frame [TTH_CNT_RX] [] (s.after dt) t ∧
       t.get TTH_CNT_RX hiHalf = min 65535 ((s.after dt).get TTH_CNT_RX hiHalf + 1)) ∧
  (∀ (s : State) (bs : List Byte) (f : RxFrame) (dt : Nat), (s.after dt).islUp 1 = true → (s.after dt).get TTH_STS TTH_STS.LINK = 3 →
     (s.after dt).teth.settled = true → parseFrame bs = some f → f.unseq = false →
     (f.seq + 65536 - (s.after dt).teth.rxSeq) % 65536 = 0 → (s.after dt).beyondCredit f = true →
     exec (.frameAccept bs dt) s = .next ((s.pass dt).onDev (fun d => (d.protoErr 9).linkDown false))) ∧
  (∀ (s : State) (bs : List Byte) (f : RxFrame) (dt : Nat), (s.after dt).islUp 1 = true → (s.after dt).get TTH_STS TTH_STS.LINK = 3 →
     (s.after dt).teth.settled = true → parseFrame bs = some f → f.unseq = false →
     (f.seq + 65536 - (s.after dt).teth.rxSeq) % 65536 = 0 → (s.after dt).beyondCredit f = false →
     exec (.frameAccept bs dt) s = .next (acceptFrame f (s.pass dt))) ∧
  (∀ (s : State) (bs : List Byte) (f : RxFrame) (dt : Nat), (s.after dt).islUp 1 = true →
     ((s.after dt).get TTH_STS TTH_STS.LINK = 2 ∨ (s.after dt).get TTH_STS TTH_STS.LINK = 3) → parseFrame bs = some f →
     f.unseq = true → exec (.frameAccept bs dt) s = .next ((s.pass dt).onDev (helloFrame f))) ∧
  (∀ (s : State) (dt : Nat), (s.after dt).islUp 1 = true → (s.after dt).tethUp = true → (s.after dt).teth.acked = true →
     (s.after dt).teth.ackAt + 8000 ≤ (s.after dt).now →
     Runs (.ackRepeat dt) s fun t => Frame [] [.teth, .out] (s.after dt) t ∧ t.teth.ackAt = (s.after dt).now ∧
       t.lastOut = some (.tetherLink 1 (((s.after dt).teth.rxSeq + 65535) % 65536) 0)) ∧
  (∀ (s : State) (dt : Nat), (s.after dt).islUp 1 = true → (s.after dt).tethUp = true → (s.after dt).teth.nak = true →
     (s.after dt).teth.nakAt + 3200 ≤ (s.after dt).now →
     Runs (.nakRepeat dt) s fun t => Frame [TTH_CNT_RX] [.teth, .out] (s.after dt) t ∧ t.teth.nakAt = (s.after dt).now ∧
       t.lastOut = some (.tetherLink 2 (s.after dt).teth.rxSeq 0) ∧
       t.get TTH_CNT_RX TTH_CNT_RX.NAK = min 65535 ((s.after dt).get TTH_CNT_RX TTH_CNT_RX.NAK + 1)) ∧
  (∀ (s : State) (seq : Fin 65536) (dt : Nat), (s.after dt).islUp 1 = true → (s.after dt).tethUp = true →
     (s.after dt).neverSent seq.val = true →
     exec (.ack seq dt) s = .next ((s.pass dt).onDev (fun d => (d.protoErr 10).linkDown false)) ∧
     exec (.nak seq dt) s = .next ((s.pass dt).onDev (fun d => (d.protoErr 10).linkDown false))) ∧
  (∀ (s : State) (seq : Fin 65536) (dt : Nat), (s.after dt).islUp 1 = true → (s.after dt).tethUp = true →
     (s.after dt).neverSent seq.val = false →
     Runs (.ack seq dt) s fun t => Frame [] [.teth] (s.after dt) t ∧
       ∀ f, f ∈ t.teth.kept ↔ f ∈ (s.after dt).teth.kept ∧ 32768 ≤ (seq.val + 65536 - f.seq) % 65536) ∧
  (∀ (s : State) (seq : Fin 65536) (dt : Nat), (s.after dt).islUp 1 = true → (s.after dt).tethUp = true →
     (s.after dt).neverSent seq.val = false → (s.after dt).teth.replayAt = none →
     exec (.nak seq dt) s = .next ((s.pass dt).onDev (fun d =>
       let d := d.acknowledge ((seq.val + 65535) % 65536)
       if d.teth.kept.any (fun f => f.seq == seq.val) then d.replayOrDown seq.val false else d))) ∧
  (∀ (s : State) (f : TxFrame) (l : List TxFrame) (dt : Nat), (s.after dt).islUp 1 = true → (s.after dt).tethUp = true →
     (s.after dt).teth.kept = f :: l →
     (s.after dt).teth.ackAdv + 800 * (s.after dt).get TTH_TMO TTH_TMO.REPLAY_TMO ≤ (s.after dt).now →
     exec (.replayTmo dt) s = .next ((s.pass dt).onDev (fun d =>
       if d.get TTH_TMO TTH_TMO.REPLAY_MAX ≤ d.teth.replays then (d.flag TTH_EVT TTH_EVT.REPLAY_MAX).linkDown false
       else d.replayFrom f.seq true))) ∧
  (∀ (s : State) (f : TxFrame) (l : List TxFrame) (dt : Nat), (s.after dt).islUp 1 = true → (s.after dt).tethUp = true →
     (s.after dt).teth.kept = f :: l → (s.after dt).teth.replays < (s.after dt).get TTH_TMO TTH_TMO.REPLAY_MAX →
     (s.after dt).teth.ackAdv + 800 * (s.after dt).get TTH_TMO TTH_TMO.REPLAY_TMO ≤ (s.after dt).now →
     Runs (.replayTmo dt) s fun t => Frame [TTH_CNT_TX, TTH_EVT] [.teth, .out] (s.after dt) t ∧
       t.out = (s.after dt).out ++ (f :: l).map (fun g => Out.tether g.bytes) ∧ t.teth.kept = f :: l ∧
       t.teth.replays = (s.after dt).teth.replays + 1 ∧ t.get TTH_EVT TTH_EVT.REPLAY = 1) ∧
  (∀ (s : State) (v : Fin 3) (limit : Word) (dt : Nat), (s.after dt).islUp 1 = true → (s.after dt).tethUp = true →
     Runs (.credit v limit dt) s fun t => Frame [] [.teth] (s.after dt) t ∧
       t.teth.limit = vcPut (s.after dt).teth.limit v.val limit.toNat) ∧
  (∀ (s : State) (dt : Nat), (s.after dt).islUp 1 = true → (s.after dt).tethUp = true →
     Runs (.creditSend dt) s fun t => Frame [] [.teth, .out] (s.after dt) t ∧ t.teth.grant = (s.after dt).grantCredit.teth.grant ∧
       (t.out.length ≤ (s.after dt).out.length + 2)) ∧
  (∀ (s : State) (dt : Nat), (s.after dt).islUp 1 = true → (s.after dt).tethUp = true →
     (s.after dt).teth.creditAt + 8000 ≤ (s.after dt).now →
     Runs (.creditRepeat dt) s fun t => Frame [] [.teth, .out] (s.after dt) t ∧ t.teth.creditAt = (s.after dt).now ∧
       t.out = (s.after dt).out ++ [.tetherLink 3 0 (vcGet (s.after dt).grantCredit.teth.grant 0 % 2 ^ 32),
         .tetherLink 3 1 (vcGet (s.after dt).grantCredit.teth.grant 1 % 2 ^ 32)]) ∧
  (∀ (s : State) (f : TxFrame) (dt : Nat), (s.after dt).islUp 1 = true → (s.after dt).tethUp = true →
     (s.after dt).teth.settled = true →
     (s.after dt).sendable [] ((s.after dt).teth.wait.filter (fun f => typeVer f.type ≤ (s.after dt).tethVer)) = some f →
     Runs (.frameSend dt) s fun t => Frame [] [.teth, .out] (s.after dt) t ∧
       t.teth.kept = (s.after dt).teth.kept ++ [{ f with seq := (s.after dt).teth.txSeq }] ∧
       t.teth.txSeq = ((s.after dt).teth.txSeq + 1) % 65536 ∧
       t.lastOut = some (.tether (TxFrame.bytes { f with seq := (s.after dt).teth.txSeq })))

/-- R158, R159, R182, R184, R187, R192 to R194, R196 to R199: the raster flow. -/
def Obligations.RasterCommandsComplete : Prop :=
  (∀ (s : State) (first last resend : Bool) (tag off : Nat) (bs : List Byte), s.dev.islUp 2 = true → s.dev.openSeg tag = none →
     (first = false ∨ off ≠ 0 ∨ bs.length < 32) →
     Runs (.segment first last resend tag off bs) s fun t => Frame [TTH_PROTO, TTH_EVT] [] s.dev t ∧
       t.get TTH_PROTO ⟨0, 8⟩ = 6 ∧ t.get TTH_EVT TTH_EVT.PROTO = 1 ∧
       t.get TTH_PROTO ⟨16, 16⟩ = min 65535 (s.dev.get TTH_PROTO ⟨16, 16⟩ + 1)) ∧
  (∀ (s : State) (resend last : Bool) (tag : Nat) (bs : List Byte), s.dev.islUp 2 = true → s.dev.openSeg tag = none →
     32 ≤ bs.length → 128 ≤ (s.dev.ras.segs.filter (fun g => !g.closed)).length →
     Runs (.segment true last resend tag 0 bs) s fun t => Frame [TTH_PROTO, TTH_EVT] [] s.dev t ∧ t.get TTH_PROTO ⟨0, 8⟩ = 7) ∧
  (∀ (s : State) (resend : Bool) (tag : Nat) (bs : List Byte), s.dev.islUp 2 = true → s.dev.openSeg tag = none →
     32 ≤ bs.length → (s.dev.ras.segs.filter (fun g => !g.closed)).length < 128 →
     exec (.segment true false resend tag 0 bs) s = .next (storeFrame (s.onDev (fun d => { d with ras := { d.ras with
       segNext := d.ras.segNext + 1
       segs := d.ras.segs ++ [{ id := d.ras.segNext + 1, tag := tag, resend := resend, len := 0, closed := false, ext := []
                                hdr := none, ready := false, drop := false, keptAt := none }] } })) (s.dev.ras.segNext + 1) bs)) ∧
  (∀ (s : State) (g : Seg) (resend : Bool) (tag : Nat) (bs : List Byte), s.dev.islUp 2 = true → s.dev.openSeg tag = some g →
     g.drop = false →
     exec (.segment false false resend tag g.len bs) s =
       .next (storeFrame (s.onDev (·.modSeg g.id (fun x => { x with keptAt := none }))) g.id bs) ∧
     exec (.segment false true resend tag g.len bs) s =
       .next (closeSeg (storeFrame (s.onDev (·.modSeg g.id (fun x => { x with keptAt := none }))) g.id bs) g.id)) ∧
  (∀ (s : State) (g : Seg) (tag k dt : Nat), (s.after dt).islUp 2 = true → (s.after dt).openSeg tag = some g → g.keptAt = some k →
     (s.after dt).tethUp = true → (s.after dt).teth.upAt + 800000 * ((s.after dt).rdN CMP_OPEN_KEEP % 65536) ≤ (s.after dt).now →
     Runs (.openLost tag dt) s fun t => t.get CMP_RFL_EVT CMP_RFL_EVT.OPEN_LOST = 1 ∧ ∀ x ∈ t.ras.segs, x.id ≠ g.id) ∧
  (∀ (s : State) (j : Job) (c key e dt : Nat), (s.after dt).islUp 2 = true → (s.after dt).headJob = some j →
     (s.after dt).leastSlack j.chans = some (c, key) →
     (s.after dt).fastest ((s.after dt).blkMethod c key) (s.after dt).freeEngines = some e →
     Runs (.blockDispatch dt) s fun t => Frame [] [.ras, .hcs] (s.after dt) t ∧ (t.eng e).work = .decode c key ∧
       (t.eng e).since = (s.after dt).now ∧ (t.blk c key).st = .engine ∧ (t.blk c key).src = ((s.after dt).blk c key).src) ∧
  (∀ (s : State) (e : Fin 16) (c key cycles dt : Nat) (g : Seg) (h : SegHdr), (s.after dt).islUp 2 = true →
     ((s.after dt).eng e.val).work = .decode c key → (s.after dt).segOf ((s.after dt).blk c key).src = some g → g.hdr = some h →
     exec (.blockDecodeDone e cycles dt) s = .next ((s.pass dt).onDev (fun d =>
       let r := decodeBlk d s.mem g h (key % 2 ^ 34 - h.first / 64)
       let d := d.measure e.val h.method r.out.length cycles
       match r.err with
       | none => d.releaseBlk c key h.bits (h.blkLines (key % 2 ^ 34 - h.first / 64)) r.out
       | some err => ((d.decError e.val c key err r.off).flag (HC_RFL_EVT c) HC_RFL_EVT.CHKFAIL).requestOrVoid c key
           (if err = .inputUe then 4 else 2) 1))) ∧
  (∀ (s : State) (e : Fin 16) (c key dt : Nat), (s.after dt).islUp 2 = true →
     (∀ j, (s.after dt).headJob = some j → (s.after dt).leastSlack j.chans = none) →
     (s.after dt).bit CMP_RFL_CFG CMP_RFL_CFG.AVERIFY_EN = true → ((s.after dt).eng e.val).retired = false →
     ((s.after dt).eng e.val).work = .idle → (s.after dt).oldestUnchecked = some (c, key) →
     Runs (.advanceVerify e dt) s fun t => Frame [] [.ras] (s.after dt) t ∧ (t.eng e.val).work = .verify c key ∧
       (t.eng e.val).since = (s.after dt).now) ∧
  (∀ (s : State) (e : Fin 16) (c key cycles dt : Nat) (g : Seg) (h : SegHdr), (s.after dt).islUp 2 = true →
     ((s.after dt).eng e.val).work = .verify c key → (s.after dt).segOf ((s.after dt).blk c key).src = some g → g.hdr = some h →
     exec (.advanceVerifyDone e cycles dt) s = .next ((s.pass dt).onDev (fun d =>
       let r := decodeBlk d s.mem g h (key % 2 ^ 34 - h.first / 64)
       let d := (d.measure e.val h.method r.out.length cycles).modBlk c key (fun b => { b with checked := true })
       match r.err with
       | none => d.count CMP_AVERIFY_CNT ⟨0, 16⟩ 1
       | some err =>
         let d := (d.decError e.val c key err r.off).flag (HC_RFL_EVT c) HC_RFL_EVT.AVFAIL
         let d := (d.flag (HC_RFL_EVT c) HC_RFL_EVT.CHKFAIL).count CMP_AVERIFY_CNT ⟨16, 16⟩ 1
         d.requestOrVoid c key (if err = .inputUe then 4 else 2) 1))) ∧
  (∀ (s : State) (e : Fin 16) (c key dt : Nat), (s.after dt).islUp 2 = true → ((s.after dt).eng e.val).work = .decode c key →
     ((s.after dt).eng e.val).since + 16000 ≤ (s.after dt).now →
     Runs (.engineAbandon e dt) s fun t => Frame [HC_RFL_EVT c] [.ras, .hcs] (s.after dt) t ∧ (t.eng e.val).work = .idle ∧
       (t.blk c key).st = .held ∧ t.get (HC_RFL_EVT c) HC_RFL_EVT.ABANDON = 1) ∧
  (∀ (s : State) (reqId : Nat), (∀ r ∈ s.dev.ras.reqs, r.1 ≠ reqId) →
     Runs (.rereqNo reqId) s fun t => Frame [CMP_REREQ_CNT, CMP_RFL_EVT] [] s.dev t ∧
       t.get CMP_REREQ_CNT CMP_REREQ_CNT.REREQ_NO = min 65535 (s.dev.get CMP_REREQ_CNT CMP_REREQ_CNT.REREQ_NO + 1) ∧
       t.get CMP_RFL_EVT CMP_RFL_EVT.REREQ_NO = 1) ∧
  (∀ (s : State) (reqId c key : Nat), s.dev.ras.reqs.find? (fun r => r.1 == reqId) = some (reqId, c, key) →
     (s.dev.blk c key).st = .awaiting reqId →
     Runs (.rereqNo reqId) s fun t => Frame [CMP_REREQ_CNT, CMP_RFL_EVT] [.ras, .hcs] s.dev t ∧ (t.blk c key).st = .voided ∧
       (∀ r ∈ t.ras.reqs, r.1 ≠ reqId)) ∧
  (∀ (s : State) (c : Fin 64) (r : VoidRun) (l : List VoidRun) (dt : Nat), (s.after dt).islUp 2 = true →
     ((s.after dt).hc c.val).ended = r :: l →
     Runs (.voidRunReport c dt) s fun t =>
       Frame [HC_RFL_VOID_LAST_LO c.val, HC_RFL_VOID_LAST_HI c.val, HC_RFL_EVT c.val, CMP_RFL_EVT] [.hcs, .teth, .host] (s.after dt) t ∧
       (t.hc c.val).ended = l ∧ t.get (HC_RFL_EVT c.val) HC_RFL_EVT.VOID = 1 ∧ t.get CMP_RFL_EVT CMP_RFL_EVT.VOID = 1 ∧
       t.teth.wait = (s.after dt).teth.wait ++
         [⟨0, 3, 0, jobBody 0x84 r.cause c.val 0 r.job r.first r.count 0⟩])

/-- R210, R211: what the syndrome of a received beat says. -/
def Obligations.SecdedCorrectsOneBit : Prop :=
  (∀ d : Nat, d < 2 ^ 64 → hsiaoDecode d (hsiaoCheck d) = .clean d) ∧
  (∀ d i : Nat, d < 2 ^ 64 → i < 64 → hsiaoDecode (d ^^^ 2 ^ i) (hsiaoCheck d) = .corrected d (hsiaoColumns.getD i 0)) ∧
  (∀ d j : Nat, d < 2 ^ 64 → j < 8 → hsiaoDecode d (hsiaoCheck d ^^^ 2 ^ j) = .corrected d (2 ^ j)) ∧
  (∀ d i j : Nat, d < 2 ^ 64 → i < j → j < 64 →
     ∃ x, hsiaoDecode (d ^^^ 2 ^ i ^^^ 2 ^ j) (hsiaoCheck d) = .uncorrectable (d ^^^ 2 ^ i ^^^ 2 ^ j) x)

/-- R211 to R213, R216, R218, R229: requests of the page store. -/
def Obligations.PageStoreRequestsComplete : Prop :=
  (∀ (s : State) (n : Fin 2) (tag x : Nat) (write : Bool) (ws : List (Nat × Byte)) (errs : List (Nat × Nat)),
     (64 ≤ (s.dev.memCh n.val).queue.length ∨ s.dev.get (MEM_STS n.val) MEM_STS.STATE = 0 ∨
       s.dev.get (MEM_STS n.val) MEM_STS.STATE = 6 ∨ s.dev.islUp (3 + n.val) = false) →
     exec (.memRequest n tag x write ws errs) s = .next s) ∧
  (∀ (s : State) (n : Fin 2) (tag x a : Nat) (errs : List (Nat × Nat)), s.dev.memMap x = (n.val, a) →
     s.dev.bit (MEM_CFG n.val) MEM_CFG.PRESENT = true → s.dev.islUp (3 + n.val) = true → a < s.dev.chanCap n.val →
     (s.dev.memCh n.val).queue.length < 64 → s.dev.get (MEM_STS n.val) MEM_STS.STATE ≠ 0 →
     s.dev.get (MEM_STS n.val) MEM_STS.STATE ≠ 6 → s.dev.looped 4 n.val = false →
     Runs (.memRequest n tag x false [] errs) s fun t => Frame [MEM_STS n.val] [.dch] s.dev t ∧
       ∃ r, (t.memCh n.val).queue = (s.dev.memCh n.val).queue ++ [r] ∧ r.tag = tag ∧ r.write = false ∧ r.gran = a / 128 ∧
         r.data = granData s.dev s.mem n.val (a / 128)) ∧
  (∀ (s : State) (n : Fin 2) (tag x a : Nat) (ws : List (Nat × Byte)) (errs : List (Nat × Nat)), s.dev.memMap x = (n.val, a) →
     s.dev.bit (MEM_CFG n.val) MEM_CFG.PRESENT = true → s.dev.islUp (3 + n.val) = true → a < s.dev.chanCap n.val →
     (s.dev.memCh n.val).queue.length < 64 → s.dev.get (MEM_STS n.val) MEM_STS.STATE ≠ 0 →
     s.dev.get (MEM_STS n.val) MEM_STS.STATE ≠ 6 → s.dev.looped 4 n.val = false →
     (∀ i, i < 128 → ∃ b, (i, b) ∈ ws) →
     ∃ t, exec (.memRequest n tag x true ws errs) s = .next t ∧ t.pending = s.pending ∧ Frame [MEM_STS n.val] [.dch] s.dev t.dev ∧
       t.mem.bytes (s.dev.memUnmap n.val (a / 128 * 128)) 128 = mergeBytes (List.replicate 128 0) ws ∧
       t.mem.isBad (s.dev.memUnmap n.val (a / 128 * 128) / 128) = false ∧
       ∀ y, (y < s.dev.memUnmap n.val (a / 128 * 128) ∨ s.dev.memUnmap n.val (a / 128 * 128) + 128 ≤ y) → t.mem.byte y = s.mem.byte y) ∧
  (∀ (s : State) (n : Fin 2) (r : MemReq), s.dev.islUp (3 + n.val) = true → s.dev.get (MEM_STS n.val) MEM_STS.STATE = 2 →
     (s.dev.memCh n.val).queue = [r] → r.write = false → r.ue = false → r.data.length = 128 →
     Runs (.memReadReturn n []) s fun t => Frame [MEM_STS n.val, MEM_BW n.val, MEM_STARVE n.val] [.dch, .out] s.dev t ∧
       (t.memCh n.val).queue = [] ∧ t.lastOut = some (.memData n.val r.tag r.data false)) ∧
  (∀ (s : State) (n : Fin 2) (r : MemReq), s.dev.islUp (3 + n.val) = true → s.dev.get (MEM_STS n.val) MEM_STS.STATE = 2 →
     (s.dev.memCh n.val).queue = [r] → r.write = false → r.ue = true → s.dev.bit (MEM_STS n.val) MEM_STS.DEGRADED = false →
     Runs (.memReadReturn n []) s fun t => (t.memCh n.val).queue = [] ∧ t.lastOut = some (.memData n.val r.tag r.data true) ∧
       t.get (MEM_EVT n.val) MEM_EVT.UE = 1 ∧ t.get (MEM_STS n.val) MEM_STS.RETRAIN_DUE = 1) ∧
  (∀ (s : State) (n : Fin 2) (dt : Nat), (s.after dt).islUp (3 + n.val) = true →
     (s.after dt).bit (MEM_SCRUB_CFG n.val) MEM_SCRUB_CFG.EN = true → (s.after dt).get (MEM_STS n.val) MEM_STS.STATE = 2 →
     (s.after dt).uninit n.val ((s.after dt).memCh n.val).scrubGran = false →
     s.mem.isBad ((s.after dt).memUnmap n.val (((s.after dt).memCh n.val).scrubGran * 128) / 128) = false →
     Runs (.scrub n [] dt) s fun t => Frame [MEM_BW n.val, MEM_SCRUB_POS n.val, MEM_EVT n.val] [.dch] (s.after dt) t ∧
       (t.memCh n.val).scrubGran = (if (s.after dt).chanCap n.val / 128 ≤ ((s.after dt).memCh n.val).scrubGran + 1 then 0
         else ((s.after dt).memCh n.val).scrubGran + 1))

/-- R215, R220 to R227, R232: the memory controller. -/
def Obligations.MemoryControlCommandsComplete : Prop :=
  (∀ (s : State) (n : Fin 2), s.dev.islUp (3 + n.val) = true → s.dev.get (MEM_STS n.val) MEM_STS.STATE ≠ 0 →
     s.dev.get (MEM_STS n.val) MEM_STS.STATE ≠ 6 → s.dev.bit (MEM_STS n.val) MEM_STS.INIT_DONE = false →
     Runs (.initPassDone n) s fun t => Frame [MEM_INIT_PTR n.val, MEM_STS n.val, MEM_EVT n.val] [] s.dev t ∧
       t.get (MEM_STS n.val) MEM_STS.INIT_DONE = 1 ∧ t.get (MEM_EVT n.val) MEM_EVT.INIT_DONE = 1) ∧
  (∀ (s : State) (n rank : Fin 2) (dt : Nat), (s.after dt).islUp (3 + n.val) = true → (s.after dt).get (MEM_STS n.val) MEM_STS.STATE = 2 →
     ((s.after dt).memCh n.val).queue = [] →
     Runs (.refresh n rank false dt) s fun t => Frame [MEM_STS n.val] [.dch] (s.after dt) t ∧
       (if rank.val = 0 then (t.memCh n.val).postponed0 else (t.memCh n.val).postponed1) = 0 ∧
       t.get (MEM_STS n.val) ⟨24 + rank.val, 1⟩ = 0) ∧
  (∀ (s : State) (n rank : Fin 2) (r : MemReq) (dt : Nat), (s.after dt).islUp (3 + n.val) = true →
     (s.after dt).get (MEM_STS n.val) MEM_STS.STATE = 2 → r ∈ ((s.after dt).memCh n.val).queue →
     ((s.after dt).granFields n.val r.gran).rank = rank.val →
     (if rank.val = 0 then ((s.after dt).memCh n.val).postponed0 else ((s.after dt).memCh n.val).postponed1) < 4 →
     Runs (.refresh n rank false dt) s fun t => Frame [] [.dch] (s.after dt) t ∧
       (if rank.val = 0 then (t.memCh n.val).postponed0 else (t.memCh n.val).postponed1) =
         (if rank.val = 0 then ((s.after dt).memCh n.val).postponed0 else ((s.after dt).memCh n.val).postponed1) + 1) ∧
  (∀ (s : State) (n rank : Fin 2) (double : Bool) (dt : Nat), (s.after dt).islUp (3 + n.val) = true →
     Runs (.mr4Read n rank double dt) s fun t => Frame [MEM_STS n.val] [.dch] (s.after dt) t ∧
       (if rank.val = 0 then (t.memCh n.val).hot0 else (t.memCh n.val).hot1) = double ∧
       t.get (MEM_STS n.val) MEM_STS.HOT = (if (t.memCh n.val).hot0 || (t.memCh n.val).hot1 then 1 else 0)) ∧
  (∀ (s : State) (n : Fin 2), s.dev.islUp (3 + n.val) = true → (s.dev.memCh n.val).train ≠ .idle →
     (s.dev.memCh n.val).nextBin = none → (s.dev.memCh n.val).selfRefReq = false →
     Runs (.memTrainingStepDone n) s fun t => Frame [MEM_TRAIN n.val] [] s.dev t ∧
       t.get (MEM_TRAIN n.val) MEM_TRAIN.STEP = min 8 (s.dev.get (MEM_TRAIN n.val) MEM_TRAIN.STEP + 1)) ∧
  (∀ (s : State) (n : Fin 2) (failStep : Nat), s.dev.islUp (3 + n.val) = true →
     ((s.dev.memCh n.val).train = .initial ∨ (s.dev.memCh n.val).train = .fast) →
     exec (.trainingDone n true failStep) s = .next (s.onDev (fun d =>
       ((d.memRun n.val).afterTraining n.val (d.isIsolated (3 + n.val))).trainedOn))) ∧
  (∀ (s : State) (n : Fin 2) (failStep : Nat), s.dev.islUp (3 + n.val) = true → (s.dev.memCh n.val).train = .initial →
     0 < s.dev.get (MEM_STS n.val) MEM_STS.BIN → s.dev.bit (MEM_CFG n.val) MEM_CFG.PRESENT = true →
     Runs (.trainingDone n false failStep) s fun t => Frame [MEM_STS n.val, MEM_EVT n.val, MEM_TRAIN n.val] [.dch] s.dev t ∧
       t.get (MEM_STS n.val) MEM_STS.BIN = s.dev.get (MEM_STS n.val) MEM_STS.BIN - 1 ∧
       t.get (MEM_STS n.val) MEM_STS.STATE = 1 ∧ t.get (MEM_EVT n.val) MEM_EVT.STEPDOWN = 1 ∧ t.get (MEM_TRAIN n.val) MEM_TRAIN.STEP = 1) ∧
  (∀ (s : State) (n : Fin 2) (ps : Int) (dt : Nat), (s.after dt).islUp (3 + n.val) = true →
     (s.after dt).get (MEM_STS n.val) MEM_STS.STATE = 2 →
     ((s.after dt).memCh n.val).oscAt + 800000 * (s.after dt).get (MEM_RETRAIN_CFG n.val) MEM_RETRAIN_CFG.OSC_PERIOD ≤ (s.after dt).now →
     Runs (.dqsOscillator n ps dt) s fun t => Frame [MEM_DRIFT n.val, MEM_STS n.val] [.dch] (s.after dt) t ∧
       t.drift n.val = sat16 ((s.after dt).drift n.val + ps) ∧
       ((s.after dt).get (MEM_RETRAIN_CFG n.val) MEM_RETRAIN_CFG.DRIFT_TH < (t.drift n.val).natAbs →
         t.get (MEM_STS n.val) MEM_STS.RETRAIN_DUE = 1)) ∧
  (∀ (s : State) (n : Fin 2), s.dev.islUp (3 + n.val) = true → s.dev.jobGap = true →
     s.dev.bit (MEM_STS n.val) MEM_STS.RETRAIN_DUE = true → s.dev.get (MEM_STS n.val) MEM_STS.STATE = 2 →
     Runs (.retrainAtGap n) s fun t => Frame [MEM_STS n.val, MEM_TRAIN n.val] [.dch] s.dev t ∧
       t.get (MEM_STS n.val) MEM_STS.STATE = 3 ∧ t.get (MEM_TRAIN n.val) MEM_TRAIN.STEP = 6 ∧ (t.memCh n.val).train = .retrain) ∧
  (∀ (s : State) (q : Req) (n : Fin 2), Allowed s q (MEM_CMD n.val) → s.dev.memCmdDead n.val = true →
     Runs (.memCmdRetrain q n) s fun t => Frame [MEM_EVT n.val] [.host, .out] s.dev t ∧ t.get (MEM_EVT n.val) MEM_EVT.CMD_REJ = 1) ∧
  (∀ (s : State) (q : Req) (n : Fin 2), Allowed s q (MEM_CMD n.val) → s.dev.memCmdDead n.val = false →
     (s.dev.memCh n.val).train = .idle →
     Runs (.memCmdRetrain q n) s fun t => Frame [MEM_STS n.val, MEM_TRAIN n.val] [.dch, .host, .out] s.dev t ∧
       t.get (MEM_STS n.val) MEM_STS.STATE = 3 ∧ t.get (MEM_TRAIN n.val) MEM_TRAIN.STEP = 6) ∧
  (∀ (s : State) (n : Fin 2) (ok : Bool) (failStep : Nat), s.dev.islUp (3 + n.val) = true →
     (s.dev.memCh n.val).train = .retrain → (s.dev.memCh n.val).nextBin = none →
     Runs (.retrainDone n ok failStep) s fun t => Frame [MEM_STS n.val, MEM_EVT n.val, MEM_TRAIN n.val, MEM_DRIFT n.val] [.dch] s.dev t ∧
       t.get (MEM_STS n.val) MEM_STS.STATE = 2 ∧ t.get (MEM_STS n.val) MEM_STS.RETRAIN_DUE = 0 ∧ t.rd (MEM_DRIFT n.val) = 0 ∧
       t.get (MEM_STS n.val) MEM_STS.DEGRADED = (if ok then 0 else 1) ∧ (t.memCh n.val).train = .idle ∧
       (ok = true → t.get (MEM_EVT n.val) MEM_EVT.RETRAINED = 1) ∧ (ok = false → t.get (MEM_EVT n.val) MEM_EVT.TRAIN_FAIL = 1)) ∧
  (∀ (s : State) (n : Fin 2) (dt : Nat), (s.after dt).islUp (3 + n.val) = true →
     ((s.after dt).memCh n.val).ceWinAt + 800000000 * (s.after dt).get (MEM_CE_CFG n.val) MEM_CE_CFG.WINDOW ≤ (s.after dt).now →
     Runs (.ceWindow n dt) s fun t => Frame [MEM_EVT n.val, MEM_STS n.val] [.dch] (s.after dt) t ∧ (t.memCh n.val).ceWin = 0 ∧
       (t.memCh n.val).ceWinAt = (s.after dt).now ∧
       ((s.after dt).get (MEM_CE_CFG n.val) MEM_CE_CFG.THRESH < ((s.after dt).memCh n.val).ceWin →
         t.get (MEM_EVT n.val) MEM_EVT.CE_RATE = 1 ∧
         (if (s.after dt).bit (MEM_STS n.val) MEM_STS.DEGRADED then t.get (MEM_STS n.val) MEM_STS.STEP_DUE = 1
           else t.get (MEM_STS n.val) MEM_STS.RETRAIN_DUE = 1)) ∧
       (((s.after dt).memCh n.val).ceWin ≤ (s.after dt).get (MEM_CE_CFG n.val) MEM_CE_CFG.THRESH →
         t.rd (MEM_EVT n.val) = (s.after dt).rd (MEM_EVT n.val) ∧ t.rd (MEM_STS n.val) = (s.after dt).rd (MEM_STS n.val))) ∧
  (∀ (s : State) (n : Fin 2), s.dev.islUp (3 + n.val) = true → s.dev.bit (MEM_STS n.val) MEM_STS.STEP_DUE = true →
     s.dev.jobGap = true → s.dev.get (MEM_STS n.val) MEM_STS.BIN = 0 →
     Runs (.stepDownAtGap n) s fun t => Frame [MEM_STS n.val] [] s.dev t ∧ t.get (MEM_STS n.val) MEM_STS.FLOOR = 1 ∧
       t.get (MEM_STS n.val) MEM_STS.STEP_DUE = 0) ∧
  (∀ (s : State) (n : Fin 2), s.dev.islUp (3 + n.val) = true → s.dev.bit (MEM_STS n.val) MEM_STS.STEP_DUE = true →
     s.dev.jobGap = true → 0 < s.dev.get (MEM_STS n.val) MEM_STS.BIN → (s.dev.memCh n.val).train = .idle →
     Runs (.stepDownAtGap n) s fun t => Frame [MEM_STS n.val, MEM_EVT n.val, MEM_TRAIN n.val] [.dch] s.dev t ∧
       t.get (MEM_STS n.val) MEM_STS.BIN = s.dev.get (MEM_STS n.val) MEM_STS.BIN - 1 ∧ t.get (MEM_STS n.val) MEM_STS.STATE = 4 ∧
       t.get (MEM_STS n.val) MEM_STS.STEP_DUE = 0 ∧ t.get (MEM_EVT n.val) MEM_EVT.STEPDOWN = 1) ∧
  (∀ (s : State) (q : Req) (n : Fin 2) (bin : Fin 8), Allowed s q (MEM_CMD n.val) → s.dev.memCmdDead n.val = false →
     s.dev.get (MEM_CFG n.val) MEM_CFG.BIN_MAX < bin.val →
     Runs (.setbin q n bin) s fun t => Frame [MEM_EVT n.val] [.host, .out] s.dev t ∧ t.get (MEM_EVT n.val) MEM_EVT.CMD_REJ = 1) ∧
  (∀ (s : State) (q : Req) (n : Fin 2) (bin : Fin 8), Allowed s q (MEM_CMD n.val) → s.dev.memCmdDead n.val = false →
     bin.val ≤ s.dev.get (MEM_CFG n.val) MEM_CFG.BIN_MAX →
     Runs (.setbin q n bin) s fun t => Frame [MEM_STS n.val, MEM_TRAIN n.val] [.dch, .host, .out] s.dev t ∧
       ((s.dev.memCh n.val).train = .idle → t.get (MEM_STS n.val) MEM_STS.BIN = bin.val ∧ t.get (MEM_STS n.val) MEM_STS.STATE = 4) ∧
       ((s.dev.memCh n.val).train ≠ .idle → (t.memCh n.val).nextBin = some bin.val ∧ t.rd (MEM_STS n.val) = s.dev.rd (MEM_STS n.val))) ∧
  (∀ (s : State) (n : Fin 2) (failStep : Nat), s.dev.islUp (3 + n.val) = true → (s.dev.memCh n.val).train = .freq →
     (s.dev.memCh n.val).nextBin = none →
     Runs (.freqDone n true failStep) s fun t => Frame [MEM_STS n.val, MEM_EVT n.val, MEM_TRAIN n.val, MEM_DRIFT n.val] [.dch] s.dev t ∧
       t.get (MEM_STS n.val) MEM_STS.STATE = 2 ∧ t.get (MEM_EVT n.val) MEM_EVT.FREQ_DONE = 1 ∧ t.rd (MEM_DRIFT n.val) = 0 ∧
       t.get (MEM_STS n.val) MEM_STS.BIN = s.dev.get (MEM_STS n.val) MEM_STS.BIN) ∧
  (∀ (s : State) (n rank : Fin 2) (dt : Nat), (s.after dt).islUp (3 + n.val) = true →
     (s.after dt).get (MEM_STS n.val) MEM_STS.STATE = 2 → 0 < (s.after dt).get (MEM_PD_CFG n.val) MEM_PD_CFG.IDLE →
     ((s.after dt).memCh n.val).queue = [] →
     (if rank.val = 0 then ((s.after dt).memCh n.val).idleAt0 else ((s.after dt).memCh n.val).idleAt1) +
       (s.after dt).get (MEM_PD_CFG n.val) MEM_PD_CFG.IDLE * 80 ≤ (s.after dt).now →
     Runs (.powerDown n rank dt) s fun t => Frame [MEM_STS n.val] [] (s.after dt) t ∧ t.get (MEM_STS n.val) ⟨24 + rank.val, 1⟩ = 1)

/-- R247 to R249, R252, R254, R255: object decodes and the compression engines. -/
def Obligations.EngineCommandsComplete : Prop :=
  (∀ (s : State) (q : Req), Allowed s q CMP_OBJ_CMD → q.port.val ≠ 0 →
     exec (.objStart q) s = .next { s with dev := (s.granted q).emit (.access q.port.val Status.access.code 0) } ∧
     exec (.objCancel q) s = .next { s with dev := (s.granted q).emit (.access q.port.val Status.access.code 0) }) ∧
  (∀ (s : State) (q : Req) (e : Nat), Allowed s q CMP_OBJ_CMD → q.port.val = 0 → s.dev.objResult ≠ 1 → s.dev.objResult ≠ 2 →
     (s.granted q).jobRunning = false → (s.granted q).objPick = some e →
     Runs (.objStart q) s fun t => Frame [CMP_OBJ_STS] [.ras, .host, .out] s.dev t ∧ t.rd CMP_OBJ_STS = 2 ∧ (t.eng e).work = .object) ∧
  (∀ (s : State) (q : Req), Allowed s q CMP_OBJ_CMD → q.port.val = 0 → s.dev.objResult ≠ 1 → s.dev.objResult ≠ 2 →
     ((s.granted q).objPick = none ∨ ((s.granted q).jobRunning = true ∧ s.dev.bit CMP_OBJ_CFG CMP_OBJ_CFG.RUN_OK = false)) →
     Runs (.objStart q) s fun t => Frame [CMP_OBJ_STS] [.host, .out] s.dev t ∧ t.rd CMP_OBJ_STS = 1) ∧
  (∀ (s : State) (q : Req), Allowed s q CMP_OBJ_CMD → q.port.val = 0 → (s.dev.objResult = 1 ∨ s.dev.objResult = 2) →
     (Runs (.objStart q) s fun t => Frame [] [.host, .out] s.dev t) ∧
     (Runs (.objCancel q) s fun t => Frame [CMP_OBJ_STS] [.ras, .host, .out] s.dev t ∧ t.objResult = 5)) ∧
  (∀ (s : State) (e dt : Nat), (s.after dt).islUp 2 = true → (s.after dt).objResult = 1 → (s.after dt).jobGap = true →
     (s.after dt).objPick = some e →
     Runs (.objWaitEnd dt) s fun t => Frame [CMP_OBJ_STS] [.ras] (s.after dt) t ∧ t.rd CMP_OBJ_STS = 2 ∧ (t.eng e).work = .object) ∧
  (∀ (s : State) (bs : List Byte) (dt : Nat), (s.after dt).islUp 2 = true → (s.after dt).objResult = 2 →
     readToBad (s.after dt) s.mem ((s.after dt).rd64 CMP_OBJ_SRC_LO CMP_OBJ_SRC_HI)
       ((s.after dt).get CMP_OBJ_SLEN ⟨0, 25⟩ / 128 + 2) ((s.after dt).get CMP_OBJ_SLEN ⟨0, 25⟩) [] = (bs, false) →
     (objectDecode bs).done = true →
     ∃ t, exec (.objDone dt) s = .next t ∧ t.pending = s.pending ∧ Frame [CMP_OBJ_STS] [.ras] (s.after dt) t.dev ∧
       t.mem = storePut s.mem ((s.after dt).rd64 CMP_OBJ_DST_LO CMP_OBJ_DST_HI) (objectDecode bs).out ∧
       t.dev.rdN CMP_OBJ_STS = 3 + 16 * ((objectDecode bs).count % 2 ^ 25)) ∧
  (∀ (s : State) (bs : List Byte) (ue : Bool) (dt : Nat), (s.after dt).islUp 2 = true → (s.after dt).objResult = 2 →
     readToBad (s.after dt) s.mem ((s.after dt).rd64 CMP_OBJ_SRC_LO CMP_OBJ_SRC_HI)
       ((s.after dt).get CMP_OBJ_SLEN ⟨0, 25⟩ / 128 + 2) ((s.after dt).get CMP_OBJ_SLEN ⟨0, 25⟩) [] = (bs, ue) →
     ((objectDecode bs).done = false ∨ ue = true) →
     ∃ t, exec (.objDone dt) s = .next t ∧ t.pending = s.pending ∧ Frame [CMP_OBJ_STS] [.ras, .free] (s.after dt) t.dev ∧
       t.dev.objResult = 4 ∧
       ∀ y, (y < (s.after dt).rd64 CMP_OBJ_DST_LO CMP_OBJ_DST_HI ∨
         (s.after dt).rd64 CMP_OBJ_DST_LO CMP_OBJ_DST_HI + (objectDecode bs).count ≤ y) → t.mem.byte y = s.mem.byte y) ∧
  (∀ (s : State) (q : Req) (k : Fin 2), Allowed s q (CMP_CX_CMD k.val) → s.dev.bit (CMP_CX_STS k.val) CMP_CX_STS.ASSIGNED = false →
     s.dev.cxState k.val ≠ 1 →
     (s.dev.get (CMP_CX_CFG k.val) CMP_CX_CFG.METHOD = 1 ∨ s.dev.get (CMP_CX_CFG k.val) CMP_CX_CFG.METHOD = 2) →
     Runs (.cxStart q k) s fun t =>
       Frame [CMP_CX_STS k.val, CMP_CX_OUT k.val, CMP_CX_IN k.val] [.cx, .host, .out] s.dev t ∧ t.cxState k.val = 1 ∧
       t.rd (CMP_CX_OUT k.val) = 0 ∧ t.rd (CMP_CX_IN k.val) = 0 ∧ (t.cxSt k.val).cfg = s.dev.rd (CMP_CX_CFG k.val) ∧
       (t.cxSt k.val).slen = s.dev.rdN (CMP_CX_SLEN k.val) ∧ (t.cxSt k.val).dlen = s.dev.rdN (CMP_CX_DLEN k.val) ∧
       (t.cxSt k.val).flushes = [] ∧ (t.cxSt k.val).finishing = false) ∧
  (∀ (s : State) (q : Req) (k : Fin 2), Allowed s q (CMP_CX_CMD k.val) →
     (s.dev.cxState k.val = 1 ∨ s.dev.get (CMP_CX_CFG k.val) CMP_CX_CFG.METHOD = 0 ∨
       s.dev.get (CMP_CX_CFG k.val) CMP_CX_CFG.METHOD = 3) →
     Runs (.cxStart q k) s fun t => Frame [CMP_CX_EVT k.val] [.host, .out] s.dev t ∧
       t.get (CMP_CX_EVT k.val) CMP_CX_EVT.CMD_REJ = 1) ∧
  (∀ (s : State) (q : Req) (k : Fin 2), Allowed s q (CMP_CX_CMD k.val) → s.dev.cxState k.val ≠ 1 →
     (Runs (.cxFlush q k) s fun t => Frame [CMP_CX_EVT k.val] [.host, .out] s.dev t ∧
       t.get (CMP_CX_EVT k.val) CMP_CX_EVT.CMD_REJ = 1) ∧
     (Runs (.cxFinish q k) s fun t => Frame [CMP_CX_EVT k.val] [.host, .out] s.dev t ∧
       t.get (CMP_CX_EVT k.val) CMP_CX_EVT.CMD_REJ = 1)) ∧
  (∀ (s : State) (q : Req) (k : Fin 2), Allowed s q (CMP_CX_CMD k.val) → s.dev.bit (CMP_CX_STS k.val) CMP_CX_STS.ASSIGNED = false →
     s.dev.cxState k.val = 1 → (s.dev.cxSt k.val).finishing = false →
     (Runs (.cxFlush q k) s fun t => Frame [] [.cx, .host, .out] s.dev t ∧ (t.cxSt k.val).flushBusy = true) ∧
     (Runs (.cxFinish q k) s fun t => Frame [] [.cx, .host, .out] s.dev t ∧ (t.cxSt k.val).finishing = true) ∧
     (Runs (.cxAbort q k) s fun t => Frame [CMP_CX_STS k.val] [.host, .out] s.dev t ∧ t.cxState k.val = 4)) ∧
  (∀ (s : State) (k : Fin 2) (consumed dt : Nat), (s.after dt).islUp 2 = true → (s.after dt).cxState k.val = 1 →
     ((s.after dt).cxSt k.val).flushBusy = true → ((s.after dt).cxSt k.val).flushes = [] →
     (cxOutput { (s.after dt).cxSt k.val with
         flushes := [((cxInput ((s.after dt).cxSt k.val) (s.pass dt)).take consumed).length], flushBusy := false }
       ((cxInput ((s.after dt).cxSt k.val) (s.pass dt)).take consumed) false).length ≤ ((s.after dt).cxSt k.val).dlen →
     ∃ t, exec (.cxFlushed k consumed dt) s = .next t ∧ t.pending = s.pending ∧
       Frame [CMP_CX_OUT k.val, CMP_CX_IN k.val, CMP_CX_EVT k.val] [.cx] (s.after dt) t.dev ∧
       t.mem = storePut s.mem ((s.after dt).cxSt k.val).dst (cxOutput { (s.after dt).cxSt k.val with
           flushes := [((cxInput ((s.after dt).cxSt k.val) (s.pass dt)).take consumed).length], flushBusy := false }
         ((cxInput ((s.after dt).cxSt k.val) (s.pass dt)).take consumed) false) ∧
       t.dev.get (CMP_CX_EVT k.val) CMP_CX_EVT.FLUSHED = 1 ∧ (t.dev.cxSt k.val).flushBusy = false) ∧
  (∀ (s : State) (k : Fin 2) (dt : Nat), (s.after dt).islUp 2 = true → (s.after dt).cxState k.val = 1 →
     ((s.after dt).cxSt k.val).finishing = true →
     (cxOutput ((s.after dt).cxSt k.val) (cxInput ((s.after dt).cxSt k.val) (s.pass dt)) true).length ≤ ((s.after dt).cxSt k.val).dlen →
     ∃ t, exec (.cxDone k dt) s = .next t ∧ t.pending = s.pending ∧
       Frame [CMP_CX_OUT k.val, CMP_CX_IN k.val, CMP_CX_EVT k.val, CMP_CX_STS k.val] [.cx] (s.after dt) t.dev ∧
       t.mem = storePut s.mem ((s.after dt).cxSt k.val).dst
         (cxOutput ((s.after dt).cxSt k.val) (cxInput ((s.after dt).cxSt k.val) (s.pass dt)) true) ∧
       t.dev.cxState k.val = 2 ∧ t.dev.get (CMP_CX_EVT k.val) CMP_CX_EVT.DONE = 1) ∧
  (∀ (s : State) (k : Fin 2) (consumed dt : Nat), (s.after dt).islUp 2 = true → (s.after dt).cxState k.val = 1 →
     ((s.after dt).cxSt k.val).dlen <
       (cxOutput ((s.after dt).cxSt k.val) ((cxInput ((s.after dt).cxSt k.val) (s.pass dt)).take consumed) true).length →
     ∃ t, exec (.cxOverflow k consumed dt) s = .next t ∧ t.pending = s.pending ∧
       Frame [CMP_CX_OUT k.val, CMP_CX_IN k.val, CMP_CX_EVT k.val, CMP_CX_STS k.val] [.free] (s.after dt) t.dev ∧
       t.dev.cxState k.val = 3 ∧ t.dev.get (CMP_CX_EVT k.val) CMP_CX_EVT.OVERFLOW = 1 ∧
       ∀ y, (y < ((s.after dt).cxSt k.val).dst ∨ ((s.after dt).cxSt k.val).dst + ((s.after dt).cxSt k.val).dlen ≤ y) →
         t.mem.byte y = s.mem.byte y)

/-- R256 to R258, R260 to R262, R269 to R273: nozzle health. -/
def Obligations.NozzleHealthCommandsComplete : Prop :=
  (∀ (s : State) (es : List NhEntry) (dt : Nat), (s.after dt).standby = true → exec (.nhReport es dt) s = .next (s.pass dt)) ∧
  (∀ (s : State) (es : List NhEntry) (dt : Nat), (s.after dt).standby = false →
     exec (.nhReport es dt) s = .next ((s.pass dt).onDev (fun d =>
       (es.foldl Dev.creditEntry d).mirrorNozzles (es.map (fun e => (e.chan.val, e.noz)))))) ∧
  (∀ (s : State) (e : NhEntry) (dt : Nat), (s.after dt).standby = false → (s.after dt).hasChannel e.chan.val = true →
     e.noz < (s.after dt).nozzles e.chan.val → (s.after dt).nhStale e.chan.val e.noz e.first = false → e.kind.val ≠ 0 →
     (s.after dt).get FIR_NH_CFG FIR_NH_CFG.COVER * e.covDen ≤ e.covNum * 100 →
     (s.after dt).noz e.chan.val e.noz fState = 0 → 0 < (8 * e.shNum + e.shDen) / (2 * e.shDen) →
     Runs (.nhReport [e] dt) s fun t => Frame [NH_STATE e.chan.val (e.noz / 4)] [.nh, .out] (s.after dt) t ∧
       t.noz e.chan.val e.noz fState = 1 ∧
       t.noz e.chan.val e.noz fScore = min 15 ((8 * e.shNum + e.shDen) / (2 * e.shDen))) ∧
  (∀ (s : State) (e : NhEntry) (dt : Nat), (s.after dt).standby = false → (s.after dt).hasChannel e.chan.val = true →
     e.noz < (s.after dt).nozzles e.chan.val → (s.after dt).nhStale e.chan.val e.noz e.first = true →
     Runs (.nhReport [e] dt) s fun t => Frame [HC_NH_STALE e.chan.val, FIR_NH_EVT] [.out] (s.after dt) t ∧
       t.get FIR_NH_EVT FIR_NH_EVT.STALE = 1) ∧
  (∀ (s : State) (q : Req) (c : Fin 64) (n : Fin 4096) (kind : Fin 4), Allowed s q (HC_NH_CMD c.val) → s.dev.standby = false →
     (kind.val = 0 ∨ s.dev.nozzles c.val ≤ n.val) →
     Runs (.nhEvidence q c n kind) s fun t => Frame [FIR_NH_EVT] [.host, .out] s.dev t ∧ t.get FIR_NH_EVT FIR_NH_EVT.REFUSED = 1) ∧
  (∀ (s : State) (q : Req) (c : Fin 64) (n : Fin 4096) (kind : Fin 4), Allowed s q (HC_NH_CMD c.val) → s.dev.standby = false →
     kind.val ≠ 0 → n.val < s.dev.nozzles c.val → s.dev.nhStale c.val n.val s.dev.frontLine = false →
     s.dev.noz c.val n.val fState = 0 →
     Runs (.nhEvidence q c n kind) s fun t => Frame [NH_STATE c.val (n.val / 4)] [.nh, .host, .out] s.dev t ∧
       t.noz c.val n.val fState = 1 ∧ t.noz c.val n.val fScore = 4) ∧
  (∀ (s : State) (q : Req) (c : Fin 64) (n : Fin 4096) (st : Fin 8) (atEn : Bool), Allowed s q (HC_NH_CMD c.val) →
     s.dev.standby = false → (st.val = 1 ∨ 5 < st.val ∨ s.dev.nozzles c.val ≤ n.val) →
     Runs (.nhOverride q c n st atEn) s fun t => Frame [FIR_NH_EVT] [.host, .out] s.dev t ∧
       t.get FIR_NH_EVT FIR_NH_EVT.REFUSED = 1) ∧
  (∀ (s : State) (q : Req) (c : Fin 64) (n : Fin 4096) (st : Fin 8) (atEn : Bool), Allowed s q (HC_NH_CMD c.val) →
     s.dev.standby = false → st.val ≠ 1 → st.val ≤ 5 → n.val < s.dev.nozzles c.val →
     Runs (.nhOverride q c n st atEn) s fun t => Frame [] [.nh, .host, .out] s.dev t ∧
       (⟨c.val, n.val, st.val, 2, if atEn then some (s.dev.rdN (HC_NH_AT_LO c.val) + 2 ^ 32 * (s.dev.rdN (HC_NH_AT_HI c.val) % 256))
         else none⟩ : NhChange) ∈ t.nh.wait ∧
       ∀ x ∈ t.nh.wait, x ∈ s.dev.nh.wait ∨ (x.chan = c.val ∧ x.noz = n.val)) ∧
  (∀ (s : State) (q : Req) (c : Fin 64), Allowed s q (HC_NH_CMD c.val) → s.dev.standby = false →
     exec (.nhReset q c) s = .next (s.answered q (HC_NH_CMD c.val) (nhWord 3 0 0 0 false)
       ((s.granted q).each (List.range (s.dev.nozzles c.val)) (fun n d =>
         if d.noz c.val n fState = 5 then d
         else if d.noz c.val n fState = 0 then d.clearScore c.val n
         else (d.clearScore c.val n).addChange ⟨c.val, n, 0, 2, none⟩)))) ∧
  (∀ (s : State) (dt : Nat), ((s.after dt).standby = true ∨ (s.after dt).nh.flight ≠ none ∨ (s.after dt).nh.wait = []) →
     exec (.nhUpdate dt) s = .next (s.pass dt)) ∧
  (∀ (s : State) (dt : Nat), (s.after dt).standby = false → (s.after dt).nh.flight = none → (s.after dt).nh.wait ≠ [] →
     (s.after dt).get FIR_NH_VETO FIR_NH_VETO.HOLD = 0 →
     exec (.nhUpdate dt) s = .next ((s.pass dt).onDev (fun d => { d with nh := { d.nh with wait := [] } }.launch d.nh.wait))) ∧
  (∀ (s : State) (dt : Nat), (s.after dt).standby = false → (s.after dt).nh.flight = none → (s.after dt).nh.prop = none →
     (∃ x ∈ (s.after dt).nh.wait, x.override = false) → (s.after dt).get FIR_NH_VETO FIR_NH_VETO.HOLD ≠ 0 →
     Runs (.nhUpdate dt) s fun t => Frame [FIR_NH_PROP, FIR_NH_EVT] [.nh, .host] (s.after dt) t ∧ t.nh.wait = [] ∧
       t.nh.prop = some ((s.after dt).nh.propNext,
         (s.after dt).now + 800000 * (s.after dt).get FIR_NH_VETO FIR_NH_VETO.HOLD, (s.after dt).nh.wait) ∧
       t.nh.propNext = nextId (s.after dt).nh.propNext ∧ t.get FIR_NH_EVT FIR_NH_EVT.PROPOSED = 1) ∧
  (∀ (s : State) (id end_ : Nat) (cs : List NhChange) (dt : Nat), (s.after dt).nh.prop = some (id, end_, cs) →
     end_ ≤ (s.after dt).now → (s.after dt).nh.flight = none →
     exec (.proposalHoldEnd dt) s = .next ((s.pass dt).onDev (·.dropProposal.launch cs))) ∧
  (∀ (s : State) (q : Req) (id : Fin 65536), Allowed s q FIR_NH_CMD →
     (∀ k e cs, s.dev.nh.prop = some (k, e, cs) → k ≠ id.val) →
     Runs (.nhVeto q id) s fun t => Frame [FIR_NH_EVT] [.host, .out] s.dev t ∧ t.get FIR_NH_EVT FIR_NH_EVT.REFUSED = 1) ∧
  (∀ (s : State) (q : Req) (id : Fin 65536) (end_ : Nat) (cs : List NhChange), Allowed s q FIR_NH_CMD →
     s.dev.nh.prop = some (id.val, end_, cs) → (∀ x ∈ cs, x.override = false) →
     Runs (.nhVeto q id) s fun t => t.rd FIR_NH_PROP = 0 ∧ t.nh.prop = none ∧ t.get FIR_NH_EVT FIR_NH_EVT.VETOED = 1 ∧
       t.nh.wait = s.dev.nh.wait ∧ t.nh.flight = s.dev.nh.flight) ∧
  (∀ (s : State) (u : NhUpd) (dt : Nat), (s.after dt).nh.flight = some u → (s.after dt).nhReleased u = true →
     exec (.nhUpdateApplied dt) s = .next ((s.pass dt).onDev (fun d => nhUpdate d.nhApplied))) ∧
  (∀ (s : State) (u : NhUpd) (dt : Nat), (s.after dt).nh.flight = some u → (s.after dt).nhReleased u = false →
     exec (.nhUpdateApplied dt) s = .next (s.pass dt))

/-- R263, R264: the drop gates. -/
def Obligations.GateCommandsComplete : Prop :=
  (∀ (s : State) (q : Req) (k : Fin 2), Allowed s q (FIR_GATE_CMD k.val) → (s.dev.gateSt k.val).run = false → s.dev.standby = false →
     s.dev.gateReason k.val (s.dev.get (FIR_GATE_CFG k.val) FIR_GATE_CFG.CHANNEL)
       (s.dev.get (FIR_GATE_RANGE k.val) FIR_GATE_RANGE.FIRST + s.dev.get (FIR_GATE_RANGE k.val) FIR_GATE_RANGE.COUNT) ≠ 0 →
     Runs (.gateStart q k) s fun t => Frame [FIR_GATE_STS k.val] [.host, .out] s.dev t ∧
       t.get (FIR_GATE_STS k.val) FIR_GATE_STS.STATE = 4 ∧
       t.get (FIR_GATE_STS k.val) FIR_GATE_STS.REASON =
         s.dev.gateReason k.val (s.dev.get (FIR_GATE_CFG k.val) FIR_GATE_CFG.CHANNEL)
           (s.dev.get (FIR_GATE_RANGE k.val) FIR_GATE_RANGE.FIRST + s.dev.get (FIR_GATE_RANGE k.val) FIR_GATE_RANGE.COUNT)) ∧
  (∀ (s : State) (q : Req) (k : Fin 2), Allowed s q (FIR_GATE_CMD k.val) → (s.dev.gateSt k.val).run = false → s.dev.standby = false →
     0 < s.dev.get (FIR_GATE_RANGE k.val) FIR_GATE_RANGE.COUNT →
     s.dev.gateReason k.val (s.dev.get (FIR_GATE_CFG k.val) FIR_GATE_CFG.CHANNEL)
       (s.dev.get (FIR_GATE_RANGE k.val) FIR_GATE_RANGE.FIRST + s.dev.get (FIR_GATE_RANGE k.val) FIR_GATE_RANGE.COUNT) = 0 →
     Runs (.gateStart q k) s fun t => Frame [FIR_GATE_STS k.val] [.nh, .host, .out] s.dev t ∧
       t.get (FIR_GATE_STS k.val) FIR_GATE_STS.STATE = 1 ∧ (t.gateSt k.val).run = true ∧
       (t.gateSt k.val).chan = s.dev.get (FIR_GATE_CFG k.val) FIR_GATE_CFG.CHANNEL ∧
       (t.gateSt k.val).noz = s.dev.get (FIR_GATE_RANGE k.val) FIR_GATE_RANGE.FIRST ∧
       (t.gateSt k.val).rest.length + 1 = s.dev.get (FIR_GATE_RANGE k.val) FIR_GATE_RANGE.COUNT) ∧
  (∀ (s : State) (q : Req) (k : Fin 2), Allowed s q (FIR_GATE_CMD k.val) → (s.dev.gateSt k.val).run = true → s.dev.cal.proc = none →
     Runs (.gateAbort q k) s fun t =>
       Frame [FIR_GATE_STS k.val, NH_GATE (s.dev.gateSt k.val).chan ((s.dev.gateSt k.val).noz / 2)] [.nh, .host, .out] s.dev t ∧
       t.get (FIR_GATE_STS k.val) FIR_GATE_STS.STATE = 3 ∧ (t.gateSt k.val).run = false) ∧
  (∀ (s : State) (k : Fin 2) (dt : Nat), ((s.after dt).gateSt k.val).run = true → ((s.after dt).gateSt k.val).nextAt ≤ (s.after dt).now →
     ((s.after dt).gateSt k.val).strobeAt = none →
     ((s.after dt).gateSt k.val).strobes < (s.after dt).get (FIR_GATE_CFG k.val) FIR_GATE_CFG.REP →
     (s.after dt).bit FIR_STS FIR_STS.INH_NOW = true →
     exec (.gateStrobe k dt) s = .next ((s.pass dt).onDev (·.gateAbort k.val false))) ∧
  (∀ (s : State) (k : Fin 2) (dt : Nat), ((s.after dt).gateSt k.val).run = true → ((s.after dt).gateSt k.val).nextAt ≤ (s.after dt).now →
     ((s.after dt).gateSt k.val).strobeAt = none →
     ((s.after dt).gateSt k.val).strobes < (s.after dt).get (FIR_GATE_CFG k.val) FIR_GATE_CFG.REP →
     (s.after dt).bit FIR_STS FIR_STS.INH_NOW = false → (s.after dt).bit BRD_STS BRD_STS.GUARD_OK = true →
     ((s.after dt).hc ((s.after dt).gateSt k.val).chan).hold = false →
     Runs (.gateStrobe k dt) s fun t => Frame [HC_FIRE_CNT ((s.after dt).gateSt k.val).chan, WAV_STS ((s.after dt).gateSt k.val).chan]
         [.hcs, .nh, .out] (s.after dt) t ∧
       (t.gateSt k.val).strobes = ((s.after dt).gateSt k.val).strobes + 1 ∧
       (t.gateSt k.val).strobeAt = some (s.after dt).now ∧
       (t.gateSt k.val).nextAt = (s.after dt).now + (s.after dt).gateInt k.val ∧
       t.get (HC_FIRE_CNT ((s.after dt).gateSt k.val).chan) whole =
         min (2 ^ 32 - 1) ((s.after dt).get (HC_FIRE_CNT ((s.after dt).gateSt k.val).chan) whole + 1)) ∧
  (∀ (s : State) (k : Fin 2) (u dt : Nat), ((s.after dt).gateSt k.val).run = true → ((s.after dt).gateSt k.val).strobeAt = some u →
     u + tenNs ((s.after dt).get (FIR_GATE_TOF k.val) FIR_GATE_TOF.TOFMAX) ≤ (s.after dt).now →
     (s.after dt).gatePending k.val (u + tenNs ((s.after dt).get (FIR_GATE_TOF k.val) FIR_GATE_TOF.TOFMAX)) = false →
     (s.after dt).cal.proc = none → ((s.after dt).gateSt k.val).closed + 1 < (s.after dt).get (FIR_GATE_CFG k.val) FIR_GATE_CFG.REP →
     Runs (.gateWindowClose k dt) s fun t => Frame [] [.nh] (s.after dt) t ∧ (t.gateSt k.val).strobeAt = none ∧
       (t.gateSt k.val).closed = ((s.after dt).gateSt k.val).closed + 1 ∧ (t.gateSt k.val).run = true) ∧
  (∀ (s : State) (k : Fin 2) (u dt : Nat), ((s.after dt).gateSt k.val).run = true → ((s.after dt).gateSt k.val).strobeAt = some u →
     u + tenNs ((s.after dt).get (FIR_GATE_TOF k.val) FIR_GATE_TOF.TOFMAX) ≤ (s.after dt).now →
     (s.after dt).gatePending k.val (u + tenNs ((s.after dt).get (FIR_GATE_TOF k.val) FIR_GATE_TOF.TOFMAX)) = false →
     (s.after dt).get (FIR_GATE_CFG k.val) FIR_GATE_CFG.REP ≤ ((s.after dt).gateSt k.val).closed + 1 →
     exec (.gateWindowClose k dt) s = .next ((s.pass dt).onDev (fun d => (d.gateNozzle k.val { d.gateSt k.val with
       strobeAt := none, closed := (d.gateSt k.val).closed + 1 }).calGateDone k.val)))

/-- R305 to R307, R311 to R314: conversions, the reference check, temperatures and set changes. -/
def Obligations.SenseCommandsComplete : Prop :=
  (∀ (s : State) (q : Req) (input : Fin 256) (a : Fin 16), Allowed s q CAL_ADC_REQ → 0xC7 < input.val →
     exec (.adcRequest q input a) s =
       .next (s.answered q CAL_ADC_REQ (BitVec.ofNat 32 (a.val * 256 + input.val)) (s.granted q))) ∧
  (∀ (s : State) (q : Req) (input : Fin 256) (a : Fin 16), Allowed s q CAL_ADC_REQ → input.val ≤ 0xC7 →
     Runs (.adcRequest q input a) s fun t => Frame [CAL_ADC_RES] [.cal, .host, .out] s.dev t ∧
       t.get CAL_ADC_RES CAL_ADC_RES.VALID = 0 ∧ t.cal.adc = s.dev.cal.adc ++ [(input.val, min 8 a.val, 16)]) ∧
  (∀ (s : State) (k : Fin 4) (input a sum dt : Nat), (s.after dt).cal.adc.find? (fun r => adcOf r.1 == k.val) = some (input, a, 16) →
     input < 256 →
     Runs (.adcConversionDone k sum dt) s fun t => Frame [CAL_ADC_RES] [.cal] (s.after dt) t ∧
       t.get CAL_ADC_RES CAL_ADC_RES.VALID = 1 ∧
       t.get CAL_ADC_RES ⟨0, 16⟩ = min 65535 ((2 * sum + 2 ^ a) / (2 * 2 ^ a)) ∧
       t.cal.adc = (s.after dt).cal.adc.erase (input, a, 16)) ∧
  (∀ (s : State) (k : Fin 4) (sum dt : Nat), (s.after dt).cal.adc.find? (fun r => adcOf r.1 == k.val) = none →
     exec (.adcConversionDone k sum dt) s = .next (s.pass dt)) ∧
  (∀ (s : State) (code : Fin 65536) (dt : Nat), (s.after dt).cal.vrefAt + secTicks 10 ≤ (s.after dt).now →
     Runs (.vrefCheck code dt) s fun t => Frame [CAL_VREF, CAL_STS, CAL_EVT] [.cal, .out] (s.after dt) t ∧
       t.rd CAL_VREF = BitVec.ofNat 32 code.val ∧ t.cal.vrefAt = (s.after dt).now ∧
       (t.get CAL_STS CAL_STS.VREF_BAD = 1 ↔ code.val < 30840 ∨ 32099 < code.val) ∧
       ((code.val < 30840 ∨ 32099 < code.val) → t.get CAL_EVT CAL_EVT.VREF_BAD = 1)) ∧
  (∀ (s : State) (codes : List (Nat × Nat)) (dt : Nat), (s.after dt).calTick = (s.after dt).cal.evalK →
     exec (.trimEvaluation codes dt) s = .next (s.pass dt)) ∧
  (∀ (s : State) (codes : List (Nat × Nat)) (dt : Nat), (s.after dt).calTick ≠ (s.after dt).cal.evalK → (s.after dt).standby = true →
     exec (.trimEvaluation codes dt) s = .next ((s.pass dt).onDev (fun d =>
       (d.modCal (fun x => { x with evalK := d.calTick })).each d.channels (fun c d =>
         match d.cal.temps.find? (fun p => p.1 == c) with
         | some p => d.calTemp c p.2
         | none => d)))) ∧
  (∀ (s : State) (codes : List (Nat × Nat)) (c code dt : Nat), (s.after dt).calTick ≠ (s.after dt).cal.evalK →
     (s.after dt).standby = false → (s.after dt).activeOfPair = false → (s.after dt).channels = [c] →
     (s.after dt).get (HC_CAL_TCFG c) HC_CAL_TCFG.TSRC = 2 → (s.after dt).get (HC_CAL_TCFG c) HC_CAL_TCFG.EVAL_EN = 1 →
     codes.find? (fun p => p.1 == c) = some (c, code) → (s.after dt).calOn c = false →
     exec (.trimEvaluation codes dt) s = .next ((s.pass dt).onDev (fun d =>
       (((d.modCal (fun x => { x with evalK := d.calTick })).put (HC_CAL_STS c) HC_CAL_STS.FAULT_NOW 0).wrN (HC_CAL_TEMP c)
         (unsignedOf 16 (signedOf 16 (d.get (HC_CAL_TCFG c) HC_CAL_TCFG.FIXED)))).calEval c))) ∧
  (∀ (s : State) (codes : List (Nat × Nat)) (c code dt : Nat), (s.after dt).calTick ≠ (s.after dt).cal.evalK →
     (s.after dt).standby = false → (s.after dt).activeOfPair = false → (s.after dt).channels = [c] →
     (s.after dt).get (HC_CAL_TCFG c) HC_CAL_TCFG.TSRC = 0 →
     codes.find? (fun p => p.1 == c) = some (c, code) → code % 65536 < 656 ∨ 64880 < code % 65536 →
     (s.after dt).bit (HC_CAL_STS c) HC_CAL_STS.FAULT_NOW = false →
     Runs (.trimEvaluation codes dt) s fun t => Frame [HC_CAL_STS c, CAL_EVT] [.cal, .out] (s.after dt) t ∧
       t.get (HC_CAL_STS c) HC_CAL_STS.FAULT_NOW = 1 ∧ t.get (HC_CAL_STS c) HC_CAL_STS.SENSOR = 1 ∧ t.get CAL_EVT CAL_EVT.SENSOR = 1) ∧
  (∀ (s : State) (q : Req) (c : Fin 64) (hi : Fin 256), Allowed s q (HC_CAL_SET_AT_HI c.val) → s.dev.activeOfPair = false →
     s.dev.jobActive = true →
     Runs (.calSetArm q c hi) s fun t => t.get (HC_CAL_STS c.val) HC_CAL_STS.PENDING = 1 ∧
       t.get (HC_CAL_SET_AT_HI c.val) ⟨0, 8⟩ = hi.val ∧ t.rd (HC_CAL_SET c.val) = s.dev.rd (HC_CAL_SET c.val) ∧
       t.hcs = s.dev.hcs ∧ t.cal = s.dev.cal) ∧
  (∀ (s : State) (q : Req) (c : Fin 64) (hi : Fin 256), Allowed s q (HC_CAL_SET_AT_HI c.val) → s.dev.activeOfPair = false →
     s.dev.jobActive = false → s.dev.passBusy = false →
     Runs (.calSetArm q c hi) s fun t => t.rdN (HC_CAL_SET c.val) = s.dev.rdN (HC_CAL_SET_NEXT c.val) % 4 ∧
       t.get (HC_CAL_STS c.val) HC_CAL_STS.PENDING = 0 ∧ t.cal = s.dev.cal ∧
       t.get (WAV_REST c.val) WAV_REST.REST_A =
         (s.dev.calSet c.val (s.dev.rdN (HC_CAL_SET_NEXT c.val) % 4)).restA % 16384)

/-- R315 to R319, R322, R330: the calibration procedures and the commit they end in. -/
def Obligations.ProcedureCommandsComplete : Prop :=
  (∀ (s : State) (q : Req) (c : Fin 64) (outputs : Fin 4) (bandgap : Fin 65536) (set : Fin 4) (gate : Fin 2), Allowed s q CAL_CMD →
     s.dev.cal.proc ≠ none →
     ∀ i ∈ [Instr.daccal q c outputs bandgap, .classcal q c gate bandgap, .tpoint q c set gate bandgap, .loadset q c set bandgap,
       .storeset q c set bandgap],
     Runs i s fun t => Frame [CAL_EVT, CAL_RESULT] [.host, .out] s.dev t ∧ t.get CAL_EVT CAL_EVT.REFUSED = 1 ∧
       t.rd CAL_RESULT = BitVec.ofNat 32 (2 ^ 24 + 2 ^ 20)) ∧
  (∀ (s : State) (q : Req) (c : Fin 64) (outputs : Fin 4) (bandgap : Fin 65536), Allowed s q CAL_CMD → s.dev.cal.proc = none →
     c.val < s.dev.hcCount → outputs.val ≠ 0 → s.dev.bit FIR_STS FIR_STS.INH_NOW = false → 30840 ≤ bandgap.val →
     bandgap.val ≤ 32099 → s.dev.hasChannel c.val = true → s.dev.lvrUp c.val = true → s.dev.jobActive = false →
     s.dev.passBusy = false →
     Runs (.daccal q c outputs bandgap) s fun t =>
       Frame [CAL_STS, CAL_VREF, WAV_TRIM_A c.val, WAV_TRIM_B c.val] [.cal, .hcs, .host, .out] s.dev t ∧
       t.get CAL_STS CAL_STS.STATE = 1 ∧ t.get CAL_STS CAL_STS.STEP = 2 ∧ t.get CAL_STS CAL_STS.OP = 1 ∧
       t.rd CAL_VREF = BitVec.ofNat 32 bandgap.val ∧ (∃ p, t.cal.proc = some p ∧ p.op = 1 ∧ p.chan = c.val) ∧
       low12 (t.rd (if outputs.val = 2 then WAV_TRIM_B c.val else WAV_TRIM_A c.val)) = 0 ∧
       high12 (t.rd (if outputs.val = 2 then WAV_TRIM_B c.val else WAV_TRIM_A c.val)) = 0) ∧
  (∀ (s : State) (q : Req) (c : Fin 64) (gate : Fin 2) (bandgap : Fin 65536), Allowed s q CAL_CMD → s.dev.cal.proc = none →
     c.val < s.dev.hcCount → s.dev.bit FIR_STS FIR_STS.INH_NOW = false → 30840 ≤ bandgap.val → bandgap.val ≤ 32099 →
     s.dev.hasChannel c.val = true → s.dev.lvrUp c.val = true → s.dev.jobActive = false → s.dev.passBusy = false →
     ((((s.granted q).put CAL_STS CAL_STS.OP 2).put CAL_STS CAL_STS.CHANNEL c.val).vrefCode bandgap.val).gateReason gate.val c.val
       (s.dev.nozzles c.val) = 0 → 0 < s.dev.nozzles c.val →
     Runs (.classcal q c gate bandgap) s fun t =>
       t.get CAL_STS CAL_STS.STATE = 1 ∧ t.get CAL_STS CAL_STS.STEP = 3 ∧ t.get CAL_STS CAL_STS.OP = 2 ∧
       (∃ p, t.cal.proc = some p ∧ p.op = 2 ∧ p.chan = c.val ∧ p.stage = 2) ∧ (t.gateSt gate.val).run = true ∧
       t.get (FIR_GATE_STS gate.val) FIR_GATE_STS.STATE = 1 ∧ t.ras = s.dev.ras ∧ t.pac = s.dev.pac ∧ t.time = s.dev.time) ∧
  (∀ (s : State) (q : Req) (c : Fin 64) (set : Fin 4) (gate : Fin 2) (bandgap : Fin 65536), Allowed s q CAL_CMD →
     s.dev.cal.proc = none → c.val < s.dev.hcCount → s.dev.bit FIR_STS FIR_STS.INH_NOW = false → 30840 ≤ bandgap.val →
     bandgap.val ≤ 32099 → s.dev.hasChannel c.val = true → s.dev.lvrUp c.val = true → s.dev.jobActive = false →
     s.dev.passBusy = false →
     ((((s.granted q).put CAL_STS CAL_STS.OP 3).put CAL_STS CAL_STS.CHANNEL c.val).vrefCode bandgap.val).gateReason gate.val c.val
       (s.dev.nozzles c.val) = 0 →
     Runs (.tpoint q c set gate bandgap) s fun t =>
       Frame [CAL_STS, CAL_VREF] [.cal, .host, .out] s.dev t ∧
       t.get CAL_STS CAL_STS.STATE = 1 ∧ t.get CAL_STS CAL_STS.STEP = 2 ∧ t.get CAL_STS CAL_STS.OP = 3 ∧
       (∃ p, t.cal.proc = some p ∧ p.op = 3 ∧ p.chan = c.val ∧ p.set = set.val ∧ p.gate = gate.val ∧
         p.trimA = s.dev.rd (WAV_TRIM_A c.val) ∧ p.trimB = s.dev.rd (WAV_TRIM_B c.val))) ∧
  (∀ (s : State) (q : Req) (c : Fin 64) (set : Fin 4) (bandgap : Fin 65536), Allowed s q CAL_CMD → s.dev.cal.proc = none →
     c.val < s.dev.hcCount → 30840 ≤ bandgap.val → bandgap.val ≤ 32099 →
     Runs (.loadset q c set bandgap) s fun t =>
       Frame ([CAL_STS, CAL_VREF, CAL_EVT, CAL_STAGE_HDR, CAL_STAGE_REST] ++ (List.range 8).map CAL_STAGE_T ++
         (List.range 8).map CAL_STAGE_G ++ (List.range 8).map CAL_STAGE_O) [.cal, .host, .out] s.dev t ∧
       t.get CAL_STS CAL_STS.STATE = 2 ∧ t.get CAL_STS CAL_STS.OP = 4 ∧ t.get CAL_EVT CAL_EVT.DONE = 1 ∧ t.cal.sets = s.dev.cal.sets ∧
       t.get CAL_STAGE_HDR CAL_STAGE_HDR.TREF = (s.dev.calSet c.val set.val).tref % 65536 ∧
       t.get CAL_STAGE_HDR CAL_STAGE_HDR.NPTS = (s.dev.calSet c.val set.val).pts.length % 16) ∧
  (∀ (s : State) (q : Req) (c : Fin 64) (set : Fin 4) (bandgap : Fin 65536) (i : Nat), Allowed s q CAL_CMD → s.dev.cal.proc = none →
     c.val < s.dev.hcCount → 30840 ≤ bandgap.val → bandgap.val ≤ 32099 → s.dev.jobActive = false → s.dev.passBusy = false →
     setFault s.dev.stagedSet = some i →
     Runs (.storeset q c set bandgap) s fun t => Frame [CAL_STS, CAL_VREF, CAL_EVT, CAL_RESULT] [.cal, .host, .out] s.dev t ∧
       t.get CAL_STS CAL_STS.STATE = 5 ∧ t.get CAL_EVT CAL_EVT.REFUSED = 1 ∧ t.rdN CAL_RESULT / 2 ^ 24 = 15 ∧ t.cal.proc = none ∧
       t.cal.commits = s.dev.cal.commits) ∧
  (∀ (s : State) (q : Req) (c : Fin 64) (set : Fin 4) (bandgap : Fin 65536), Allowed s q CAL_CMD → s.dev.cal.proc = none →
     c.val < s.dev.hcCount → 30840 ≤ bandgap.val → bandgap.val ≤ 32099 → s.dev.jobActive = false → s.dev.passBusy = false →
     setFault s.dev.stagedSet = none →
     Runs (.storeset q c set bandgap) s fun t => Frame [CAL_STS, CAL_VREF, KEEL_EVT] [.cal, .host, .out] s.dev t ∧
       t.get CAL_STS CAL_STS.STATE = 1 ∧ (∃ p, t.cal.proc = some p ∧ p.op = 5 ∧ p.stage = 3 ∧ p.newSet = some s.dev.stagedSet) ∧
       (∃ r ∈ t.cal.commits, r.rid = 0x10 + c.val ∧ r.body = channelBody (s.dev.liveTcfg c.val)
         (s.dev.setsWith c.val set.val s.dev.stagedSet) (s.dev.classWords c.val)) ∧ t.cal.keel = s.dev.cal.keel) ∧
  (∀ (s : State) (q : Req) (p : CalProc), Allowed s q CAL_CMD → s.dev.cal.proc = some p → p.op = 1 ∨ p.op = 3 → p.stage = 1 →
     Runs (.calAbort q) s fun t =>
       Frame [CAL_STS, CAL_EVT, CAL_RESULT, WAV_TRIM_A p.chan, WAV_TRIM_B p.chan] [.cal, .hcs, .host, .out] s.dev t ∧
       t.cal.proc = none ∧ t.get CAL_STS CAL_STS.STATE = 4 ∧ t.rdN CAL_RESULT / 2 ^ 24 = 18 ∧ t.get CAL_EVT CAL_EVT.ABORTED = 1 ∧
       low12 (t.rd (WAV_TRIM_A p.chan)) = low12 p.trimA ∧ high12 (t.rd (WAV_TRIM_A p.chan)) = high12 p.trimA ∧
       low12 (t.rd (WAV_TRIM_B p.chan)) = low12 p.trimB ∧ high12 (t.rd (WAV_TRIM_B p.chan)) = high12 p.trimB) ∧
  (∀ (s : State) (meas : List Int) (dt : Nat), (s.after dt).cal.proc = none → exec (.procedureEnd meas dt) s = .next (s.pass dt)) ∧
  (∀ (s : State) (p : CalProc) (o : Nat) (rest : List Nat) (m : Int) (meas : List Int) (dt : Nat), (s.after dt).cal.proc = some p →
     p.stage = 1 → p.op = 1 → p.todo = o :: rest → dacResult meas = .gain m →
     Runs (.procedureEnd meas dt) s fun t => t.cal.proc = none ∧ t.get CAL_STS CAL_STS.STATE = 3 ∧ t.get CAL_EVT CAL_EVT.FAILED = 1 ∧
       t.rdN CAL_RESULT / 2 ^ 24 = 7 ∧ t.cal.keel = (s.after dt).cal.keel ∧ t.cal.commits = (s.after dt).cal.commits) ∧
  (∀ (s : State) (p : CalProc) (o : Nat) (w : Word) (meas : List Int) (dt : Nat), (s.after dt).cal.proc = some p →
     p.stage = 1 → p.op = 1 → p.todo = [o] → p.dac = [] → dacResult meas = .ok w →
     exec (.procedureEnd meas dt) s = .next ((s.pass dt).onDev (fun d =>
       d.calCommit { p with todo := [], dac := [(2 * p.chan + o, w)] } 7
         (dacBody ((List.range 128).map (fun j => if j = 2 * p.chan + o then w else d.rd (CAL_DAC j))) p.vref)))) ∧
  (∀ (s : State) (p : CalProc) (meas : List Int) (dt : Nat), (s.after dt).cal.proc = some p → p.stage = 3 → p.committed = some false →
     5 ≤ p.op →
     Runs (.procedureEnd meas dt) s fun t => Frame [CAL_STS, CAL_EVT, CAL_RESULT] [.cal, .out] (s.after dt) t ∧ t.cal.proc = none ∧
       t.get CAL_STS CAL_STS.STATE = 3 ∧ t.rdN CAL_RESULT / 2 ^ 24 = 17 ∧ t.cal.sets = (s.after dt).cal.sets) ∧
  (∀ (s : State) (p : CalProc) (x : CalSet) (meas : List Int) (dt : Nat), (s.after dt).cal.proc = some p → p.stage = 3 →
     p.committed = some true → p.op = 5 → p.newSet = some x →
     Runs (.procedureEnd meas dt) s fun t => Frame [CAL_STS, CAL_EVT] [.cal, .out] (s.after dt) t ∧ t.cal.proc = none ∧
       t.get CAL_STS CAL_STS.STATE = 2 ∧ t.get CAL_EVT CAL_EVT.DONE = 1 ∧ t.calSet p.chan p.set = x) ∧
  (∀ (s : State) (ok : Bool) (dt : Nat), (s.after dt).nextCommit = none → exec (.keelCommit ok dt) s = .next (s.pass dt)) ∧
  (∀ (s : State) (r : KeelReq) (ok : Bool) (dt : Nat), (s.after dt).nextCommit = some r → (s.after dt).activeOfPair = false →
     (s.after dt).cal.proc = none →
     Runs (.keelCommit ok dt) s fun t => Frame [KEEL_COMMITS, KEEL_EVT] [.cal, .out] (s.after dt) t ∧
       t.cal.commits = (s.after dt).cal.commits.erase r ∧ t.lastCommit r.rid = some (s.after dt).now ∧
       t.cal.keel = ((s.after dt).keelWrite r.rid r.body ok).cal.keel)

/-- R274, R324, R325, R328, R329: the Keel store. -/
def Obligations.KeelCommandsComplete : Prop :=
  (∀ (s : State) (dt : Nat), (s.after dt).nh.recordNow = false → (s.after dt).nh.recordDue = false →
     exec (.nozzleRecordWrite dt) s = .next (s.pass dt)) ∧
  (∀ (s : State) (dt : Nat), (s.after dt).nh.recordNow = true → (s.after dt).keptNozzles.length ≤ 8192 →
     Runs (.nozzleRecordWrite dt) s fun t => Frame [KEEL_EVT] [.nh, .cal, .out] (s.after dt) t ∧ t.nh.recordNow = false ∧
       t.nh.recordDue = false ∧ t.nh.recordAt = (s.after dt).now ∧
       ∃ r ∈ t.cal.commits, r.rid = 0x60 ∧ leField r.body 0 2 = (s.after dt).keptNozzles.length ∧
         r.body.length = 4 + 4 * (s.after dt).keptNozzles.length) ∧
  (∀ (s : State) (rid : Fin 256) (u dt : Nat), (s.after dt).lastCommit rid.val = some u → u + secTicks 1 ≤ (s.after dt).now →
     (s.after dt).pwr.uvWarn = false → (s.after dt).test.mramRun = false →
     (∀ r ∈ (s.after dt).cal.commits, r.rid = rid.val → r.deferred = true) →
     Runs (.keelDeferEnd rid dt) s fun t => Frame [] [.cal] (s.after dt) t ∧ t.cal.keel = (s.after dt).cal.keel ∧
       (∀ r ∈ t.cal.commits, r.rid = rid.val → r.deferred = false) ∧ t.cal.commits.length = (s.after dt).cal.commits.length) ∧
  (∀ (s : State) (rid : Fin 256) (u dt : Nat), (s.after dt).lastCommit rid.val = some u → (s.after dt).now < u + secTicks 1 →
     exec (.keelDeferEnd rid dt) s = .next (s.pass dt)) ∧
  (∀ (s : State) (dt : Nat), (s.after dt).now < (s.after dt).cal.deviceAt + secTicks 3600 →
     exec (.deviceRecordCommit dt) s = .next (s.pass dt)) ∧
  (∀ (s : State) (dt : Nat), (s.after dt).cal.deviceAt + secTicks 3600 ≤ (s.after dt).now →
     Runs (.deviceRecordCommit dt) s fun t => Frame [KEEL_EVT] [.cal, .out] (s.after dt) t ∧
       t.cal.device.getD 1 0 = ((s.after dt).cal.device.getD 1 0 + 1) % 2 ^ 32 ∧
       t.cal.device.getD 0 0 = (s.after dt).cal.device.getD 0 0 ∧ t.cal.deviceAt = (s.after dt).now ∧
       ∃ r ∈ t.cal.commits, r.rid = 1 ∧ r.body = t.cal.device.flatMap (leBytes 4)) ∧
  (∀ (s : State) (q : Req) (slot : Fin 4) (confirm : Fin 65536), Allowed s q KEEL_KEY_CMD → q.port.val ≠ 6 →
     (q.port.val ≠ 5 ∨ s.dev.isHolder q = false) → ∀ i ∈ [Instr.keyProgram q slot confirm, .keyRevoke q slot confirm],
     Runs i s fun t => t.cal = s.dev.cal ∧ (∀ a, t.rd a = s.dev.rd a) ∧
       ∃ n, t.lastOut = some (.access q.port.val (Status.code .access) n)) ∧
  (∀ (s : State) (q : Req) (slot : Fin 4) (confirm : Fin 65536), Allowed s q KEEL_KEY_CMD → q.port.val = 6 → confirm.val ≠ 0x4B59 →
     ∀ i ∈ [Instr.keyProgram q slot confirm, .keyRevoke q slot confirm],
     Runs i s fun t => Frame [KEEL_EVT] [.host, .out] s.dev t ∧ t.get KEEL_EVT KEEL_EVT.KEYREJ = 1) ∧
  (∀ (s : State) (q : Req) (slot : Fin 4), Allowed s q KEEL_KEY_CMD → q.port.val = 6 → s.dev.keyState slot.val = 0 →
     Runs (.keyProgram q slot 0x4B59) s fun t => Frame [KEEL_EVT] [.cal, .host, .out] s.dev t ∧ t.keyState slot.val = 1 ∧
       t.get KEEL_EVT KEEL_EVT.KEYPROG = 1 ∧
       t.keyOfSlot slot.val = (List.range 8).flatMap (fun j => leBytes 4 (s.dev.rdN (KEEL_KEY_DATA j)))) ∧
  (∀ (s : State) (q : Req) (slot : Fin 4), Allowed s q KEEL_KEY_CMD → q.port.val = 6 → s.dev.keyState slot.val = 1 →
     Runs (.keyRevoke q slot 0x4B59) s fun t => Frame [KEEL_EVT] [.cal, .host, .out] s.dev t ∧ t.keyState slot.val = 2 ∧
       t.get KEEL_EVT KEEL_EVT.KEYPROG = 1 ∧ t.keyOfSlot slot.val = s.dev.keyOfSlot slot.val)

/-- R280 to R284, R286: lines and pixels. Each needs the pixel island. -/
def Obligations.CameraLineCommandsComplete : Prop :=
  (∀ (s : State) (n : Fin 4) (dt : Nat), (s.after dt).islUp 5 = true → (s.after dt).camOn n.val = true → (s.after dt).framing n.val = 0 →
     (s.after dt).gridPos n.val ((s.after dt).cam n.val).nextY ≤ (s.after dt).P →
     (∀ t, ((s.after dt).cam n.val).lastTrig = some t → t + (s.after dt).get (CAM_LTRIG n.val) CAM_LTRIG.LT_MIN ≤ (s.after dt).now) →
     ((s.after dt).cam n.val).nextY % (s.after dt).camLines n.val ≠ 0 → ((s.after dt).cam n.val).trigs.length < 4 →
     Runs (.ltrig n dt) s fun t => Frame [] [.cams, .out] (s.after dt) t ∧
       (t.cam n.val).nextY = ((s.after dt).cam n.val).nextY + 1 ∧ (t.cam n.val).lastTrig = some (s.after dt).now ∧
       (t.cam n.val).trigs = ((s.after dt).cam n.val).trigs ++
         [(((s.after dt).cam n.val).epoch, (((s.after dt).cam n.val).nextY : Int), (s.after dt).now)] ∧
       (t.cam n.val).frames = ((s.after dt).cam n.val).frames ∧
       (t.cam n.val).pulseEnd = some ((s.after dt).now + (((s.after dt).cam n.val).set.getD 0 0).fld CAM_PULSE.LT_W)) ∧
  (∀ (s : State) (n : Fin 4) (u dt : Nat), (s.after dt).islUp 5 = true → (s.after dt).camOn n.val = true →
     (s.after dt).framing n.val = 0 → (s.after dt).gridPos n.val ((s.after dt).cam n.val).nextY ≤ (s.after dt).P →
     ((s.after dt).cam n.val).lastTrig = some u →
     (s.after dt).now < u + (s.after dt).get (CAM_LTRIG n.val) CAM_LTRIG.LT_MIN →
     2 * ((s.after dt).P - (s.after dt).gridPos n.val ((s.after dt).cam n.val).nextY) < (s.after dt).clp n.val →
     exec (.ltrig n dt) s = .next (s.pass dt)) ∧
  (∀ (s : State) (n : Fin 4) (u dt : Nat), (s.after dt).islUp 5 = true → (s.after dt).camOn n.val = true →
     (s.after dt).framing n.val = 0 → ((s.after dt).cam n.val).lastTrig = some u →
     (s.after dt).now < u + (s.after dt).get (CAM_LTRIG n.val) CAM_LTRIG.LT_MIN →
     ((s.after dt).clp n.val : Int) ≤ 2 * ((s.after dt).P - (s.after dt).gridPos n.val ((s.after dt).cam n.val).nextY) →
     ((s.after dt).cam n.val).nextY % (s.after dt).camLines n.val ≠ 0 → 0 < (s.after dt).clp n.val →
     Runs (.ltrig n dt) s fun t => t.get (CAM_CNT n.val) CAM_CNT.TRIGSKIP =
         min 65535 ((s.after dt).get (CAM_CNT n.val) CAM_CNT.TRIGSKIP + 1) ∧
       t.get (CAM_EVT n.val) CAM_EVT.TRIGSKIP = 1 ∧ (t.cam n.val).nextY = ((s.after dt).cam n.val).nextY + 1 ∧
       (t.cam n.val).trigs = ((s.after dt).cam n.val).trigs ∧ (t.cam n.val).lastTrig = some u) ∧
  (∀ (s : State) (n : Fin 4) (dt : Nat), ((s.after dt).camOn n.val = false ∨ (s.after dt).framing n.val ≠ 0 ∨
       (s.after dt).P < (s.after dt).gridPos n.val ((s.after dt).cam n.val).nextY) →
     exec (.ltrig n dt) s = .next (s.pass dt)) ∧
  (∀ (s : State) (n : Fin 4) (e : Nat) (y : Int) (u : Nat) (rest : List (Nat × Int × Nat)) (dt : Nat), (s.after dt).islUp 5 = true →
     (s.after dt).camOn n.val = true → (s.after dt).framing n.val = 0 → ((s.after dt).cam n.val).lval = false →
     ((s.after dt).cam n.val).trigs = (e, y, u) :: rest →
     Runs (.lvalRise n dt) s fun t => Frame [] [.cams] (s.after dt) t ∧
       t.cam n.val = { (s.after dt).cam n.val with
         lval := true, cur := some { epoch := e, y := y }, lineAt := (s.after dt).now
         rises := ((s.after dt).cam n.val).rises ++ [(s.after dt).now], trigs := rest }) ∧
  (∀ (s : State) (n : Fin 4) (dt : Nat), (s.after dt).islUp 5 = true → (s.after dt).camOn n.val = true →
     (s.after dt).framing n.val = 0 → ((s.after dt).cam n.val).lval = false → ((s.after dt).cam n.val).trigs = [] →
     Runs (.lvalRise n dt) s fun t => Frame [CAM_CNT n.val, CAM_EVT n.val] [.cams, .out] (s.after dt) t ∧
       t.get (CAM_CNT n.val) CAM_CNT.EXTRA = min 65535 ((s.after dt).get (CAM_CNT n.val) CAM_CNT.EXTRA + 1) ∧
       t.get (CAM_EVT n.val) CAM_EVT.LONG = 1 ∧ (t.cam n.val).cur = none) ∧
  (∀ (s : State) (n : Fin 4) (dt : Nat), (s.after dt).islUp 5 = true →
     ∀ c, ((s.after dt).cam n.val).cur = some c →
     (∀ f ∈ ((s.after dt).cam n.val).frames, f.covers ((s.after dt).camLines n.val) c.epoch c.y = false) →
     Runs (.lvalFall n dt) s fun t => Frame [] [.cams] (s.after dt) t ∧ (t.cam n.val).cur = none ∧ (t.cam n.val).lval = false ∧
       (t.cam n.val).frames = ((s.after dt).cam n.val).frames) ∧
  (∀ (s : State) (n : Fin 4) (f : CamFrame) (c : CamOpen) (dt : Nat), (s.after dt).islUp 5 = true →
     ((s.after dt).cam n.val).cur = some c → ((s.after dt).cam n.val).frames = [f] →
     f.covers ((s.after dt).camLines n.val) c.epoch c.y = true → (s.after dt).framing n.val ≠ 0 →
     (s.after dt).fullSamples n.val ≤ c.taps.length → c.long = false →
     Runs (.lvalFall n dt) s fun t => Frame [] [.cams] (s.after dt) t ∧ (t.cam n.val).cur = none ∧
       (t.cam n.val).frames = [{ f with
         lines := f.lines ++ [⟨(c.y - f.y0).toNat, linePixels ((s.after dt).get (CAM_CFG n.val) CAM_CFG.TAPMODE)
           ((s.after dt).camPixels n.val) c.taps.toArray⟩]
         overrun := f.overrun || c.cut }]) ∧
  (∀ (s : State) (n : Fin 4) (rising lval fval dval full : Bool) (t0 t1 : Fin 4096) (dt : Nat), (s.after dt).islUp 5 = true →
     (s.after dt).camOn n.val = false →
     Runs (.pclkEdge n rising lval fval dval t0 t1 full dt) s fun t => Frame [CAM_STS n.val] [.cams] (s.after dt) t ∧
       t.get (CAM_STS n.val) CAM_STS.PCLK_OK = 1 ∧ t.cam n.val = { (s.after dt).cam n.val with pclkAt := (s.after dt).now }) ∧
  (∀ (s : State) (n : Fin 4) (t0 t1 : Fin 4096) (full : Bool) (c : CamOpen) (dt : Nat), (s.after dt).islUp 5 = true →
     (s.after dt).camOn n.val = true → ((s.after dt).cam n.val).lval = true → ((s.after dt).cam n.val).fval = true →
     ((s.after dt).cam n.val).cur = some c → c.cut = false → c.taps.length < (s.after dt).fullSamples n.val →
     Runs (.pclkEdge n true true true true t0 t1 full dt) s fun t => Frame [CAM_STS n.val, CAM_EVT n.val] [.cams, .out] (s.after dt) t ∧
       t.get (CAM_STS n.val) CAM_STS.PCLK_OK = 1 ∧
       (t.cam n.val).cur = some (if full then { c with cut := true } else { c with taps := c.taps ++
         [(tapValue ((s.after dt).get (CAM_CFG n.val) CAM_CFG.BITS) t0.val, tapValue ((s.after dt).get (CAM_CFG n.val) CAM_CFG.BITS) t1.val)] }) ∧
       (full = true → t.get (CAM_EVT n.val) CAM_EVT.OVERRUN = 1)) ∧
  (∀ (s : State) (n : Fin 4) (e : Nat) (y : Int) (u : Nat) (rest : List (Nat × Int × Nat)) (dt : Nat),
     ((s.after dt).cam n.val).trigs = (e, y, u) :: rest →
     (s.after dt).now < u + usTicks ((s.after dt).get (CAM_LTRIG n.val) CAM_LTRIG.LINE_TMO) →
     exec (.lineTmo n dt) s = .next (s.pass dt)) ∧
  (∀ (s : State) (n : Fin 4) (e : Nat) (y : Int) (u : Nat) (rest : List (Nat × Int × Nat)) (dt : Nat), (s.after dt).islUp 5 = true →
     ((s.after dt).cam n.val).trigs = (e, y, u) :: rest → (s.after dt).framing n.val ≠ 0 →
     u + usTicks ((s.after dt).get (CAM_LTRIG n.val) CAM_LTRIG.LINE_TMO) ≤ (s.after dt).now →
     Runs (.lineTmo n dt) s fun t => Frame [CAM_EVT n.val] [.cams, .out] (s.after dt) t ∧ (t.cam n.val).trigs = rest ∧
       t.get (CAM_EVT n.val) CAM_EVT.MISSLINE = 1 ∧
       (t.cam n.val).frames = ((s.after dt).cam n.val).frames.map (fun f =>
         if f.covers ((s.after dt).camLines n.val) e y then { f with missing := f.missing + 1 } else f)) ∧
  (∀ (s : State) (n : Fin 4) (u dt : Nat), (s.after dt).islUp 5 = true → ((s.after dt).cam n.val).pulseEnd = some u →
     u ≤ (s.after dt).now →
     Runs (.camPulseEnd n dt) s fun t => Frame [] [.cams, .out] (s.after dt) t ∧
       t.cam n.val = { (s.after dt).cam n.val with pulseEnd := none }) ∧
  (∀ (s : State) (n : Fin 4) (dt : Nat), (∀ u, ((s.after dt).cam n.val).pulseEnd = some u → (s.after dt).now < u) →
     exec (.camPulseEnd n dt) s = .next (s.pass dt)) ∧
  (∀ (s : State) (n : Fin 4) (dt : Nat), (s.after dt).now < ((s.after dt).cam n.val).pclkAt + usTicks 1 →
     exec (.pclkLost n dt) s = .next (s.pass dt)) ∧
  (∀ (s : State) (n : Fin 4) (dt : Nat), (s.after dt).islUp 5 = true → (s.after dt).camOn n.val = true →
     (s.after dt).bit (CAM_STS n.val) CAM_STS.PCLK_OK = true → ((s.after dt).cam n.val).pclkAt + usTicks 1 ≤ (s.after dt).now →
     ((s.after dt).cam n.val).cur = none → ((s.after dt).cam n.val).frames = [] →
     Runs (.pclkLost n dt) s fun t => Frame [CAM_EVT n.val, CAM_STS n.val] [.out] (s.after dt) t ∧
       t.get (CAM_EVT n.val) CAM_EVT.PCLK_LOST = 1 ∧ t.get (CAM_STS n.val) CAM_STS.PCLK_OK = 0)

/-- R282 to R285, R287, R288: frames and settings. -/
def Obligations.CameraFrameCommandsComplete : Prop :=
  (∀ (s : State) (n : Fin 4) (dt : Nat), (s.after dt).islUp 5 = true → (s.after dt).camOn n.val = true →
     (s.after dt).framing n.val = 1 → ((s.after dt).cam n.val).fval = false → ((s.after dt).cam n.val).frames = [] →
     ((s.after dt).cam n.val).commit = none →
     Runs (.fvalRise n dt) s fun t => (t.cam n.val).frames.map (·.num) = [((s.after dt).cam n.val).nextNum] ∧
       (t.cam n.val).nextNum = (((s.after dt).cam n.val).nextNum + 1) % 2 ^ 32 ∧ (t.cam n.val).fval = true ∧
       (t.cam n.val).rises = [] ∧ t.rd (CAM_FRAME n.val) = BitVec.ofNat 32 ((s.after dt).cam n.val).nextNum ∧
       t.ras = (s.after dt).ras ∧ t.pac = (s.after dt).pac ∧ t.hcs = (s.after dt).hcs) ∧
  (∀ (s : State) (n : Fin 4) (dt : Nat), (s.after dt).islUp 5 = true → (s.after dt).framing n.val ≠ 1 →
     Runs (.fvalRise n dt) s fun t => Frame [] [.cams] (s.after dt) t ∧ t.cam n.val = { (s.after dt).cam n.val with fval := true }) ∧
  (∀ (s : State) (n : Fin 4) (f : CamFrame) (dt : Nat), (s.after dt).islUp 5 = true → (s.after dt).camOn n.val = true →
     (s.after dt).framing n.val ≠ 0 → ((s.after dt).cam n.val).cur = none → ((s.after dt).cam n.val).frames = [f] →
     Runs (.fvalFall n dt) s fun t => Frame [CAM_EVT n.val] [.cams, .out] (s.after dt) t ∧ (t.cam n.val).fval = false ∧
       (t.cam n.val).frames = [] ∧ (t.cam n.val).closed = ((s.after dt).cam n.val).closed ++ [f] ∧
       (f.lines.length < (s.after dt).camLines n.val → t.get (CAM_EVT n.val) CAM_EVT.SHORT = 1)) ∧
  (∀ (s : State) (n : Fin 4) (dt : Nat), (s.after dt).islUp 5 = true → (s.after dt).framing n.val = 0 →
     Runs (.fvalFall n dt) s fun t => Frame [] [.cams] (s.after dt) t ∧ t.cam n.val = { (s.after dt).cam n.val with fval := false }) ∧
  (∀ (s : State) (n : Fin 4) (dt : Nat), (s.after dt).islUp 5 = true → (s.after dt).camOn n.val = true →
     (s.after dt).framing n.val = 2 → (s.after dt).startsReached n.val = [] → ((s.after dt).cam n.val).frames = [] →
     ((s.after dt).cam n.val).commit = none →
     ((s.after dt).frameJob n.val (((s.after dt).cam n.val).nextF * (s.after dt).camLines n.val)).isSome = true →
     (s.after dt).gridPos n.val (((s.after dt).cam n.val).nextF * (s.after dt).camLines n.val) ≤ (s.after dt).P →
     Runs (.expose n dt) s fun t => (t.cam n.val).nextF = ((s.after dt).cam n.val).nextF + 1 ∧
       (t.cam n.val).frames.map (·.y0) = [(((s.after dt).cam n.val).nextF * (s.after dt).camLines n.val : Int)] ∧
       (t.cam n.val).pulseEnd = some ((s.after dt).now + 8 * (((s.after dt).cam n.val).set.getD 0 0).fld CAM_PULSE.EXP_W) ∧
       t.ras = (s.after dt).ras ∧ t.pac = (s.after dt).pac ∧ t.hcs = (s.after dt).hcs) ∧
  (∀ (s : State) (n : Fin 4) (dt : Nat), ((s.after dt).camOn n.val = false ∨ (s.after dt).framing n.val ≠ 2) →
     exec (.expose n dt) s = .next (s.pass dt)) ∧
  (∀ (s : State) (n : Fin 4) (dt : Nat), (s.after dt).framing n.val = 0 →
     (s.after dt).now < ((s.after dt).cam n.val).lineAt + msTicks (10 * (s.after dt).get (CAM_CFG n.val) CAM_CFG.FTMO) →
     exec (.ftmo n dt) s = .next (s.pass dt)) ∧
  (∀ (s : State) (n : Fin 4) (f : CamFrame) (dt : Nat), (s.after dt).islUp 5 = true → (s.after dt).framing n.val = 0 →
     (s.after dt).get (CAM_CFG n.val) CAM_CFG.FTMO ≠ 0 →
     ((s.after dt).cam n.val).lineAt + msTicks (10 * (s.after dt).get (CAM_CFG n.val) CAM_CFG.FTMO) ≤ (s.after dt).now →
     ((s.after dt).cam n.val).frames = [f] →
     Runs (.ftmo n dt) s fun t => Frame [CAM_EVT n.val] [.cams, .out] (s.after dt) t ∧ (t.cam n.val).frames = [] ∧
       (t.cam n.val).closed = ((s.after dt).cam n.val).closed ++ [f]) ∧
  (∀ (s : State) (n : Fin 4) (id bits : Nat) (st : Int) (dt : Nat), (s.after dt).islUp 5 = true → (s.after dt).camOn n.val = true →
     (s.after dt).framing n.val = 0 → (s.after dt).startsReached n.val = [(id, bits, st)] → ((s.after dt).cam n.val).frames = [] →
     Runs (.gridRephase n dt) s fun t => Frame [] [.cams] (s.after dt) t ∧ (t.cam n.val).gridS = st ∧
       (t.cam n.val).job = some (id, bits) ∧ (t.cam n.val).epoch = ((s.after dt).cam n.val).epoch + 1 ∧
       (t.cam n.val).sx = 0 ∧ (t.cam n.val).sy = 0 ∧ (t.cam n.val).seen = ((s.after dt).cam n.val).seen + 1) ∧
  (∀ (s : State) (n : Fin 4) (dt : Nat), (s.after dt).startsReached n.val = [] →
     exec (.gridRephase n dt) s = .next (s.pass dt)) ∧
  (∀ (s : State) (q : Req) (n : Fin 4) (v : Word), Allowed s q (CAM_CFG n.val) →
     (s.dev.jobActive = true ∨ s.dev.mapOk n.val = false ∨ s.dev.camPixels n.val % 32 ≠ 0 ∨ s.dev.clp n.val < 64 ∨
       2 ^ 29 < s.dev.ringNeed n.val (v.setFld CAM_CFG.EN 1)) →
     Runs (.camEnable q n v) s fun t => Frame [CAM_EVT n.val] [.host, .out] s.dev t ∧ t.get (CAM_EVT n.val) CAM_EVT.CFG_REJ = 1) ∧
  (∀ (s : State) (q : Req) (n : Fin 4) (v : Word), Allowed s q (CAM_CFG n.val) → s.dev.jobActive = false →
     s.dev.mapOk n.val = true → s.dev.camPixels n.val % 32 = 0 → 64 ≤ s.dev.clp n.val →
     s.dev.ringNeed n.val (v.setFld CAM_CFG.EN 1) ≤ 2 ^ 29 → s.dev.scan = false → s.dev.camOn n.val = false →
     Runs (.camEnable q n v) s fun t => Frame [CAM_CFG n.val] [.cams, .host, .out] s.dev t ∧ t.camOn n.val = true ∧
       (t.cam n.val).frames = [] ∧ (t.cam n.val).trigs = [] ∧ (t.cam n.val).nextNum = 0 ∧ (t.cam n.val).lineAt = s.dev.now ∧
       (t.cam n.val).gridS = s.dev.P - s.dev.camOrigin n.val) ∧
  (∀ (s : State) (q : Req) (mask : BitVec 4), Allowed s q INS_COMMIT → (∀ n < 4, s.dev.camOn n = false) →
     Runs (.insCommit q mask) s fun t => Frame ((List.range 4).map CAM_GEN) [.cams, .host, .out] s.dev t ∧
       ∀ n : Fin 4, if mask.getLsbD n.val then (t.cam n.val).set = s.dev.shadow n.val ∧
           (t.cam n.val).gen = ((s.dev.cam n.val).gen + 1) % 65536 ∧ t.get (CAM_GEN n.val) hiHalf = ((s.dev.cam n.val).gen + 1) % 65536
         else t.cam n.val = s.dev.cam n.val ∧ t.rd (CAM_GEN n.val) = s.dev.rd (CAM_GEN n.val))

/-- R290, R298, R299, R301: the frame record and the panes. -/
def Obligations.InspectionCommandsComplete : Prop :=
  (∀ (s : State) (n : Fin 4) (ue : List Int) (dt : Nat), ((s.after dt).cam n.val).closed = [] →
     exec (.frameRecord n ue dt) s = .next (s.pass dt)) ∧
  (∀ (s : State) (n : Fin 4) (ue : List Int) (f : CamFrame) (rest : List CamFrame) (dt : Nat), (s.after dt).islUp 5 = true →
     ((s.after dt).cam n.val).closed = f :: rest → f.job = none → f.set.getD 7 0 = 0 → f.num < 2 ^ 32 → f.gen < 2 ^ 16 →
     Runs (.frameRecord n ue dt) s fun t =>
       Frame ([CAM_GEN n.val, CAM_EVT n.val] ++ (List.range 20).map (CAM_STAT n.val)) [.cams, .out] (s.after dt) t ∧
       t.cam n.val = { (s.after dt).cam n.val with closed := rest } ∧ t.rd (CAM_STAT n.val 0) = BitVec.ofNat 32 f.num ∧
       t.get (CAM_GEN n.val) loHalf = f.gen ∧ t.get (CAM_EVT n.val) CAM_EVT.FRAME = 1) ∧
  (∀ (s : State) (dt : Nat), ((s.after dt).tethUp = false ∨ (s.after dt).tethVer < 2 ∨ (s.after dt).nextPane = none ∨
       ∃ f ∈ (s.after dt).teth.wait, f.vc = 2) →
     exec (.paneSend dt) s = .next (s.pass dt)) ∧
  (∀ (s : State) (n : Nat) (p : PaneImg) (dt : Nat), (s.after dt).islUp 5 = true → (s.after dt).tethUp = true →
     2 ≤ (s.after dt).tethVer → (∀ f ∈ (s.after dt).teth.wait, f.vc ≠ 2) → (s.after dt).nextPane = some (n, p) → p.sent = 0 →
     p.bytes.length ≤ (s.after dt).teth.maxPay - 16 →
     exec (.paneSend dt) s = .next ((s.pass dt).onDev (fun d =>
       (d.sendFrame 2 0x20 (paneHeader n p true ((d.cam n).gap.contains p.pane) ++ p.bytes)).setCam n { d.cam n with
         gap := (d.cam n).gap.filter (· != p.pane), panes := (d.cam n).panes.erase p })))

/-- R334, R335, R337, R338, R340, R341: the time domains. -/
def Obligations.TimeDomainCommandsComplete : Prop :=
  (∀ (s : State) (q : Req) (dom : Fin 2) (v : Word), Allowed s q (TIM_D_INC_HI dom.val) →
     incMin ≤ (wide (s.dev.lowPart q (TIM_D_INC_LO dom.val)) v) % 2 ^ 36 → (wide (s.dev.lowPart q (TIM_D_INC_LO dom.val)) v) % 2 ^ 36 ≤ incMax →
     Runs (.incWrite q dom v) s fun t =>
       Frame [TIM_D_INC_LO dom.val, TIM_D_INC_HI dom.val, TIM_D_STS dom.val] [.time, .host, .out] s.dev t ∧
       t.domInc dom.val = (wide (s.dev.lowPart q (TIM_D_INC_LO dom.val)) v) % 2 ^ 36 ∧ t.domHold dom.val = false ∧
       t.time = (if dom.val = 0 then { s.dev.time with servo0 := s.dev.now } else { s.dev.time with servo1 := s.dev.now })) ∧
  (∀ (s : State) (q : Req) (dom : Fin 2) (v : Word), Allowed s q (TIM_D_INC_HI dom.val) →
     incMax < (wide (s.dev.lowPart q (TIM_D_INC_LO dom.val)) v) % 2 ^ 36 →
     Runs (.incWrite q dom v) s fun t => t.domInc dom.val = incMax ∧ t.get TIM_EVT TIM_EVT.INCCLAMP = 1) ∧
  (∀ (s : State) (q : Req) (dom : Fin 2), Allowed s q (TIM_D_CMD dom.val) →
     s.dev.get (TIM_D_SET_NS dom.val) TIM_D_SET_NS.NS < 1000000000 →
     Runs (.domainSet q dom) s fun t =>
       t.domTime dom.val = ((s.dev.rdN (TIM_D_SET_SEC_LO dom.val) + 2 ^ 32 * (s.dev.rdN (TIM_D_SET_SEC_HI dom.val) % 65536)) * 1000000000 +
         s.dev.get (TIM_D_SET_NS dom.val) TIM_D_SET_NS.NS) * 2 ^ 32 ∧
       t.domSecond dom.val = t.domTime dom.val ∧ t.domFaulty dom.val = false ∧ t.domHold dom.val = false ∧
       t.time.h = s.dev.time.h ∧ t.time.sel = s.dev.time.sel ∧ t.domTime (1 - dom.val) = s.dev.domTime (1 - dom.val) ∧
       Frame [TIM_D_STS dom.val, TIM_EVT] [.time, .trg, .host, .out] s.dev t) ∧
  (∀ (s : State) (q : Req) (dom : Fin 2), Allowed s q (TIM_D_CMD dom.val) →
     1000000000 ≤ s.dev.get (TIM_D_SET_NS dom.val) TIM_D_SET_NS.NS →
     Runs (.domainSet q dom) s fun t => Frame [TIM_EVT] [.host, .out] s.dev t ∧ t.get TIM_EVT TIM_EVT.CMDREJ = 1) ∧
  (∀ (s : State) (q : Req) (dom : Fin 2), Allowed s q (TIM_D_CMD dom.val) →
     0 ≤ (s.dev.domTime dom.val : Int) + signedOf 32 (s.dev.rdN (TIM_D_ADJ dom.val)) * 2 ^ 32 →
     Runs (.domainStep q dom) s fun t => Frame [TIM_D_STS dom.val, TIM_EVT] [.time, .trg, .host, .out] s.dev t ∧
       (t.domTime dom.val : Int) = s.dev.domTime dom.val + signedOf 32 (s.dev.rdN (TIM_D_ADJ dom.val)) * 2 ^ 32 ∧
       t.domTime (1 - dom.val) = s.dev.domTime (1 - dom.val) ∧ t.time.h = s.dev.time.h ∧
       (dom.val = s.dev.selDom → signedOf 32 (s.dev.rdN (TIM_D_ADJ dom.val)) < 0 → t.get TIM_EVT TIM_EVT.BACKSTEP = 1)) ∧
  (∀ (s : State) (q : Req) (dom : Fin 2), Allowed s q (TIM_D_CMD dom.val) →
     (s.dev.domTime dom.val : Int) + signedOf 32 (s.dev.rdN (TIM_D_ADJ dom.val)) * 2 ^ 32 < 0 →
     Runs (.domainStep q dom) s fun t => Frame [TIM_EVT] [.host, .out] s.dev t ∧ t.get TIM_EVT TIM_EVT.CMDREJ = 1) ∧
  (∀ (s : State) (dom : Fin 2) (e : Int) (dt : Nat), (s.after dt).islUp 6 = true → 0 ≤ e →
     (s.after dt).domTime dom.val = (s.after dt).domSecond dom.val →
     Runs (.cnterr dom e e dt) s fun t => Frame [] [.time] (s.after dt) t ∧
       (t.domTime dom.val : Int) = (s.after dt).domTime dom.val + e ∧ t.domSecond dom.val = t.domTime dom.val) ∧
  (∀ (s : State) (dom : Fin 2) (ea eb : Int) (dt : Nat), (s.after dt).islUp 6 = true →
     (((s.after dt).domTime dom.val : Int) + ea).toNat ≠ (((s.after dt).domSecond dom.val : Int) + eb).toNat →
     dom.val ≠ (s.after dt).selDom →
     Runs (.cnterr dom ea eb dt) s fun t => Frame [TIM_D_STS dom.val, TIM_EVT] [.time, .out] (s.after dt) t ∧
       t.domFaulty dom.val = true ∧ t.get TIM_EVT TIM_EVT.CNTERR = 1 ∧ t.devTime = (s.after dt).devTime) ∧
  (∀ (s : State) (dom : Fin 2) (dt : Nat), (s.after dt).get (TIM_D_CFG dom.val) TIM_D_CFG.SERVO_TMO = 0 →
     exec (.holdover dom dt) s = .next (s.pass dt)) ∧
  (∀ (s : State) (dom : Fin 2) (dt : Nat), (s.after dt).islUp 6 = true → (s.after dt).get (TIM_D_CFG dom.val) TIM_D_CFG.SERVO_TMO ≠ 0 →
     (s.after dt).domHold dom.val = false → dom.val ≠ (s.after dt).selDom →
     (if dom.val = 0 then (s.after dt).time.servo0 else (s.after dt).time.servo1) +
       msTicks ((s.after dt).get (TIM_D_CFG dom.val) TIM_D_CFG.SERVO_TMO) ≤ (s.after dt).now →
     Runs (.holdover dom dt) s fun t => Frame [TIM_D_STS dom.val, TIM_EVT] [.out] (s.after dt) t ∧
       t.domHold dom.val = true ∧ t.get TIM_EVT TIM_EVT.HOLDOVER = 1) ∧
  (∀ (s : State) (q : Req), Allowed s q TIM_CMD → s.dev.domFaulty (1 - s.dev.selDom) = false →
     ((s.dev.domTime s.dev.selDom : Int) + s.dev.time.h - s.dev.domTime (1 - s.dev.selDom)).natAbs < 2 ^ 63 →
     Runs (.timeSwitch q) s fun t => Frame [TIM_EVT] [.time, .host, .out] s.dev t ∧ t.selDom = 1 - s.dev.selDom ∧
       t.devTime = s.dev.devTime ∧ t.time.a0 = s.dev.time.a0 ∧ t.time.a1 = s.dev.time.a1 ∧ t.get TIM_EVT TIM_EVT.SWITCH = 1) ∧
  (∀ (s : State) (q : Req), Allowed s q TIM_CMD → (s.dev.domFaulty (1 - s.dev.selDom) = true ∨
       2 ^ 63 ≤ ((s.dev.domTime s.dev.selDom : Int) + s.dev.time.h - s.dev.domTime (1 - s.dev.selDom)).natAbs) →
     Runs (.timeSwitch q) s fun t => Frame [TIM_EVT] [.host, .out] s.dev t ∧ t.get TIM_EVT TIM_EVT.SWREJ = 1) ∧
  (∀ (s : State) (q : Req), Allowed s q TIM_CMD →
     Runs (.clearH q) s fun t => Frame [TIM_EVT] [.time, .trg, .host, .out] s.dev t ∧ t.time = { s.dev.time with h := 0 } ∧
       (0 < s.dev.time.h → t.get TIM_EVT TIM_EVT.BACKSTEP = 1)) ∧
  (∀ (s : State) (dt : Nat),
     Runs (.slewDone dt) s fun t => Frame [TIM_EVT] [.now, .time] s.dev t ∧ t.now = s.dev.now + dt ∧
       t.time.h.natAbs = s.dev.time.h.natAbs - dt * s.dev.slewStep ∧ (0 ≤ s.dev.time.h → 0 ≤ t.time.h) ∧
       (s.dev.time.h ≤ 0 → t.time.h ≤ 0) ∧
       (s.dev.time.h ≠ 0 → s.dev.time.h.natAbs ≤ dt * s.dev.slewStep → t.get TIM_EVT TIM_EVT.SLEW_DONE = 1))

/-- R342 to R345, R351, R355: Ethernet and captures. -/
def Obligations.EthernetAndCaptureCommandsComplete : Prop :=
  (∀ (s : State) (p : Fin 2) (rf : Bool) (dt : Nat), (s.after dt).islUp 7 = true → (s.after dt).bit (ETH_CFG p.val) ETH_CFG.EN = true →
     (s.after dt).bit (ETH_STS p.val) ETH_STS.LINK = false → (s.after dt).looped 6 p.val = false →
     Runs (.ethLinkUp p rf dt) s fun t => Frame [ETH_STS p.val, ETH_EVT p.val] [.out] (s.after dt) t ∧
       t.get (ETH_STS p.val) ETH_STS.LINK = 1 ∧ t.get (ETH_STS p.val) ETH_STS.PCS_LOCK = 1 ∧
       t.get (ETH_STS p.val) ETH_STS.REMOTE_FAULT = (if rf then 1 else 0) ∧ t.get (ETH_EVT p.val) ETH_EVT.UP = 1) ∧
  (∀ (s : State) (p : Fin 2) (rf : Bool) (dt : Nat), (s.after dt).bit (ETH_STS p.val) ETH_STS.LINK = false →
     exec (.ethLinkDown p rf dt) s = .next (s.pass dt)) ∧
  (∀ (s : State) (p : Fin 2) (rf : Bool) (dt : Nat), (s.after dt).islUp 7 = true → (s.after dt).bit (ETH_STS p.val) ETH_STS.LINK = true →
     Runs (.ethLinkDown p rf dt) s fun t => t.get (ETH_STS p.val) ETH_STS.LINK = 0 ∧ t.get (ETH_STS p.val) ETH_STS.PCS_LOCK = 0 ∧
       t.get (ETH_STS p.val) ETH_STS.REMOTE_FAULT = (if rf then 1 else 0) ∧ t.get (ETH_EVT p.val) ETH_EVT.DOWN = 1 ∧
       (∀ x ∈ t.host.sessions, x.port ≠ 2 + p.val) ∧ t.fir = (s.after dt).fir ∧ t.time = (s.after dt).time) ∧
  (∀ (s : State) (p : Fin 2) (eighth : Int) (frame : List Byte) (dt : Nat), (s.after dt).islUp 7 = true →
     (s.after dt).bit (ETH_STS p.val) ETH_STS.LINK = true → frame.length ≤ 9216 →
     Runs (.ethFrameRx p eighth frame dt) s fun t => Frame [] [.out] (s.after dt) t ∧
       t.lastOut = some (.ethRx p.val ((s.after dt).ethTime p.val (ETH_LAT_RX p.val) eighth) frame)) ∧
  (∀ (s : State) (p : Fin 2) (eighth : Int) (frame : List Byte) (dt : Nat),
     ((s.after dt).bit (ETH_STS p.val) ETH_STS.LINK = false ∨ 9216 < frame.length) →
     exec (.ethFrameRx p eighth frame dt) s = .next (s.pass dt)) ∧
  (∀ (s : State) (p : Fin 2) (eighth : Int) (frame : List Byte) (dt : Nat), (s.after dt).islUp 7 = true →
     (s.after dt).bit (ETH_STS p.val) ETH_STS.LINK = true →
     Runs (.ethFrameTx p eighth none none true frame dt) s fun t => Frame [] [.out] (s.after dt) t ∧
       t.lastOut = some (.eth p.val frame)) ∧
  (∀ (s : State) (p : Fin 2) (eighth : Int) (tag : Nat) (frame : List Byte) (dt : Nat), (s.after dt).islUp 7 = true →
     (s.after dt).bit (ETH_STS p.val) ETH_STS.LINK = true →
     Runs (.ethFrameTx p eighth (some tag) none true frame dt) s fun t =>
       if ((s.after dt).txQueue p.val).length < 16 then
         Frame [] [.txq, .out] (s.after dt) t ∧ t.txQueue p.val = (s.after dt).txQueue p.val ++
           [⟨tag % 65536, (s.after dt).get (ETH_CFG p.val) ETH_CFG.TSDOM, (s.after dt).ethTime p.val (ETH_LAT_TX p.val) eighth⟩]
       else Frame [ETH_EVT p.val, ETH_TXQ_CNT p.val] [.out] (s.after dt) t ∧ t.get (ETH_EVT p.val) ETH_EVT.OVERFLOW = 1) ∧
  (∀ (s : State) (p : Fin 2) (eighth : Int) (tag : Nat) (one : Option (Nat × Nat)) (frame : List Byte) (dt : Nat),
     (s.after dt).islUp 7 = true →
     Runs (.ethFrameTx p eighth (some tag) one false frame dt) s fun t =>
       Frame [ETH_EVT p.val, ETH_TXQ_CNT p.val] [.out] (s.after dt) t ∧ t.get (ETH_EVT p.val) ETH_EVT.TXABORT = 1) ∧
  (∀ (s : State) (q : Req) (p : Fin 2), Allowed s q (ETH_TXQ_CMD p.val) →
     Runs (.txqPop q p) s fun t => Frame [] [.txq, .host, .out] s.dev t ∧ t.txQueue p.val = (s.dev.txQueue p.val).drop 1) ∧
  (∀ (s : State) (q : Req) (p : Fin 2), Allowed s q (ETH_TXQ_CMD p.val) →
     Runs (.txqFlush q p) s fun t => Frame [] [.txq, .host, .out] s.dev t ∧ t.txQueue p.val = [] ∧
       t.txQueue (1 - p.val) = s.dev.txQueue (1 - p.val)) ∧
  (∀ (s : State) (q : Req) (p : Fin 2) (v : Word), Allowed s q (ETH_CFG p.val) →
     exec (.ethCfgWrite q p v) s = .next (s.answered q (ETH_CFG p.val) v (((s.granted q).ethDown p.val).typedWrite (ETH_CFG p.val) v))) ∧
  (∀ (s : State) (q : Req) (n : Fin 16), Allowed s q (CAP_CMD n.val) →
     Runs (.capPop q n) s fun t => Frame [] [.cap, .host, .out] s.dev t ∧ t.capq n.val = (s.dev.capq n.val).drop 1) ∧
  (∀ (s : State) (q : Req) (n : Fin 16), Allowed s q (CAP_CMD n.val) →
     Runs (.capFlush q n) s fun t => Frame [] [.cap, .host, .out] s.dev t ∧ t.capq n.val = [] ∧
       ∀ k, k ≠ n.val → t.capq k = s.dev.capq k)

/-- R346 to R350: the trigger units. -/
def Obligations.TriggerCommandsComplete : Prop :=
  (∀ (s : State) (q : Req) (n : Fin 16), Allowed s q (TRG_CMD n.val) → (s.dev.trgPeriod n.val = 0 ∨ 100 * 2 ^ 32 ≤ s.dev.trgPeriod n.val) →
     s.dev.rdN (TRG_T_NS n.val) < 1000000000 → s.dev.bit (TRG_OUT n.val) TRG_OUT.GPIO_EN = false →
     Runs (.trgArm q n) s fun t => Frame [TRG_STS n.val] [.trg, .host, .out] s.dev t ∧ t.get (TRG_STS n.val) TRG_STS.ARMED = 1 ∧
       (t.trgSt n.val).ahead = decide (s.dev.trgTime n.val < s.dev.trgTarget n.val) ∧ (t.trgSt n.val).windows = []) ∧
  (∀ (s : State) (q : Req) (n : Fin 16), Allowed s q (TRG_CMD n.val) → (1000000000 ≤ s.dev.rdN (TRG_T_NS n.val) ∨
       (s.dev.trgPeriod n.val ≠ 0 ∧ s.dev.trgPeriod n.val < 100 * 2 ^ 32)) →
     Runs (.trgArm q n) s fun t => Frame [TRG_STS n.val] [.host, .out] s.dev t ∧ t.get (TRG_STS n.val) TRG_STS.REFUSED = 1 ∧
       t.get (TRG_STS n.val) TRG_STS.ARMED = s.dev.get (TRG_STS n.val) TRG_STS.ARMED) ∧
  (∀ (s : State) (q : Req) (n : Fin 16), Allowed s q (TRG_CMD n.val) →
     Runs (.trgDisarm q n) s fun t => Frame [TRG_STS n.val] [.host, .out] s.dev t ∧ t.get (TRG_STS n.val) TRG_STS.ARMED = 0) ∧
  (∀ (s : State) (n : Fin 16) (dt : Nat), ((s.after dt).bit (TRG_STS n.val) TRG_STS.ARMED = false ∨
       (s.after dt).trgTime n.val < (s.after dt).trgTarget n.val) →
     exec (.trgOccurrence n dt) s = .next (s.pass dt)) ∧
  (∀ (s : State) (n : Fin 16) (dt : Nat), (s.after dt).islUp 6 = true → (s.after dt).bit (TRG_STS n.val) TRG_STS.ARMED = true →
     (s.after dt).trgTarget n.val ≤ (s.after dt).trgTime n.val → ((s.after dt).trgSt n.val).ahead = true →
     exec (.trgOccurrence n dt) s = .next ((s.pass dt).onDev (fun d =>
       (d.trgExecute n.val (d.trgTarget n.val)).trgNext n.val (d.trgTime n.val) (d.trgTarget n.val)))) ∧
  (∀ (s : State) (n : Fin 16) (dt : Nat), (s.after dt).islUp 6 = true → (s.after dt).bit (TRG_STS n.val) TRG_STS.ARMED = true →
     (s.after dt).trgTarget n.val ≤ (s.after dt).trgTime n.val → ((s.after dt).trgSt n.val).ahead = false →
     ((s.after dt).trgSt n.val).at_ < (s.after dt).now → (s.after dt).bit (TRG_CFG n.val) TRG_CFG.STRICT = true →
     (s.after dt).trgPeriod n.val = 0 → (s.after dt).rdN (TRG_COUNT n.val) = 0 →
     Runs (.trgOccurrence n dt) s fun t => Frame [TRG_STS n.val] [.out] (s.after dt) t ∧ t.get (TRG_STS n.val) TRG_STS.MISSED = 1 ∧
       t.get (TRG_STS n.val) TRG_STS.ARMED = 0 ∧ t.get (TRG_STS n.val) TRG_STS.DONE = 1) ∧
  (∀ (s : State) (n : Fin 16) (e dt : Nat), ((s.after dt).trgSt n.val).pulseEnd = some e → (s.after dt).now < e →
     exec (.trgPulseEnd n dt) s = .next (s.pass dt)) ∧
  (∀ (s : State) (n : Fin 16) (e dt : Nat), (s.after dt).islUp 6 = true → ((s.after dt).trgSt n.val).pulseEnd = some e →
     e ≤ (s.after dt).now →
     Runs (.trgPulseEnd n dt) s fun t => Frame [] [.trg, .out] (s.after dt) t ∧ (t.trgSt n.val).pulseEnd = none ∧
       (((s.after dt).rd TIM_GPIO_DIR).bit ((s.after dt).get (TRG_OUT n.val) TRG_OUT.GPIO) = true →
         ((s.after dt).rd BRD_CFG).bit (16 + (s.after dt).get (TRG_OUT n.val) TRG_OUT.GPIO) = false →
         t.lastOut = some (.gpio ((s.after dt).get (TRG_OUT n.val) TRG_OUT.GPIO)
           (t.gpioLevel ((s.after dt).get (TRG_OUT n.val) TRG_OUT.GPIO)) (s.after dt).now)))

/-- R359 to R361: Sash. (The number of a new session is the model's choice.) -/
def Obligations.SashCommandsComplete : Prop :=
  (∀ (s : State) (r : SashReq), s.dev.sashUp r.port.val = true → s.dev.sashGood 0x01 r = true → r.ver.val ≠ 0 →
     (s.dev.host.sessions.filter (fun x => x.port == r.port.val)).length < sessionMax r.port.val →
     exec (.sashOpen r) s = .next (s.onDev (fun d =>
       (d.modHost (fun y => { y with sessions := y.sessions ++ [⟨r.port.val,
         freeSession ((s.dev.host.sessions.filter (fun x => x.port == r.port.val)).map (·.num)), leNat r.data,
         min r.ver.val ((s.dev.rdN GLB_FEAT / 4096) % 16), none, [], s.dev.now⟩] })).sashSend r.port.val
         (sashReply r 0x01 (min r.ver.val ((s.dev.rdN GLB_FEAT / 4096) % 16))
           (freeSession ((s.dev.host.sessions.filter (fun x => x.port == r.port.val)).map (·.num))) 0 .ok [])))) ∧
  (∀ (s : State) (r : SashReq) (x : Session), s.dev.sashUp r.port.val = true →
     s.dev.host.sessions.find? (fun x => x.port == r.port.val && x.num == r.session.val) = some x → r.ver.val = x.ver →
     x.lastSeq ≠ some r.seq.val → s.dev.sashGood 0x03 r = true →
     exec (.sashKeepalive r) s = .next (s.onDev (fun d =>
       (d.modSession r.port.val x.num (fun y => { y with at_ := d.now })).sashAnswer r (sashReply r 0x03 x.ver x.num 0 .ok [])))) ∧
  (∀ (s : State) (r : SashReq) (x : Session), s.dev.sashUp r.port.val = true →
     s.dev.host.sessions.find? (fun x => x.port == r.port.val && x.num == r.session.val) = some x → r.ver.val = x.ver →
     x.lastSeq ≠ some r.seq.val → s.dev.sashGood 0x02 r = true →
     exec (.sashClose r) s = .next (s.onDev (fun d =>
       ((d.modSession r.port.val x.num (fun y => { y with at_ := d.now })).sashAnswer r
         (sashReply r 0x02 x.ver x.num 0 .ok [])).closeSession r.port.val r.session.val))) ∧
  (∀ (s : State) (r : SashReq) (x : Session) (e d : Dev) (v : Word), s.dev.sashUp r.port.val = true →
     s.dev.host.sessions.find? (fun x => x.port == r.port.val && x.num == r.session.val) = some x → r.ver.val = x.ver →
     x.lastSeq ≠ some r.seq.val → s.dev.sashGood 0x10 r = true → r.count.val = 1 →
     e = s.dev.modSession r.port.val x.num (fun y => { y with at_ := s.dev.now }) →
     e.busRead (sashWho r) r.addr.toNat 32 (e.mayClear (sashWho r)) = (d, .ok, v) →
     exec (.sashRead r) s = .next { s with dev := d.sashAnswer r (sashReply r 0x10 x.ver x.num 1 .ok (leBytes 4 v.toNat)) }) ∧
  (∀ (s u : State) (r : SashReq) (x : Session), s.dev.sashUp r.port.val = true →
     s.dev.host.sessions.find? (fun x => x.port == r.port.val && x.num == r.session.val) = some x → r.ver.val = x.ver →
     x.lastSeq ≠ some r.seq.val → s.dev.sashGood 0x11 r = true → r.count.val = 1 →
     (s.onDev (fun d => d.modSession r.port.val x.num (fun y => { y with at_ := d.now }))).busWrite (sashWho r) r.addr.toNat 32
       (BitVec.ofNat 32 (leNat (r.data.take 4))) = (u, .ok) →
     exec (.sashWrite r) s = .next (u.onDev (·.sashAnswer r (sashReply r 0x11 x.ver x.num 1 .ok [])))) ∧
  (∀ (s : State) (r : SashReq) (x : Session), s.dev.sashUp r.port.val = true →
     s.dev.host.sessions.find? (fun x => x.port == r.port.val && x.num == r.session.val) = some x → r.ver.val = x.ver →
     x.lastSeq ≠ some r.seq.val → s.dev.sashGood 0x12 r = true → s.dev.islUp 3 = true → s.dev.get (MEM_STS 0) MEM_STS.STATE ≠ 0 →
     exec (.sashBlob r) s = .next { s with
       mem := storePut s.mem r.addr.toNat r.data
       dev := (s.dev.modSession r.port.val x.num (fun y => { y with at_ := s.dev.now })).sashAnswer r
         (sashReply r 0x12 x.ver x.num r.count.val .ok []) }) ∧
  (∀ (s : State) (r : SashReq), s.dev.sashUp r.port.val = true →
     s.dev.host.sessions.find? (fun x => x.port == r.port.val && x.num == r.session.val) = none →
     exec (.sashWrite r) s = .next (s.onDev (·.sashSend r.port.val (sashReply r 0x11 r.ver.val r.session.val 0 .session [])))) ∧
  (∀ (s : State) (r : SashReq) (x : Session), s.dev.sashUp r.port.val = true →
     s.dev.host.sessions.find? (fun x => x.port == r.port.val && x.num == r.session.val) = some x → r.ver.val = x.ver →
     x.lastSeq = some r.seq.val →
     exec (.sashWrite r) s = .next (s.onDev (fun d =>
       (d.modSession r.port.val x.num (fun y => { y with at_ := d.now })).sashSend r.port.val x.lastResp)))

/-- R360, R362, R364 to R366: the Latch. -/
def Obligations.LatchCommandsComplete : Prop :=
  (∀ (s : State) (q : Req) (v : Word), Allowed s q OWN_REQ → s.dev.host.holder = none →
     Runs (.latchRequest q v) s fun t => Frame [OWN_EVT] [.host, .out] s.dev t ∧ t.host.holder = some (s.dev.requester q) ∧
       t.host.lease = max 10 (v.toNat % 65536) ∧ t.host.leaseEnd = s.dev.now + msTicks (max 10 (v.toNat % 65536)) ∧
       t.get OWN_EVT OWN_EVT.GRANTED = 1) ∧
  (∀ (s : State) (q : Req) (v : Word) (h : Holder), Allowed s q OWN_REQ → s.dev.host.holder = some h → s.dev.host.foreign = false →
     s.dev.now < s.dev.host.leaseEnd → h.port ≠ q.port.val →
     Runs (.latchRequest q v) s fun t => Frame [OWN_EVT] [.host, .out] s.dev t ∧ t.host.holder = some h ∧
       t.host.waiting = some (s.dev.requester q, max 10 (v.toNat % 65536)) ∧ t.host.leaseEnd = s.dev.host.leaseEnd ∧
       t.get OWN_EVT OWN_EVT.DENIED = 1) ∧
  (∀ (s : State) (q : Req), Allowed s q OWN_CMD → s.dev.isHolder q = true → 0 < s.dev.host.lease →
     Runs (.latchKeep q) s fun t => Frame [] [.host, .out] s.dev t ∧
       t.host = { s.dev.host with leaseEnd := s.dev.now + msTicks s.dev.host.lease }) ∧
  (∀ (s : State) (q : Req), Allowed s q OWN_CMD → s.dev.isHolder q = true → 0 < s.dev.host.lease → s.dev.host.waiting = none →
     Runs (.latchRelease q) s fun t => Frame [OWN_EVT] [.host, .out] s.dev t ∧ t.host.holder = none ∧
       t.get OWN_EVT OWN_EVT.RELEASED = 1) ∧
  (∀ (s : State) (q : Req) (h : Holder) (l : Nat), Allowed s q OWN_CMD → s.dev.isHolder q = true → 0 < s.dev.host.lease →
     s.dev.host.waiting = some (h, l) →
     Runs (.latchRelease q) s fun t => Frame [OWN_EVT] [.host, .out] s.dev t ∧ t.host.holder = some h ∧ t.host.lease = l ∧
       t.host.waiting = none ∧ t.get OWN_EVT OWN_EVT.RELEASED = 1 ∧ t.get OWN_EVT OWN_EVT.GRANTED = 1) ∧
  (∀ (s : State) (q : Req) (port : Fin 8) (session : Fin 256) (client : Fin 65536) (l : Nat), Allowed s q OWN_CMD →
     s.dev.isHolder q = true → 0 < s.dev.host.lease → s.dev.host.waiting = some (⟨port.val, session.val, client.val⟩, l) →
     Runs (.latchHandover q port session client) s fun t => Frame [OWN_EVT] [.host, .out] s.dev t ∧
       t.host.holder = some ⟨port.val, session.val, client.val⟩ ∧ t.host.waiting = none ∧ t.host.lease = l ∧
       t.get OWN_EVT OWN_EVT.HANDED = 1) ∧
  (∀ (s : State) (q : Req) (port : Fin 8) (session : Fin 256) (client : Fin 65536), Allowed s q OWN_CMD → s.dev.isHolder q = false →
     s.dev.now < s.dev.host.leaseEnd →
     Runs (.latchHandover q port session client) s fun t => t.host = s.dev.host ∧
       ∃ w, t.lastOut = some (.access q.port.val (Status.code .latch) w)) ∧
  (∀ (s : State) (q : Req), Allowed s q OWN_CMD → (q.port.val = 5 ∨ q.port.val = 6) →
     Runs (.latchSeize q) s fun t => Frame [OWN_EVT] [.host, .out, .free] s.dev t ∧ t.host.holder = some (s.dev.requester q) ∧
       10 ≤ t.host.lease ∧ t.host.lease ≤ 65535 ∧ t.get OWN_EVT OWN_EVT.SEIZED = 1) ∧
  (∀ (s : State) (q : Req), Allowed s q OWN_CMD → q.port.val < 5 →
     Runs (.latchSeize q) s fun t => t.host.holder = s.dev.host.holder ∧
       ∃ w, t.lastOut = some (.access q.port.val (Status.code .access) w)) ∧
  (∀ (s : State) (h : Holder) (dt : Nat), (s.after dt).host.holder = some h → (s.after dt).host.leaseEnd ≤ (s.after dt).now →
     (s.after dt).host.foreign = false → (s.after dt).host.waiting = none →
     Runs (.latchExpire dt) s fun t => Frame [OWN_EVT] [.host, .out] (s.after dt) t ∧ t.host.holder = none ∧
       t.get OWN_EVT OWN_EVT.EXPIRED = 1) ∧
  (∀ (s : State) (dt : Nat), ((s.after dt).host.holder = none ∨ (s.after dt).now < (s.after dt).host.leaseEnd) →
     exec (.latchExpire dt) s = .next (s.pass dt)) ∧
  (∀ (s : State) (port : Fin 7) (num dt : Nat), (∃ x ∈ (s.after dt).host.sessions, x.port = port.val ∧ x.num = num ∧
       x.at_ + secTicks 5 ≤ (s.after dt).now) → (∀ h, (s.after dt).host.holder = some h → h.port ≠ port.val) →
     Runs (.sessionTimeout port num dt) s fun t => Frame [] [.host] (s.after dt) t ∧
       t.host.sessions = (s.after dt).host.sessions.filter (fun y => !(y.port == port.val && y.num == num)) ∧
       t.host.holder = (s.after dt).host.holder) ∧
  (∀ (s : State) (port : Fin 7) (num dt : Nat), (∀ x ∈ (s.after dt).host.sessions, x.port = port.val → x.num = num →
       (s.after dt).now < x.at_ + secTicks 5) →
     exec (.sessionTimeout port num dt) s = .next (s.pass dt))

/-- R367, R369 to R371, R373: the Hatches. -/
def Obligations.HatchCommandsComplete : Prop :=
  (∀ (s : State) (q : Req) (n : Fin 8) (i : Fin 16) (v : Word), Allowed s { q with urgent := false } (HAT_D n.val i.val) → n.val < 4 →
     q.port.val ≠ 0 → (s.dev.hatch n.val).st = .empty →
     Runs (.hatchWrite q n i v) s fun t => Frame ((List.range 16).map (HAT_D n.val)) [.host, .out] s.dev t ∧
       (t.hatch n.val).st = .filling ∧ (t.hatch n.val).sport = q.port.val ∧ (t.hatch n.val).wrAt = s.dev.now ∧
       ∀ j : Fin 16, t.rd (HAT_D n.val j.val) = if j = i then v else 0) ∧
  (∀ (s : State) (q : Req) (n : Fin 8) (i : Fin 16) (v : Word), Allowed s { q with urgent := false } (HAT_D n.val i.val) → n.val < 4 →
     q.port.val ≠ 0 → (s.dev.hatch n.val).st = .filling → (s.dev.hatch n.val).sport = q.port.val →
     Runs (.hatchWrite q n i v) s fun t => Frame [HAT_D n.val i.val] [.host, .out] s.dev t ∧
       t.hatch n.val = { s.dev.hatch n.val with wrAt := s.dev.now } ∧ t.rd (HAT_D n.val i.val) = v) ∧
  (∀ (s : State) (q : Req) (n : Fin 8) (i : Fin 16) (v : Word), Allowed s { q with urgent := false } (HAT_D n.val i.val) → n.val < 4 →
     q.port.val ≠ 0 → (s.dev.hatch n.val).st = .full →
     Runs (.hatchWrite q n i v) s fun t => Frame [] [.host, .out] s.dev t ∧ t.hatch n.val = s.dev.hatch n.val ∧
       ∃ w, t.lastOut = some (.access q.port.val (Status.code .full) w)) ∧
  (∀ (s : State) (q : Req) (n : Fin 8), Allowed s q (HAT_CTRL n.val) → n.val < 4 → (s.dev.hatch n.val).st = .filling →
     (s.dev.hatch n.val).sport = q.port.val →
     Runs (.hatchGo q n) s fun t => Frame [] [.host, .out] s.dev t ∧ (t.hatch n.val).st = .full ∧ (t.hatch n.val).rxport = 0 ∧
       (t.hatch n.val).goAt = s.dev.now ∧ (t.hatch n.val).sepoch = s.dev.epoch q.port.val ∧
       t.host.logN = s.dev.host.logN + 1) ∧
  (∀ (s : State) (q : Req) (n : Fin 8), Allowed s q (HAT_CTRL n.val) → ((s.dev.hatch n.val).st ≠ .filling ∨
       (s.dev.hatch n.val).sport ≠ q.port.val) →
     Runs (.hatchGo q n) s fun t => Frame [] [.host, .out] s.dev t ∧ t.hatch n.val = s.dev.hatch n.val ∧
       ∃ w, t.lastOut = some (.access q.port.val (Status.code .full) w)) ∧
  (∀ (s : State) (q : Req) (n : Fin 8), Allowed s q (HAT_CTRL n.val) → (s.dev.hatch n.val).st = .full →
     (s.dev.hatch n.val).rxport = q.port.val →
     Runs (.hatchAck q n) s fun t => Frame [] [.host, .out] s.dev t ∧
       t.hatch n.val = { s.dev.hatch n.val with st := .empty, last := 1 } ∧ t.host.logN = s.dev.host.logN + 1) ∧
  (∀ (s : State) (q : Req) (n : Fin 8), Allowed s q (HAT_CTRL n.val) → (s.dev.hatch n.val).st = .full →
     (s.dev.hatch n.val).rxport ≠ q.port.val →
     Runs (.hatchAck q n) s fun t => Frame [] [.host, .out] s.dev t ∧ t.hatch n.val = s.dev.hatch n.val ∧
       ∃ w, t.lastOut = some (.access q.port.val (Status.code .notRx) w)) ∧
  (∀ (s : State) (q : Req) (n : Fin 8) (i : Fin 16) (v : Word), Allowed s { q with urgent := true } (HAT_D n.val i.val) → n.val < 4 →
     q.port.val ≠ 0 → (s.dev.hatch n.val).st = .full → (s.dev.hatch n.val).sport ≠ q.port.val →
     (q.port.val = 6 ∨ s.dev.isHolder q = true) → 0 < s.dev.host.lease →
     Runs (.hatchUrgentWrite q n i v) s fun t =>
       Frame ([HAT_STS n.val] ++ (List.range 16).map (HAT_D n.val)) [.host, .out] s.dev t ∧
       (t.hatch n.val).st = .filling ∧ (t.hatch n.val).sport = q.port.val ∧ (t.hatch n.val).last = 4 ∧
       t.get (HAT_STS n.val) HAT_STS.COLLIDE = 1 ∧ ∀ j : Fin 16, t.rd (HAT_D n.val j.val) = if j = i then v else 0) ∧
  (∀ (s : State) (q : Req) (n : Fin 8) (i : Fin 16) (v : Word), Allowed s { q with urgent := true } (HAT_D n.val i.val) → n.val < 4 →
     q.port.val ≠ 0 → q.port.val ≠ 6 → (s.dev.hatch n.val).st = .full → (s.dev.hatch n.val).sport ≠ q.port.val →
     s.dev.isHolder q = false →
     Runs (.hatchUrgentWrite q n i v) s fun t => Frame [] [.out] s.dev t ∧
       ∃ w, t.lastOut = some (.access q.port.val (Status.code .urgent) w)) ∧
  (∀ (s : State) (n : Fin 8) (dt : Nat), ((s.after dt).hatch n.val).st = .filling →
     ((s.after dt).hatch n.val).wrAt + msTicks 10 ≤ (s.after dt).now →
     Runs (.hatchFillTimeout n dt) s fun t => Frame [] [.host, .out] (s.after dt) t ∧
       t.hatch n.val = { (s.after dt).hatch n.val with st := .empty, last := 3 }) ∧
  (∀ (s : State) (n : Fin 8) (dt : Nat), (((s.after dt).hatch n.val).st ≠ .filling ∨
       (s.after dt).now < ((s.after dt).hatch n.val).wrAt + msTicks 10) →
     exec (.hatchFillTimeout n dt) s = .next (s.pass dt)) ∧
  (∀ (s : State) (q : Req), Allowed s q HAT_CMD → q.port.val ≠ 6 →
     Runs (.hatchReset q) s fun t => Frame ((List.range 8).map CU_STS) [.host, .out] s.dev t ∧
       t.epoch q.port.val = (s.dev.epoch q.port.val + 1) % 256 ∧
       (∀ n : Fin 8, (s.dev.hatch n.val).st = .full → (s.dev.hatch n.val).rxport = q.port.val →
         t.hatch n.val = { s.dev.hatch n.val with st := .empty, last := 2 }) ∧
       (∀ n : Fin 8, (s.dev.hatch n.val).st = .empty → t.hatch n.val = s.dev.hatch n.val))

/-- R382 to R387: the check units. -/
def Obligations.CheckUnitCommandsComplete : Prop :=
  (∀ (s : State) (q : Req) (k : Fin 8), Allowed s q (CU_CMD k.val) → s.dev.cuState k.val = 0 →
     s.dev.rd64 (CU_POLY_LO k.val) (CU_POLY_HI k.val) < 2 ^ cuWidth (s.dev.rd (CU_CFG k.val)) →
     s.dev.rd64 (CU_INIT_LO k.val) (CU_INIT_HI k.val) < 2 ^ cuWidth (s.dev.rd (CU_CFG k.val)) →
     s.dev.rd64 (CU_XOR_LO k.val) (CU_XOR_HI k.val) < 2 ^ cuWidth (s.dev.rd (CU_CFG k.val)) →
     Runs (.cuStart q k) s fun t => Frame [CU_STS k.val, CU_STATE_LO k.val, CU_STATE_HI k.val] [.cu, .host, .out] s.dev t ∧
       t.cuState k.val = 1 ∧ t.get (CU_STS k.val) CU_STS.OWNER = q.port.val ∧
       t.cuReg k.val = s.dev.rd64 (CU_INIT_LO k.val) (CU_INIT_HI k.val) ∧ (t.cuSt k.val).cfg = s.dev.rd (CU_CFG k.val) ∧
       (t.cuSt k.val).poly = s.dev.rd64 (CU_POLY_LO k.val) (CU_POLY_HI k.val)) ∧
  (∀ (s : State) (q : Req) (k : Fin 8), Allowed s q (CU_CMD k.val) →
     (s.dev.cuState k.val = 0 ∨ s.dev.get (CU_STS k.val) CU_STS.OWNER = q.port.val) →
     (s.dev.cuState k.val = 2 ∨ 2 ^ cuWidth (s.dev.rd (CU_CFG k.val)) ≤ s.dev.rd64 (CU_POLY_LO k.val) (CU_POLY_HI k.val)) →
     Runs (.cuStart q k) s fun t => Frame [CU_STS k.val, CHK_EVT] [.host, .out] s.dev t ∧
       t.get (CU_STS k.val) CU_STS.REJ = 1 ∧ t.cuState k.val = s.dev.cuState k.val ∧ (t.rd CHK_EVT).toNat.testBit k.val = true) ∧
  (∀ (s : State) (q : Req) (k : Fin 8) (size : Fin 3) (v : Word), Allowed s q (dinAddr k.val size.val) → s.dev.cuState k.val = 1 →
     s.dev.get (CU_STS k.val) CU_STS.OWNER = q.port.val →
     Runs (.cuDin q k size v) s fun t => Frame [CU_STATE_LO k.val, CU_STATE_HI k.val] [.host, .out] s.dev t ∧
       t.cuReg k.val = crcFeed (s.dev.cuSt k.val).params (s.dev.cuReg k.val)
         (dinBytes (2 ^ size.val) v ((s.dev.cuSt k.val).cfg.fld CU_CFG.ORDER == 1)) % 2 ^ 64) ∧
  (∀ (s : State) (q : Req) (k : Fin 8) (v : Word), Allowed s q (CU_STATE_HI k.val) → s.dev.cuState k.val = 1 →
     s.dev.get (CU_STS k.val) CU_STS.OWNER = q.port.val →
     Runs (.cuStateWrite q k v) s fun t => Frame [CU_STATE_LO k.val, CU_STATE_HI k.val] [.host, .out] s.dev t ∧
       t.cuReg k.val = wide (s.dev.lowPart q (CU_STATE_LO k.val)) v % 2 ^ cuWidth (s.dev.cuSt k.val).cfg) ∧
  (∀ (s : State) (q : Req) (k : Fin 8), Allowed s q (CU_CMD k.val) → s.dev.cuState k.val = 1 →
     s.dev.get (CU_STS k.val) CU_STS.OWNER = q.port.val →
     Runs (.cuGo q k) s fun t =>
       if s.dev.cuLen k.val ≠ 0 ∧ s.dev.cuMode k.val ≠ 0 ∧ inSystem (s.dev.cuAddr k.val) (s.dev.cuLen k.val + s.dev.cuC k.val) = true then
         Frame [CU_STS k.val, CU_BYTES k.val] [.cu, .host, .out] s.dev t ∧ t.cuState k.val = 2 ∧ t.rd (CU_BYTES k.val) = 0 ∧
           t.cuSt k.val = { s.dev.cuSt k.val with goAt := s.dev.now }
       else Frame [CU_STS k.val, CHK_EVT] [.host, .out] s.dev t ∧ t.get (CU_STS k.val) CU_STS.REJ = 1 ∧ t.cuState k.val = 1) ∧
  (∀ (s : State) (k : Fin 8) (dt : Nat), (s.after dt).cuState k.val ≠ 2 → exec (.cuBufferDone k dt) s = .next (s.pass dt)) ∧
  (∀ (s : State) (k : Fin 8) (bs : List Byte) (dt : Nat), (s.after dt).cuState k.val = 2 → (s.after dt).cuMode k.val = 1 →
     (s.after dt).cuRead s.mem k.val ((s.after dt).cuTotal k.val) = (bs, false) →
     ((s.after dt).cuSt k.val).goAt + 4 * bs.length ≤ (s.after dt).now →
     ∃ t, exec (.cuBufferDone k dt) s = .next t ∧ t.pending = s.pending ∧ t.dev.cuState k.val = 3 ∧
       Frame [CU_STS k.val, CU_BYTES k.val, CU_STATE_LO k.val, CU_STATE_HI k.val] [] (s.after dt) t.dev ∧
       t.mem = storePut s.mem ((s.after dt).cuAddr k.val + (s.after dt).cuLen k.val)
         (checkBytes ((s.after dt).cuC k.val) (t.dev.cuResult k.val) (((s.after dt).cuSt k.val).cfg.fld CU_CFG.OUTBE == 1))) ∧
  (∀ (s : State) (q : Req) (k : Fin 8), Allowed s q (CU_CMD k.val) → s.dev.cuState k.val = 2 →
     s.dev.get (CU_STS k.val) CU_STS.OWNER = q.port.val →
     exec (.cuAbort q k) s = .next (s.answered q (CU_CMD k.val) 8
       (((s.granted q).cuFed k.val ((s.granted q).cuRead s.mem k.val ((s.granted q).cuTime k.val)).1).put (CU_STS k.val) CU_STS.STATE 1))) ∧
  (∀ (s : State) (q : Req) (k : Fin 8), Allowed s q (CU_CMD k.val) → (s.dev.cuState k.val = 1 ∨ s.dev.cuState k.val = 3) →
     (s.dev.get (CU_STS k.val) CU_STS.OWNER = q.port.val ∨ q.port.val = 6) →
     Runs (.cuRelease q k) s fun t => Frame [CU_STS k.val] [.host, .out] s.dev t ∧ t.cuState k.val = 0 ∧
       t.get (CU_STS k.val) CU_STS.OWNER = 0)

/-- R368, R369, R375, R377: requests on HT0 to HT2. -/
def Obligations.FirmwareMessageCommandsComplete : Prop :=
  (∀ (s : State) (n : Fin 4) (ws : List Word) (dt : Nat), n.val < 3 → (s.after dt).fwMessage n.val = some ws → msgVer ws = 1 →
     msgType ws = 1 →
     exec (.ping n dt) s = .next ((s.pass dt).onDev (fun d =>
       (d.hatchEmpty n.val 1).fwReply n.val (d.hatch n.val).sport (msgTag ws) .ok [Config.firmwareVersion]))) ∧
  (∀ (s : State) (n : Fin 4) (ws : List Word) (b : List Byte) (dt : Nat), n.val < 3 → (s.after dt).fwMessage n.val = some ws →
     msgVer ws = 1 → msgType ws = 2 → (s.after dt).keelBody (msgWord ws 1 % 256) = some b →
     exec (.keelRead n dt) s = .next ((s.pass dt).onDev (fun d =>
       (d.hatchEmpty n.val 1).fwReply n.val (d.hatch n.val).sport (msgTag ws) .ok
         (BitVec.ofNat 32 ((b.drop (msgWord ws 2)).take 52).length :: bytesToWords 13 ((b.drop (msgWord ws 2)).take 52))))) ∧
  (∀ (s : State) (n : Fin 4) (ws : List Word) (dt : Nat), n.val < 3 → (s.after dt).fwMessage n.val = some ws →
     msgVer ws = 1 → msgType ws = 2 → (s.after dt).keelBody (msgWord ws 1 % 256) = none →
     exec (.keelRead n dt) s = .next ((s.pass dt).onDev (fun d =>
       (d.hatchEmpty n.val 1).fwReply n.val (d.hatch n.val).sport (msgTag ws) .notFound []))) ∧
  (∀ (s : State) (n : Fin 4) (ws : List Word) (dt : Nat), n.val < 3 → (s.after dt).fwMessage n.val = some ws →
     msgVer ws = 1 → msgType ws = 3 → msgWord ws 1 < 65536 → msgWord ws 1 < (s.after dt).host.logN →
     exec (.logRead n dt) s = .next ((s.pass dt).onDev (fun d =>
       (d.hatchEmpty n.val 1).fwReply n.val (d.hatch n.val).sport (msgTag ws) .ok
         (tget emptyLog (d.hatchEmpty n.val 1).host.log (msgWord ws 1)).words14))) ∧
  (∀ (s : State) (n : Fin 4) (ws : List Word) (dt : Nat), n.val < 3 → (s.after dt).fwMessage n.val = some ws →
     msgVer ws = 1 → msgType ws = 4 → msgWord ws 1 / 2 ^ 24 ≤ 14 → msgWord ws 1 / 2 ^ 16 % 256 + msgWord ws 1 / 2 ^ 24 ≤ 64 →
     msgWord ws 1 / 2 ^ 16 % 256 ≤ (s.after dt).host.telem.addrs.length →
     exec (.telemSet n dt) s = .next ((s.pass dt).onDev (fun d =>
       ((d.hatchEmpty n.val 1).modHost (fun x => { x with telem := { x.telem with
         period := msgWord ws 1 % 65536
         addrs := d.host.telem.addrs.take (msgWord ws 1 / 2 ^ 16 % 256) ++
           (List.range (msgWord ws 1 / 2 ^ 24)).map (fun i => msgWord ws (2 + i))
         at_ := d.now } })).fwReply n.val (d.hatch n.val).sport (msgTag ws) .ok []))) ∧
  (∀ (s : State) (n : Fin 4) (ws : List Word) (dt : Nat), n.val < 3 → (s.after dt).fwMessage n.val = some ws →
     msgVer ws = 1 → msgType ws = 5 → msgWord ws 1 / 2 % 4 ≠ 3 → (s.after dt).cxState (msgWord ws 1 % 2) ≠ 1 →
     exec (.cxAssign n dt) s = .next ((s.pass dt).onDev (fun d =>
       ((((d.hatchEmpty n.val 1).setCx (msgWord ws 1 % 2) { d.cxSt (msgWord ws 1 % 2) with use := msgWord ws 1 / 2 % 4 }).put
         (CMP_CX_STS (msgWord ws 1 % 2)) CMP_CX_STS.ASSIGNED (if msgWord ws 1 / 2 % 4 = 0 then 0 else 1)).fwReply n.val
           (d.hatch n.val).sport (msgTag ws) .ok [])))) ∧
  (∀ (s : State) (n : Fin 4) (ws : List Word) (bs : List Byte) (dt : Nat), n.val < 3 → (s.after dt).fwMessage n.val = some ws →
     msgVer ws = 1 → msgType ws = 6 → inStaging (msgWord ws 1) (msgWord ws 2) = true → (s.after dt).objResult ≠ 1 →
     (s.after dt).objResult ≠ 2 → storeRead ((s.after dt).hatchEmpty n.val 1) s.mem (msgWord ws 1) (msgWord ws 2) = (bs, false) →
     (objectDecode bs).done = true →
     exec (.objLoad n dt) s = .next ((s.pass dt).onDev (fun d =>
       ((d.hatchEmpty n.val 1).modHost (fun x => { x with lastObj := some (objectDecode bs).out })).fwReply n.val
         (d.hatch n.val).sport (msgTag ws) .ok [BitVec.ofNat 32 (objectDecode bs).count]))) ∧
  (∀ (s : State) (n : Fin 4) (ws : List Word) (img : List Byte) (entryOk : Bool) (k : Kite) (dt : Nat), n.val < 3 →
     (s.after dt).fwMessage n.val = some ws → msgVer ws = 1 → msgType ws = 7 →
     msgWord ws 1 % 2 ≠ (s.after dt).get PWR_STS PWR_STS.SLOT → (s.after dt).host.lastObj = some img →
     ((s.after dt).hatchEmpty n.val 1).kiteAccept img entryOk = .ok k →
     exec (.flashWrite n entryOk dt) s = .next ((s.pass dt).onDev (fun d =>
       ((d.hatchEmpty n.val 1).emit (.flash (msgWord ws 1 % 2) img)).fwReply n.val (d.hatch n.val).sport (msgTag ws) .ok []))) ∧
  (∀ (s : State) (n : Fin 4) (eighth : Int) (sent : Bool) (ws : List Word) (bs : List Byte) (dt : Nat), n.val < 3 →
     (s.after dt).fwMessage n.val = some ws → msgVer ws = 1 → msgType ws = 8 → msgWord ws 1 % 4 < 2 → msgWord ws 3 ≠ 0 →
     inStaging (msgWord ws 2) (msgWord ws 3) = true → (s.after dt).islUp 7 = true →
     storeRead ((s.after dt).hatchEmpty n.val 1) s.mem (msgWord ws 2) (msgWord ws 3) = (bs, false) → msgWord ws 4 = 0 →
     exec (.ptpSend n eighth sent dt) s = .next ((s.pass dt).onDev (fun d =>
       (ethFrameTx (msgWord ws 1 % 4) eighth (some (msgWord ws 1 / 65536)) none sent bs (d.hatchEmpty n.val 1)).fwReply n.val
         (d.hatch n.val).sport (msgTag ws) .ok []))) ∧
  (∀ (s : State) (n : Fin 4) (entryOk sent : Bool) (eighth : Int) (dt : Nat), (s.after dt).fwMessage n.val = none →
     (s.after dt).fwRuns = true →
     ∀ i ∈ [Instr.ping n dt, .keelRead n dt, .logRead n dt, .telemSet n dt, .cxAssign n dt, .objLoad n dt, .flashWrite n entryOk dt,
       .ptpSend n eighth sent dt],
     exec i s = .next ((s.pass dt).onDev Dev.drainReplies))

/-- R378, R380, R429, R435, R450: events, telemetry, JTAG, images. -/
def Obligations.EventTelemetryAndImageCommandsComplete : Prop :=
  (∀ (s : State) (e : FwEvent) (es : List FwEvent) (dt : Nat), (s.after dt).fwRuns = true → (s.after dt).host.replies = [] →
     ((s.after dt).hatch 7).st = .empty → (s.after dt).host.events = e :: es → (s.after dt).host.eventsLost = 0 →
     exec (.eventPost dt) s = .next ((s.pass dt).onDev (fun d =>
       (d.modHost (fun x => { x with events := es, eventsLost := 0 })).firmwarePost 7 (d.get (HAT_CFG 7) HAT_CFG.RXPORT)
         (msgHead 0x82 (4 + e.detail.length) 0 :: BitVec.ofNat 32 e.code :: BitVec.ofNat 32 e.ns :: BitVec.ofNat 32 e.sec ::
           BitVec.ofNat 32 (e.sec / 2 ^ 32 % 65536) :: e.detail)))) ∧
  (∀ (s : State) (dt : Nat), (s.after dt).fwRuns = false → exec (.eventPost dt) s = .next (s.pass dt)) ∧
  (∀ (s : State) (dt : Nat), ((s.after dt).fwRuns = false ∨ (s.after dt).host.telem.period = 0 ∨ (s.after dt).host.telem.addrs = [] ∨
       (s.after dt).now < (s.after dt).host.telem.at_ + msTicks (s.after dt).host.telem.period) →
     exec (.telemetry dt) s = .next (s.pass dt)) ∧
  (∀ (s : State) (dt : Nat), (s.after dt).fwRuns = true → (s.after dt).host.telem.period ≠ 0 → (s.after dt).host.telem.addrs ≠ [] →
     (s.after dt).host.telem.at_ + msTicks (s.after dt).host.telem.period ≤ (s.after dt).now → (s.after dt).tethUp = false →
     Runs (.telemetry dt) s fun t => Frame [] [.host] (s.after dt) t ∧
       t.host = { (s.after dt).host with telem := { (s.after dt).host.telem with at_ := (s.after dt).now } }) ∧
  (∀ (s : State) (e f : Dev) (bs : List Byte) (dt : Nat), (s.after dt).fwRuns = true → (s.after dt).host.telem.period ≠ 0 →
     (s.after dt).host.telem.addrs ≠ [] →
     (s.after dt).host.telem.at_ + msTicks (s.after dt).host.telem.period ≤ (s.after dt).now → (s.after dt).tethUp = true →
     2 ≤ (s.after dt).tethVer → e = (s.after dt).modHost (fun x => { x with telem := { x.telem with at_ := (s.after dt).now } }) →
     telemRead e.host.telem.addrs e = (f, bs) →
     Runs (.telemetry dt) s fun t =>
       t = (f.modHost (fun x => { x with telem := { x.telem with seq := (e.host.telem.seq + 1) % 2 ^ 32 } })).sendFrame 2 0x21
         (leBytes 1 (f.telemCode bs).1 ++ leBytes 1 0 ++ leBytes 2 e.host.telem.addrs.length ++ leBytes 4 e.host.telem.seq ++
           leBytes 4 (timeNs f.devTime) ++ leBytes 6 (timeSec f.devTime) ++ leBytes 2 0 ++ (f.telemCode bs).2)) ∧
  (∀ (s u : State) (dr : BitVec 72) (st : Status) (dt : Nat), dr.toNat.testBit 0 = true →
     ((s.pass dt).onDev (fun d => { d with test := { d.test with ir := 0x10 } })).busWrite ⟨6, 0, dr.toNat.testBit 1⟩
       (dr.toNat / 4 % 2 ^ 30 * 4) 32 (BitVec.ofNat 32 (dr.toNat / 2 ^ 32)) = (u, st) →
     exec (.sashreg dr dt) s = .next (u.onDev (fun d =>
       { d with test := { d.test with sashDone := some (st.code, 0) } }.emit (.access 6 st.code 0)))) ∧
  (∀ (s : State) (dr : BitVec 72) (e d : Dev) (st : Status) (v : Word) (dt : Nat), dr.toNat.testBit 0 = false →
     e = { s.after dt with test := { (s.after dt).test with ir := 0x10 } } →
     e.busRead ⟨6, 0, dr.toNat.testBit 1⟩ (dr.toNat / 4 % 2 ^ 30 * 4) 32 true = (d, st, v) →
     Runs (.sashreg dr dt) s fun t => t = { d with test := { d.test with sashDone := some (st.code, v.toNat) } }.emit (.access 6 st.code v)) ∧
  (∀ (s : State) (flash entryOk : Bool) (slot : List Byte) (dt : Nat), ((s.after dt).get PWR_STS PWR_STS.STAGE ≠ 3 ∨
       (s.after dt).pwr.held = true) → exec (.imageRead flash slot entryOk dt) s = .next (s.pass dt)) ∧
  (∀ (s : State) (entryOk : Bool) (slot : List Byte) (dt : Nat), (s.after dt).get PWR_STS PWR_STS.STAGE = 3 →
     (s.after dt).pwr.held = false →
     exec (.imageRead false slot entryOk dt) s = .next ((s.pass dt).onDev (fun d =>
       (d.slotReject 0 { code := 1 }).slotReject 1 { code := 1 }))) ∧
  (∀ (s : State) (entryOk : Bool) (slot : List Byte) (dt : Nat), (s.after dt).get PWR_STS PWR_STS.STAGE = 3 →
     (s.after dt).pwr.held = false →
     (∀ k, (s.after dt).kiteAccept slot entryOk = .ok k →
       exec (.imageRead true slot entryOk dt) s = .next ((s.pass dt).onDev (fun d => d.slotAccept d.slotNext k))) ∧
     (∀ r, (s.after dt).kiteAccept slot entryOk = .error r →
       exec (.imageRead true slot entryOk dt) s = .next ((s.pass dt).onDev (fun d => d.slotReject d.slotNext r)))) ∧
  (∀ (s u : State) (k : Kite) (dt : Nat), (s.after dt).get PWR_STS PWR_STS.STAGE = 4 → (s.after dt).pwr.held = false →
     kiteRead (s.after dt).pwr.image = .ok k → (s.after dt).kiteConfig k = none →
     ((s.pass dt).onDev (·.loadPlane k)).writeBlks k.writes = (u, none) →
     exec (.configuration dt) s = .next (u.onDev (·.firmwareStart k))) ∧
  (∀ (s : State) (k : Kite) (r : Reject) (dt : Nat), (s.after dt).get PWR_STS PWR_STS.STAGE = 4 → (s.after dt).pwr.held = false →
     kiteRead (s.after dt).pwr.image = .ok k → (s.after dt).kiteConfig k = some r →
     exec (.configuration dt) s = .next ((s.pass dt).onDev (·.slotReject ((s.after dt).get PWR_STS PWR_STS.SLOT) r)))

/-- R442 to R449, R452: the test logic. -/
def Obligations.TestCommandsComplete : Prop :=
  (∀ (s : State) (q : Req) (k : Fin 4) (v : Word), Allowed s q (TST_LB_CFG k.val) → s.dev.lbOn k.val = false →
     ((s.granted q).typedWrite (TST_LB_CFG k.val) (v.setFld TST_LB_CFG.EN 1)).lbReason k.val q.port.val ≠ 0 →
     Runs (.loopbackEnter q k v) s fun t => Frame [TST_LB_CFG k.val, TST_LB_STS k.val] [.host, .out] s.dev t ∧
       t.get (TST_LB_STS k.val) TST_LB_STS.STATE = 4 ∧
       t.rdN (TST_LB_STS k.val) / 2 ^ 12 = ((s.granted q).typedWrite (TST_LB_CFG k.val) (v.setFld TST_LB_CFG.EN 1)).lbReason k.val q.port.val) ∧
  (∀ (s : State) (q : Req) (k : Fin 4) (v : Word), Allowed s q (TST_LB_CFG k.val) → s.dev.lbOn k.val = false →
     ((s.granted q).typedWrite (TST_LB_CFG k.val) (v.setFld TST_LB_CFG.EN 1)).lbReason k.val q.port.val = 0 →
     ((v.setFld TST_LB_CFG.EN 1).fld TST_LB_CFG.IF = 3 ∨ (v.setFld TST_LB_CFG.EN 1).fld TST_LB_CFG.IF = 4 ∨
       (v.setFld TST_LB_CFG.EN 1).fld TST_LB_CFG.IF = 5) →
     Runs (.loopbackEnter q k v) s fun t =>
       Frame [TST_LB_CFG k.val, TST_LB_STS k.val, TST_LB_BITS_LO k.val, TST_LB_BITS_HI k.val, TST_LB_ERR k.val] [.test, .host, .out] s.dev t ∧
       t.get (TST_LB_STS k.val) TST_LB_STS.STATE = 1 ∧ t.rd (TST_LB_ERR k.val) = 0 ∧ t.lbSt k.val = { at_ := s.dev.now } ∧
       t.lbOn k.val = true) ∧
  (∀ (s : State) (k : Fin 4) (n dt : Nat) (ok : Bool), (s.after dt).lbOn k.val = true → (s.after dt).lbBits k.val = false →
     Runs (.loopbackRun k [(n, ok)] dt) s fun t =>
       Frame [TST_LB_STS k.val, TST_LB_BITS_LO k.val, TST_LB_BITS_HI k.val, TST_LB_ERR k.val] [] (s.after dt) t ∧
       t.get (TST_LB_STS k.val) TST_LB_STS.STATE = 2 ∧
       t.rd64 (TST_LB_BITS_LO k.val) (TST_LB_BITS_HI k.val) =
         min (2 ^ 48 - 1) ((s.after dt).rd64 (TST_LB_BITS_LO k.val) (TST_LB_BITS_HI k.val) + n) ∧
       t.rdN (TST_LB_ERR k.val) = min (2 ^ 32 - 1) ((s.after dt).rdN (TST_LB_ERR k.val) + if ok then 0 else n)) ∧
  (∀ (s : State) (k : Fin 4) (units : List (Nat × Bool)) (dt : Nat), (s.after dt).lbOn k.val = false →
     exec (.loopbackRun k units dt) s = .next (s.pass dt)) ∧
  (∀ (s : State) (q : Req) (k : Fin 4) (v : Word), Allowed s q (TST_LB_CFG k.val) →
     exec (.loopbackExit q k v) s = .next (s.answered q (TST_LB_CFG k.val) (v.setFld TST_LB_CFG.EN 0)
       ((if s.dev.lbOn k.val then (s.granted q).lbEnd k.val 8 else s.granted q).typedWrite (TST_LB_CFG k.val) (v.setFld TST_LB_CFG.EN 0)))) ∧
  (∀ (s : State) (k : Fin 4) (dt : Nat), (s.after dt).lbIf k.val ≠ 4 →
     exec (.loopbackTimeout k dt) s = .next (
       if ((s.after dt).lbSt k.val).at_ + msTicks ((s.after dt).get (TST_LB_TIME k.val) TST_LB_TIME.TIME) ≤ (s.after dt).now then
         (s.pass dt).onDev (·.lbEnd k.val 10)
       else s.pass dt)) ∧
  (∀ (s : State) (q : Req) (group : Fin 256), Allowed s q TST_BIST_CMD → s.dev.test.bistRun = none →
     s.dev.bistRefused q.port.val group.val = true →
     Runs (.bistStart q group) s fun t => Frame [TST_BIST_STS] [.host, .out] s.dev t ∧ t.get TST_BIST_STS TST_BIST_STS.STATE = 5) ∧
  (∀ (s : State) (q : Req) (group : Fin 256), Allowed s q TST_BIST_CMD → s.dev.test.bistRun = none →
     s.dev.bistRefused q.port.val group.val = false → group.val < 64 →
     Runs (.bistStart q group) s fun t => Frame [TST_BIST_STS] [.test, .hcs, .host, .out] s.dev t ∧
       t.get TST_BIST_STS TST_BIST_STS.STATE = 1 ∧ t.test.bistRun = some group.val ∧ (t.hc group.val).lines = [] ∧
       ∀ c, c ≠ group.val → t.hc c = s.dev.hc c) ∧
  (∀ (s : State) (g dt : Nat), (s.after dt).test.bistRun = some g →
     exec (.bistDone none dt) s = .next ((s.pass dt).onDev (·.bistEnd 2))) ∧
  (∀ (s : State) (g dt : Nat) (elem : Fin 16) (addr : BitVec 20), (s.after dt).test.bistRun = some g →
     exec (.bistDone (some (elem, addr)) dt) s = .next ((s.pass dt).onDev (fun d =>
       (((d.put TST_BIST_STS ⟨28, 4⟩ elem.val).put TST_BIST_STS ⟨8, 20⟩ addr.toNat).put TST_BIST_STS TST_BIST_STS.BIST_FAIL 1).bistEnd 3))) ∧
  (∀ (s : State) (fail : Option (Fin 16 × BitVec 20)) (dt : Nat), (s.after dt).test.bistRun = none →
     exec (.bistDone fail dt) s = .next (s.pass dt)) ∧
  (∀ (s : State) (q : Req), Allowed s q TST_MRAM_CMD → s.dev.test.mramRun = false →
     Runs (.mramTestStart q) s fun t =>
       if s.dev.get PWR_STS PWR_STS.STATE = 1 ∧ s.dev.jobRunning = false ∧ s.dev.passActive = false ∧ s.dev.cal.commits = [] then
         Frame [TST_MRAM_STS] [.test, .host, .out] s.dev t ∧ t.get TST_MRAM_STS TST_MRAM_STS.STATE = 1 ∧ t.test.mramRun = true
       else Frame [TST_MRAM_STS] [.host, .out] s.dev t ∧ t.get TST_MRAM_STS TST_MRAM_STS.STATE = 5) ∧
  (∀ (s : State) (dt : Nat), (s.after dt).test.mramRun = true → (s.after dt).test.mramAgain = false →
     Runs (.mramTestDone none dt) s fun t => Frame [TST_MRAM_STS] [.test, .cal] (s.after dt) t ∧
       t.get TST_MRAM_STS TST_MRAM_STS.STATE = 2 ∧ t.test.mramRun = false ∧
       t.cal = { (s.after dt).cal with keel := (s.after dt).cal.keel.filter (fun x => decide (x.1 < 0x31800) || decide (0x40000 ≤ x.1)) }) ∧
  (∀ (s : State) (a : BitVec 20) (dt : Nat), (s.after dt).test.mramRun = true → (s.after dt).test.mramAgain = false →
     Runs (.mramTestDone (some a) dt) s fun t => Frame [TST_MRAM_STS] [.test, .cal] (s.after dt) t ∧
       t.get TST_MRAM_STS TST_MRAM_STS.STATE = 3 ∧ t.get TST_MRAM_STS TST_MRAM_STS.MRAM_FAIL = 1 ∧
       t.get TST_MRAM_STS ⟨12, 20⟩ = a.toNat) ∧
  (∀ (s : State) (dt : Nat), ∀ i ∈ [Instr.testLogicReset dt, .idcode dt],
     Runs i s fun t => t = { s.after dt with test := { (s.after dt).test with ir := 1 } }) ∧
  (∀ (s : State) (cells : List Bool) (dt : Nat),
     Runs (.samplePreload cells dt) s fun t => t = { s.after dt with test := { (s.after dt).test with ir := 2, boundary := cells } }) ∧
  (∀ (s : State) (code : Fin 64) (dt : Nat), code.val ∉ jtagCodes →
     Runs (.bypass code dt) s fun t => t = { s.after dt with test := { (s.after dt).test with ir := 0x3F } }) ∧
  (∀ (s : State) (dt : Nat), ∀ p ∈ [(Instr.extest dt, 0), (.clamp dt, 4), (.highz dt, 5), (.extestPulse dt, 6), (.extestTrain dt, 7)],
     exec p.1 s = .next ((s.pass dt).onDev (fun d =>
       { d with test := { d.test with ir := p.2, scanned := true } }.guardLapse false)))

/-- R424 to R427, R429: supply and resets. (That an unconfirmed reset sets REJ is the model's reading, logged.) -/
def Obligations.SupplyCommandsComplete : Prop :=
  (∀ (s : State) (dt : Nat), (s.after dt).pwr.vin = true → exec (.powerOn dt) s = .next (s.pass dt)) ∧
  (∀ (s : State) (dt : Nat), (s.after dt).pwr.vin = false →
     ∃ t, exec (.powerOn dt) s = .next t ∧ t.pending = s.pending ∧ t.mem = Store.empty ∧ t.dev.pwr.vin = true ∧ t.dev.pwr.held = true ∧
       t.dev.get PWR_STS PWR_STS.STAGE = 1 ∧ t.dev.rd PWR_RAIL = 0x100 ∧ t.dev.rd PWR_RST_CAUSE = 1 ∧ t.dev.ras = {} ∧ t.dev.fir = {} ∧
       t.dev.time = {} ∧ t.dev.strap = s.dev.strap ∧ t.dev.cal.keel = s.dev.cal.keel) ∧
  (∀ (s : State) (dt : Nat), (s.after dt).pwr.vin = true →
     ∃ t, exec (.uvlo dt) s = .next t ∧ t.pending = s.pending ∧ t.mem = Store.empty ∧ t.dev.pwr.vin = false ∧ t.dev.pwr.held = true ∧
       t.dev.rd PWR_RAIL = 0 ∧ t.dev.ras = {} ∧ t.dev.cal.keel = s.dev.cal.keel) ∧
  (∀ (s : State) (dt : Nat), (s.after dt).pwr.vin = true → (s.after dt).pwr.uvWarn = false → (s.after dt).guardOk = false →
     Runs (.uvWarning dt) s fun t => Frame [PWR_STS, PWR_EVT] [.cal, .pwr, .host, .out] (s.after dt) t ∧ t.pwr.uvWarn = true ∧
       t.get PWR_STS PWR_STS.UVWARN = 1 ∧ t.get PWR_EVT PWR_EVT.UVWARN = 1 ∧
       (∀ r ∈ t.cal.commits, some r = t.nextCommit ∨ r.deferred = true)) ∧
  (∀ (s : State) (dt : Nat), (s.after dt).pwr.vin = true → (s.after dt).pwr.uvWarn = false →
     Runs (.uvWarning dt) s fun t => t.guardOk = false ∧ t.pwr.uvWarn = true ∧ t.get PWR_STS PWR_STS.UVWARN = 1 ∧
       t.cal.keel = (s.after dt).cal.keel) ∧
  (∀ (s : State) (dt : Nat),
     Runs (.uvWarningClear dt) s fun t => Frame [PWR_STS] [.pwr] (s.after dt) t ∧ t.pwr = { (s.after dt).pwr with uvWarn := false } ∧
       t.get PWR_STS PWR_STS.UVWARN = 0) ∧
  (∀ (s : State) (dt : Nat), (s.after dt).pwr.held = true → (s.after dt).powered = true → (s.after dt).rd PWR_RAIL = 0x100 →
     Runs (.railStart dt) s fun t => Frame [PWR_RAIL] [] (s.after dt) t ∧ t.rd PWR_RAIL = 0x701) ∧
  (∀ (s : State) (rail : Fin 5) (dt : Nat), (s.after dt).powered = true → ((s.after dt).railEn).testBit rail.val = true →
     ∃ t, exec (.railFault rail dt) s = .next t ∧ t.pending = s.pending ∧ t.mem = Store.empty ∧ t.dev.rd PWR_RAIL = 0 ∧
       t.dev.pwr.held = true ∧ t.dev.get PWR_RST_CAUSE PWR_RST_CAUSE.CAUSE = 4 ∧ t.dev.get PWR_RST_CAUSE ⟨8, 4⟩ = rail.val + 1 ∧
       t.dev.pwr.railTry.head? = some (s.after dt).now) ∧
  (∀ (s : State) (u : Nat) (rest : List Nat) (dt : Nat), (s.after dt).pwr.railTry = u :: rest → (s.after dt).now < u + msTicks 100 →
     exec (.railRetry dt) s = .next (s.pass dt)) ∧
  (∀ (s : State) (u : Nat) (rest : List Nat) (dt : Nat), (s.after dt).pwr.railTry = u :: rest → u + msTicks 100 ≤ (s.after dt).now →
     (s.after dt).powered = true → (s.after dt).pwr.held = true → (s.after dt).rd PWR_RAIL = 0 →
     Runs (.railRetry dt) s fun t => Frame [PWR_RAIL, PWR_STS] [] (s.after dt) t ∧ t.rd PWR_RAIL = 0x100 ∧
       t.get PWR_STS PWR_STS.STAGE = 1) ∧
  (∀ (s : State) (dt : Nat), (s.after dt).powered = true →
     ∃ t, exec (.pinReset dt) s = .next t ∧ t.pending = s.pending ∧ t.mem = Store.empty ∧ t.dev.pwr.held = true ∧
       t.dev.get PWR_RST_CAUSE PWR_RST_CAUSE.CAUSE = 2 ∧ t.dev.test.scanned = false ∧ t.dev.host = {} ∧
       t.dev.cal.keel = s.dev.cal.keel) ∧
  (∀ (s : State) (q : Req), Allowed s q PWR_CMD →
     ∃ t, exec (.hardReset q 0x5253) s = .next t ∧ t.pending = s.pending ∧ t.mem = Store.empty ∧ t.dev.pwr.held = true ∧
       t.dev.get PWR_RST_CAUSE PWR_RST_CAUSE.CAUSE = 3 ∧ t.dev.ras = {} ∧ t.dev.host = {} ∧ t.dev.cal.keel = s.dev.cal.keel) ∧
  (∀ (s : State) (q : Req), Allowed s q PWR_CMD →
     ∃ t, exec (.softReset q 0x5253) s = .next t ∧ t.pending = s.pending ∧ t.mem = Store.empty ∧ t.dev.pwr.held = true ∧
       t.dev.get PWR_RST_CAUSE PWR_RST_CAUSE.CAUSE = 5 ∧ t.dev.time.a0 = s.dev.time.a0 ∧ t.dev.rd PWR_UV = s.dev.rd PWR_UV ∧
       t.dev.cal.keel = s.dev.cal.keel) ∧
  (∀ (s : State) (q : Req) (confirm : Fin 65536), Allowed s q PWR_CMD → confirm.val ≠ 0x5253 →
     ∀ i ∈ [Instr.hardReset q confirm, .softReset q confirm],
     Runs i s fun t => Frame [PWR_EVT] [.host, .out] s.dev t ∧ t.get PWR_EVT PWR_EVT.REJ = 1) ∧
  (∀ (s : State) (u dt : Nat), (s.after dt).pair.lapseAt = some u → (s.after dt).guardOk = false →
     ((s.after dt).nextCommit = none ∨ u + msTicks 2 ≤ (s.after dt).now) →
     ∃ t, exec (.guardReset dt) s = .next t ∧ t.pending = s.pending ∧ t.mem = Store.empty ∧ t.dev.pwr.held = true ∧
       t.dev.get PWR_RST_CAUSE PWR_RST_CAUSE.CAUSE = 6) ∧
  (∀ (s : State) (dt : Nat), ((s.after dt).pair.lapseAt = none ∨ (s.after dt).guardOk = true) →
     exec (.guardReset dt) s = .next (s.pass dt)) ∧
  (∀ (s : State) (dt : Nat), (s.after dt).pwr.held = true → (s.after dt).powered = true → (s.after dt).pwr.uvWarn = false →
     (s.after dt).rdN PWR_RAIL = railsGood →
     Runs (.resetRelease dt) s fun t => t.pwr.held = false ∧ t.get PWR_STS PWR_STS.STAGE = 3 ∧ t.get KEEL_STS KEEL_STS.READY = 1 ∧
       t.pwr.releaseAt = (s.after dt).now ∧ t.pwr.slotTried = 0)

/-- R429, R432, R436 to R439: power states. -/
def Obligations.PowerStateCommandsComplete : Prop :=
  (∀ (s : State) (bandgap : Fin 65536) (rs : List (Nat × List Int)) (dt : Nat), (s.after dt).get PWR_STS PWR_STS.STAGE = 6 →
     (s.after dt).memReady = true →
     Runs (.hover bandgap rs dt) s fun t => t.get PWR_STS PWR_STS.STAGE = 7 ∧ t.get PWR_STS PWR_STS.STATE = 1 ∧
       t.get PWR_TIME loHalf = (s.after dt).bootMs ∧ t.rd CAL_VREF = BitVec.ofNat 32 bandgap.val) ∧
  (∀ (s : State) (bandgap : Fin 65536) (rs : List (Nat × List Int)) (dt : Nat), ((s.after dt).get PWR_STS PWR_STS.STAGE ≠ 6 ∨
       (s.after dt).memReady = false) → exec (.hover bandgap rs dt) s = .next (s.pass dt)) ∧
  (∀ (s : State) (dt : Nat), (s.after dt).get PWR_STS PWR_STS.STATE = 1 → (s.after dt).bit PWR_STS PWR_STS.READY = false →
     (∀ n ∈ (s.after dt).memChannels, (s.after dt).bit (MEM_STS n) MEM_STS.INIT_DONE = true) →
     (s.after dt).bit TTH_CFG TTH_CFG.EN = false →
     Runs (.ready dt) s fun t => Frame [PWR_STS, PWR_EVT, PWR_TIME] [.out] (s.after dt) t ∧ t.get PWR_STS PWR_STS.READY = 1 ∧
       t.get PWR_EVT PWR_EVT.READY = 1) ∧
  (∀ (s : State) (dt : Nat), (s.after dt).bit PWR_BOOT PWR_BOOT.PERSISTED = false →
     Runs (.bootRecordWrite dt) s fun t => Frame [PWR_BOOT] [.pwr] (s.after dt) t ∧
       t.pwr = { (s.after dt).pwr with bootB := (s.after dt).bit PWR_BOOT PWR_BOOT.FIRST } ∧ t.bit PWR_BOOT PWR_BOOT.PERSISTED = true) ∧
  (∀ (s : State) (dt : Nat), (s.after dt).bit PWR_BOOT PWR_BOOT.PERSISTED = true → exec (.bootRecordWrite dt) s = .next (s.pass dt)) ∧
  (∀ (s : State) (q : Req) (target : Fin 8), Allowed s q PWR_CMD → (target.val = 3 ∨ target.val = 4) →
     s.dev.get PWR_STS PWR_STS.STATE = 1 →
     exec (.powerEnter q target) s = .next (s.answered q PWR_CMD (BitVec.ofNat 32 (8 + target.val))
       (if (s.granted q).mayEnter target.val = true then (s.granted q).entryStart target.val else (s.granted q).flag PWR_EVT PWR_EVT.REJ))) ∧
  (∀ (s : State) (dt : Nat), (s.after dt).get PWR_STS PWR_STS.STATE = 5 → (s.after dt).pwr.wakeAfter = false →
     (s.after dt).pwr.target = 3 → (∀ n ∈ (s.after dt).memChannels, (s.after dt).get (MEM_STS n) MEM_STS.STATE = 5) →
     Runs (.entryDone dt) s fun t => t.get PWR_STS PWR_STS.STATE = 3 ∧ t.get PWR_EVT PWR_EVT.ENTERED = 1 ∧
       ∀ c ∈ gatedIn 3, t.bit (PWR_ISL c) PWR_ISL.GATED = true) ∧
  (∀ (s : State) (dt : Nat), (s.after dt).get PWR_STS PWR_STS.STATE = 5 → (s.after dt).pwr.wakeAfter = false →
     (s.after dt).pwr.target = 4 →
     ∃ t, exec (.entryDone dt) s = .next t ∧ t.pending = s.pending ∧ t.mem = Store.empty ∧ t.dev.get PWR_STS PWR_STS.STATE = 4 ∧
       t.dev.get PWR_EVT PWR_EVT.ENTERED = 1) ∧
  (∀ (s : State) (dt : Nat), (s.after dt).get PWR_STS PWR_STS.STATE = 5 → (s.after dt).pwr.wakeAfter = true →
     (s.after dt).pwr.target = 3 → (∀ n ∈ (s.after dt).memChannels, (s.after dt).get (MEM_STS n) MEM_STS.STATE = 5) →
     exec (.entryDone dt) s = .next ((s.pass dt).onDev (·.wakeStart 3))) ∧
  (∀ (s : State) (dt : Nat), (s.after dt).get PWR_STS PWR_STS.STATE ≠ 5 → exec (.entryDone dt) s = .next (s.pass dt)) ∧
  (∀ (s : State) (q : Req), Allowed s q PWR_CMD →
     exec (.powerWake q) s = .next (s.answered q PWR_CMD 16 (s.granted q).wakeCause)) ∧
  (∀ (s : State) (dt : Nat), 3 ≤ (s.after dt).get PWR_STS PWR_STS.STATE → (s.after dt).get PWR_STS PWR_STS.STATE ≤ 5 →
     exec (.tetherSignalWake dt) s = .next ((s.pass dt).onDev (fun d =>
       if d.pwr.tethQuietAt + msTicks 1 ≤ d.now then d.wakeCause else d.modPwr (fun x => { x with tethQuietAt := d.now })))) ∧
  (∀ (s : State) (dt : Nat), ((s.after dt).get PWR_STS PWR_STS.STATE < 3 ∨ 5 < (s.after dt).get PWR_STS PWR_STS.STATE) →
     exec (.tetherSignalWake dt) s = .next (s.pass dt)) ∧
  (∀ (s : State) (u dt : Nat), (s.after dt).pwr.wakeAt = some u →
     exec (.scheduledWake dt) s = .next (if u ≤ (s.after dt).devTime then (s.pass dt).onDev Dev.wakeCause else s.pass dt)) ∧
  (∀ (s : State) (dt : Nat), (s.after dt).get PWR_STS PWR_STS.STATE = 6 → (s.after dt).pwr.wakeKind = 3 →
     (s.after dt).pwr.heldIsl = [] → (s.after dt).pwr.armHeld = false →
     Runs (.wakeDone dt) s fun t => t.get PWR_STS PWR_STS.STATE = 1 ∧ t.get PWR_EVT PWR_EVT.WOKE = 1 ∧ t.pwr.wakeKind = 0 ∧
       t.ras.jobs = (s.after dt).ras.jobs ∧ t.fir = (s.after dt).fir ∧ t.time = (s.after dt).time) ∧
  (∀ (s : State) (dt : Nat), (s.after dt).get PWR_STS PWR_STS.STATE ≠ 6 → exec (.wakeDone dt) s = .next (s.pass dt)) ∧
  (∀ (s : State) (dt : Nat), ((s.after dt).bit PWR_AUTO PWR_AUTO.EN = false ∨ (s.after dt).now < (s.after dt).pwr.evalAt + msTicks 1) →
     exec (.autoStateEval dt) s = .next (s.pass dt)) ∧
  (∀ (s : State) (dt : Nat), (s.after dt).bit PWR_AUTO PWR_AUTO.EN = true → (s.after dt).pwr.evalAt + msTicks 1 ≤ (s.after dt).now →
     (s.after dt).get PWR_STS PWR_STS.STATE = 1 → (s.after dt).get PWR_AUTO PWR_AUTO.DEEPEST = 0 → (s.after dt).tNext = none →
     Runs (.autoStateEval dt) s fun t => Frame [PWR_NEXT] [.pwr] (s.after dt) t ∧ t.rd PWR_NEXT = 0xFFFFFFFF ∧
       t.pwr = { (s.after dt).pwr with evalAt := (s.after dt).now })

/-- R398, R399, R401, R402: joining, heartbeat and guard. -/
def Obligations.JoinAndGuardCommandsComplete : Prop :=
  (∀ (s : State) (dt : Nat), (s.after dt).brdUp = true → (s.after dt).role ≠ 4 →
     (s.after dt).pair.offerAt + usTicks 10 ≤ (s.after dt).now →
     Runs (.joinOfferSend dt) s fun t => Frame [] [.pair, .out] (s.after dt) t ∧ t.pair = { (s.after dt).pair with offerAt := (s.after dt).now } ∧
       t.lastOut = some (.bridle 0x01 (((s.after dt).joinBody 1 0 0).map BitVec.toNat))) ∧
  (∀ (s : State) (dt : Nat), ((s.after dt).brdUp = false ∨ ((s.after dt).role ≠ 4 ∧ (s.after dt).now < (s.after dt).pair.offerAt + usTicks 10)) →
     exec (.joinOfferSend dt) s = .next (s.pass dt)) ∧
  (∀ (s : State) (bs : List Byte) (dt : Nat), ((s.after dt).brdUp = false ∨ (s.after dt).role = 0) →
     exec (.joinOffer bs dt) s = .next (s.pass dt) ∧ exec (.joinConfirm bs dt) s = .next (s.pass dt)) ∧
  (∀ (s : State) (bs : List Byte) (dt : Nat), (s.after dt).brdUp = true → (s.after dt).role = 1 → (s.after dt).joined = false →
     ((s.after dt).peerJoin bs).joinReason bs ≠ 0 →
     Runs (.joinOffer bs dt) s fun t => t.role = 4 ∧ t.pair.sentConf = some (0, ((s.after dt).peerJoin bs).joinReason bs) ∧
       t.get BRD_EVT BRD_EVT.JOIN_REJ = 1 ∧ t.joined = false ∧ t.rdN BRD_PEER_DIGEST = leField bs 16 4) ∧
  (∀ (s : State) (bs : List Byte) (dt : Nat), (s.after dt).brdUp = true → (s.after dt).role = 1 → (s.after dt).joined = false →
     ((s.after dt).peerJoin bs).joinReason bs = 0 → (s.after dt).pair.gotConf = none →
     Runs (.joinOffer bs dt) s fun t => t.role = 1 ∧ t.pair.sentConf = some (min brdVer (leField bs 1 1), 0) ∧ t.joined = false ∧
       t.get BRD_PEER ⟨8, 3⟩ = leField bs 5 1 % 8 ∧ t.ras = (s.after dt).ras ∧ t.time = (s.after dt).time) ∧
  (∀ (s : State) (bs : List Byte) (dt : Nat), (s.after dt).brdUp = true → (s.after dt).role ≠ 0 → leField bs 3 1 = 0 →
     (s.after dt).pair.sentConf = none →
     Runs (.joinConfirm bs dt) s fun t => Frame [BRD_PEER, BRD_PEER_UID_LO, BRD_PEER_UID_HI, BRD_PEER_DIGEST, BRD_STS] [.pair, .out] (s.after dt) t ∧
       t.pair.gotConf = some (leField bs 2 1, 0) ∧ t.role = (s.after dt).role) ∧
  (∀ (s : State) (u dt : Nat), (s.after dt).islUp 7 = true → (s.after dt).pair.hbAt = some u →
     hbClass ((s.after dt).now - u) = (s.after dt).hbPeer → (s.after dt).pair.hbLast = (s.after dt).hbPeer →
     Runs (.heartbeatEdge dt) s fun t => Frame [] [.pair] (s.after dt) t ∧
       t.pair = { (s.after dt).pair with hbAt := some (s.after dt).now, hbLast := (s.after dt).hbPeer }) ∧
  (∀ (s : State) (u dt : Nat), (s.after dt).islUp 7 = true → (s.after dt).pair.hbAt = some u → hbClass ((s.after dt).now - u) = 1 →
     (s.after dt).pair.hbLast = 1 →
     Runs (.heartbeatEdge dt) s fun t => Frame [BRD_STS] [.pair] (s.after dt) t ∧ t.hbPeer = 1 ∧ t.role = (s.after dt).role) ∧
  (∀ (s : State) (u dt : Nat), (s.after dt).islUp 7 = true → (s.after dt).pair.hbAt = some u →
     u + usTicks ((s.after dt).get BRD_HB BRD_HB.MISS) ≤ (s.after dt).now →
     Runs (.heartbeatMiss dt) s fun t => Frame [BRD_STS, BRD_EVT] [.pair, .host, .out] (s.after dt) t ∧ t.hbPeer = 0 ∧ t.pair.hbAt = none) ∧
  (∀ (s : State) (u dt : Nat), (s.after dt).pair.hbAt = some u →
     (s.after dt).now < u + usTicks ((s.after dt).get BRD_HB BRD_HB.MISS) →
     exec (.heartbeatMiss dt) s = .next (s.pass dt)) ∧
  (∀ (s : State) (q : Req) (v : Word), Allowed s q BRD_KICK →
     Runs (.guardKick q v) s fun t =>
       if q.port.val = 0 then Frame [] [.pair, .host, .out] s.dev t ∧ t.pair = { s.dev.pair with kickAt := s.dev.now }
       else Frame [] [.host, .out] s.dev t ∧ ∃ w, t.lastOut = some (.access q.port.val (Status.code .access) w)) ∧
  (∀ (s : State) (dt : Nat), (s.after dt).guardOk = true → ∀ i ∈ [Instr.lockstepMismatch dt, .refclkLoss dt],
     Runs i s fun t => t.guardOk = false ∧ t.pair.lapseAt = some (s.after dt).now ∧ t.get BRD_EVT BRD_EVT.GUARD_LAPSE = 1 ∧
       t.pair.act = false ∧ t.pair.arb = false) ∧
  (∀ (s : State) (dt : Nat), (s.after dt).guardOk = false → ∀ i ∈ [Instr.lockstepMismatch dt, .refclkLoss dt],
     exec i s = .next (s.pass dt)) ∧
  (∀ (s : State) (dt : Nat), (s.after dt).guardOk = true →
     (s.after dt).pair.kickAt + usTicks ((s.after dt).get BRD_GUARD BRD_GUARD.KICK_TMO) ≤ (s.after dt).now →
     Runs (.guardKickTimeout dt) s fun t => t.guardOk = false ∧ t.pair.lapseAt = some (s.after dt).now ∧
       t.get BRD_EVT BRD_EVT.GUARD_LAPSE = 1) ∧
  (∀ (s : State) (dt : Nat), ((s.after dt).guardOk = false ∨
       (s.after dt).now < (s.after dt).pair.kickAt + usTicks ((s.after dt).get BRD_GUARD BRD_GUARD.KICK_TMO)) →
     exec (.guardKickTimeout dt) s = .next (s.pass dt)) ∧
  (∀ (s : State) (q : Req), Allowed s q BRD_CMD → s.dev.guardOk = true →
     Runs (.relinquish q) s fun t => t.guardOk = false ∧ t.pair.relinquishAt = some s.dev.now ∧
       t.pair.lapseAt = s.dev.pair.lapseAt ∧ t.get BRD_EVT BRD_EVT.GUARD_LAPSE = 1) ∧
  (∀ (s : State) (u dt : Nat), (s.after dt).pair.relinquishAt = some u → (s.after dt).test.scanned = false →
     u + msTicks 1 ≤ (s.after dt).now → (s.after dt).guardOk = false →
     Runs (.guardRearm dt) s fun t => Frame [BRD_STS] [.pair, .out] (s.after dt) t ∧ t.guardOk = true ∧
       t.pair.relinquishAt = none ∧ t.pair.kickAt = (s.after dt).now) ∧
  (∀ (s : State) (dt : Nat), (s.after dt).pair.arb = true → (s.after dt).pair.silent = false →
     Runs (.ownHeartbeatSilent dt) s fun t => Frame [BRD_STS] [.pair, .out] (s.after dt) t ∧ t.pair.arb = false ∧ t.pair.silent = true) ∧
  (∀ (s : State) (dt : Nat), (s.after dt).pair.arb = false → exec (.ownHeartbeatSilent dt) s = .next (s.pass dt))

/-- R397, R403 to R406: roles and STATE frames. -/
def Obligations.PairRoleCommandsComplete : Prop :=
  (∀ (s : State) (dt : Nat), (s.after dt).role = 1 → (s.after dt).hbPeer ≠ 2 → (s.after dt).guardOk = true →
     (s.after dt).pair.seekAt + msTicks 1 ≤ (s.after dt).now → (s.after dt).bit BRD_STS BRD_STS.HOLDOFF = false →
     (s.after dt).strap.rank = false →
     Runs (.arbClaim dt) s fun t => t.role = 3 ∧ t.guardOk = true ∧ t.ras = (s.after dt).ras ∧ t.time = (s.after dt).time) ∧
  (∀ (s : State) (dt : Nat), (s.after dt).role = 1 → (s.after dt).hbPeer ≠ 2 → (s.after dt).guardOk = true →
     (s.after dt).pair.seekAt + msTicks 1 ≤ (s.after dt).now → (s.after dt).bit BRD_STS BRD_STS.HOLDOFF = false →
     (s.after dt).strap.rank = true →
     Runs (.arbClaim dt) s fun t => Frame [BRD_STS] [.pair] (s.after dt) t ∧ t.bit BRD_STS BRD_STS.HOLDOFF = true ∧ t.role = 1 ∧
       t.pair.holdAt = (s.after dt).now) ∧
  (∀ (s : State) (dt : Nat), ((s.after dt).role ≠ 1 ∨ (s.after dt).hbPeer = 2 ∨ (s.after dt).guardOk = false ∨
       (s.after dt).now < (s.after dt).pair.seekAt + msTicks 1) → exec (.arbClaim dt) s = .next (s.pass dt)) ∧
  (∀ (s : State) (released : Bool) (dt : Nat), (s.after dt).role = 1 → (s.after dt).bit BRD_STS BRD_STS.HOLDOFF = true →
     (s.after dt).pair.holdAt + usTicks 50 ≤ (s.after dt).now → (s.after dt).hbPeer ≠ 2 → (s.after dt).guardOk = true →
     Runs (.claimHoldoffEnd released dt) s fun t => t.role = (if released then 3 else 1) ∧ t.bit BRD_STS BRD_STS.HOLDOFF = false ∧
       t.ras = (s.after dt).ras ∧ t.time = (s.after dt).time) ∧
  (∀ (s : State) (dt : Nat), (s.after dt).standby = true → (s.after dt).bit BRD_STS BRD_STS.HOLDOFF = false → (s.after dt).hbPeer ≠ 2 →
     (s.after dt).guardOk = true → (s.after dt).pair.yielded = false → (s.after dt).sync = 2 →
     Runs (.takeover dt) s fun t => t.role = 3 ∧ t.get BRD_EVT BRD_EVT.TAKEOVER = 1 ∧
       t.get BRD_TAKE BRD_TAKE.RISK = min 65535 (s.after dt).riskLines ∧
       t.get BRD_TAKE hiHalf = min 65535 ((s.after dt).get BRD_TAKE hiHalf + 1) ∧ t.pair.asked = [] ∧
       t.ras = (s.after dt).ras ∧ t.time = (s.after dt).time) ∧
  (∀ (s : State) (dt : Nat), ((s.after dt).standby = false ∨ (s.after dt).bit BRD_STS BRD_STS.HOLDOFF = true ∨ (s.after dt).hbPeer = 2 ∨
       (s.after dt).guardOk = false) → exec (.takeover dt) s = .next (s.pass dt)) ∧
  (∀ (s : State) (dt : Nat), (s.after dt).standby = true → (s.after dt).bit BRD_STS BRD_STS.HOLDOFF = true →
     (s.after dt).pair.holdAt + usTicks 50 ≤ (s.after dt).now →
     Runs (.holdoffEnd dt) s fun t => Frame [BRD_STS] [] (s.after dt) t ∧ t.bit BRD_STS BRD_STS.HOLDOFF = false ∧ t.standby = true) ∧
  (∀ (s : State) (dt : Nat), (s.after dt).now < (s.after dt).pair.holdAt + usTicks 50 →
     exec (.holdoffEnd dt) s = .next (s.pass dt)) ∧
  (∀ (s : State) (u dt : Nat), (s.after dt).role = 3 → (s.after dt).hbPeer = 0 → (s.after dt).pair.rxAt = some u →
     u + usTicks 20 ≤ (s.after dt).now → (s.after dt).pair.lost = false →
     Runs (.peerLost dt) s fun t => Frame [BRD_EVT] [.pair, .host, .out] (s.after dt) t ∧ t.pair = { (s.after dt).pair with lost := true } ∧
       t.get BRD_EVT BRD_EVT.PEER_LOST = 1) ∧
  (∀ (s : State) (dt : Nat), ((s.after dt).role ≠ 3 ∨ (s.after dt).hbPeer ≠ 0 ∨ (s.after dt).pair.lost = true) →
     exec (.peerLost dt) s = .next (s.pass dt)) ∧
  (∀ (s : State) (dt : Nat), (s.after dt).brdUp = true → (s.after dt).pair.txAt + usTicks 5 ≤ (s.after dt).now →
     Runs (.stateSend dt) s fun t => Frame [] [.pair, .out] (s.after dt) t ∧ t.pair = { (s.after dt).pair with txAt := (s.after dt).now } ∧
       ∃ rest, t.lastOut = some (.bridle 0x03 ((s.after dt).role :: (s.after dt).sync :: (s.after dt).hbPeer :: rest))) ∧
  (∀ (s : State) (dt : Nat), ((s.after dt).brdUp = false ∨ (s.after dt).now < (s.after dt).pair.txAt + usTicks 5) →
     exec (.stateSend dt) s = .next (s.pass dt)) ∧
  (∀ (s : State) (role : Fin 5) (sync : Fin 3) (front : Option Nat) (ns : Nat) (tether : Bool) (jobs : List JobNote) (dt : Nat),
     (s.after dt).brdUp = true → role.val ≠ 3 →
     Runs (.brdState role sync front ns tether jobs dt) s fun t =>
       Frame [BRD_PEER, BRD_TOFF, BRD_EVT, BRD_STS] [.pair, .out] (s.after dt) t ∧ t.peerRole = role.val ∧
       t.pair.peerSync = sync.val ∧ t.pair.peerFront = front.getD 0 ∧ t.pair.peerTether = tether ∧
       t.pair.rxAt = some (s.after dt).now ∧ t.role = (s.after dt).role) ∧
  (∀ (s : State) (role : Fin 5) (sync : Fin 3) (front : Option Nat) (ns : Nat) (tether : Bool) (jobs : List JobNote) (dt : Nat),
     (s.after dt).brdUp = false → exec (.brdState role sync front ns tether jobs dt) s = .next (s.pass dt))

/-- R314, R399, R407 to R410, R412, R414: a standby follows. (The kinds of MIRROR messages are the model's own.) -/
def Obligations.PairSyncCommandsComplete : Prop :=
  (∀ (s : State) (peerP : Int) (job : Word) (start : Int) (l : List (Nat × Option Int)) (dom : Fin 2) (dt : Nat), (s.after dt).standby = false →
     ∀ i ∈ [Instr.positionSync peerP dt, .syncStart job start dt, .brdTemp l dt, .brdSwitch dom dt], exec i s = .next (s.pass dt)) ∧
  (∀ (s : State) (peerP p : Int) (dt : Nat), (s.after dt).standby = true → (s.after dt).joined = true → (s.after dt).pair.zP = some p →
     (s.after dt).pair.syncWait = true → (s.after dt).pair.snap = false →
     exec (.positionSync peerP dt) s = .next ((s.pass dt).onDev (fun d =>
       (d.modPair (fun x => { x with zP := none, syncWait := false })).shiftP (peerP - p)))) ∧
  (∀ (s : State) (peerP p : Int) (dt : Nat), (s.after dt).standby = true → (s.after dt).joined = true → (s.after dt).pair.zP = some p →
     (s.after dt).pair.syncWait = false → (s.after dt).sync ≠ 1 →
     ((peerP - p).natAbs * 16777216 : Int) ≤ ((s.after dt).source (s.after dt).pac.use).ratio →
     Runs (.positionSync peerP dt) s fun t => Frame [] [.pair] (s.after dt) t ∧ t.pair = { (s.after dt).pair with zP := none }) ∧
  (∀ (s : State) (job : Word) (start : Int) (dt : Nat), (s.after dt).standby = true → (s.after dt).sync ≠ 0 →
     (s.after dt).digest ≠ (s.after dt).rdN BRD_PEER_DIGEST →
     Runs (.syncStart job start dt) s fun t => t.sync = 0 ∧ t.standby = true ∧ t.pair.detachAt = some (s.after dt).now ∧
       t.pair.manual = false ∧ t.ras = (s.after dt).ras ∧ t.fir = (s.after dt).fir) ∧
  (∀ (s : State) (job : Word) (start : Int) (j : Job) (dt : Nat), (s.after dt).standby = true → (s.after dt).sync ≠ 0 →
     (s.after dt).digest = (s.after dt).rdN BRD_PEER_DIGEST → (s.after dt).jobOf job.toNat = some j → j.state < 3 →
     (∀ c ∈ j.chans, 2048 ≤ start + 256 * ((j.resume.getD 0 : Nat) : Int) + (s.after dt).rowDelay c - (s.after dt).P) →
     (s.after dt).headJob.map (·.id) = some j.id →
     exec (.syncStart job start dt) s = .next ((s.pass dt).onDev (·.startGo j start))) ∧
  (∀ (s : State) (r : PeerRec) (dt : Nat), (s.after dt).joined = true → (s.after dt).fir.recs = [] →
     Runs (.linerec [r] dt) s fun t => Frame [] [.pair] (s.after dt) t ∧
       t.pair.recs = (s.after dt).pair.recs ++ [⟨r.chan.val, r.disp.val, (s.after dt).recLine r.chan.val r.tag.val, r.crc.val, r.cause.val,
         (s.after dt).now⟩]) ∧
  (∀ (s : State) (rs : List PeerRec) (dt : Nat), (s.after dt).joined = false → exec (.linerec rs dt) s = .next (s.pass dt)) ∧
  (∀ (s : State) (own : LineRec) (r : PeerRec) (dt : Nat), (s.after dt).joined = true → (s.after dt).fir.recs = [own] →
     (s.after dt).pair.recs = [] → own.chan = r.chan.val → (s.after dt).recLine r.chan.val r.tag.val % 65536 = own.line % 65536 →
     own.disp = 0 → r.disp.val = 0 → own.crc = r.crc.val → (s.after dt).standby = false →
     Runs (.linerec [r] dt) s fun t => Frame [BRD_CNT_CMP] [.pair, .fir] (s.after dt) t ∧ t.fir.recs = [] ∧ t.pair.recs = [] ∧
       t.get BRD_CNT_CMP whole = min (2 ^ 32 - 1) ((s.after dt).get BRD_CNT_CMP whole + 1)) ∧
  (∀ (s : State) (dt : Nat), (∀ r ∈ (s.after dt).fir.recs, (s.after dt).now < r.at_ + usTicks 50) →
     Runs (.linerecLag dt) s fun t => Frame [] [.pair] (s.after dt) t ∧
       t.pair.recs = (s.after dt).pair.recs.filter (fun r => decide ((s.after dt).now < r.at_ + usTicks 50))) ∧
  (∀ (s : State) (dt : Nat), (∃ r ∈ (s.after dt).fir.recs, r.at_ + usTicks 50 ≤ (s.after dt).now) → (s.after dt).standby = true →
     (s.after dt).sync ≠ 0 →
     Runs (.linerecLag dt) s fun t => t.sync = 0 ∧ t.standby = true ∧ t.pair.detachAt = some (s.after dt).now ∧
       t.fir.recs = (s.after dt).fir.recs.filter (fun r => decide ((s.after dt).now < r.at_ + usTicks 50))) ∧
  (∀ (s : State) (q : Req), Allowed s q BRD_CMD → s.dev.standby = true → s.dev.sync ≠ 0 →
     Runs (.brdDetach q) s fun t => t.sync = 0 ∧ t.standby = true ∧ t.pair.manual = true ∧ t.pair.detachAt = some s.dev.now ∧
       t.ras = s.dev.ras ∧ t.fir = s.dev.fir) ∧
  (∀ (s : State) (q : Req), Allowed s q BRD_CMD → s.dev.standby = true → s.dev.sync = 0 → s.dev.joined = true →
     Runs (.brdRejoin q) s fun t => t.sync = 1 ∧ t.standby = true ∧ t.pair.syncWait = true ∧ t.pair.detachAt = none ∧
       t.ras = s.dev.ras ∧ t.fir = s.dev.fir) ∧
  (∀ (s : State) (u dt : Nat), (s.after dt).pair.detachAt = some u → ((s.after dt).pair.manual = true ∨ (s.after dt).now < u + msTicks 1) →
     exec (.rejoinTimer dt) s = .next (s.pass dt)) ∧
  (∀ (s : State) (u dt : Nat), (s.after dt).pair.detachAt = some u → (s.after dt).pair.manual = false → u + msTicks 1 ≤ (s.after dt).now →
     (s.after dt).standby = true → (s.after dt).sync = 0 → (s.after dt).joined = true →
     Runs (.rejoinTimer dt) s fun t => t.sync = 1 ∧ t.standby = true ∧ t.pair.syncWait = true ∧ t.pair.detachAt = none ∧
       t.ras = (s.after dt).ras ∧ t.fir = (s.after dt).fir) ∧
  (∀ (s : State) (k n ev port ep ns sec : Nat) (ws : List Nat) (dt : Nat), (s.after dt).joined = true → (s.after dt).standby = true →
     Runs (.mirror ([6, k, n, ev, port, ep, ns, sec] ++ ws) dt) s fun t => Frame [] [.host] (s.after dt) t ∧
       tget emptyLog t.host.log (k % 65536) = ⟨n, ev, port, ep, ns, sec, ws.map (BitVec.ofNat 32)⟩ ∧
       t.host.logN = max (s.after dt).host.logN (k + 1)) ∧
  (∀ (s : State) (f : List Nat) (dt : Nat), (s.after dt).joined = false → exec (.mirror f dt) s = .next (s.pass dt)) ∧
  (∀ (s : State) (l : List (Nat × Option Int)) (dt : Nat), (s.after dt).standby = true →
     Runs (.brdTemp l dt) s fun t => Frame [] [.cal] (s.after dt) t ∧ t.cal = { (s.after dt).cal with temps := l }) ∧
  (∀ (s : State) (dom : Fin 2) (dt : Nat), (s.after dt).standby = true →
     exec (.brdSwitch dom dt) s = .next (if (s.after dt).selDom = dom.val then s.pass dt else (s.pass dt).onDev Sys2Proof.Machine.timeSwitch))

/-- R415, R417, R418: agreed changes and swaps. -/
def Obligations.AgreementAndSwapCommandsComplete : Prop :=
  (∀ (s : State) (id : Fin 65536) (kind : Fin 256) (mask : BitVec 64) (line : BitVec 40) (payload : List Nat) (dt : Nat),
     (s.after dt).standby = true → (s.after dt).joined = true → (s.after dt).pair.asked = [] →
     Runs (.propose id kind mask line payload dt) s fun t => Frame [] [.pair, .out] (s.after dt) t ∧
       t.pair.asked = [⟨id.val, kind.val, mask.toNat, line.toNat, line.toNat, 1, (s.after dt).now, payload⟩] ∧
       t.lastOut = some (.bridle 0x05 [id.val, max line.toNat ((s.after dt).meetable mask.toNat)])) ∧
  (∀ (s : State) (id : Fin 65536) (line : BitVec 40) (dt : Nat), (∀ p ∈ (s.after dt).pair.props, p.id ≠ id.val) →
     exec (.agree id line dt) s = .next (s.pass dt)) ∧
  (∀ (s : State) (id : Fin 65536) (line : BitVec 40) (p : PairProp) (dt : Nat), (s.after dt).activeOfPair = true →
     (s.after dt).pair.props.find? (fun p => p.id == id.val) = some p → (s.after dt).unreleased p.mask ≤ line.toNat →
     exec (.agree id line dt) s = .next ((s.pass dt).onDev (fun d =>
       ((d.propDone id.val).brdSend 0x06 [id.val, line.toNat]).agreeLine p line.toNat))) ∧
  (∀ (s : State) (id : Fin 65536) (line : BitVec 40) (p : PairProp) (dt : Nat), (s.after dt).standby = true → (s.after dt).sync ≠ 0 →
     (s.after dt).pair.asked.find? (fun p => p.id == id.val) = some p → line.toNat < (s.after dt).unreleased p.mask →
     Runs (.brdCommit id line dt) s fun t => t.sync = 0 ∧ t.get BRD_EVT BRD_EVT.AGREE_TMO = 1 ∧
       t.pair.asked = (s.after dt).pair.asked.filter (fun p => p.id != id.val) ∧ t.ras = (s.after dt).ras ∧ t.fir = (s.after dt).fir) ∧
  (∀ (s : State) (id : Fin 65536) (line : BitVec 40) (p : PairProp) (dt : Nat), (s.after dt).standby = true →
     (s.after dt).pair.asked.find? (fun p => p.id == id.val) = some p → (s.after dt).unreleased p.mask ≤ line.toNat →
     exec (.brdCommit id line dt) s = .next ((s.pass dt).onDev (fun d =>
       ((d.modPair (fun x => { x with asked := x.asked.filter (fun p => p.id != id.val) })).armAgreed p line.toNat).agreeLine p line.toNat))) ∧
  (∀ (s : State) (p : PairProp) (dt : Nat), (s.after dt).activeOfPair = true → (s.after dt).pair.props = [p] →
     exec (.agreeTimeout dt) s = .next (if p.at_ + usTicks 100 ≤ (s.after dt).now then (s.pass dt).onDev (·.applyAlone p) else s.pass dt)) ∧
  (∀ (s : State) (q : Req) (atEn : Bool), Allowed s q BRD_CMD → s.dev.activeOfPair = true → s.dev.pair.swap = none →
     (s.dev.joined = false ∨ s.dev.pair.peerSync ≠ 2) →
     Runs (.brdSwap q atEn) s fun t => Frame [BRD_EVT] [.host, .out] s.dev t ∧ t.get BRD_EVT BRD_EVT.SWAP_REJ = 1) ∧
  (∀ (s : State) (q : Req) (atEn : Bool), Allowed s q BRD_CMD → s.dev.activeOfPair = true → s.dev.pair.swap = none →
     s.dev.joined = true → s.dev.pair.peerSync = 2 →
     Runs (.brdSwap q atEn) s fun t => Frame [] [.pair, .host, .out] s.dev t ∧
       t.pair.swap = some (if atEn then s.dev.rdN BRD_SWAP_AT_LO + 2 ^ 32 * (s.dev.rdN BRD_SWAP_AT_HI % 256)
         else s.dev.frontOf + 2 * s.dev.get BRD_LEAD BRD_LEAD.GUARD, 1)) ∧
  (∀ (s : State) (dt : Nat), (s.after dt).activeOfPair = true → (s.after dt).bit BRD_CFG BRD_CFG.AUTO_SWAP = true →
     (s.after dt).tethUp = false → (s.after dt).teth.downAt + msTicks 1 ≤ (s.after dt).now → (s.after dt).pair.peerTether = true →
     (s.after dt).joined = true → (s.after dt).pair.peerSync = 2 → (s.after dt).pair.swap = none →
     Runs (.tetherLossSwap dt) s fun t => Frame [] [.pair, .out] (s.after dt) t ∧
       t.pair.swap = some ((s.after dt).frontOf + 2 * (s.after dt).get BRD_LEAD BRD_LEAD.GUARD, 3)) ∧
  (∀ (s : State) (dt : Nat), ((s.after dt).activeOfPair = false ∨ (s.after dt).tethUp = true ∨
       (s.after dt).now < (s.after dt).teth.downAt + msTicks 1) → exec (.tetherLossSwap dt) s = .next (s.pass dt)) ∧
  (∀ (s : State) (l cause dt : Nat), (s.after dt).pair.swap = some (l, cause) → (s.after dt).swapDue l = true →
     (∀ p ∈ (s.after dt).pair.props, p.kind ≠ 7) → (s.after dt).activeOfPair = true → (s.after dt).pair.peerSync = 2 →
     (∀ k : Fin 4, (s.after dt).lbOn k.val = false) →
     Runs (.swapExecute dt) s fun t => t.role = 2 ∧ t.sync = 2 ∧ t.pair.swap = none ∧ t.pair.swapHold = some (s.after dt).now ∧
       t.host.foreign = true ∧ t.get BRD_EVT BRD_EVT.SWAPPED = 1) ∧
  (∀ (s : State) (l cause dt : Nat), (s.after dt).pair.swap = some (l, cause) → (s.after dt).swapDue l = true →
     (∀ p ∈ (s.after dt).pair.props, p.kind ≠ 7) → (s.after dt).standby = true →
     Runs (.swapExecute dt) s fun t => t.role = 3 ∧ t.pair.swap = none ∧ t.pair.asked = [] ∧ t.get BRD_EVT BRD_EVT.SWAPPED = 1) ∧
  (∀ (s : State) (dt : Nat), (∀ l cause, (s.after dt).pair.swap = some (l, cause) → (s.after dt).swapDue l = false) →
     exec (.swapExecute dt) s = .next (s.pass dt)) ∧
  (∀ (s : State) (u dt : Nat), (s.after dt).pair.swapHold = some u → u + usTicks 10 ≤ (s.after dt).now →
     Runs (.swapHoldEnd dt) s fun t => Frame [BRD_STS] [.pair, .out] (s.after dt) t ∧ t.pair.swapHold = none) ∧
  (∀ (s : State) (u dt : Nat), (s.after dt).pair.swapHold = some u → (s.after dt).now < u + usTicks 10 →
     exec (.swapHoldEnd dt) s = .next (s.pass dt))

/-- The blocks of a frame (R142, R156) and the lanes of a body (R108): every byte travels once, at its place. -/
def Obligations.FramesAndBodiesTravelWhole : Prop :=
  (∀ bs : List Byte, 20 ≤ bs.length → ∃ mid : List Block,
     frameBlocks bs = ⟨true, leBytes 1 0x78 ++ bs.take 7⟩ :: (mid ++
       [⟨true, leBytes 1 (termTypes.getD ((bs.length - 7) % 8) 0) ++ bs.drop (7 + 8 * ((bs.length - 7) / 8)) ++
         List.replicate (7 - (bs.length - 7) % 8) 0⟩]) ∧
     mid.length = (bs.length - 7) / 8 ∧ (∀ b ∈ mid, b.ctrl = false) ∧
     mid.flatMap (·.bytes) = (bs.drop 7).take (8 * ((bs.length - 7) / 8))) ∧
  (∀ (bs : List Byte) (i : Nat), i < bs.length →
     (lvrLane (i % 4) (.body bs))[i / 4 + 1]? = bs[i]?.map LvrChar.d)
end

