-- ==== Sys2Proof/Laws/Fields.lean ====
section
/-! SUPPORT. Laws of the named fields of a register: what a field reads as after it, or another field, has been replaced. -/

namespace Sys2Proof

/-- A number whose field is replaced: what lies above, the new value, what lies below. -/
theorem Word.pieces (n lo wd v : Nat) (h : lo + wd ≤ 32) (hn : n < 2 ^ 32) :
    n - (n / 2 ^ lo % 2 ^ wd) * 2 ^ lo + (v % 2 ^ wd) * 2 ^ lo =
      2 ^ lo * (2 ^ wd * (n / 2 ^ lo / 2 ^ wd) + v % 2 ^ wd) + n % 2 ^ lo ∧
    2 ^ lo * (2 ^ wd * (n / 2 ^ lo / 2 ^ wd) + v % 2 ^ wd) + n % 2 ^ lo < 2 ^ 32 := by
  have hA : 0 < 2 ^ lo := Nat.two_pow_pos lo
  have hB : 0 < 2 ^ wd := Nat.two_pow_pos wd
  have h1 := Nat.div_add_mod n (2 ^ lo)
  have h2 := Nat.div_add_mod (n / 2 ^ lo) (2 ^ wd)
  have hv := Nat.mod_lt v hB
  have hr := Nat.mod_lt n hA
  have hq : n / 2 ^ lo / 2 ^ wd < 2 ^ (32 - lo - wd) := by
    rw [Nat.div_div_eq_div_mul, Nat.div_lt_iff_lt_mul (Nat.mul_pos hA hB), ← Nat.pow_add, ← Nat.pow_add]
    have : 32 - lo - wd + (lo + wd) = 32 := by omega
    rw [this]; exact hn
  have hpow : 2 ^ lo * (2 ^ wd * 2 ^ (32 - lo - wd)) = 2 ^ 32 := by
    rw [← Nat.pow_add, ← Nat.pow_add]; congr 1; omega
  generalize 2 ^ (32 - lo - wd) = C at *
  generalize 2 ^ lo = A at *
  generalize 2 ^ wd = B at *
  generalize n / A / B = q at *
  generalize n / A % B = o at *
  generalize n % A = r at *
  generalize v % B = v' at *
  constructor
  · have : n = A * (B * q) + o * A + r := by rw [← h1, ← h2, Nat.mul_add, Nat.mul_comm A o]
    rw [Nat.mul_add, Nat.mul_comm A v']; omega
  · have e1 : B * q + v' + 1 ≤ B * C := by
      have : B * (q + 1) ≤ B * C := Nat.mul_le_mul_left _ hq
      rw [Nat.mul_add] at this; omega
    have e2 : A * (B * q + v' + 1) ≤ A * (B * C) := Nat.mul_le_mul_left _ e1
    rw [hpow, Nat.mul_add] at e2; omega

theorem Word.toNat_setFld (w : Word) (f : Fld) (v : Nat) (h : f.lo + f.width ≤ 32) :
    (Word.setFld w f v).toNat =
      2 ^ f.lo * (2 ^ f.width * (w.toNat / 2 ^ f.lo / 2 ^ f.width) + v % 2 ^ f.width) + w.toNat % 2 ^ f.lo := by
  obtain ⟨e, l⟩ := Word.pieces w.toNat f.lo f.width v h w.isLt
  simp only [Word.setFld, Word.fld, BitVec.toNat_ofNat]
  rw [e, Nat.mod_eq_of_lt l]

/-- A replaced field reads as the new value. -/
theorem Word.fld_setFld (w : Word) (f : Fld) (v : Nat) (h : f.lo + f.width ≤ 32) :
    Word.fld (Word.setFld w f v) f = v % 2 ^ f.width := by
  have hA : 0 < 2 ^ f.lo := Nat.two_pow_pos _
  rw [Word.fld, Word.toNat_setFld w f v h, Nat.mul_add_div hA, Nat.div_eq_of_lt (Nat.mod_lt _ hA), Nat.add_zero,
    Nat.mul_add_mod, Nat.mod_mod]

theorem Word.fld_setFld_above (w : Word) (f g : Fld) (v : Nat) (h : f.lo + f.width ≤ 32) (hg : f.lo + f.width ≤ g.lo) :
    Word.fld (Word.setFld w f v) g = Word.fld w g := by
  have hA : 0 < 2 ^ f.lo := Nat.two_pow_pos _
  have hB : 0 < 2 ^ f.width := Nat.two_pow_pos _
  have e : 2 ^ g.lo = 2 ^ f.lo * (2 ^ f.width * 2 ^ (g.lo - f.lo - f.width)) := by
    rw [← Nat.pow_add, ← Nat.pow_add]; congr 1; omega
  simp only [Word.fld]
  rw [Word.toNat_setFld w f v h, e, ← Nat.div_div_eq_div_mul, ← Nat.div_div_eq_div_mul, ← Nat.div_div_eq_div_mul,
    ← Nat.div_div_eq_div_mul, Nat.mul_add_div hA, Nat.div_eq_of_lt (Nat.mod_lt _ hA), Nat.add_zero, Nat.mul_add_div hB,
    Nat.div_eq_of_lt (Nat.mod_lt _ hB), Nat.add_zero]

theorem Word.fld_setFld_below (w : Word) (f g : Fld) (v : Nat) (h : f.lo + f.width ≤ 32) (hg : g.lo + g.width ≤ f.lo) :
    Word.fld (Word.setFld w f v) g = Word.fld w g := by
  have hG : 0 < 2 ^ g.lo := Nat.two_pow_pos _
  have hW : 0 < 2 ^ g.width := Nat.two_pow_pos _
  have e : 2 ^ f.lo = 2 ^ g.lo * (2 ^ g.width * 2 ^ (f.lo - g.lo - g.width)) := by
    rw [← Nat.pow_add, ← Nat.pow_add]; congr 1; omega
  have key : ∀ n y, (2 ^ f.lo * y + n % 2 ^ f.lo) / 2 ^ g.lo % 2 ^ g.width = n / 2 ^ g.lo % 2 ^ g.width := by
    intro n y
    have a : (2 ^ f.lo * y + n % 2 ^ f.lo) % 2 ^ f.lo = n % 2 ^ f.lo := by
      rw [Nat.mul_add_mod, Nat.mod_mod]
    have m : ∀ x, x / 2 ^ g.lo % 2 ^ g.width = (x % 2 ^ f.lo) / 2 ^ g.lo % 2 ^ g.width := by
      intro x
      rw [e, Nat.mod_mul_right_div_self, Nat.mod_mul_right_mod]
    rw [m, a, ← m]
  simp only [Word.fld]
  rw [Word.toNat_setFld w f v h, key]

/-- A field apart from the replaced one reads as before. -/
theorem Word.fld_setFld_ne (w : Word) (f g : Fld) (v : Nat) (h : f.lo + f.width ≤ 32)
    (hg : f.lo + f.width ≤ g.lo ∨ g.lo + g.width ≤ f.lo) : Word.fld (Word.setFld w f v) g = Word.fld w g :=
  hg.elim (Word.fld_setFld_above w f g v h) (Word.fld_setFld_below w f g v h)

/-- A field of a number. -/
theorem Word.fld_ofNat (n : Nat) (f : Fld) (h : f.lo + f.width ≤ 32) :
    Word.fld (BitVec.ofNat 32 n) f = n / 2 ^ f.lo % 2 ^ f.width := by
  simp only [Word.fld, BitVec.toNat_ofNat]
  have e : (2 : Nat) ^ 32 = 2 ^ f.lo * 2 ^ (32 - f.lo) := by rw [← Nat.pow_add]; congr 1; omega
  have e2 : (2 : Nat) ^ (32 - f.lo) = 2 ^ f.width * 2 ^ (32 - f.lo - f.width) := by rw [← Nat.pow_add]; congr 1; omega
  rw [e, Nat.mod_mul_right_div_self, e2, Nat.mod_mul_right_mod]

/-- A field is below its bound. -/
theorem Word.fld_lt (w : Word) (f : Fld) : Word.fld w f < 2 ^ f.width := Nat.mod_lt _ (Nat.two_pow_pos _)

end Sys2Proof
end

