-- ==== Sys2Proof/Laws/LineCode.lean ====
section
/-! SUPPORT. Lemmas about the coding on the lanes: descrambling undoes scrambling, and which bytes a lane's share of a body
holds. -/

namespace Sys2Proof.Machine

/-- Descrambling with the same register gives the bits back, and the two registers stay equal (R141). -/
theorem descramble_scramble (bs : List Bool) (reg : BitVec 58) :
    descramble reg (scramble reg bs).1 = (bs, (scramble reg bs).2) := by
  induction bs generalizing reg with
  | nil => rfl
  | cons b t ih =>
    have h : (scrambleBit reg b).2 = (reg <<< 1) ||| (if (scrambleBit reg b).1 then 1#58 else 0#58) := rfl
    have hb : ((scrambleBit reg b).1 != (reg.getLsbD 38 != reg.getLsbD 57)) = b := by
      unfold scrambleBit
      cases b <;> cases reg.getLsbD 38 <;> cases reg.getLsbD 57 <;> rfl
    simp only [scramble, descramble, ← h, ih, hb]

/-- A frame is one START block, then its tail (R156). -/
theorem frameBlocks_head (bs : List Byte) :
    (frameBlocks bs).head? = some ⟨true, leBytes 1 0x78 ++ bs.take 7⟩ := rfl

/-- Character k of a lane's share is byte 4k of what begins at the lane (R108). -/
theorem everyFourth_get (k : Nat) : ∀ bs : List Byte, (everyFourth bs)[k]? = bs[4 * k]? := by
  induction k with
  | zero =>
    intro bs
    match bs with
    | [] => rfl
    | [_] => rfl
    | [_, _] => rfl
    | [_, _, _] => rfl
    | _ :: _ :: _ :: _ :: _ => rfl
  | succ k ih =>
    intro bs
    match bs with
    | [] => rfl
    | [_] => simp [everyFourth]
    | [_, _] => simp [everyFourth]; omega
    | [_, _, _] => simp [everyFourth]; omega
    | a :: b :: c :: d :: t => simp [everyFourth, ih, show 4 * (k + 1) = 4 * k + 1 + 1 + 1 + 1 by omega]

end Sys2Proof.Machine
end

