-- ==== Sys2Proof/Laws/Tables.lean ====
section
/-! SUPPORT. Laws of the sparse tables: what a write leaves at its key and elsewhere, and that it keeps the canonical form. -/

namespace Sys2Proof.Machine

variable {α : Type}

theorem tget_tdrop_same (dflt : Nat → α) (t : List (Nat × α)) (k : Nat) : tget dflt (tdrop t k) k = dflt k := by
  induction t with
  | nil => rfl
  | cons p t ih =>
    obtain ⟨k', v⟩ := p
    by_cases h : k = k'
    · subst h; simp [tdrop, ih]
    · simp [tdrop, tget, h, ih]

theorem tget_tdrop_ne (dflt : Nat → α) (t : List (Nat × α)) {k j : Nat} (hj : j ≠ k) :
    tget dflt (tdrop t k) j = tget dflt t j := by
  induction t with
  | nil => rfl
  | cons p t ih =>
    obtain ⟨k', v⟩ := p
    by_cases h : k = k'
    · subst h; simp [tdrop, tget, hj, ih]
    · simp [tdrop, tget, h, ih]

theorem tget_tins_same (dflt : Nat → α) (t : List (Nat × α)) (k : Nat) (v : α) : tget dflt (tins t k v) k = v := by
  induction t with
  | nil => simp [tins, tget]
  | cons p t ih =>
    obtain ⟨k', w⟩ := p
    by_cases h : k < k'
    · simp [tins, tget, h]
    · by_cases e : k = k'
      · subst e; simp [tins, tget]
      · simp [tins, tget, h, e, ih]

theorem tget_tins_ne (dflt : Nat → α) (t : List (Nat × α)) {k j : Nat} (v : α) (hj : j ≠ k) :
    tget dflt (tins t k v) j = tget dflt t j := by
  induction t with
  | nil => simp [tins, tget, hj]
  | cons p t ih =>
    obtain ⟨k', w⟩ := p
    by_cases h : k < k'
    · simp [tins, tget, h, hj]
    · by_cases e : k = k'
      · subst e; simp [tins, tget, hj]
      · simp [tins, tget, h, e, ih]

/-- A written key reads as what was written. -/
@[simp] theorem tget_tput_same [DecidableEq α] (dflt : Nat → α) (t : List (Nat × α)) (k : Nat) (v : α) :
    tget dflt (tput dflt t k v) k = v := by
  unfold tput
  by_cases h : v = dflt k
  · simp [h, tget_tdrop_same]
  · simp [h, tget_tins_same]

/-- Every other key reads as before. -/
theorem tget_tput_ne [DecidableEq α] (dflt : Nat → α) (t : List (Nat × α)) {k j : Nat} (v : α) (hj : j ≠ k) :
    tget dflt (tput dflt t k v) j = tget dflt t j := by
  unfold tput
  by_cases h : v = dflt k
  · simp [h, tget_tdrop_ne _ _ hj]
  · simp [h, tget_tins_ne _ _ _ hj]

/-- Reading a key after a write of any key. -/
theorem tget_tput [DecidableEq α] (dflt : Nat → α) (t : List (Nat × α)) (k j : Nat) (v : α) :
    tget dflt (tput dflt t k v) j = if j = k then v else tget dflt t j := by
  by_cases h : j = k
  · simp [h]
  · simp [h, tget_tput_ne _ _ _ h]

/-! ## The canonical form -/

/-- A key lies above an optional bound. -/
def above (b : Option Nat) (k : Nat) : Bool := match b with | none => true | some b => decide (b < k)

theorem twfFrom_cons [DecidableEq α] (dflt : Nat → α) (b : Option Nat) (k : Nat) (v : α) (t : List (Nat × α)) :
    twfFrom dflt b ((k, v) :: t) = (above b k && decide (v ≠ dflt k) && twfFrom dflt (some k) t) := by
  cases b <;> simp [twfFrom, above]

/-- A weaker bound still holds. -/
theorem twfFrom_weaken [DecidableEq α] (dflt : Nat → α) {b c : Option Nat} (t : List (Nat × α))
    (h : ∀ k, above c k = true → above b k = true) (ht : twfFrom dflt c t = true) : twfFrom dflt b t = true := by
  cases t with
  | nil => rfl
  | cons p t =>
    obtain ⟨k, v⟩ := p
    rw [twfFrom_cons] at ht ⊢
    simp only [Bool.and_eq_true] at ht ⊢
    exact ⟨⟨h k ht.1.1, ht.1.2⟩, ht.2⟩

theorem above_trans {b : Option Nat} {k : Nat} (h : above b k = true) : ∀ j, above (some k) j = true → above b j = true := by
  intro j hj
  cases b with
  | none => rfl
  | some b => simp [above] at *; omega

theorem twfFrom_tdrop [DecidableEq α] (dflt : Nat → α) (t : List (Nat × α)) (k : Nat) :
    ∀ b, twfFrom dflt b t = true → twfFrom dflt b (tdrop t k) = true := by
  induction t with
  | nil => intro b h; exact h
  | cons p t ih =>
    intro b h
    obtain ⟨k', v⟩ := p
    rw [twfFrom_cons] at h
    simp only [Bool.and_eq_true] at h
    by_cases e : k = k'
    · simp only [tdrop, e, if_true]
      rw [← e]
      exact twfFrom_weaken dflt _ (above_trans (e ▸ h.1.1)) (ih _ (e ▸ h.2))
    · simp only [tdrop, e, if_false]
      rw [twfFrom_cons]
      simp only [Bool.and_eq_true]
      exact ⟨h.1, ih _ h.2⟩

theorem twfFrom_tins [DecidableEq α] (dflt : Nat → α) (t : List (Nat × α)) (k : Nat) (v : α) (hv : v ≠ dflt k) :
    ∀ b, above b k = true → twfFrom dflt b t = true → twfFrom dflt b (tins t k v) = true := by
  induction t with
  | nil => intro b hb _; simp [tins, twfFrom_cons, hb, hv, twfFrom]
  | cons p t ih =>
    intro b hb h
    obtain ⟨k', w⟩ := p
    rw [twfFrom_cons] at h
    simp only [Bool.and_eq_true] at h
    by_cases l : k < k'
    · simp only [tins, l, if_true]
      rw [twfFrom_cons, twfFrom_cons]
      have hk : above (some k) k' = true := by simp [above, l]
      have hv' : decide (v ≠ dflt k) = true := by simp [hv]
      simp only [Bool.and_eq_true]
      exact ⟨⟨hb, hv'⟩, ⟨hk, h.1.2⟩, h.2⟩
    · by_cases e : k = k'
      · subst e
        have hv' : decide (v ≠ dflt k) = true := by simp [hv]
        simp only [tins, l, if_false, if_true]
        rw [twfFrom_cons]
        simp only [Bool.and_eq_true]
        exact ⟨⟨h.1.1, hv'⟩, h.2⟩
      · simp only [tins, l, e, if_false]
        rw [twfFrom_cons]
        simp only [Bool.and_eq_true]
        exact ⟨h.1, ih _ (by simp [above]; omega) h.2⟩

/-- Every write keeps the canonical form. -/
theorem twf_tput [DecidableEq α] (dflt : Nat → α) (t : List (Nat × α)) (k : Nat) (v : α) (h : twf dflt t = true) :
    twf dflt (tput dflt t k v) = true := by
  unfold tput twf at *
  by_cases e : v = dflt k
  · simp only [e, if_true]; exact twfFrom_tdrop dflt t k _ h
  · simp only [e, if_false]; exact twfFrom_tins dflt t k v e _ rfl h

/-- A filter keeps the canonical form. -/
theorem twfFrom_filter [DecidableEq α] (dflt : Nat → α) (p : Nat × α → Bool) (t : List (Nat × α)) :
    ∀ b, twfFrom dflt b t = true → twfFrom dflt b (t.filter p) = true := by
  induction t with
  | nil => intro b h; exact h
  | cons q t ih =>
    intro b h
    obtain ⟨k, v⟩ := q
    rw [twfFrom_cons] at h
    simp only [Bool.and_eq_true] at h
    by_cases e : p (k, v) = true
    · rw [List.filter_cons_of_pos e, twfFrom_cons]
      simp only [Bool.and_eq_true]
      exact ⟨h.1, ih _ h.2⟩
    · rw [List.filter_cons_of_neg e]
      exact twfFrom_weaken dflt _ (above_trans h.1.1) (ih _ h.2)

/-! ## The page store -/

@[simp] theorem Store.byte_setByte (m : Store) (a : Nat) (b : Byte) : (m.setByte a b).byte a = b := by
  simp [Store.byte, Store.setByte]

theorem Store.byte_setByte_ne (m : Store) {a c : Nat} (b : Byte) (h : c ≠ a) : (m.setByte a b).byte c = m.byte c := by
  simp [Store.byte, Store.setByte, tget_tput_ne _ _ _ h]

@[simp] theorem Store.byte_setBad (m : Store) (g a : Nat) (v : Bool) : (m.setBad g v).byte a = m.byte a := rfl

@[simp] theorem Store.isBad_setByte (m : Store) (g a : Nat) (b : Byte) : (m.setByte a b).isBad g = m.isBad g := rfl

theorem Store.wf_setByte (m : Store) (a : Nat) (b : Byte) (h : m.wf = true) : (m.setByte a b).wf = true := by
  simp only [Store.wf, Bool.and_eq_true] at h ⊢
  exact ⟨twf_tput _ _ _ _ h.1, h.2⟩

theorem Store.wf_setBad (m : Store) (g : Nat) (v : Bool) (h : m.wf = true) : (m.setBad g v).wf = true := by
  simp only [Store.wf, Bool.and_eq_true] at h ⊢
  exact ⟨h.1, twf_tput _ _ _ _ h.2⟩

theorem Store.wf_setBytes (bs : List Byte) : ∀ (m : Store) (a : Nat), m.wf = true → (m.setBytes a bs).wf = true := by
  induction bs with
  | nil => intro m a h; exact h
  | cons b t ih => intro m a h; exact ih _ _ (Store.wf_setByte m a b h)

/-- Bytes outside the stored range read as before. -/
theorem Store.byte_setBytes_out (bs : List Byte) :
    ∀ (m : Store) (a c : Nat), c < a ∨ a + bs.length ≤ c → (m.setBytes a bs).byte c = m.byte c := by
  induction bs with
  | nil => intro m a c _; rfl
  | cons b t ih =>
    intro m a c h
    simp only [List.length_cons] at h
    rw [Store.setBytes, ih _ _ _ (by omega), Store.byte_setByte_ne _ _ (by omega)]

theorem Store.wf_empty : Store.empty.wf = true := rfl

end Sys2Proof.Machine
end

