-- ==== Sys2Proof/Laws/State.lean ====
section
/-! SUPPORT. What each named update of State leaves alone, one lemma per field and update, true by unfolding. -/

namespace Sys2Proof.Machine

@[simp] theorem State.onDev_pending (s : State) (f : Dev → Dev) : (s.onDev f).pending = s.pending := rfl
@[simp] theorem State.onDev_mem (s : State) (f : Dev → Dev) : (s.onDev f).mem = s.mem := rfl
@[simp] theorem State.onDev_dev (s : State) (f : Dev → Dev) : (s.onDev f).dev = f s.dev := rfl

@[simp] theorem Dev.wr_strap (d : Dev) (a : Nat) (v : Word) : (d.wr a v).strap = d.strap := rfl
@[simp] theorem Dev.wr_now (d : Dev) (a : Nat) (v : Word) : (d.wr a v).now = d.now := rfl
@[simp] theorem Dev.wr_free (d : Dev) (a : Nat) (v : Word) : (d.wr a v).free = d.free := rfl
@[simp] theorem Dev.wr_out (d : Dev) (a : Nat) (v : Word) : (d.wr a v).out = d.out := rfl
@[simp] theorem Dev.wr_islReq (d : Dev) (a : Nat) (v : Word) : (d.wr a v).islReq = d.islReq := rfl
@[simp] theorem Dev.wr_input (d : Dev) (a : Nat) (v : Word) : (d.wr a v).input = d.input := rfl
@[simp] theorem Dev.wr_src (d : Dev) (a : Nat) (v : Word) : (d.wr a v).src = d.src := rfl
@[simp] theorem Dev.wr_pac (d : Dev) (a : Nat) (v : Word) : (d.wr a v).pac = d.pac := rfl
@[simp] theorem Dev.wr_stations (d : Dev) (a : Nat) (v : Word) : (d.wr a v).stations = d.stations := rfl
@[simp] theorem Dev.wr_hcs (d : Dev) (a : Nat) (v : Word) : (d.wr a v).hcs = d.hcs := rfl
@[simp] theorem Dev.wr_fir (d : Dev) (a : Nat) (v : Word) : (d.wr a v).fir = d.fir := rfl
@[simp] theorem Dev.wr_ras (d : Dev) (a : Nat) (v : Word) : (d.wr a v).ras = d.ras := rfl
@[simp] theorem Dev.wr_teth (d : Dev) (a : Nat) (v : Word) : (d.wr a v).teth = d.teth := rfl
@[simp] theorem Dev.wr_bl (d : Dev) (a : Nat) (v : Word) : (d.wr a v).bl = d.bl := rfl
@[simp] theorem Dev.wr_pair (d : Dev) (a : Nat) (v : Word) : (d.wr a v).pair = d.pair := rfl
@[simp] theorem Dev.wr_dch (d : Dev) (a : Nat) (v : Word) : (d.wr a v).dch = d.dch := rfl
@[simp] theorem Dev.wr_cx (d : Dev) (a : Nat) (v : Word) : (d.wr a v).cx = d.cx := rfl
@[simp] theorem Dev.wr_nh (d : Dev) (a : Nat) (v : Word) : (d.wr a v).nh = d.nh := rfl
@[simp] theorem Dev.wr_cams (d : Dev) (a : Nat) (v : Word) : (d.wr a v).cams = d.cams := rfl
@[simp] theorem Dev.wr_cal (d : Dev) (a : Nat) (v : Word) : (d.wr a v).cal = d.cal := rfl
@[simp] theorem Dev.wr_time (d : Dev) (a : Nat) (v : Word) : (d.wr a v).time = d.time := rfl
@[simp] theorem Dev.wr_trg (d : Dev) (a : Nat) (v : Word) : (d.wr a v).trg = d.trg := rfl
@[simp] theorem Dev.wr_cap (d : Dev) (a : Nat) (v : Word) : (d.wr a v).cap = d.cap := rfl
@[simp] theorem Dev.wr_txq (d : Dev) (a : Nat) (v : Word) : (d.wr a v).txq = d.txq := rfl
@[simp] theorem Dev.wr_host (d : Dev) (a : Nat) (v : Word) : (d.wr a v).host = d.host := rfl
@[simp] theorem Dev.wr_cu (d : Dev) (a : Nat) (v : Word) : (d.wr a v).cu = d.cu := rfl
@[simp] theorem Dev.wr_pwr (d : Dev) (a : Nat) (v : Word) : (d.wr a v).pwr = d.pwr := rfl
@[simp] theorem Dev.wr_test (d : Dev) (a : Nat) (v : Word) : (d.wr a v).test = d.test := rfl

@[simp] theorem Dev.wrN_strap (d : Dev) (a v : Nat) : (d.wrN a v).strap = d.strap := rfl
@[simp] theorem Dev.wrN_now (d : Dev) (a v : Nat) : (d.wrN a v).now = d.now := rfl
@[simp] theorem Dev.wrN_free (d : Dev) (a v : Nat) : (d.wrN a v).free = d.free := rfl
@[simp] theorem Dev.wrN_out (d : Dev) (a v : Nat) : (d.wrN a v).out = d.out := rfl
@[simp] theorem Dev.wrN_islReq (d : Dev) (a v : Nat) : (d.wrN a v).islReq = d.islReq := rfl
@[simp] theorem Dev.wrN_input (d : Dev) (a v : Nat) : (d.wrN a v).input = d.input := rfl
@[simp] theorem Dev.wrN_src (d : Dev) (a v : Nat) : (d.wrN a v).src = d.src := rfl
@[simp] theorem Dev.wrN_pac (d : Dev) (a v : Nat) : (d.wrN a v).pac = d.pac := rfl
@[simp] theorem Dev.wrN_stations (d : Dev) (a v : Nat) : (d.wrN a v).stations = d.stations := rfl
@[simp] theorem Dev.wrN_hcs (d : Dev) (a v : Nat) : (d.wrN a v).hcs = d.hcs := rfl
@[simp] theorem Dev.wrN_fir (d : Dev) (a v : Nat) : (d.wrN a v).fir = d.fir := rfl
@[simp] theorem Dev.wrN_ras (d : Dev) (a v : Nat) : (d.wrN a v).ras = d.ras := rfl
@[simp] theorem Dev.wrN_teth (d : Dev) (a v : Nat) : (d.wrN a v).teth = d.teth := rfl
@[simp] theorem Dev.wrN_bl (d : Dev) (a v : Nat) : (d.wrN a v).bl = d.bl := rfl
@[simp] theorem Dev.wrN_pair (d : Dev) (a v : Nat) : (d.wrN a v).pair = d.pair := rfl
@[simp] theorem Dev.wrN_dch (d : Dev) (a v : Nat) : (d.wrN a v).dch = d.dch := rfl
@[simp] theorem Dev.wrN_cx (d : Dev) (a v : Nat) : (d.wrN a v).cx = d.cx := rfl
@[simp] theorem Dev.wrN_nh (d : Dev) (a v : Nat) : (d.wrN a v).nh = d.nh := rfl
@[simp] theorem Dev.wrN_cams (d : Dev) (a v : Nat) : (d.wrN a v).cams = d.cams := rfl
@[simp] theorem Dev.wrN_cal (d : Dev) (a v : Nat) : (d.wrN a v).cal = d.cal := rfl
@[simp] theorem Dev.wrN_time (d : Dev) (a v : Nat) : (d.wrN a v).time = d.time := rfl
@[simp] theorem Dev.wrN_trg (d : Dev) (a v : Nat) : (d.wrN a v).trg = d.trg := rfl
@[simp] theorem Dev.wrN_cap (d : Dev) (a v : Nat) : (d.wrN a v).cap = d.cap := rfl
@[simp] theorem Dev.wrN_txq (d : Dev) (a v : Nat) : (d.wrN a v).txq = d.txq := rfl
@[simp] theorem Dev.wrN_host (d : Dev) (a v : Nat) : (d.wrN a v).host = d.host := rfl
@[simp] theorem Dev.wrN_cu (d : Dev) (a v : Nat) : (d.wrN a v).cu = d.cu := rfl
@[simp] theorem Dev.wrN_pwr (d : Dev) (a v : Nat) : (d.wrN a v).pwr = d.pwr := rfl
@[simp] theorem Dev.wrN_test (d : Dev) (a v : Nat) : (d.wrN a v).test = d.test := rfl

@[simp] theorem Dev.put_strap (d : Dev) (a : Nat) (f : Fld) (v : Nat) : (d.put a f v).strap = d.strap := rfl
@[simp] theorem Dev.put_now (d : Dev) (a : Nat) (f : Fld) (v : Nat) : (d.put a f v).now = d.now := rfl
@[simp] theorem Dev.put_free (d : Dev) (a : Nat) (f : Fld) (v : Nat) : (d.put a f v).free = d.free := rfl
@[simp] theorem Dev.put_out (d : Dev) (a : Nat) (f : Fld) (v : Nat) : (d.put a f v).out = d.out := rfl
@[simp] theorem Dev.put_islReq (d : Dev) (a : Nat) (f : Fld) (v : Nat) : (d.put a f v).islReq = d.islReq := rfl
@[simp] theorem Dev.put_input (d : Dev) (a : Nat) (f : Fld) (v : Nat) : (d.put a f v).input = d.input := rfl
@[simp] theorem Dev.put_src (d : Dev) (a : Nat) (f : Fld) (v : Nat) : (d.put a f v).src = d.src := rfl
@[simp] theorem Dev.put_pac (d : Dev) (a : Nat) (f : Fld) (v : Nat) : (d.put a f v).pac = d.pac := rfl
@[simp] theorem Dev.put_stations (d : Dev) (a : Nat) (f : Fld) (v : Nat) : (d.put a f v).stations = d.stations := rfl
@[simp] theorem Dev.put_hcs (d : Dev) (a : Nat) (f : Fld) (v : Nat) : (d.put a f v).hcs = d.hcs := rfl
@[simp] theorem Dev.put_fir (d : Dev) (a : Nat) (f : Fld) (v : Nat) : (d.put a f v).fir = d.fir := rfl
@[simp] theorem Dev.put_ras (d : Dev) (a : Nat) (f : Fld) (v : Nat) : (d.put a f v).ras = d.ras := rfl
@[simp] theorem Dev.put_teth (d : Dev) (a : Nat) (f : Fld) (v : Nat) : (d.put a f v).teth = d.teth := rfl
@[simp] theorem Dev.put_bl (d : Dev) (a : Nat) (f : Fld) (v : Nat) : (d.put a f v).bl = d.bl := rfl
@[simp] theorem Dev.put_pair (d : Dev) (a : Nat) (f : Fld) (v : Nat) : (d.put a f v).pair = d.pair := rfl
@[simp] theorem Dev.put_dch (d : Dev) (a : Nat) (f : Fld) (v : Nat) : (d.put a f v).dch = d.dch := rfl
@[simp] theorem Dev.put_cx (d : Dev) (a : Nat) (f : Fld) (v : Nat) : (d.put a f v).cx = d.cx := rfl
@[simp] theorem Dev.put_nh (d : Dev) (a : Nat) (f : Fld) (v : Nat) : (d.put a f v).nh = d.nh := rfl
@[simp] theorem Dev.put_cams (d : Dev) (a : Nat) (f : Fld) (v : Nat) : (d.put a f v).cams = d.cams := rfl
@[simp] theorem Dev.put_cal (d : Dev) (a : Nat) (f : Fld) (v : Nat) : (d.put a f v).cal = d.cal := rfl
@[simp] theorem Dev.put_time (d : Dev) (a : Nat) (f : Fld) (v : Nat) : (d.put a f v).time = d.time := rfl
@[simp] theorem Dev.put_trg (d : Dev) (a : Nat) (f : Fld) (v : Nat) : (d.put a f v).trg = d.trg := rfl
@[simp] theorem Dev.put_cap (d : Dev) (a : Nat) (f : Fld) (v : Nat) : (d.put a f v).cap = d.cap := rfl
@[simp] theorem Dev.put_txq (d : Dev) (a : Nat) (f : Fld) (v : Nat) : (d.put a f v).txq = d.txq := rfl
@[simp] theorem Dev.put_host (d : Dev) (a : Nat) (f : Fld) (v : Nat) : (d.put a f v).host = d.host := rfl
@[simp] theorem Dev.put_cu (d : Dev) (a : Nat) (f : Fld) (v : Nat) : (d.put a f v).cu = d.cu := rfl
@[simp] theorem Dev.put_pwr (d : Dev) (a : Nat) (f : Fld) (v : Nat) : (d.put a f v).pwr = d.pwr := rfl
@[simp] theorem Dev.put_test (d : Dev) (a : Nat) (f : Fld) (v : Nat) : (d.put a f v).test = d.test := rfl

@[simp] theorem Dev.flag_strap (d : Dev) (a : Nat) (f : Fld) : (d.flag a f).strap = d.strap := rfl
@[simp] theorem Dev.flag_now (d : Dev) (a : Nat) (f : Fld) : (d.flag a f).now = d.now := rfl
@[simp] theorem Dev.flag_free (d : Dev) (a : Nat) (f : Fld) : (d.flag a f).free = d.free := rfl
@[simp] theorem Dev.flag_out (d : Dev) (a : Nat) (f : Fld) : (d.flag a f).out = d.out := rfl
@[simp] theorem Dev.flag_islReq (d : Dev) (a : Nat) (f : Fld) : (d.flag a f).islReq = d.islReq := rfl
@[simp] theorem Dev.flag_input (d : Dev) (a : Nat) (f : Fld) : (d.flag a f).input = d.input := rfl
@[simp] theorem Dev.flag_src (d : Dev) (a : Nat) (f : Fld) : (d.flag a f).src = d.src := rfl
@[simp] theorem Dev.flag_pac (d : Dev) (a : Nat) (f : Fld) : (d.flag a f).pac = d.pac := rfl
@[simp] theorem Dev.flag_stations (d : Dev) (a : Nat) (f : Fld) : (d.flag a f).stations = d.stations := rfl
@[simp] theorem Dev.flag_hcs (d : Dev) (a : Nat) (f : Fld) : (d.flag a f).hcs = d.hcs := rfl
@[simp] theorem Dev.flag_fir (d : Dev) (a : Nat) (f : Fld) : (d.flag a f).fir = d.fir := rfl
@[simp] theorem Dev.flag_ras (d : Dev) (a : Nat) (f : Fld) : (d.flag a f).ras = d.ras := rfl
@[simp] theorem Dev.flag_teth (d : Dev) (a : Nat) (f : Fld) : (d.flag a f).teth = d.teth := rfl
@[simp] theorem Dev.flag_bl (d : Dev) (a : Nat) (f : Fld) : (d.flag a f).bl = d.bl := rfl
@[simp] theorem Dev.flag_pair (d : Dev) (a : Nat) (f : Fld) : (d.flag a f).pair = d.pair := rfl
@[simp] theorem Dev.flag_dch (d : Dev) (a : Nat) (f : Fld) : (d.flag a f).dch = d.dch := rfl
@[simp] theorem Dev.flag_cx (d : Dev) (a : Nat) (f : Fld) : (d.flag a f).cx = d.cx := rfl
@[simp] theorem Dev.flag_nh (d : Dev) (a : Nat) (f : Fld) : (d.flag a f).nh = d.nh := rfl
@[simp] theorem Dev.flag_cams (d : Dev) (a : Nat) (f : Fld) : (d.flag a f).cams = d.cams := rfl
@[simp] theorem Dev.flag_cal (d : Dev) (a : Nat) (f : Fld) : (d.flag a f).cal = d.cal := rfl
@[simp] theorem Dev.flag_time (d : Dev) (a : Nat) (f : Fld) : (d.flag a f).time = d.time := rfl
@[simp] theorem Dev.flag_trg (d : Dev) (a : Nat) (f : Fld) : (d.flag a f).trg = d.trg := rfl
@[simp] theorem Dev.flag_cap (d : Dev) (a : Nat) (f : Fld) : (d.flag a f).cap = d.cap := rfl
@[simp] theorem Dev.flag_txq (d : Dev) (a : Nat) (f : Fld) : (d.flag a f).txq = d.txq := rfl
@[simp] theorem Dev.flag_host (d : Dev) (a : Nat) (f : Fld) : (d.flag a f).host = d.host := rfl
@[simp] theorem Dev.flag_cu (d : Dev) (a : Nat) (f : Fld) : (d.flag a f).cu = d.cu := rfl
@[simp] theorem Dev.flag_pwr (d : Dev) (a : Nat) (f : Fld) : (d.flag a f).pwr = d.pwr := rfl
@[simp] theorem Dev.flag_test (d : Dev) (a : Nat) (f : Fld) : (d.flag a f).test = d.test := rfl

@[simp] theorem Dev.clearBit_strap (d : Dev) (a i : Nat) : (d.clearBit a i).strap = d.strap := rfl
@[simp] theorem Dev.clearBit_now (d : Dev) (a i : Nat) : (d.clearBit a i).now = d.now := rfl
@[simp] theorem Dev.clearBit_free (d : Dev) (a i : Nat) : (d.clearBit a i).free = d.free := rfl
@[simp] theorem Dev.clearBit_out (d : Dev) (a i : Nat) : (d.clearBit a i).out = d.out := rfl
@[simp] theorem Dev.clearBit_islReq (d : Dev) (a i : Nat) : (d.clearBit a i).islReq = d.islReq := rfl
@[simp] theorem Dev.clearBit_input (d : Dev) (a i : Nat) : (d.clearBit a i).input = d.input := rfl
@[simp] theorem Dev.clearBit_src (d : Dev) (a i : Nat) : (d.clearBit a i).src = d.src := rfl
@[simp] theorem Dev.clearBit_pac (d : Dev) (a i : Nat) : (d.clearBit a i).pac = d.pac := rfl
@[simp] theorem Dev.clearBit_stations (d : Dev) (a i : Nat) : (d.clearBit a i).stations = d.stations := rfl
@[simp] theorem Dev.clearBit_hcs (d : Dev) (a i : Nat) : (d.clearBit a i).hcs = d.hcs := rfl
@[simp] theorem Dev.clearBit_fir (d : Dev) (a i : Nat) : (d.clearBit a i).fir = d.fir := rfl
@[simp] theorem Dev.clearBit_ras (d : Dev) (a i : Nat) : (d.clearBit a i).ras = d.ras := rfl
@[simp] theorem Dev.clearBit_teth (d : Dev) (a i : Nat) : (d.clearBit a i).teth = d.teth := rfl
@[simp] theorem Dev.clearBit_bl (d : Dev) (a i : Nat) : (d.clearBit a i).bl = d.bl := rfl
@[simp] theorem Dev.clearBit_pair (d : Dev) (a i : Nat) : (d.clearBit a i).pair = d.pair := rfl
@[simp] theorem Dev.clearBit_dch (d : Dev) (a i : Nat) : (d.clearBit a i).dch = d.dch := rfl
@[simp] theorem Dev.clearBit_cx (d : Dev) (a i : Nat) : (d.clearBit a i).cx = d.cx := rfl
@[simp] theorem Dev.clearBit_nh (d : Dev) (a i : Nat) : (d.clearBit a i).nh = d.nh := rfl
@[simp] theorem Dev.clearBit_cams (d : Dev) (a i : Nat) : (d.clearBit a i).cams = d.cams := rfl
@[simp] theorem Dev.clearBit_cal (d : Dev) (a i : Nat) : (d.clearBit a i).cal = d.cal := rfl
@[simp] theorem Dev.clearBit_time (d : Dev) (a i : Nat) : (d.clearBit a i).time = d.time := rfl
@[simp] theorem Dev.clearBit_trg (d : Dev) (a i : Nat) : (d.clearBit a i).trg = d.trg := rfl
@[simp] theorem Dev.clearBit_cap (d : Dev) (a i : Nat) : (d.clearBit a i).cap = d.cap := rfl
@[simp] theorem Dev.clearBit_txq (d : Dev) (a i : Nat) : (d.clearBit a i).txq = d.txq := rfl
@[simp] theorem Dev.clearBit_host (d : Dev) (a i : Nat) : (d.clearBit a i).host = d.host := rfl
@[simp] theorem Dev.clearBit_cu (d : Dev) (a i : Nat) : (d.clearBit a i).cu = d.cu := rfl
@[simp] theorem Dev.clearBit_pwr (d : Dev) (a i : Nat) : (d.clearBit a i).pwr = d.pwr := rfl
@[simp] theorem Dev.clearBit_test (d : Dev) (a i : Nat) : (d.clearBit a i).test = d.test := rfl

@[simp] theorem Dev.flagBit_strap (d : Dev) (a i : Nat) : (d.flagBit a i).strap = d.strap := rfl
@[simp] theorem Dev.flagBit_now (d : Dev) (a i : Nat) : (d.flagBit a i).now = d.now := rfl
@[simp] theorem Dev.flagBit_free (d : Dev) (a i : Nat) : (d.flagBit a i).free = d.free := rfl
@[simp] theorem Dev.flagBit_out (d : Dev) (a i : Nat) : (d.flagBit a i).out = d.out := rfl
@[simp] theorem Dev.flagBit_islReq (d : Dev) (a i : Nat) : (d.flagBit a i).islReq = d.islReq := rfl
@[simp] theorem Dev.flagBit_input (d : Dev) (a i : Nat) : (d.flagBit a i).input = d.input := rfl
@[simp] theorem Dev.flagBit_src (d : Dev) (a i : Nat) : (d.flagBit a i).src = d.src := rfl
@[simp] theorem Dev.flagBit_pac (d : Dev) (a i : Nat) : (d.flagBit a i).pac = d.pac := rfl
@[simp] theorem Dev.flagBit_stations (d : Dev) (a i : Nat) : (d.flagBit a i).stations = d.stations := rfl
@[simp] theorem Dev.flagBit_hcs (d : Dev) (a i : Nat) : (d.flagBit a i).hcs = d.hcs := rfl
@[simp] theorem Dev.flagBit_fir (d : Dev) (a i : Nat) : (d.flagBit a i).fir = d.fir := rfl
@[simp] theorem Dev.flagBit_ras (d : Dev) (a i : Nat) : (d.flagBit a i).ras = d.ras := rfl
@[simp] theorem Dev.flagBit_teth (d : Dev) (a i : Nat) : (d.flagBit a i).teth = d.teth := rfl
@[simp] theorem Dev.flagBit_bl (d : Dev) (a i : Nat) : (d.flagBit a i).bl = d.bl := rfl
@[simp] theorem Dev.flagBit_pair (d : Dev) (a i : Nat) : (d.flagBit a i).pair = d.pair := rfl
@[simp] theorem Dev.flagBit_dch (d : Dev) (a i : Nat) : (d.flagBit a i).dch = d.dch := rfl
@[simp] theorem Dev.flagBit_cx (d : Dev) (a i : Nat) : (d.flagBit a i).cx = d.cx := rfl
@[simp] theorem Dev.flagBit_nh (d : Dev) (a i : Nat) : (d.flagBit a i).nh = d.nh := rfl
@[simp] theorem Dev.flagBit_cams (d : Dev) (a i : Nat) : (d.flagBit a i).cams = d.cams := rfl
@[simp] theorem Dev.flagBit_cal (d : Dev) (a i : Nat) : (d.flagBit a i).cal = d.cal := rfl
@[simp] theorem Dev.flagBit_time (d : Dev) (a i : Nat) : (d.flagBit a i).time = d.time := rfl
@[simp] theorem Dev.flagBit_trg (d : Dev) (a i : Nat) : (d.flagBit a i).trg = d.trg := rfl
@[simp] theorem Dev.flagBit_cap (d : Dev) (a i : Nat) : (d.flagBit a i).cap = d.cap := rfl
@[simp] theorem Dev.flagBit_txq (d : Dev) (a i : Nat) : (d.flagBit a i).txq = d.txq := rfl
@[simp] theorem Dev.flagBit_host (d : Dev) (a i : Nat) : (d.flagBit a i).host = d.host := rfl
@[simp] theorem Dev.flagBit_cu (d : Dev) (a i : Nat) : (d.flagBit a i).cu = d.cu := rfl
@[simp] theorem Dev.flagBit_pwr (d : Dev) (a i : Nat) : (d.flagBit a i).pwr = d.pwr := rfl
@[simp] theorem Dev.flagBit_test (d : Dev) (a i : Nat) : (d.flagBit a i).test = d.test := rfl

@[simp] theorem Dev.count_strap (d : Dev) (a : Nat) (f : Fld) (n : Nat) : (d.count a f n).strap = d.strap := rfl
@[simp] theorem Dev.count_now (d : Dev) (a : Nat) (f : Fld) (n : Nat) : (d.count a f n).now = d.now := rfl
@[simp] theorem Dev.count_free (d : Dev) (a : Nat) (f : Fld) (n : Nat) : (d.count a f n).free = d.free := rfl
@[simp] theorem Dev.count_out (d : Dev) (a : Nat) (f : Fld) (n : Nat) : (d.count a f n).out = d.out := rfl
@[simp] theorem Dev.count_islReq (d : Dev) (a : Nat) (f : Fld) (n : Nat) : (d.count a f n).islReq = d.islReq := rfl
@[simp] theorem Dev.count_input (d : Dev) (a : Nat) (f : Fld) (n : Nat) : (d.count a f n).input = d.input := rfl
@[simp] theorem Dev.count_src (d : Dev) (a : Nat) (f : Fld) (n : Nat) : (d.count a f n).src = d.src := rfl
@[simp] theorem Dev.count_pac (d : Dev) (a : Nat) (f : Fld) (n : Nat) : (d.count a f n).pac = d.pac := rfl
@[simp] theorem Dev.count_stations (d : Dev) (a : Nat) (f : Fld) (n : Nat) : (d.count a f n).stations = d.stations := rfl
@[simp] theorem Dev.count_hcs (d : Dev) (a : Nat) (f : Fld) (n : Nat) : (d.count a f n).hcs = d.hcs := rfl
@[simp] theorem Dev.count_fir (d : Dev) (a : Nat) (f : Fld) (n : Nat) : (d.count a f n).fir = d.fir := rfl
@[simp] theorem Dev.count_ras (d : Dev) (a : Nat) (f : Fld) (n : Nat) : (d.count a f n).ras = d.ras := rfl
@[simp] theorem Dev.count_teth (d : Dev) (a : Nat) (f : Fld) (n : Nat) : (d.count a f n).teth = d.teth := rfl
@[simp] theorem Dev.count_bl (d : Dev) (a : Nat) (f : Fld) (n : Nat) : (d.count a f n).bl = d.bl := rfl
@[simp] theorem Dev.count_pair (d : Dev) (a : Nat) (f : Fld) (n : Nat) : (d.count a f n).pair = d.pair := rfl
@[simp] theorem Dev.count_dch (d : Dev) (a : Nat) (f : Fld) (n : Nat) : (d.count a f n).dch = d.dch := rfl
@[simp] theorem Dev.count_cx (d : Dev) (a : Nat) (f : Fld) (n : Nat) : (d.count a f n).cx = d.cx := rfl
@[simp] theorem Dev.count_nh (d : Dev) (a : Nat) (f : Fld) (n : Nat) : (d.count a f n).nh = d.nh := rfl
@[simp] theorem Dev.count_cams (d : Dev) (a : Nat) (f : Fld) (n : Nat) : (d.count a f n).cams = d.cams := rfl
@[simp] theorem Dev.count_cal (d : Dev) (a : Nat) (f : Fld) (n : Nat) : (d.count a f n).cal = d.cal := rfl
@[simp] theorem Dev.count_time (d : Dev) (a : Nat) (f : Fld) (n : Nat) : (d.count a f n).time = d.time := rfl
@[simp] theorem Dev.count_trg (d : Dev) (a : Nat) (f : Fld) (n : Nat) : (d.count a f n).trg = d.trg := rfl
@[simp] theorem Dev.count_cap (d : Dev) (a : Nat) (f : Fld) (n : Nat) : (d.count a f n).cap = d.cap := rfl
@[simp] theorem Dev.count_txq (d : Dev) (a : Nat) (f : Fld) (n : Nat) : (d.count a f n).txq = d.txq := rfl
@[simp] theorem Dev.count_host (d : Dev) (a : Nat) (f : Fld) (n : Nat) : (d.count a f n).host = d.host := rfl
@[simp] theorem Dev.count_cu (d : Dev) (a : Nat) (f : Fld) (n : Nat) : (d.count a f n).cu = d.cu := rfl
@[simp] theorem Dev.count_pwr (d : Dev) (a : Nat) (f : Fld) (n : Nat) : (d.count a f n).pwr = d.pwr := rfl
@[simp] theorem Dev.count_test (d : Dev) (a : Nat) (f : Fld) (n : Nat) : (d.count a f n).test = d.test := rfl

@[simp] theorem Dev.typedWrite_strap (d : Dev) (a : Nat) (v : Word) : (d.typedWrite a v).strap = d.strap := rfl
@[simp] theorem Dev.typedWrite_now (d : Dev) (a : Nat) (v : Word) : (d.typedWrite a v).now = d.now := rfl
@[simp] theorem Dev.typedWrite_free (d : Dev) (a : Nat) (v : Word) : (d.typedWrite a v).free = d.free := rfl
@[simp] theorem Dev.typedWrite_out (d : Dev) (a : Nat) (v : Word) : (d.typedWrite a v).out = d.out := rfl
@[simp] theorem Dev.typedWrite_islReq (d : Dev) (a : Nat) (v : Word) : (d.typedWrite a v).islReq = d.islReq := rfl
@[simp] theorem Dev.typedWrite_input (d : Dev) (a : Nat) (v : Word) : (d.typedWrite a v).input = d.input := rfl
@[simp] theorem Dev.typedWrite_src (d : Dev) (a : Nat) (v : Word) : (d.typedWrite a v).src = d.src := rfl
@[simp] theorem Dev.typedWrite_pac (d : Dev) (a : Nat) (v : Word) : (d.typedWrite a v).pac = d.pac := rfl
@[simp] theorem Dev.typedWrite_stations (d : Dev) (a : Nat) (v : Word) : (d.typedWrite a v).stations = d.stations := rfl
@[simp] theorem Dev.typedWrite_hcs (d : Dev) (a : Nat) (v : Word) : (d.typedWrite a v).hcs = d.hcs := rfl
@[simp] theorem Dev.typedWrite_fir (d : Dev) (a : Nat) (v : Word) : (d.typedWrite a v).fir = d.fir := rfl
@[simp] theorem Dev.typedWrite_ras (d : Dev) (a : Nat) (v : Word) : (d.typedWrite a v).ras = d.ras := rfl
@[simp] theorem Dev.typedWrite_teth (d : Dev) (a : Nat) (v : Word) : (d.typedWrite a v).teth = d.teth := rfl
@[simp] theorem Dev.typedWrite_bl (d : Dev) (a : Nat) (v : Word) : (d.typedWrite a v).bl = d.bl := rfl
@[simp] theorem Dev.typedWrite_pair (d : Dev) (a : Nat) (v : Word) : (d.typedWrite a v).pair = d.pair := rfl
@[simp] theorem Dev.typedWrite_dch (d : Dev) (a : Nat) (v : Word) : (d.typedWrite a v).dch = d.dch := rfl
@[simp] theorem Dev.typedWrite_cx (d : Dev) (a : Nat) (v : Word) : (d.typedWrite a v).cx = d.cx := rfl
@[simp] theorem Dev.typedWrite_nh (d : Dev) (a : Nat) (v : Word) : (d.typedWrite a v).nh = d.nh := rfl
@[simp] theorem Dev.typedWrite_cams (d : Dev) (a : Nat) (v : Word) : (d.typedWrite a v).cams = d.cams := rfl
@[simp] theorem Dev.typedWrite_cal (d : Dev) (a : Nat) (v : Word) : (d.typedWrite a v).cal = d.cal := rfl
@[simp] theorem Dev.typedWrite_time (d : Dev) (a : Nat) (v : Word) : (d.typedWrite a v).time = d.time := rfl
@[simp] theorem Dev.typedWrite_trg (d : Dev) (a : Nat) (v : Word) : (d.typedWrite a v).trg = d.trg := rfl
@[simp] theorem Dev.typedWrite_cap (d : Dev) (a : Nat) (v : Word) : (d.typedWrite a v).cap = d.cap := rfl
@[simp] theorem Dev.typedWrite_txq (d : Dev) (a : Nat) (v : Word) : (d.typedWrite a v).txq = d.txq := rfl
@[simp] theorem Dev.typedWrite_host (d : Dev) (a : Nat) (v : Word) : (d.typedWrite a v).host = d.host := rfl
@[simp] theorem Dev.typedWrite_cu (d : Dev) (a : Nat) (v : Word) : (d.typedWrite a v).cu = d.cu := rfl
@[simp] theorem Dev.typedWrite_pwr (d : Dev) (a : Nat) (v : Word) : (d.typedWrite a v).pwr = d.pwr := rfl
@[simp] theorem Dev.typedWrite_test (d : Dev) (a : Nat) (v : Word) : (d.typedWrite a v).test = d.test := rfl

@[simp] theorem Dev.emit_strap (d : Dev) (o : Out) : (d.emit o).strap = d.strap := rfl
@[simp] theorem Dev.emit_now (d : Dev) (o : Out) : (d.emit o).now = d.now := rfl
@[simp] theorem Dev.emit_regs (d : Dev) (o : Out) : (d.emit o).regs = d.regs := rfl
@[simp] theorem Dev.emit_free (d : Dev) (o : Out) : (d.emit o).free = d.free := rfl
@[simp] theorem Dev.emit_islReq (d : Dev) (o : Out) : (d.emit o).islReq = d.islReq := rfl
@[simp] theorem Dev.emit_input (d : Dev) (o : Out) : (d.emit o).input = d.input := rfl
@[simp] theorem Dev.emit_src (d : Dev) (o : Out) : (d.emit o).src = d.src := rfl
@[simp] theorem Dev.emit_pac (d : Dev) (o : Out) : (d.emit o).pac = d.pac := rfl
@[simp] theorem Dev.emit_stations (d : Dev) (o : Out) : (d.emit o).stations = d.stations := rfl
@[simp] theorem Dev.emit_hcs (d : Dev) (o : Out) : (d.emit o).hcs = d.hcs := rfl
@[simp] theorem Dev.emit_fir (d : Dev) (o : Out) : (d.emit o).fir = d.fir := rfl
@[simp] theorem Dev.emit_ras (d : Dev) (o : Out) : (d.emit o).ras = d.ras := rfl
@[simp] theorem Dev.emit_teth (d : Dev) (o : Out) : (d.emit o).teth = d.teth := rfl
@[simp] theorem Dev.emit_bl (d : Dev) (o : Out) : (d.emit o).bl = d.bl := rfl
@[simp] theorem Dev.emit_pair (d : Dev) (o : Out) : (d.emit o).pair = d.pair := rfl
@[simp] theorem Dev.emit_dch (d : Dev) (o : Out) : (d.emit o).dch = d.dch := rfl
@[simp] theorem Dev.emit_cx (d : Dev) (o : Out) : (d.emit o).cx = d.cx := rfl
@[simp] theorem Dev.emit_nh (d : Dev) (o : Out) : (d.emit o).nh = d.nh := rfl
@[simp] theorem Dev.emit_cams (d : Dev) (o : Out) : (d.emit o).cams = d.cams := rfl
@[simp] theorem Dev.emit_cal (d : Dev) (o : Out) : (d.emit o).cal = d.cal := rfl
@[simp] theorem Dev.emit_time (d : Dev) (o : Out) : (d.emit o).time = d.time := rfl
@[simp] theorem Dev.emit_trg (d : Dev) (o : Out) : (d.emit o).trg = d.trg := rfl
@[simp] theorem Dev.emit_cap (d : Dev) (o : Out) : (d.emit o).cap = d.cap := rfl
@[simp] theorem Dev.emit_txq (d : Dev) (o : Out) : (d.emit o).txq = d.txq := rfl
@[simp] theorem Dev.emit_host (d : Dev) (o : Out) : (d.emit o).host = d.host := rfl
@[simp] theorem Dev.emit_cu (d : Dev) (o : Out) : (d.emit o).cu = d.cu := rfl
@[simp] theorem Dev.emit_pwr (d : Dev) (o : Out) : (d.emit o).pwr = d.pwr := rfl
@[simp] theorem Dev.emit_test (d : Dev) (o : Out) : (d.emit o).test = d.test := rfl

@[simp] theorem Dev.modHost_strap (d : Dev) (f : HostSt → HostSt) : (d.modHost f).strap = d.strap := rfl
@[simp] theorem Dev.modHost_now (d : Dev) (f : HostSt → HostSt) : (d.modHost f).now = d.now := rfl
@[simp] theorem Dev.modHost_regs (d : Dev) (f : HostSt → HostSt) : (d.modHost f).regs = d.regs := rfl
@[simp] theorem Dev.modHost_free (d : Dev) (f : HostSt → HostSt) : (d.modHost f).free = d.free := rfl
@[simp] theorem Dev.modHost_out (d : Dev) (f : HostSt → HostSt) : (d.modHost f).out = d.out := rfl
@[simp] theorem Dev.modHost_islReq (d : Dev) (f : HostSt → HostSt) : (d.modHost f).islReq = d.islReq := rfl
@[simp] theorem Dev.modHost_input (d : Dev) (f : HostSt → HostSt) : (d.modHost f).input = d.input := rfl
@[simp] theorem Dev.modHost_src (d : Dev) (f : HostSt → HostSt) : (d.modHost f).src = d.src := rfl
@[simp] theorem Dev.modHost_pac (d : Dev) (f : HostSt → HostSt) : (d.modHost f).pac = d.pac := rfl
@[simp] theorem Dev.modHost_stations (d : Dev) (f : HostSt → HostSt) : (d.modHost f).stations = d.stations := rfl
@[simp] theorem Dev.modHost_hcs (d : Dev) (f : HostSt → HostSt) : (d.modHost f).hcs = d.hcs := rfl
@[simp] theorem Dev.modHost_fir (d : Dev) (f : HostSt → HostSt) : (d.modHost f).fir = d.fir := rfl
@[simp] theorem Dev.modHost_ras (d : Dev) (f : HostSt → HostSt) : (d.modHost f).ras = d.ras := rfl
@[simp] theorem Dev.modHost_teth (d : Dev) (f : HostSt → HostSt) : (d.modHost f).teth = d.teth := rfl
@[simp] theorem Dev.modHost_bl (d : Dev) (f : HostSt → HostSt) : (d.modHost f).bl = d.bl := rfl
@[simp] theorem Dev.modHost_pair (d : Dev) (f : HostSt → HostSt) : (d.modHost f).pair = d.pair := rfl
@[simp] theorem Dev.modHost_dch (d : Dev) (f : HostSt → HostSt) : (d.modHost f).dch = d.dch := rfl
@[simp] theorem Dev.modHost_cx (d : Dev) (f : HostSt → HostSt) : (d.modHost f).cx = d.cx := rfl
@[simp] theorem Dev.modHost_nh (d : Dev) (f : HostSt → HostSt) : (d.modHost f).nh = d.nh := rfl
@[simp] theorem Dev.modHost_cams (d : Dev) (f : HostSt → HostSt) : (d.modHost f).cams = d.cams := rfl
@[simp] theorem Dev.modHost_cal (d : Dev) (f : HostSt → HostSt) : (d.modHost f).cal = d.cal := rfl
@[simp] theorem Dev.modHost_time (d : Dev) (f : HostSt → HostSt) : (d.modHost f).time = d.time := rfl
@[simp] theorem Dev.modHost_trg (d : Dev) (f : HostSt → HostSt) : (d.modHost f).trg = d.trg := rfl
@[simp] theorem Dev.modHost_cap (d : Dev) (f : HostSt → HostSt) : (d.modHost f).cap = d.cap := rfl
@[simp] theorem Dev.modHost_txq (d : Dev) (f : HostSt → HostSt) : (d.modHost f).txq = d.txq := rfl
@[simp] theorem Dev.modHost_cu (d : Dev) (f : HostSt → HostSt) : (d.modHost f).cu = d.cu := rfl
@[simp] theorem Dev.modHost_pwr (d : Dev) (f : HostSt → HostSt) : (d.modHost f).pwr = d.pwr := rfl
@[simp] theorem Dev.modHost_test (d : Dev) (f : HostSt → HostSt) : (d.modHost f).test = d.test := rfl

@[simp] theorem Dev.modPwr_strap (d : Dev) (f : PwrSt → PwrSt) : (d.modPwr f).strap = d.strap := rfl
@[simp] theorem Dev.modPwr_now (d : Dev) (f : PwrSt → PwrSt) : (d.modPwr f).now = d.now := rfl
@[simp] theorem Dev.modPwr_regs (d : Dev) (f : PwrSt → PwrSt) : (d.modPwr f).regs = d.regs := rfl
@[simp] theorem Dev.modPwr_free (d : Dev) (f : PwrSt → PwrSt) : (d.modPwr f).free = d.free := rfl
@[simp] theorem Dev.modPwr_out (d : Dev) (f : PwrSt → PwrSt) : (d.modPwr f).out = d.out := rfl
@[simp] theorem Dev.modPwr_islReq (d : Dev) (f : PwrSt → PwrSt) : (d.modPwr f).islReq = d.islReq := rfl
@[simp] theorem Dev.modPwr_input (d : Dev) (f : PwrSt → PwrSt) : (d.modPwr f).input = d.input := rfl
@[simp] theorem Dev.modPwr_src (d : Dev) (f : PwrSt → PwrSt) : (d.modPwr f).src = d.src := rfl
@[simp] theorem Dev.modPwr_pac (d : Dev) (f : PwrSt → PwrSt) : (d.modPwr f).pac = d.pac := rfl
@[simp] theorem Dev.modPwr_stations (d : Dev) (f : PwrSt → PwrSt) : (d.modPwr f).stations = d.stations := rfl
@[simp] theorem Dev.modPwr_hcs (d : Dev) (f : PwrSt → PwrSt) : (d.modPwr f).hcs = d.hcs := rfl
@[simp] theorem Dev.modPwr_fir (d : Dev) (f : PwrSt → PwrSt) : (d.modPwr f).fir = d.fir := rfl
@[simp] theorem Dev.modPwr_ras (d : Dev) (f : PwrSt → PwrSt) : (d.modPwr f).ras = d.ras := rfl
@[simp] theorem Dev.modPwr_teth (d : Dev) (f : PwrSt → PwrSt) : (d.modPwr f).teth = d.teth := rfl
@[simp] theorem Dev.modPwr_bl (d : Dev) (f : PwrSt → PwrSt) : (d.modPwr f).bl = d.bl := rfl
@[simp] theorem Dev.modPwr_pair (d : Dev) (f : PwrSt → PwrSt) : (d.modPwr f).pair = d.pair := rfl
@[simp] theorem Dev.modPwr_dch (d : Dev) (f : PwrSt → PwrSt) : (d.modPwr f).dch = d.dch := rfl
@[simp] theorem Dev.modPwr_cx (d : Dev) (f : PwrSt → PwrSt) : (d.modPwr f).cx = d.cx := rfl
@[simp] theorem Dev.modPwr_nh (d : Dev) (f : PwrSt → PwrSt) : (d.modPwr f).nh = d.nh := rfl
@[simp] theorem Dev.modPwr_cams (d : Dev) (f : PwrSt → PwrSt) : (d.modPwr f).cams = d.cams := rfl
@[simp] theorem Dev.modPwr_cal (d : Dev) (f : PwrSt → PwrSt) : (d.modPwr f).cal = d.cal := rfl
@[simp] theorem Dev.modPwr_time (d : Dev) (f : PwrSt → PwrSt) : (d.modPwr f).time = d.time := rfl
@[simp] theorem Dev.modPwr_trg (d : Dev) (f : PwrSt → PwrSt) : (d.modPwr f).trg = d.trg := rfl
@[simp] theorem Dev.modPwr_cap (d : Dev) (f : PwrSt → PwrSt) : (d.modPwr f).cap = d.cap := rfl
@[simp] theorem Dev.modPwr_txq (d : Dev) (f : PwrSt → PwrSt) : (d.modPwr f).txq = d.txq := rfl
@[simp] theorem Dev.modPwr_host (d : Dev) (f : PwrSt → PwrSt) : (d.modPwr f).host = d.host := rfl
@[simp] theorem Dev.modPwr_cu (d : Dev) (f : PwrSt → PwrSt) : (d.modPwr f).cu = d.cu := rfl
@[simp] theorem Dev.modPwr_test (d : Dev) (f : PwrSt → PwrSt) : (d.modPwr f).test = d.test := rfl

@[simp] theorem Dev.modPair_strap (d : Dev) (f : PairSt → PairSt) : (d.modPair f).strap = d.strap := rfl
@[simp] theorem Dev.modPair_now (d : Dev) (f : PairSt → PairSt) : (d.modPair f).now = d.now := rfl
@[simp] theorem Dev.modPair_regs (d : Dev) (f : PairSt → PairSt) : (d.modPair f).regs = d.regs := rfl
@[simp] theorem Dev.modPair_free (d : Dev) (f : PairSt → PairSt) : (d.modPair f).free = d.free := rfl
@[simp] theorem Dev.modPair_out (d : Dev) (f : PairSt → PairSt) : (d.modPair f).out = d.out := rfl
@[simp] theorem Dev.modPair_islReq (d : Dev) (f : PairSt → PairSt) : (d.modPair f).islReq = d.islReq := rfl
@[simp] theorem Dev.modPair_input (d : Dev) (f : PairSt → PairSt) : (d.modPair f).input = d.input := rfl
@[simp] theorem Dev.modPair_src (d : Dev) (f : PairSt → PairSt) : (d.modPair f).src = d.src := rfl
@[simp] theorem Dev.modPair_pac (d : Dev) (f : PairSt → PairSt) : (d.modPair f).pac = d.pac := rfl
@[simp] theorem Dev.modPair_stations (d : Dev) (f : PairSt → PairSt) : (d.modPair f).stations = d.stations := rfl
@[simp] theorem Dev.modPair_hcs (d : Dev) (f : PairSt → PairSt) : (d.modPair f).hcs = d.hcs := rfl
@[simp] theorem Dev.modPair_fir (d : Dev) (f : PairSt → PairSt) : (d.modPair f).fir = d.fir := rfl
@[simp] theorem Dev.modPair_ras (d : Dev) (f : PairSt → PairSt) : (d.modPair f).ras = d.ras := rfl
@[simp] theorem Dev.modPair_teth (d : Dev) (f : PairSt → PairSt) : (d.modPair f).teth = d.teth := rfl
@[simp] theorem Dev.modPair_bl (d : Dev) (f : PairSt → PairSt) : (d.modPair f).bl = d.bl := rfl
@[simp] theorem Dev.modPair_dch (d : Dev) (f : PairSt → PairSt) : (d.modPair f).dch = d.dch := rfl
@[simp] theorem Dev.modPair_cx (d : Dev) (f : PairSt → PairSt) : (d.modPair f).cx = d.cx := rfl
@[simp] theorem Dev.modPair_nh (d : Dev) (f : PairSt → PairSt) : (d.modPair f).nh = d.nh := rfl
@[simp] theorem Dev.modPair_cams (d : Dev) (f : PairSt → PairSt) : (d.modPair f).cams = d.cams := rfl
@[simp] theorem Dev.modPair_cal (d : Dev) (f : PairSt → PairSt) : (d.modPair f).cal = d.cal := rfl
@[simp] theorem Dev.modPair_time (d : Dev) (f : PairSt → PairSt) : (d.modPair f).time = d.time := rfl
@[simp] theorem Dev.modPair_trg (d : Dev) (f : PairSt → PairSt) : (d.modPair f).trg = d.trg := rfl
@[simp] theorem Dev.modPair_cap (d : Dev) (f : PairSt → PairSt) : (d.modPair f).cap = d.cap := rfl
@[simp] theorem Dev.modPair_txq (d : Dev) (f : PairSt → PairSt) : (d.modPair f).txq = d.txq := rfl
@[simp] theorem Dev.modPair_host (d : Dev) (f : PairSt → PairSt) : (d.modPair f).host = d.host := rfl
@[simp] theorem Dev.modPair_cu (d : Dev) (f : PairSt → PairSt) : (d.modPair f).cu = d.cu := rfl
@[simp] theorem Dev.modPair_pwr (d : Dev) (f : PairSt → PairSt) : (d.modPair f).pwr = d.pwr := rfl
@[simp] theorem Dev.modPair_test (d : Dev) (f : PairSt → PairSt) : (d.modPair f).test = d.test := rfl

@[simp] theorem Dev.setHc_strap (d : Dev) (c : Nat) (x : HcSt) : (d.setHc c x).strap = d.strap := rfl
@[simp] theorem Dev.setHc_now (d : Dev) (c : Nat) (x : HcSt) : (d.setHc c x).now = d.now := rfl
@[simp] theorem Dev.setHc_regs (d : Dev) (c : Nat) (x : HcSt) : (d.setHc c x).regs = d.regs := rfl
@[simp] theorem Dev.setHc_free (d : Dev) (c : Nat) (x : HcSt) : (d.setHc c x).free = d.free := rfl
@[simp] theorem Dev.setHc_out (d : Dev) (c : Nat) (x : HcSt) : (d.setHc c x).out = d.out := rfl
@[simp] theorem Dev.setHc_islReq (d : Dev) (c : Nat) (x : HcSt) : (d.setHc c x).islReq = d.islReq := rfl
@[simp] theorem Dev.setHc_input (d : Dev) (c : Nat) (x : HcSt) : (d.setHc c x).input = d.input := rfl
@[simp] theorem Dev.setHc_src (d : Dev) (c : Nat) (x : HcSt) : (d.setHc c x).src = d.src := rfl
@[simp] theorem Dev.setHc_pac (d : Dev) (c : Nat) (x : HcSt) : (d.setHc c x).pac = d.pac := rfl
@[simp] theorem Dev.setHc_stations (d : Dev) (c : Nat) (x : HcSt) : (d.setHc c x).stations = d.stations := rfl
@[simp] theorem Dev.setHc_fir (d : Dev) (c : Nat) (x : HcSt) : (d.setHc c x).fir = d.fir := rfl
@[simp] theorem Dev.setHc_ras (d : Dev) (c : Nat) (x : HcSt) : (d.setHc c x).ras = d.ras := rfl
@[simp] theorem Dev.setHc_teth (d : Dev) (c : Nat) (x : HcSt) : (d.setHc c x).teth = d.teth := rfl
@[simp] theorem Dev.setHc_bl (d : Dev) (c : Nat) (x : HcSt) : (d.setHc c x).bl = d.bl := rfl
@[simp] theorem Dev.setHc_pair (d : Dev) (c : Nat) (x : HcSt) : (d.setHc c x).pair = d.pair := rfl
@[simp] theorem Dev.setHc_dch (d : Dev) (c : Nat) (x : HcSt) : (d.setHc c x).dch = d.dch := rfl
@[simp] theorem Dev.setHc_cx (d : Dev) (c : Nat) (x : HcSt) : (d.setHc c x).cx = d.cx := rfl
@[simp] theorem Dev.setHc_nh (d : Dev) (c : Nat) (x : HcSt) : (d.setHc c x).nh = d.nh := rfl
@[simp] theorem Dev.setHc_cams (d : Dev) (c : Nat) (x : HcSt) : (d.setHc c x).cams = d.cams := rfl
@[simp] theorem Dev.setHc_cal (d : Dev) (c : Nat) (x : HcSt) : (d.setHc c x).cal = d.cal := rfl
@[simp] theorem Dev.setHc_time (d : Dev) (c : Nat) (x : HcSt) : (d.setHc c x).time = d.time := rfl
@[simp] theorem Dev.setHc_trg (d : Dev) (c : Nat) (x : HcSt) : (d.setHc c x).trg = d.trg := rfl
@[simp] theorem Dev.setHc_cap (d : Dev) (c : Nat) (x : HcSt) : (d.setHc c x).cap = d.cap := rfl
@[simp] theorem Dev.setHc_txq (d : Dev) (c : Nat) (x : HcSt) : (d.setHc c x).txq = d.txq := rfl
@[simp] theorem Dev.setHc_host (d : Dev) (c : Nat) (x : HcSt) : (d.setHc c x).host = d.host := rfl
@[simp] theorem Dev.setHc_cu (d : Dev) (c : Nat) (x : HcSt) : (d.setHc c x).cu = d.cu := rfl
@[simp] theorem Dev.setHc_pwr (d : Dev) (c : Nat) (x : HcSt) : (d.setHc c x).pwr = d.pwr := rfl
@[simp] theorem Dev.setHc_test (d : Dev) (c : Nat) (x : HcSt) : (d.setHc c x).test = d.test := rfl

@[simp] theorem Dev.modHc_strap (d : Dev) (c : Nat) (f : HcSt → HcSt) : (d.modHc c f).strap = d.strap := rfl
@[simp] theorem Dev.modHc_now (d : Dev) (c : Nat) (f : HcSt → HcSt) : (d.modHc c f).now = d.now := rfl
@[simp] theorem Dev.modHc_regs (d : Dev) (c : Nat) (f : HcSt → HcSt) : (d.modHc c f).regs = d.regs := rfl
@[simp] theorem Dev.modHc_free (d : Dev) (c : Nat) (f : HcSt → HcSt) : (d.modHc c f).free = d.free := rfl
@[simp] theorem Dev.modHc_out (d : Dev) (c : Nat) (f : HcSt → HcSt) : (d.modHc c f).out = d.out := rfl
@[simp] theorem Dev.modHc_islReq (d : Dev) (c : Nat) (f : HcSt → HcSt) : (d.modHc c f).islReq = d.islReq := rfl
@[simp] theorem Dev.modHc_input (d : Dev) (c : Nat) (f : HcSt → HcSt) : (d.modHc c f).input = d.input := rfl
@[simp] theorem Dev.modHc_src (d : Dev) (c : Nat) (f : HcSt → HcSt) : (d.modHc c f).src = d.src := rfl
@[simp] theorem Dev.modHc_pac (d : Dev) (c : Nat) (f : HcSt → HcSt) : (d.modHc c f).pac = d.pac := rfl
@[simp] theorem Dev.modHc_stations (d : Dev) (c : Nat) (f : HcSt → HcSt) : (d.modHc c f).stations = d.stations := rfl
@[simp] theorem Dev.modHc_fir (d : Dev) (c : Nat) (f : HcSt → HcSt) : (d.modHc c f).fir = d.fir := rfl
@[simp] theorem Dev.modHc_ras (d : Dev) (c : Nat) (f : HcSt → HcSt) : (d.modHc c f).ras = d.ras := rfl
@[simp] theorem Dev.modHc_teth (d : Dev) (c : Nat) (f : HcSt → HcSt) : (d.modHc c f).teth = d.teth := rfl
@[simp] theorem Dev.modHc_bl (d : Dev) (c : Nat) (f : HcSt → HcSt) : (d.modHc c f).bl = d.bl := rfl
@[simp] theorem Dev.modHc_pair (d : Dev) (c : Nat) (f : HcSt → HcSt) : (d.modHc c f).pair = d.pair := rfl
@[simp] theorem Dev.modHc_dch (d : Dev) (c : Nat) (f : HcSt → HcSt) : (d.modHc c f).dch = d.dch := rfl
@[simp] theorem Dev.modHc_cx (d : Dev) (c : Nat) (f : HcSt → HcSt) : (d.modHc c f).cx = d.cx := rfl
@[simp] theorem Dev.modHc_nh (d : Dev) (c : Nat) (f : HcSt → HcSt) : (d.modHc c f).nh = d.nh := rfl
@[simp] theorem Dev.modHc_cams (d : Dev) (c : Nat) (f : HcSt → HcSt) : (d.modHc c f).cams = d.cams := rfl
@[simp] theorem Dev.modHc_cal (d : Dev) (c : Nat) (f : HcSt → HcSt) : (d.modHc c f).cal = d.cal := rfl
@[simp] theorem Dev.modHc_time (d : Dev) (c : Nat) (f : HcSt → HcSt) : (d.modHc c f).time = d.time := rfl
@[simp] theorem Dev.modHc_trg (d : Dev) (c : Nat) (f : HcSt → HcSt) : (d.modHc c f).trg = d.trg := rfl
@[simp] theorem Dev.modHc_cap (d : Dev) (c : Nat) (f : HcSt → HcSt) : (d.modHc c f).cap = d.cap := rfl
@[simp] theorem Dev.modHc_txq (d : Dev) (c : Nat) (f : HcSt → HcSt) : (d.modHc c f).txq = d.txq := rfl
@[simp] theorem Dev.modHc_host (d : Dev) (c : Nat) (f : HcSt → HcSt) : (d.modHc c f).host = d.host := rfl
@[simp] theorem Dev.modHc_cu (d : Dev) (c : Nat) (f : HcSt → HcSt) : (d.modHc c f).cu = d.cu := rfl
@[simp] theorem Dev.modHc_pwr (d : Dev) (c : Nat) (f : HcSt → HcSt) : (d.modHc c f).pwr = d.pwr := rfl
@[simp] theorem Dev.modHc_test (d : Dev) (c : Nat) (f : HcSt → HcSt) : (d.modHc c f).test = d.test := rfl

@[simp] theorem Dev.setMemCh_strap (d : Dev) (n : Nat) (x : Dch) : (d.setMemCh n x).strap = d.strap := rfl
@[simp] theorem Dev.setMemCh_now (d : Dev) (n : Nat) (x : Dch) : (d.setMemCh n x).now = d.now := rfl
@[simp] theorem Dev.setMemCh_regs (d : Dev) (n : Nat) (x : Dch) : (d.setMemCh n x).regs = d.regs := rfl
@[simp] theorem Dev.setMemCh_free (d : Dev) (n : Nat) (x : Dch) : (d.setMemCh n x).free = d.free := rfl
@[simp] theorem Dev.setMemCh_out (d : Dev) (n : Nat) (x : Dch) : (d.setMemCh n x).out = d.out := rfl
@[simp] theorem Dev.setMemCh_islReq (d : Dev) (n : Nat) (x : Dch) : (d.setMemCh n x).islReq = d.islReq := rfl
@[simp] theorem Dev.setMemCh_input (d : Dev) (n : Nat) (x : Dch) : (d.setMemCh n x).input = d.input := rfl
@[simp] theorem Dev.setMemCh_src (d : Dev) (n : Nat) (x : Dch) : (d.setMemCh n x).src = d.src := rfl
@[simp] theorem Dev.setMemCh_pac (d : Dev) (n : Nat) (x : Dch) : (d.setMemCh n x).pac = d.pac := rfl
@[simp] theorem Dev.setMemCh_stations (d : Dev) (n : Nat) (x : Dch) : (d.setMemCh n x).stations = d.stations := rfl
@[simp] theorem Dev.setMemCh_hcs (d : Dev) (n : Nat) (x : Dch) : (d.setMemCh n x).hcs = d.hcs := rfl
@[simp] theorem Dev.setMemCh_fir (d : Dev) (n : Nat) (x : Dch) : (d.setMemCh n x).fir = d.fir := rfl
@[simp] theorem Dev.setMemCh_ras (d : Dev) (n : Nat) (x : Dch) : (d.setMemCh n x).ras = d.ras := rfl
@[simp] theorem Dev.setMemCh_teth (d : Dev) (n : Nat) (x : Dch) : (d.setMemCh n x).teth = d.teth := rfl
@[simp] theorem Dev.setMemCh_bl (d : Dev) (n : Nat) (x : Dch) : (d.setMemCh n x).bl = d.bl := rfl
@[simp] theorem Dev.setMemCh_pair (d : Dev) (n : Nat) (x : Dch) : (d.setMemCh n x).pair = d.pair := rfl
@[simp] theorem Dev.setMemCh_cx (d : Dev) (n : Nat) (x : Dch) : (d.setMemCh n x).cx = d.cx := rfl
@[simp] theorem Dev.setMemCh_nh (d : Dev) (n : Nat) (x : Dch) : (d.setMemCh n x).nh = d.nh := rfl
@[simp] theorem Dev.setMemCh_cams (d : Dev) (n : Nat) (x : Dch) : (d.setMemCh n x).cams = d.cams := rfl
@[simp] theorem Dev.setMemCh_cal (d : Dev) (n : Nat) (x : Dch) : (d.setMemCh n x).cal = d.cal := rfl
@[simp] theorem Dev.setMemCh_time (d : Dev) (n : Nat) (x : Dch) : (d.setMemCh n x).time = d.time := rfl
@[simp] theorem Dev.setMemCh_trg (d : Dev) (n : Nat) (x : Dch) : (d.setMemCh n x).trg = d.trg := rfl
@[simp] theorem Dev.setMemCh_cap (d : Dev) (n : Nat) (x : Dch) : (d.setMemCh n x).cap = d.cap := rfl
@[simp] theorem Dev.setMemCh_txq (d : Dev) (n : Nat) (x : Dch) : (d.setMemCh n x).txq = d.txq := rfl
@[simp] theorem Dev.setMemCh_host (d : Dev) (n : Nat) (x : Dch) : (d.setMemCh n x).host = d.host := rfl
@[simp] theorem Dev.setMemCh_cu (d : Dev) (n : Nat) (x : Dch) : (d.setMemCh n x).cu = d.cu := rfl
@[simp] theorem Dev.setMemCh_pwr (d : Dev) (n : Nat) (x : Dch) : (d.setMemCh n x).pwr = d.pwr := rfl
@[simp] theorem Dev.setMemCh_test (d : Dev) (n : Nat) (x : Dch) : (d.setMemCh n x).test = d.test := rfl

@[simp] theorem Dev.sendFrame_strap (d : Dev) (vc ty : Nat) (p : List Byte) : (d.sendFrame vc ty p).strap = d.strap := rfl
@[simp] theorem Dev.sendFrame_now (d : Dev) (vc ty : Nat) (p : List Byte) : (d.sendFrame vc ty p).now = d.now := rfl
@[simp] theorem Dev.sendFrame_regs (d : Dev) (vc ty : Nat) (p : List Byte) : (d.sendFrame vc ty p).regs = d.regs := rfl
@[simp] theorem Dev.sendFrame_free (d : Dev) (vc ty : Nat) (p : List Byte) : (d.sendFrame vc ty p).free = d.free := rfl
@[simp] theorem Dev.sendFrame_out (d : Dev) (vc ty : Nat) (p : List Byte) : (d.sendFrame vc ty p).out = d.out := rfl
@[simp] theorem Dev.sendFrame_islReq (d : Dev) (vc ty : Nat) (p : List Byte) : (d.sendFrame vc ty p).islReq = d.islReq := rfl
@[simp] theorem Dev.sendFrame_input (d : Dev) (vc ty : Nat) (p : List Byte) : (d.sendFrame vc ty p).input = d.input := rfl
@[simp] theorem Dev.sendFrame_src (d : Dev) (vc ty : Nat) (p : List Byte) : (d.sendFrame vc ty p).src = d.src := rfl
@[simp] theorem Dev.sendFrame_pac (d : Dev) (vc ty : Nat) (p : List Byte) : (d.sendFrame vc ty p).pac = d.pac := rfl
@[simp] theorem Dev.sendFrame_stations (d : Dev) (vc ty : Nat) (p : List Byte) : (d.sendFrame vc ty p).stations = d.stations := rfl
@[simp] theorem Dev.sendFrame_hcs (d : Dev) (vc ty : Nat) (p : List Byte) : (d.sendFrame vc ty p).hcs = d.hcs := rfl
@[simp] theorem Dev.sendFrame_fir (d : Dev) (vc ty : Nat) (p : List Byte) : (d.sendFrame vc ty p).fir = d.fir := rfl
@[simp] theorem Dev.sendFrame_ras (d : Dev) (vc ty : Nat) (p : List Byte) : (d.sendFrame vc ty p).ras = d.ras := rfl
@[simp] theorem Dev.sendFrame_bl (d : Dev) (vc ty : Nat) (p : List Byte) : (d.sendFrame vc ty p).bl = d.bl := rfl
@[simp] theorem Dev.sendFrame_pair (d : Dev) (vc ty : Nat) (p : List Byte) : (d.sendFrame vc ty p).pair = d.pair := rfl
@[simp] theorem Dev.sendFrame_dch (d : Dev) (vc ty : Nat) (p : List Byte) : (d.sendFrame vc ty p).dch = d.dch := rfl
@[simp] theorem Dev.sendFrame_cx (d : Dev) (vc ty : Nat) (p : List Byte) : (d.sendFrame vc ty p).cx = d.cx := rfl
@[simp] theorem Dev.sendFrame_nh (d : Dev) (vc ty : Nat) (p : List Byte) : (d.sendFrame vc ty p).nh = d.nh := rfl
@[simp] theorem Dev.sendFrame_cams (d : Dev) (vc ty : Nat) (p : List Byte) : (d.sendFrame vc ty p).cams = d.cams := rfl
@[simp] theorem Dev.sendFrame_cal (d : Dev) (vc ty : Nat) (p : List Byte) : (d.sendFrame vc ty p).cal = d.cal := rfl
@[simp] theorem Dev.sendFrame_time (d : Dev) (vc ty : Nat) (p : List Byte) : (d.sendFrame vc ty p).time = d.time := rfl
@[simp] theorem Dev.sendFrame_trg (d : Dev) (vc ty : Nat) (p : List Byte) : (d.sendFrame vc ty p).trg = d.trg := rfl
@[simp] theorem Dev.sendFrame_cap (d : Dev) (vc ty : Nat) (p : List Byte) : (d.sendFrame vc ty p).cap = d.cap := rfl
@[simp] theorem Dev.sendFrame_txq (d : Dev) (vc ty : Nat) (p : List Byte) : (d.sendFrame vc ty p).txq = d.txq := rfl
@[simp] theorem Dev.sendFrame_host (d : Dev) (vc ty : Nat) (p : List Byte) : (d.sendFrame vc ty p).host = d.host := rfl
@[simp] theorem Dev.sendFrame_cu (d : Dev) (vc ty : Nat) (p : List Byte) : (d.sendFrame vc ty p).cu = d.cu := rfl
@[simp] theorem Dev.sendFrame_pwr (d : Dev) (vc ty : Nat) (p : List Byte) : (d.sendFrame vc ty p).pwr = d.pwr := rfl
@[simp] theorem Dev.sendFrame_test (d : Dev) (vc ty : Nat) (p : List Byte) : (d.sendFrame vc ty p).test = d.test := rfl

@[simp] theorem Dev.modJob_strap (d : Dev) (id : Nat) (f : Job → Job) : (d.modJob id f).strap = d.strap := rfl
@[simp] theorem Dev.modJob_now (d : Dev) (id : Nat) (f : Job → Job) : (d.modJob id f).now = d.now := rfl
@[simp] theorem Dev.modJob_regs (d : Dev) (id : Nat) (f : Job → Job) : (d.modJob id f).regs = d.regs := rfl
@[simp] theorem Dev.modJob_free (d : Dev) (id : Nat) (f : Job → Job) : (d.modJob id f).free = d.free := rfl
@[simp] theorem Dev.modJob_out (d : Dev) (id : Nat) (f : Job → Job) : (d.modJob id f).out = d.out := rfl
@[simp] theorem Dev.modJob_islReq (d : Dev) (id : Nat) (f : Job → Job) : (d.modJob id f).islReq = d.islReq := rfl
@[simp] theorem Dev.modJob_input (d : Dev) (id : Nat) (f : Job → Job) : (d.modJob id f).input = d.input := rfl
@[simp] theorem Dev.modJob_src (d : Dev) (id : Nat) (f : Job → Job) : (d.modJob id f).src = d.src := rfl
@[simp] theorem Dev.modJob_pac (d : Dev) (id : Nat) (f : Job → Job) : (d.modJob id f).pac = d.pac := rfl
@[simp] theorem Dev.modJob_stations (d : Dev) (id : Nat) (f : Job → Job) : (d.modJob id f).stations = d.stations := rfl
@[simp] theorem Dev.modJob_hcs (d : Dev) (id : Nat) (f : Job → Job) : (d.modJob id f).hcs = d.hcs := rfl
@[simp] theorem Dev.modJob_fir (d : Dev) (id : Nat) (f : Job → Job) : (d.modJob id f).fir = d.fir := rfl
@[simp] theorem Dev.modJob_teth (d : Dev) (id : Nat) (f : Job → Job) : (d.modJob id f).teth = d.teth := rfl
@[simp] theorem Dev.modJob_bl (d : Dev) (id : Nat) (f : Job → Job) : (d.modJob id f).bl = d.bl := rfl
@[simp] theorem Dev.modJob_pair (d : Dev) (id : Nat) (f : Job → Job) : (d.modJob id f).pair = d.pair := rfl
@[simp] theorem Dev.modJob_dch (d : Dev) (id : Nat) (f : Job → Job) : (d.modJob id f).dch = d.dch := rfl
@[simp] theorem Dev.modJob_cx (d : Dev) (id : Nat) (f : Job → Job) : (d.modJob id f).cx = d.cx := rfl
@[simp] theorem Dev.modJob_nh (d : Dev) (id : Nat) (f : Job → Job) : (d.modJob id f).nh = d.nh := rfl
@[simp] theorem Dev.modJob_cams (d : Dev) (id : Nat) (f : Job → Job) : (d.modJob id f).cams = d.cams := rfl
@[simp] theorem Dev.modJob_cal (d : Dev) (id : Nat) (f : Job → Job) : (d.modJob id f).cal = d.cal := rfl
@[simp] theorem Dev.modJob_time (d : Dev) (id : Nat) (f : Job → Job) : (d.modJob id f).time = d.time := rfl
@[simp] theorem Dev.modJob_trg (d : Dev) (id : Nat) (f : Job → Job) : (d.modJob id f).trg = d.trg := rfl
@[simp] theorem Dev.modJob_cap (d : Dev) (id : Nat) (f : Job → Job) : (d.modJob id f).cap = d.cap := rfl
@[simp] theorem Dev.modJob_txq (d : Dev) (id : Nat) (f : Job → Job) : (d.modJob id f).txq = d.txq := rfl
@[simp] theorem Dev.modJob_host (d : Dev) (id : Nat) (f : Job → Job) : (d.modJob id f).host = d.host := rfl
@[simp] theorem Dev.modJob_cu (d : Dev) (id : Nat) (f : Job → Job) : (d.modJob id f).cu = d.cu := rfl
@[simp] theorem Dev.modJob_pwr (d : Dev) (id : Nat) (f : Job → Job) : (d.modJob id f).pwr = d.pwr := rfl
@[simp] theorem Dev.modJob_test (d : Dev) (id : Nat) (f : Job → Job) : (d.modJob id f).test = d.test := rfl

@[simp] theorem Dev.setHatch_strap (d : Dev) (n : Nat) (h : Hatch) : (d.setHatch n h).strap = d.strap := rfl
@[simp] theorem Dev.setHatch_now (d : Dev) (n : Nat) (h : Hatch) : (d.setHatch n h).now = d.now := rfl
@[simp] theorem Dev.setHatch_regs (d : Dev) (n : Nat) (h : Hatch) : (d.setHatch n h).regs = d.regs := rfl
@[simp] theorem Dev.setHatch_free (d : Dev) (n : Nat) (h : Hatch) : (d.setHatch n h).free = d.free := rfl
@[simp] theorem Dev.setHatch_out (d : Dev) (n : Nat) (h : Hatch) : (d.setHatch n h).out = d.out := rfl
@[simp] theorem Dev.setHatch_islReq (d : Dev) (n : Nat) (h : Hatch) : (d.setHatch n h).islReq = d.islReq := rfl
@[simp] theorem Dev.setHatch_input (d : Dev) (n : Nat) (h : Hatch) : (d.setHatch n h).input = d.input := rfl
@[simp] theorem Dev.setHatch_src (d : Dev) (n : Nat) (h : Hatch) : (d.setHatch n h).src = d.src := rfl
@[simp] theorem Dev.setHatch_pac (d : Dev) (n : Nat) (h : Hatch) : (d.setHatch n h).pac = d.pac := rfl
@[simp] theorem Dev.setHatch_stations (d : Dev) (n : Nat) (h : Hatch) : (d.setHatch n h).stations = d.stations := rfl
@[simp] theorem Dev.setHatch_hcs (d : Dev) (n : Nat) (h : Hatch) : (d.setHatch n h).hcs = d.hcs := rfl
@[simp] theorem Dev.setHatch_fir (d : Dev) (n : Nat) (h : Hatch) : (d.setHatch n h).fir = d.fir := rfl
@[simp] theorem Dev.setHatch_ras (d : Dev) (n : Nat) (h : Hatch) : (d.setHatch n h).ras = d.ras := rfl
@[simp] theorem Dev.setHatch_teth (d : Dev) (n : Nat) (h : Hatch) : (d.setHatch n h).teth = d.teth := rfl
@[simp] theorem Dev.setHatch_bl (d : Dev) (n : Nat) (h : Hatch) : (d.setHatch n h).bl = d.bl := rfl
@[simp] theorem Dev.setHatch_pair (d : Dev) (n : Nat) (h : Hatch) : (d.setHatch n h).pair = d.pair := rfl
@[simp] theorem Dev.setHatch_dch (d : Dev) (n : Nat) (h : Hatch) : (d.setHatch n h).dch = d.dch := rfl
@[simp] theorem Dev.setHatch_cx (d : Dev) (n : Nat) (h : Hatch) : (d.setHatch n h).cx = d.cx := rfl
@[simp] theorem Dev.setHatch_nh (d : Dev) (n : Nat) (h : Hatch) : (d.setHatch n h).nh = d.nh := rfl
@[simp] theorem Dev.setHatch_cams (d : Dev) (n : Nat) (h : Hatch) : (d.setHatch n h).cams = d.cams := rfl
@[simp] theorem Dev.setHatch_cal (d : Dev) (n : Nat) (h : Hatch) : (d.setHatch n h).cal = d.cal := rfl
@[simp] theorem Dev.setHatch_time (d : Dev) (n : Nat) (h : Hatch) : (d.setHatch n h).time = d.time := rfl
@[simp] theorem Dev.setHatch_trg (d : Dev) (n : Nat) (h : Hatch) : (d.setHatch n h).trg = d.trg := rfl
@[simp] theorem Dev.setHatch_cap (d : Dev) (n : Nat) (h : Hatch) : (d.setHatch n h).cap = d.cap := rfl
@[simp] theorem Dev.setHatch_txq (d : Dev) (n : Nat) (h : Hatch) : (d.setHatch n h).txq = d.txq := rfl
@[simp] theorem Dev.setHatch_cu (d : Dev) (n : Nat) (h : Hatch) : (d.setHatch n h).cu = d.cu := rfl
@[simp] theorem Dev.setHatch_pwr (d : Dev) (n : Nat) (h : Hatch) : (d.setHatch n h).pwr = d.pwr := rfl
@[simp] theorem Dev.setHatch_test (d : Dev) (n : Nat) (h : Hatch) : (d.setHatch n h).test = d.test := rfl

@[simp] theorem Dev.emit_out (d : Dev) (o : Out) : (d.emit o).out = d.out ++ [o] := rfl
@[simp] theorem Dev.modHost_host (d : Dev) (f : HostSt → HostSt) : (d.modHost f).host = f d.host := rfl
@[simp] theorem Dev.modPwr_pwr (d : Dev) (f : PwrSt → PwrSt) : (d.modPwr f).pwr = f d.pwr := rfl
@[simp] theorem Dev.modPair_pair (d : Dev) (f : PairSt → PairSt) : (d.modPair f).pair = f d.pair := rfl

end Sys2Proof.Machine
end

