-- ==== Sys2Proof/Laws/Regs.lean ====
section
/-! SUPPORT. Reads of registers after writes, field by field, and what the passing of time, the lease and the forwarding of a
write leave alone. -/

namespace Sys2Proof.Machine

theorem Dev.rd_wr (d : Dev) (a b : Nat) (v : Word) : (d.wr a v).rd b = if b = a then v else d.rd b :=
  tget_tput regReset d.regs a b v

@[simp] theorem Dev.rd_wr_same (d : Dev) (a : Nat) (v : Word) : (d.wr a v).rd a = v := by simp [Dev.rd_wr]

theorem Dev.rd_wr_ne (d : Dev) {a b : Nat} (v : Word) (h : b ≠ a) : (d.wr a v).rd b = d.rd b := by simp [Dev.rd_wr, h]

theorem Dev.rd_wrN (d : Dev) (a b v : Nat) : (d.wrN a v).rd b = if b = a then BitVec.ofNat 32 v else d.rd b :=
  Dev.rd_wr d a b _

theorem Dev.rd_put (d : Dev) (a b : Nat) (f : Fld) (v : Nat) :
    (d.put a f v).rd b = if b = a then (d.rd a).setFld f v else d.rd b := Dev.rd_wr d a b _

theorem Dev.rd_flag (d : Dev) (a b : Nat) (f : Fld) :
    (d.flag a f).rd b = if b = a then (d.rd a).setFld f 1 else d.rd b := Dev.rd_wr d a b _

theorem Dev.get_wr (d : Dev) (a b : Nat) (v : Word) (g : Fld) : (d.wr a v).get b g = if b = a then v.fld g else d.get b g := by
  unfold Dev.get; rw [Dev.rd_wr]; split <;> rfl

/-- The same field reads what was written, within its width. -/
theorem Dev.get_put_same (d : Dev) (a : Nat) (f : Fld) (v : Nat) (h : f.lo + f.width ≤ 32) :
    (d.put a f v).get a f = v % 2 ^ f.width := by
  unfold Dev.get; rw [Dev.rd_put, if_pos rfl, Word.fld_setFld _ _ _ h]

/-- Another field of the same register, or any field of another, stays. -/
theorem Dev.get_put_other (d : Dev) (a b : Nat) (f g : Fld) (v : Nat) (h : f.lo + f.width ≤ 32)
    (hg : b ≠ a ∨ f.lo + f.width ≤ g.lo ∨ g.lo + g.width ≤ f.lo) : (d.put a f v).get b g = d.get b g := by
  unfold Dev.get; rw [Dev.rd_put]
  by_cases e : b = a
  · rw [if_pos e, e]
    exact Word.fld_setFld_ne _ _ _ _ h (hg.resolve_left (fun n => n e))
  · rw [if_neg e]

theorem Dev.get_put (d : Dev) (a b : Nat) (f g : Fld) (v : Nat) (h : f.lo + f.width ≤ 32) :
    (d.put a f v).get b g =
      if b = a ∧ g = f then v % 2 ^ f.width
      else if b = a ∧ ¬(f.lo + f.width ≤ g.lo ∨ g.lo + g.width ≤ f.lo) then ((d.rd a).setFld f v).fld g
      else d.get b g := by
  split
  · next e => rw [e.1, e.2]; exact Dev.get_put_same d a f v h
  · split
    · next e => unfold Dev.get; rw [Dev.rd_put, if_pos e.1]
    · next e =>
      apply Dev.get_put_other d a b f g v h
      by_cases x : b = a
      · exact .inr (Classical.not_not.1 (fun n => e ⟨x, n⟩))
      · exact .inl x

theorem Dev.get_flag_same (d : Dev) (a : Nat) (f : Fld) (h : f.lo + f.width ≤ 32) (w : 0 < f.width) : (d.flag a f).get a f = 1 := by
  rw [Dev.flag, Dev.get_put_same _ _ _ _ h]
  exact Nat.mod_eq_of_lt (Nat.one_lt_two_pow (Nat.pos_iff_ne_zero.1 w))

theorem Dev.get_flag_other (d : Dev) (a b : Nat) (f g : Fld) (h : f.lo + f.width ≤ 32)
    (hg : b ≠ a ∨ f.lo + f.width ≤ g.lo ∨ g.lo + g.width ≤ f.lo) : (d.flag a f).get b g = d.get b g :=
  Dev.get_put_other d a b f g 1 h hg

/-- A conditional flag leaves every other register. -/
theorem Dev.rd_when_flag (d : Dev) (c : Bool) (b : Nat) (f : Fld) (a : Nat) (h : a ≠ b) :
    (d.when c (fun d => d.flag b f)).rd a = d.rd a := by
  cases c
  · rfl
  · exact (Dev.rd_flag d b a f).trans (if_neg h)

theorem Dev.rd_advanceTime (d : Dev) (n a : Nat) (h : a ≠ TIM_EVT) : (d.advanceTime n).rd a = d.rd a :=
  (Dev.rd_when_flag _ _ _ _ _ h).trans rfl

/-- The passing of time leaves every register but TIM_EVT. -/
theorem State.pass_rd (s : State) (n a : Nat) (h : a ≠ TIM_EVT) : (s.pass n).dev.rd a = s.dev.rd a := Dev.rd_advanceTime _ _ _ h

@[simp] theorem State.pass_mem (s : State) (n : Nat) : (s.pass n).mem = s.mem := rfl
@[simp] theorem State.pass_pending (s : State) (n : Nat) : (s.pass n).pending = s.pending := rfl

@[simp] theorem Dev.rd_emit (d : Dev) (o : Out) (a : Nat) : (d.emit o).rd a = d.rd a := rfl
@[simp] theorem Dev.get_emit (d : Dev) (o : Out) (a : Nat) (f : Fld) : (d.emit o).get a f = d.get a f := rfl
@[simp] theorem Dev.rd_brdSend (d : Dev) (t : Nat) (fs : List Nat) (a : Nat) : (d.brdSend t fs).rd a = d.rd a := by
  unfold Dev.brdSend; split <;> rfl
@[simp] theorem Dev.rd_mirror (d : Dev) (fs : List Nat) (a : Nat) : (d.mirror fs).rd a = d.rd a := by
  unfold Dev.mirror; split <;> simp
theorem Dev.renew_eq (d : Dev) (q : Req) :
    d.renew q = if d.isHolder q then (d.modHost fun h => { h with leaseEnd := d.now + msTicks h.lease }).mirrorLatch else d := by
  rfl
@[simp] theorem Dev.rd_modHost (d : Dev) (f : HostSt → HostSt) (a : Nat) : (d.modHost f).rd a = d.rd a := rfl
@[simp] theorem Dev.rd_mirrorLatch (d : Dev) (a : Nat) : d.mirrorLatch.rd a = d.rd a := Dev.rd_mirror d _ a
@[simp] theorem Dev.rd_renew (d : Dev) (q : Req) (a : Nat) : (d.renew q).rd a = d.rd a := by
  rw [Dev.renew_eq]; split
  · rw [Dev.rd_mirrorLatch, Dev.rd_modHost]
  · rfl
@[simp] theorem Dev.rd_forward (d : Dev) (q : Req) (b : Nat) (v : Word) (a : Nat) : (d.forward q b v).rd a = d.rd a := by
  unfold Dev.forward; split <;> simp

/-- What is sent on the Bridle link changes nothing but the record of what left. -/
theorem Part.same_brdSend (d : Dev) (t : Nat) (fs : List Nat) (p : Part) (h : p ≠ .out) : p.same d (d.brdSend t fs) := by
  unfold Dev.brdSend; split <;> cases p <;> first | rfl | exact absurd rfl h

theorem Part.same_mirror (d : Dev) (fs : List Nat) (p : Part) (h : p ≠ .out) : p.same d (d.mirror fs) := by
  unfold Dev.mirror; split
  · exact Part.same_brdSend _ _ _ _ h
  · cases p <;> rfl

theorem Part.same_mirrorLatch (d : Dev) (p : Part) (h : p ≠ .out) : p.same d d.mirrorLatch := Part.same_mirror d _ p h

theorem Part.same_refl (p : Part) (d : Dev) : p.same d d := by cases p <;> rfl

theorem Part.same_trans {p : Part} {d e f : Dev} (h : p.same d e) (h' : p.same e f) : p.same d f := by
  cases p <;> exact Eq.trans h' h

theorem Part.same_modHost (d : Dev) (f : HostSt → HostSt) (p : Part) (h : p ≠ .host) : p.same d (d.modHost f) := by
  cases p <;> first | rfl | exact absurd rfl h

/-- The lease's renewal changes nothing but the lease and the record of what left. -/
theorem Part.same_renew (d : Dev) (q : Req) (p : Part) (h : p ≠ .out) (h' : p ≠ .host) : p.same d (d.renew q) := by
  rw [Dev.renew_eq]; split
  · exact Part.same_trans (Part.same_modHost d _ p h') (Part.same_mirrorLatch _ p h)
  · cases p <;> rfl

theorem Part.same_forward (d : Dev) (q : Req) (a : Nat) (v : Word) (p : Part) (h : p ≠ .out) : p.same d (d.forward q a v) := by
  unfold Dev.forward; split
  · exact Part.same_brdSend _ _ _ _ h
  · cases p <;> rfl

theorem Frame.refl (rs : List Nat) (ps : List Part) (d : Dev) : Frame rs ps d d := ⟨fun _ _ => rfl, fun p _ => p.same_refl d⟩

theorem Frame.trans {rs : List Nat} {ps : List Part} {d e f : Dev} (h : Frame rs ps d e) (h' : Frame rs ps e f) : Frame rs ps d f :=
  ⟨fun a x => (h'.1 a x).trans (h.1 a x), fun p x => Part.same_trans (h.2 p x) (h'.2 p x)⟩

theorem Frame.mono {rs rs' : List Nat} {ps ps' : List Part} {d e : Dev} (h : Frame rs ps d e) (hr : ∀ a ∈ rs, a ∈ rs')
    (hp : ∀ p ∈ ps, p ∈ ps') : Frame rs' ps' d e :=
  ⟨fun a x => h.1 a (fun m => x (hr a m)), fun p x => h.2 p (fun m => x (hp p m))⟩

theorem Frame.wr (rs : List Nat) (ps : List Part) (d : Dev) (a : Nat) (v : Word) (h : a ∈ rs) : Frame rs ps d (d.wr a v) :=
  ⟨fun b x => Dev.rd_wr_ne d v (fun e => x (e ▸ h)), fun p _ => by cases p <;> rfl⟩

theorem Frame.put (rs : List Nat) (ps : List Part) (d : Dev) (a : Nat) (f : Fld) (v : Nat) (h : a ∈ rs) : Frame rs ps d (d.put a f v) :=
  Frame.wr rs ps d a _ h

theorem Frame.emit (rs : List Nat) (ps : List Part) (d : Dev) (o : Out) (h : Part.out ∈ ps) : Frame rs ps d (d.emit o) :=
  ⟨fun _ _ => rfl, fun p x => by cases p <;> first | rfl | exact absurd h x⟩

theorem Frame.renew (rs : List Nat) (ps : List Part) (d : Dev) (q : Req) (h : Part.out ∈ ps) (h' : Part.host ∈ ps) :
    Frame rs ps d (d.renew q) :=
  ⟨fun a _ => Dev.rd_renew d q a, fun p x => Part.same_renew d q p (fun e => x (e ▸ h)) (fun e => x (e ▸ h'))⟩

theorem Frame.forward (rs : List Nat) (ps : List Part) (d : Dev) (q : Req) (a : Nat) (v : Word) (h : Part.out ∈ ps) :
    Frame rs ps d (d.forward q a v) :=
  ⟨fun b _ => Dev.rd_forward d q a v b, fun p x => Part.same_forward d q a v p (fun e => x (e ▸ h))⟩

theorem Frame.flag (rs : List Nat) (ps : List Part) (d : Dev) (a : Nat) (f : Fld) (h : a ∈ rs) : Frame rs ps d (d.flag a f) :=
  Frame.wr rs ps d a _ h

theorem Frame.count (rs : List Nat) (ps : List Part) (d : Dev) (a : Nat) (f : Fld) (n : Nat) (h : a ∈ rs) :
    Frame rs ps d (d.count a f n) := Frame.wr rs ps d a _ h

theorem Frame.wrN (rs : List Nat) (ps : List Part) (d : Dev) (a n : Nat) (h : a ∈ rs) : Frame rs ps d (d.wrN a n) :=
  Frame.wr rs ps d a _ h

theorem Frame.typedWrite (rs : List Nat) (ps : List Part) (d : Dev) (a : Nat) (v : Word) (h : a ∈ rs) :
    Frame rs ps d (d.typedWrite a v) := Frame.wr rs ps d a _ h

theorem Frame.when {rs : List Nat} {ps : List Part} {d : Dev} {f : Dev → Dev} (c : Bool) (h : Frame rs ps d (f d)) :
    Frame rs ps d (d.when c f) := by
  cases c
  · exact Frame.refl rs ps d
  · exact h

theorem Frame.each {rs : List Nat} {ps : List Part} (f : Nat → Dev → Dev) (l : List Nat) :
    ∀ d : Dev, (∀ i ∈ l, ∀ e, Frame rs ps e (f i e)) → Frame rs ps d (d.each l f) := by
  induction l with
  | nil => intro d _; exact Frame.refl rs ps d
  | cons i l ih =>
    intro d h
    exact Frame.trans (h i (List.mem_cons_self ..) d) (ih (f i d) (fun j m e => h j (List.mem_cons_of_mem _ m) e))

theorem Frame.brdSend (rs : List Nat) (ps : List Part) (d : Dev) (t : Nat) (fs : List Nat) (h : Part.out ∈ ps) :
    Frame rs ps d (d.brdSend t fs) :=
  ⟨fun a _ => Dev.rd_brdSend d t fs a, fun p x => Part.same_brdSend d t fs p (fun e => x (e ▸ h))⟩

theorem Frame.mirror (rs : List Nat) (ps : List Part) (d : Dev) (fs : List Nat) (h : Part.out ∈ ps) :
    Frame rs ps d (d.mirror fs) :=
  ⟨fun a _ => Dev.rd_mirror d fs a, fun p x => Part.same_mirror d fs p (fun e => x (e ▸ h))⟩

theorem Frame.notify (rs : List Nat) (ps : List Part) (d : Dev) (code : Nat) (l : List Word) (h : Part.host ∈ ps) :
    Frame rs ps d (d.notify code l) := by
  unfold Dev.notify
  dsimp only
  split
  · exact ⟨fun _ _ => rfl, fun p x => by cases p <;> first | rfl | exact absurd h x⟩
  · exact ⟨fun _ _ => rfl, fun p x => by cases p <;> first | rfl | exact absurd h x⟩

theorem Frame.modHc (rs : List Nat) (ps : List Part) (d : Dev) (c : Nat) (f : HcSt → HcSt) (h : Part.hcs ∈ ps) :
    Frame rs ps d (d.modHc c f) := ⟨fun _ _ => rfl, fun p x => by cases p <;> first | rfl | exact absurd h x⟩

theorem Frame.modPair (rs : List Nat) (ps : List Part) (d : Dev) (f : PairSt → PairSt) (h : Part.pair ∈ ps) :
    Frame rs ps d (d.modPair f) := ⟨fun _ _ => rfl, fun p x => by cases p <;> first | rfl | exact absurd h x⟩

theorem Frame.modHost (rs : List Nat) (ps : List Part) (d : Dev) (f : HostSt → HostSt) (h : Part.host ∈ ps) :
    Frame rs ps d (d.modHost f) := ⟨fun _ _ => rfl, fun p x => by cases p <;> first | rfl | exact absurd h x⟩

theorem Frame.sendFrame (rs : List Nat) (ps : List Part) (d : Dev) (vc ty : Nat) (b : List Byte) (h : Part.teth ∈ ps) :
    Frame rs ps d (d.sendFrame vc ty b) := ⟨fun _ _ => rfl, fun p x => by cases p <;> first | rfl | exact absurd h x⟩

/-- Passing time changes TIM_EVT, the tick and the domains, and nothing else. -/
theorem Frame.advanceTime (d : Dev) (n : Nat) : Frame [TIM_EVT] [.now, .time] d (d.advanceTime n) := by
  unfold Dev.advanceTime
  dsimp only
  refine Frame.trans ?_ (Frame.when _ (Frame.flag _ _ _ _ _ (List.mem_singleton_self _)))
  refine ⟨fun _ _ => rfl, fun p x => ?_⟩
  cases p <;> first | rfl | exact absurd (by decide) x

/-! ## One register access -/

/-! What is sent on the Bridle link, and the lease's renewal, leave every part but their own. -/

@[simp] theorem Dev.brdSend_strap (d : Dev) (ty : Nat) (fs : List Nat) : (d.brdSend ty fs).strap = d.strap :=
  Part.same_brdSend d ty fs .strap (by decide)
@[simp] theorem Dev.brdSend_now (d : Dev) (ty : Nat) (fs : List Nat) : (d.brdSend ty fs).now = d.now :=
  Part.same_brdSend d ty fs .now (by decide)
@[simp] theorem Dev.brdSend_free (d : Dev) (ty : Nat) (fs : List Nat) : (d.brdSend ty fs).free = d.free :=
  Part.same_brdSend d ty fs .free (by decide)
@[simp] theorem Dev.brdSend_islReq (d : Dev) (ty : Nat) (fs : List Nat) : (d.brdSend ty fs).islReq = d.islReq :=
  Part.same_brdSend d ty fs .islReq (by decide)
@[simp] theorem Dev.brdSend_input (d : Dev) (ty : Nat) (fs : List Nat) : (d.brdSend ty fs).input = d.input :=
  Part.same_brdSend d ty fs .input (by decide)
@[simp] theorem Dev.brdSend_src (d : Dev) (ty : Nat) (fs : List Nat) : (d.brdSend ty fs).src = d.src :=
  Part.same_brdSend d ty fs .src (by decide)
@[simp] theorem Dev.brdSend_pac (d : Dev) (ty : Nat) (fs : List Nat) : (d.brdSend ty fs).pac = d.pac :=
  Part.same_brdSend d ty fs .pac (by decide)
@[simp] theorem Dev.brdSend_stations (d : Dev) (ty : Nat) (fs : List Nat) : (d.brdSend ty fs).stations = d.stations :=
  Part.same_brdSend d ty fs .stations (by decide)
@[simp] theorem Dev.brdSend_hcs (d : Dev) (ty : Nat) (fs : List Nat) : (d.brdSend ty fs).hcs = d.hcs :=
  Part.same_brdSend d ty fs .hcs (by decide)
@[simp] theorem Dev.brdSend_fir (d : Dev) (ty : Nat) (fs : List Nat) : (d.brdSend ty fs).fir = d.fir :=
  Part.same_brdSend d ty fs .fir (by decide)
@[simp] theorem Dev.brdSend_ras (d : Dev) (ty : Nat) (fs : List Nat) : (d.brdSend ty fs).ras = d.ras :=
  Part.same_brdSend d ty fs .ras (by decide)
@[simp] theorem Dev.brdSend_teth (d : Dev) (ty : Nat) (fs : List Nat) : (d.brdSend ty fs).teth = d.teth :=
  Part.same_brdSend d ty fs .teth (by decide)
@[simp] theorem Dev.brdSend_bl (d : Dev) (ty : Nat) (fs : List Nat) : (d.brdSend ty fs).bl = d.bl :=
  Part.same_brdSend d ty fs .bl (by decide)
@[simp] theorem Dev.brdSend_pair (d : Dev) (ty : Nat) (fs : List Nat) : (d.brdSend ty fs).pair = d.pair :=
  Part.same_brdSend d ty fs .pair (by decide)
@[simp] theorem Dev.brdSend_dch (d : Dev) (ty : Nat) (fs : List Nat) : (d.brdSend ty fs).dch = d.dch :=
  Part.same_brdSend d ty fs .dch (by decide)
@[simp] theorem Dev.brdSend_cx (d : Dev) (ty : Nat) (fs : List Nat) : (d.brdSend ty fs).cx = d.cx :=
  Part.same_brdSend d ty fs .cx (by decide)
@[simp] theorem Dev.brdSend_nh (d : Dev) (ty : Nat) (fs : List Nat) : (d.brdSend ty fs).nh = d.nh :=
  Part.same_brdSend d ty fs .nh (by decide)
@[simp] theorem Dev.brdSend_cams (d : Dev) (ty : Nat) (fs : List Nat) : (d.brdSend ty fs).cams = d.cams :=
  Part.same_brdSend d ty fs .cams (by decide)
@[simp] theorem Dev.brdSend_cal (d : Dev) (ty : Nat) (fs : List Nat) : (d.brdSend ty fs).cal = d.cal :=
  Part.same_brdSend d ty fs .cal (by decide)
@[simp] theorem Dev.brdSend_time (d : Dev) (ty : Nat) (fs : List Nat) : (d.brdSend ty fs).time = d.time :=
  Part.same_brdSend d ty fs .time (by decide)
@[simp] theorem Dev.brdSend_trg (d : Dev) (ty : Nat) (fs : List Nat) : (d.brdSend ty fs).trg = d.trg :=
  Part.same_brdSend d ty fs .trg (by decide)
@[simp] theorem Dev.brdSend_cap (d : Dev) (ty : Nat) (fs : List Nat) : (d.brdSend ty fs).cap = d.cap :=
  Part.same_brdSend d ty fs .cap (by decide)
@[simp] theorem Dev.brdSend_txq (d : Dev) (ty : Nat) (fs : List Nat) : (d.brdSend ty fs).txq = d.txq :=
  Part.same_brdSend d ty fs .txq (by decide)
@[simp] theorem Dev.brdSend_host (d : Dev) (ty : Nat) (fs : List Nat) : (d.brdSend ty fs).host = d.host :=
  Part.same_brdSend d ty fs .host (by decide)
@[simp] theorem Dev.brdSend_cu (d : Dev) (ty : Nat) (fs : List Nat) : (d.brdSend ty fs).cu = d.cu :=
  Part.same_brdSend d ty fs .cu (by decide)
@[simp] theorem Dev.brdSend_pwr (d : Dev) (ty : Nat) (fs : List Nat) : (d.brdSend ty fs).pwr = d.pwr :=
  Part.same_brdSend d ty fs .pwr (by decide)
@[simp] theorem Dev.brdSend_test (d : Dev) (ty : Nat) (fs : List Nat) : (d.brdSend ty fs).test = d.test :=
  Part.same_brdSend d ty fs .test (by decide)

@[simp] theorem Dev.mirror_strap (d : Dev) (fs : List Nat) : (d.mirror fs).strap = d.strap :=
  Part.same_mirror d fs .strap (by decide)
@[simp] theorem Dev.mirror_now (d : Dev) (fs : List Nat) : (d.mirror fs).now = d.now :=
  Part.same_mirror d fs .now (by decide)
@[simp] theorem Dev.mirror_free (d : Dev) (fs : List Nat) : (d.mirror fs).free = d.free :=
  Part.same_mirror d fs .free (by decide)
@[simp] theorem Dev.mirror_islReq (d : Dev) (fs : List Nat) : (d.mirror fs).islReq = d.islReq :=
  Part.same_mirror d fs .islReq (by decide)
@[simp] theorem Dev.mirror_input (d : Dev) (fs : List Nat) : (d.mirror fs).input = d.input :=
  Part.same_mirror d fs .input (by decide)
@[simp] theorem Dev.mirror_src (d : Dev) (fs : List Nat) : (d.mirror fs).src = d.src :=
  Part.same_mirror d fs .src (by decide)
@[simp] theorem Dev.mirror_pac (d : Dev) (fs : List Nat) : (d.mirror fs).pac = d.pac :=
  Part.same_mirror d fs .pac (by decide)
@[simp] theorem Dev.mirror_stations (d : Dev) (fs : List Nat) : (d.mirror fs).stations = d.stations :=
  Part.same_mirror d fs .stations (by decide)
@[simp] theorem Dev.mirror_hcs (d : Dev) (fs : List Nat) : (d.mirror fs).hcs = d.hcs :=
  Part.same_mirror d fs .hcs (by decide)
@[simp] theorem Dev.mirror_fir (d : Dev) (fs : List Nat) : (d.mirror fs).fir = d.fir :=
  Part.same_mirror d fs .fir (by decide)
@[simp] theorem Dev.mirror_ras (d : Dev) (fs : List Nat) : (d.mirror fs).ras = d.ras :=
  Part.same_mirror d fs .ras (by decide)
@[simp] theorem Dev.mirror_teth (d : Dev) (fs : List Nat) : (d.mirror fs).teth = d.teth :=
  Part.same_mirror d fs .teth (by decide)
@[simp] theorem Dev.mirror_bl (d : Dev) (fs : List Nat) : (d.mirror fs).bl = d.bl :=
  Part.same_mirror d fs .bl (by decide)
@[simp] theorem Dev.mirror_pair (d : Dev) (fs : List Nat) : (d.mirror fs).pair = d.pair :=
  Part.same_mirror d fs .pair (by decide)
@[simp] theorem Dev.mirror_dch (d : Dev) (fs : List Nat) : (d.mirror fs).dch = d.dch :=
  Part.same_mirror d fs .dch (by decide)
@[simp] theorem Dev.mirror_cx (d : Dev) (fs : List Nat) : (d.mirror fs).cx = d.cx :=
  Part.same_mirror d fs .cx (by decide)
@[simp] theorem Dev.mirror_nh (d : Dev) (fs : List Nat) : (d.mirror fs).nh = d.nh :=
  Part.same_mirror d fs .nh (by decide)
@[simp] theorem Dev.mirror_cams (d : Dev) (fs : List Nat) : (d.mirror fs).cams = d.cams :=
  Part.same_mirror d fs .cams (by decide)
@[simp] theorem Dev.mirror_cal (d : Dev) (fs : List Nat) : (d.mirror fs).cal = d.cal :=
  Part.same_mirror d fs .cal (by decide)
@[simp] theorem Dev.mirror_time (d : Dev) (fs : List Nat) : (d.mirror fs).time = d.time :=
  Part.same_mirror d fs .time (by decide)
@[simp] theorem Dev.mirror_trg (d : Dev) (fs : List Nat) : (d.mirror fs).trg = d.trg :=
  Part.same_mirror d fs .trg (by decide)
@[simp] theorem Dev.mirror_cap (d : Dev) (fs : List Nat) : (d.mirror fs).cap = d.cap :=
  Part.same_mirror d fs .cap (by decide)
@[simp] theorem Dev.mirror_txq (d : Dev) (fs : List Nat) : (d.mirror fs).txq = d.txq :=
  Part.same_mirror d fs .txq (by decide)
@[simp] theorem Dev.mirror_host (d : Dev) (fs : List Nat) : (d.mirror fs).host = d.host :=
  Part.same_mirror d fs .host (by decide)
@[simp] theorem Dev.mirror_cu (d : Dev) (fs : List Nat) : (d.mirror fs).cu = d.cu :=
  Part.same_mirror d fs .cu (by decide)
@[simp] theorem Dev.mirror_pwr (d : Dev) (fs : List Nat) : (d.mirror fs).pwr = d.pwr :=
  Part.same_mirror d fs .pwr (by decide)
@[simp] theorem Dev.mirror_test (d : Dev) (fs : List Nat) : (d.mirror fs).test = d.test :=
  Part.same_mirror d fs .test (by decide)

@[simp] theorem Dev.forward_strap (d : Dev) (q : Req) (a : Nat) (v : Word) : (d.forward q a v).strap = d.strap :=
  Part.same_forward d q a v .strap (by decide)
@[simp] theorem Dev.forward_now (d : Dev) (q : Req) (a : Nat) (v : Word) : (d.forward q a v).now = d.now :=
  Part.same_forward d q a v .now (by decide)
@[simp] theorem Dev.forward_free (d : Dev) (q : Req) (a : Nat) (v : Word) : (d.forward q a v).free = d.free :=
  Part.same_forward d q a v .free (by decide)
@[simp] theorem Dev.forward_islReq (d : Dev) (q : Req) (a : Nat) (v : Word) : (d.forward q a v).islReq = d.islReq :=
  Part.same_forward d q a v .islReq (by decide)
@[simp] theorem Dev.forward_input (d : Dev) (q : Req) (a : Nat) (v : Word) : (d.forward q a v).input = d.input :=
  Part.same_forward d q a v .input (by decide)
@[simp] theorem Dev.forward_src (d : Dev) (q : Req) (a : Nat) (v : Word) : (d.forward q a v).src = d.src :=
  Part.same_forward d q a v .src (by decide)
@[simp] theorem Dev.forward_pac (d : Dev) (q : Req) (a : Nat) (v : Word) : (d.forward q a v).pac = d.pac :=
  Part.same_forward d q a v .pac (by decide)
@[simp] theorem Dev.forward_stations (d : Dev) (q : Req) (a : Nat) (v : Word) : (d.forward q a v).stations = d.stations :=
  Part.same_forward d q a v .stations (by decide)
@[simp] theorem Dev.forward_hcs (d : Dev) (q : Req) (a : Nat) (v : Word) : (d.forward q a v).hcs = d.hcs :=
  Part.same_forward d q a v .hcs (by decide)
@[simp] theorem Dev.forward_fir (d : Dev) (q : Req) (a : Nat) (v : Word) : (d.forward q a v).fir = d.fir :=
  Part.same_forward d q a v .fir (by decide)
@[simp] theorem Dev.forward_ras (d : Dev) (q : Req) (a : Nat) (v : Word) : (d.forward q a v).ras = d.ras :=
  Part.same_forward d q a v .ras (by decide)
@[simp] theorem Dev.forward_teth (d : Dev) (q : Req) (a : Nat) (v : Word) : (d.forward q a v).teth = d.teth :=
  Part.same_forward d q a v .teth (by decide)
@[simp] theorem Dev.forward_bl (d : Dev) (q : Req) (a : Nat) (v : Word) : (d.forward q a v).bl = d.bl :=
  Part.same_forward d q a v .bl (by decide)
@[simp] theorem Dev.forward_pair (d : Dev) (q : Req) (a : Nat) (v : Word) : (d.forward q a v).pair = d.pair :=
  Part.same_forward d q a v .pair (by decide)
@[simp] theorem Dev.forward_dch (d : Dev) (q : Req) (a : Nat) (v : Word) : (d.forward q a v).dch = d.dch :=
  Part.same_forward d q a v .dch (by decide)
@[simp] theorem Dev.forward_cx (d : Dev) (q : Req) (a : Nat) (v : Word) : (d.forward q a v).cx = d.cx :=
  Part.same_forward d q a v .cx (by decide)
@[simp] theorem Dev.forward_nh (d : Dev) (q : Req) (a : Nat) (v : Word) : (d.forward q a v).nh = d.nh :=
  Part.same_forward d q a v .nh (by decide)
@[simp] theorem Dev.forward_cams (d : Dev) (q : Req) (a : Nat) (v : Word) : (d.forward q a v).cams = d.cams :=
  Part.same_forward d q a v .cams (by decide)
@[simp] theorem Dev.forward_cal (d : Dev) (q : Req) (a : Nat) (v : Word) : (d.forward q a v).cal = d.cal :=
  Part.same_forward d q a v .cal (by decide)
@[simp] theorem Dev.forward_time (d : Dev) (q : Req) (a : Nat) (v : Word) : (d.forward q a v).time = d.time :=
  Part.same_forward d q a v .time (by decide)
@[simp] theorem Dev.forward_trg (d : Dev) (q : Req) (a : Nat) (v : Word) : (d.forward q a v).trg = d.trg :=
  Part.same_forward d q a v .trg (by decide)
@[simp] theorem Dev.forward_cap (d : Dev) (q : Req) (a : Nat) (v : Word) : (d.forward q a v).cap = d.cap :=
  Part.same_forward d q a v .cap (by decide)
@[simp] theorem Dev.forward_txq (d : Dev) (q : Req) (a : Nat) (v : Word) : (d.forward q a v).txq = d.txq :=
  Part.same_forward d q a v .txq (by decide)
@[simp] theorem Dev.forward_host (d : Dev) (q : Req) (a : Nat) (v : Word) : (d.forward q a v).host = d.host :=
  Part.same_forward d q a v .host (by decide)
@[simp] theorem Dev.forward_cu (d : Dev) (q : Req) (a : Nat) (v : Word) : (d.forward q a v).cu = d.cu :=
  Part.same_forward d q a v .cu (by decide)
@[simp] theorem Dev.forward_pwr (d : Dev) (q : Req) (a : Nat) (v : Word) : (d.forward q a v).pwr = d.pwr :=
  Part.same_forward d q a v .pwr (by decide)
@[simp] theorem Dev.forward_test (d : Dev) (q : Req) (a : Nat) (v : Word) : (d.forward q a v).test = d.test :=
  Part.same_forward d q a v .test (by decide)

@[simp] theorem Dev.renew_strap (d : Dev) (q : Req) : (d.renew q).strap = d.strap := Part.same_renew d q .strap (by decide) (by decide)
@[simp] theorem Dev.renew_now (d : Dev) (q : Req) : (d.renew q).now = d.now := Part.same_renew d q .now (by decide) (by decide)
@[simp] theorem Dev.renew_free (d : Dev) (q : Req) : (d.renew q).free = d.free := Part.same_renew d q .free (by decide) (by decide)
@[simp] theorem Dev.renew_islReq (d : Dev) (q : Req) : (d.renew q).islReq = d.islReq := Part.same_renew d q .islReq (by decide) (by decide)
@[simp] theorem Dev.renew_input (d : Dev) (q : Req) : (d.renew q).input = d.input := Part.same_renew d q .input (by decide) (by decide)
@[simp] theorem Dev.renew_src (d : Dev) (q : Req) : (d.renew q).src = d.src := Part.same_renew d q .src (by decide) (by decide)
@[simp] theorem Dev.renew_pac (d : Dev) (q : Req) : (d.renew q).pac = d.pac := Part.same_renew d q .pac (by decide) (by decide)
@[simp] theorem Dev.renew_stations (d : Dev) (q : Req) : (d.renew q).stations = d.stations := Part.same_renew d q .stations (by decide) (by decide)
@[simp] theorem Dev.renew_hcs (d : Dev) (q : Req) : (d.renew q).hcs = d.hcs := Part.same_renew d q .hcs (by decide) (by decide)
@[simp] theorem Dev.renew_fir (d : Dev) (q : Req) : (d.renew q).fir = d.fir := Part.same_renew d q .fir (by decide) (by decide)
@[simp] theorem Dev.renew_ras (d : Dev) (q : Req) : (d.renew q).ras = d.ras := Part.same_renew d q .ras (by decide) (by decide)
@[simp] theorem Dev.renew_teth (d : Dev) (q : Req) : (d.renew q).teth = d.teth := Part.same_renew d q .teth (by decide) (by decide)
@[simp] theorem Dev.renew_bl (d : Dev) (q : Req) : (d.renew q).bl = d.bl := Part.same_renew d q .bl (by decide) (by decide)
@[simp] theorem Dev.renew_pair (d : Dev) (q : Req) : (d.renew q).pair = d.pair := Part.same_renew d q .pair (by decide) (by decide)
@[simp] theorem Dev.renew_dch (d : Dev) (q : Req) : (d.renew q).dch = d.dch := Part.same_renew d q .dch (by decide) (by decide)
@[simp] theorem Dev.renew_cx (d : Dev) (q : Req) : (d.renew q).cx = d.cx := Part.same_renew d q .cx (by decide) (by decide)
@[simp] theorem Dev.renew_nh (d : Dev) (q : Req) : (d.renew q).nh = d.nh := Part.same_renew d q .nh (by decide) (by decide)
@[simp] theorem Dev.renew_cams (d : Dev) (q : Req) : (d.renew q).cams = d.cams := Part.same_renew d q .cams (by decide) (by decide)
@[simp] theorem Dev.renew_cal (d : Dev) (q : Req) : (d.renew q).cal = d.cal := Part.same_renew d q .cal (by decide) (by decide)
@[simp] theorem Dev.renew_time (d : Dev) (q : Req) : (d.renew q).time = d.time := Part.same_renew d q .time (by decide) (by decide)
@[simp] theorem Dev.renew_trg (d : Dev) (q : Req) : (d.renew q).trg = d.trg := Part.same_renew d q .trg (by decide) (by decide)
@[simp] theorem Dev.renew_cap (d : Dev) (q : Req) : (d.renew q).cap = d.cap := Part.same_renew d q .cap (by decide) (by decide)
@[simp] theorem Dev.renew_txq (d : Dev) (q : Req) : (d.renew q).txq = d.txq := Part.same_renew d q .txq (by decide) (by decide)
@[simp] theorem Dev.renew_cu (d : Dev) (q : Req) : (d.renew q).cu = d.cu := Part.same_renew d q .cu (by decide) (by decide)
@[simp] theorem Dev.renew_pwr (d : Dev) (q : Req) : (d.renew q).pwr = d.pwr := Part.same_renew d q .pwr (by decide) (by decide)
@[simp] theorem Dev.renew_test (d : Dev) (q : Req) : (d.renew q).test = d.test := Part.same_renew d q .test (by decide) (by decide)

@[simp] theorem Dev.get_forward (d : Dev) (q : Req) (b : Nat) (v : Word) (a : Nat) (f : Fld) :
    (d.forward q b v).get a f = d.get a f := by unfold Dev.get; rw [Dev.rd_forward]
@[simp] theorem Dev.get_mirror (d : Dev) (fs : List Nat) (a : Nat) (f : Fld) : (d.mirror fs).get a f = d.get a f := by
  unfold Dev.get; rw [Dev.rd_mirror]
@[simp] theorem Dev.get_brdSend (d : Dev) (ty : Nat) (fs : List Nat) (a : Nat) (f : Fld) : (d.brdSend ty fs).get a f = d.get a f := by
  unfold Dev.get; rw [Dev.rd_brdSend]
@[simp] theorem Dev.get_renew (d : Dev) (q : Req) (a : Nat) (f : Fld) : (d.renew q).get a f = d.get a f := by
  unfold Dev.get; rw [Dev.rd_renew]

/-- The lease's renewal leaves what the ports hold and have captured, and who holds the Latch. -/
theorem Dev.renew_host (d : Dev) (q : Req) :
    (d.renew q).host = if d.isHolder q then { d.host with leaseEnd := d.now + msTicks d.host.lease } else d.host := by
  rw [Dev.renew_eq]; split
  · unfold Dev.mirrorLatch; rw [Dev.mirror_host]; simp [Dev.modHost]
  · rfl
@[simp] theorem Dev.renew_holds (d : Dev) (q : Req) : (d.renew q).host.holds = d.host.holds := by rw [Dev.renew_host]; split <;> rfl
@[simp] theorem Dev.renew_holder (d : Dev) (q : Req) : (d.renew q).host.holder = d.host.holder := by rw [Dev.renew_host]; split <;> rfl
@[simp] theorem Dev.renew_hatch (d : Dev) (q : Req) : (d.renew q).host.hatch = d.host.hatch := by rw [Dev.renew_host]; split <;> rfl
@[simp] theorem Dev.renew_sessions (d : Dev) (q : Req) : (d.renew q).host.sessions = d.host.sessions := by rw [Dev.renew_host]; split <;> rfl
@[simp] theorem Dev.lowPart_renew (d : Dev) (q p : Req) (a : Nat) : (d.renew q).lowPart p a = d.lowPart p a := by
  unfold Dev.lowPart; rw [Dev.rd_renew, Dev.renew_holds]

/-- An allowed write of a command register: the effect happens in the state with the lease restarted, a pair's active forwards the
write, and the access reports success. -/
theorem State.command_allowed (s : State) (q : Req) (a : Nat) (v : Word) (f : Word → State → State) (h : Allowed s q a) :
    s.command q a v f =
      (f v { s with dev := s.granted q }).onDev (fun d => (d.forward q a v).emit (.access q.port.val 0 0)) := by
  unfold Allowed at h
  simp [State.command, State.write, h, State.report, State.onDev, Status.code, State.granted]

theorem State.devCommand_allowed (s : State) (q : Req) (a : Nat) (v : Word) (f : Word → Dev → Dev) (h : Allowed s q a) :
    s.devCommand q a v f = s.answered q a v (f v (s.granted q)) := by
  rw [State.devCommand, State.command_allowed s q a v _ h]; rfl

theorem State.highCommand_allowed (s : State) (q : Req) (lo hi : Nat) (v : Word) (f : Word → Word → Dev → Dev) (h : Allowed s q hi) :
    s.highCommand q lo hi v f = s.answered q hi v (f ((s.granted q).lowPart q lo) v (s.granted q)) := by
  rw [State.highCommand, State.devCommand_allowed s q hi v _ h]

/-- An allowed write whose effect ends in success. -/
theorem State.statusCommand_ok (s : State) (q : Req) (a : Nat) (v : Word) (f : Word → Dev → Dev × Status) (h : Allowed s q a)
    (ok : (f v (s.granted q)).2 = .ok) :
    s.statusCommand q a v f = s.answered q a v (f v (s.granted q)).1 := by
  unfold Allowed at h
  unfold State.granted at ok
  simp [State.statusCommand, State.write, h, State.report, State.onDev, State.granted, State.answered, ok, Status.code]

/-- A refused write reports its status, may wake the part, and does nothing else. -/
theorem State.command_refused (s : State) (q : Req) (a : Nat) (v : Word) (f : Word → State → State) (st : Status)
    (h : s.dev.writeVerdict q a 32 = .refuse st) :
    s.command q a v f = s.onDev (fun d => (d.accessWake a).emit (.access q.port.val st.code 0)) := by
  simp [State.command, State.write, h, State.report, State.onDev]

end Sys2Proof.Machine
end

