-- ==== Sys2Proof/WellFormed.lean ====
section
/-! DEFINITION. Which commands are well formed: an operand whose Lean type is wider than the value the spec gives it lies in the
spec's range. Operands of a bounded type need no check. The meanings are total: they take ill-formed operands too, as the rules
for a bad message say, or by the low bits. -/

namespace Sys2Proof

/-- An access is 8, 16, 32 or 64 bits wide (R7 allows 32 alone; the others are the accesses it rejects). -/
def widthOk (w : Nat) : Bool := w == 8 || w == 16 || w == 32 || w == 64

/-- A Sash session number fits SESSION (R359). -/
def Req.ok (q : Req) : Bool := decide (q.session < 65536)

/-- An entry of a camera report names a nozzle of a head and two fractions at most 1 (R257, R258). -/
def NhEntry.ok (e : NhEntry) : Bool :=
  decide (e.noz < 4096) && decide (0 < e.covDen) && decide (e.covNum ≤ e.covDen) && decide (0 < e.shDen) &&
    decide (e.shNum ≤ e.shDen) && decide (e.first ≤ e.last) && decide (e.last < 2 ^ 40)

/-- A job of the pair's STATE: job number and lines (R171, R397). -/
def JobNote.ok (j : JobNote) : Bool := decide (j.id < 2 ^ 32) && decide (j.last < 2 ^ 40)

/-- An error mask of a beat: one of 16 beats, 72 bits (R205). -/
def errOk (e : Nat × Nat) : Bool := decide (e.1 < 16) && decide (e.2 < 2 ^ 72)

/-- A byte written by a memory request: its place in the granule (R205, R212). -/
def byteOk (w : Nat × Byte) : Bool := decide (w.1 < 128)

/-- A body of 32 bytes (R150, R398). -/
def bodyOk (bs : List Byte) : Bool := bs.length == 32

/-- A frame is no longer than its LEN field lets it be: 20 + 65,535 bytes (R156). -/
def frameOk (bs : List Byte) : Bool := decide (bs.length ≤ 65555)

/-- An instant is given by the eighth of its tick (R351). -/
def eighthOk (e : Int) : Bool := decide (0 ≤ e) && decide (e < 8)

/-- The requester of a register command. -/
def Instr.req : Instr → Option Req
  | .registerWrite q .. | .readClear q .. | .loReadCapture q .. | .loWriteHold q .. | .hiWriteCommit q .. | .fracReadCapture q ..
  | .islandGate q .. | .islandReset q .. | .rowdlyArm q .. | .inputPolWrite q .. | .pacingEnable q .. | .pacingDisable q ..
  | .sourceChange q .. | .zero q | .zarm q | .zdisarm q | .restore q | .advZero q | .firArm q | .firDisarm q | .firStop q
  | .passGo q | .passAbort q | .lvrRestart q .. | .lvrEnable q .. | .bankArm q .. | .wavTrimWrite q .. | .wavSegWrite q ..
  | .tthEnable q .. | .tthDisable q .. | .tthRetrain q | .cmpResume q | .memCmdRetrain q .. | .setbin q .. | .objStart q
  | .objCancel q | .cxStart q .. | .cxFlush q .. | .cxFinish q .. | .cxAbort q .. | .nhEvidence q .. | .nhOverride q ..
  | .nhReset q .. | .gateStart q .. | .gateAbort q .. | .nhVeto q .. | .insCommit q .. | .camEnable q .. | .statCapture q ..
  | .adcRequest q .. | .calSetArm q .. | .daccal q .. | .classcal q .. | .tpoint q .. | .loadset q .. | .storeset q ..
  | .calAbort q | .keyProgram q .. | .keyRevoke q .. | .incWrite q .. | .domainSet q .. | .domainStep q .. | .timeSwitch q
  | .clearH q | .txqPop q .. | .txqFlush q .. | .ethCfgWrite q .. | .trgArm q .. | .trgDisarm q .. | .capPop q .. | .capFlush q ..
  | .latchRequest q .. | .latchKeep q | .latchRelease q | .latchHandover q .. | .latchSeize q | .hatchWrite q .. | .hatchGo q ..
  | .hatchAck q .. | .hatchUrgentWrite q .. | .hatchReset q | .cuStart q .. | .cuDin q .. | .cuStateWrite q .. | .cuGo q ..
  | .cuAbort q .. | .cuRelease q .. | .guardKick q .. | .relinquish q | .brdDetach q | .brdRejoin q | .brdSwap q ..
  | .hardReset q .. | .softReset q .. | .powerEnter q .. | .powerWake q | .loopbackEnter q .. | .loopbackExit q .. | .bistStart q ..
  | .mramTestStart q => some q
  | _ => none

/-- The operands beside the requester lie in their ranges. -/
def Instr.operandsOk : Instr → Bool
  | .registerWrite _ _ width _ => widthOk width
  | .readClear _ _ width => widthOk width
  | .statusFrame _ bs _ => decide (bs.length ≤ 64)
  | .bridgeTs _ verMax caps nmax id _ =>
    decide (verMax < 256) && decide (caps < 4) && decide (nmax < 16384) && decide (id < 65536)
  | .ts2Echo _ ver _ => decide (ver < 256)
  | .lockLoss _ bad _ => decide (bad ≤ 64)
  | .offer bs _ => bodyOk bs
  | .confirm bs _ => bodyOk bs
  | .joinOffer bs _ => bodyOk bs
  | .joinConfirm bs _ => bodyOk bs
  | .frameAccept bs _ => frameOk bs
  | .segment _ _ _ tag off bs => decide (tag < 2 ^ 32) && decide (off < 2 ^ 32) && decide (bs.length < 65536)
  | .openLost tag _ => decide (tag < 2 ^ 32)
  | .rereqNo reqId => decide (reqId < 65536)
  | .memRequest _ _ x _ ws errs => decide (x < 2 ^ 36) && ws.all byteOk && errs.all errOk
  | .memReadReturn _ errs => errs.all errOk
  | .scrub _ errs _ => errs.all errOk
  | .nhReport es _ => es.all NhEntry.ok
  | .adcConversionDone _ sum _ => decide (sum < 2 ^ 32)
  | .trimEvaluation codes _ => codes.all (fun p => decide (p.2 < 65536))
  | .ethFrameRx _ eighth frame _ => eighthOk eighth && decide (frame.length ≤ 65535)
  | .ethFrameTx _ eighth twoStep _ _ frame _ =>
    eighthOk eighth && twoStep.all (fun t => decide (t < 65536)) && decide (frame.length ≤ 65535)
  | .ptpSend _ eighth _ _ => eighthOk eighth
  | .sessionTimeout _ num _ => decide (num < 65536)
  | .brdState _ _ front _ _ jobs _ => front.all (fun f => decide (f < 2 ^ 40)) && jobs.all JobNote.ok
  | .imageRead _ slot _ _ => decide (slot.length ≤ 33554432)
  | _ => true

/-- A command is well formed. -/
def Instr.wellFormed (i : Instr) : Bool := (i.req.all Req.ok) && i.operandsOk

end Sys2Proof
end

