-- ==== Sys2Proof/Tests/Slice0.lean ====
section
/-! SUPPORT. The model's own tests: ill-formed commands refused, the spec's own check values and examples, and for each obligation
with hypotheses a state and operands that meet the hypotheses of each of its clauses. -/

set_option Elab.async false

namespace Sys2Proof.Tests
open Sys2Proof Sys2Proof.Machine

/-! ## Small states: fields put over the reset state with two head channels, then a change -/

def wst (puts : List (Nat × Fld × Nat)) (f : Dev → Dev) : State :=
  let d := State.reset.dev
  let d := ((d.wrN (HC_GEOM_NOZ 0) 0x80000010).wrN (HC_GEOM_NOZ 1) 0x80000010)
  let d := puts.foldl (fun d p => d.put p.1 p.2.1 p.2.2) d
  { State.reset with dev := f d }
def q0 : Req := ⟨0, 0, false⟩
def J0 : Job := ⟨0, 1, false, 100, 1, 1, none, none⟩
def jobs (l : List Job) (d : Dev) : Dev := { d with ras := { d.ras with jobs := l } }
def fir (x : FirSt) (d : Dev) : Dev := { d with fir := x }
def hcw (x : HcSt) (d : Dev) : Dev := { d with hcs := [(0, x)] }
def running (d : Dev) : Dev := hcw { m := some 0 } (fir { chans := [0] } (jobs [{ J0 with state := 3 }] (d.put FIR_STS FIR_STS.JOB 2)))
def later (d : Dev) : Dev := { d with now := 10000000000 }
def waves (d : Dev) : Dev := (((d.wrN (WAV_SEG 0 0) 20).wrN (WAV_SEG 0 512) 20).wrN (WAV_SEG 1 0) 20).wrN (WAV_SEG 1 512) 20
def lup (d : Dev) : Dev := d.put (HC_LVR_STS 0) HC_LVR_STS.STATE 3
def host (x : HostSt) (d : Dev) : Dev := { d with host := x }
def held5 (d : Dev) : Dev := host { holder := some ⟨5, 0, 0⟩, lease := 1000, leaseEnd := 10 ^ 12 } d
def teth (x : TethSt) (d : Dev) : Dev := { d with teth := x }
def tup (d : Dev) : Dev := teth { settled := true } ((d.put TTH_STS TTH_STS.LINK 3).put TTH_STS TTH_STS.VER 3)
def frameOf (t fl seq : Nat) (p : List Byte) : List Byte :=
  let b := leBytes 1 t ++ leBytes 1 fl ++ leBytes 2 seq ++ leBytes 2 p.length ++ leBytes 10 0 ++ p
  b ++ leBytes 4 (crc32c b)
def seg0 : Seg := ⟨1, 0, false, 40, false, [], none, false, false, none⟩
def hdr0 : SegHdr := ⟨0, 0, 0, 1, 16, 0, 64, 16⟩
def ras (x : RasSt) (d : Dev) : Dev := { d with ras := x }
def dch (x : Dch) (d : Dev) : Dev := { d with dch := [(0, x)] }
def mreq : MemReq := ⟨5, false, 0, 0, false, false, List.replicate 128 7, false⟩
def objBytes : List Byte := [0,0,0,0,4,0,0,0] ++ leBytes 4 (crc32c [1,2,3,4]) ++ [1,2,3,4]
def cx (x : CxSt) (d : Dev) : Dev := { d with cx := [(0, x)] }
def nh (x : NhSt) (d : Dev) : Dev := { d with nh := x }
def cal (x : CalSt) (d : Dev) : Dev := { d with cal := x }
def ent (k : Fin 4) : NhEntry := ⟨0, 3, k, 1, 1, 1, 1, 0, 9⟩
def chg : NhChange := ⟨0, 3, 2, 1, none⟩
def proc0 (op st : Nat) : CalProc := { op := op, chan := 0, set := 0, outputs := 3, gate := 0, trimA := 0, trimB := 0, stage := st }
def role (n : Nat) (d : Dev) : Dev := d.put BRD_STS BRD_STS.ROLE n
def gatew (d : Dev) : Dev := lup { (d.put (WAV_GREY0 0) ⟨0, 8⟩ 1) with stations := [⟨2, 0, 0⟩] }
def cam (x : CamSt) (d : Dev) : Dev := { d with cams := [(0, x)] }
def frm : CamFrame := { num := 0, gen := 0, set := [], epoch := 0, y0 := 0, job := none, start := 0 }
def trg (x : TrgSt) (d : Dev) : Dev := { d with trg := [(0, x)] }
def tim (x : TimeSt) (d : Dev) : Dev := { d with time := x }
def q5 : Req := ⟨5, 0, false⟩
def q5u : Req := ⟨5, 0, true⟩
def hold5 : HostSt := { holder := some ⟨5, 0, 0⟩, lease := 1000, leaseEnd := 10 ^ 12 }
def eup (d : Dev) : Dev := d.put (ETH_STS 0) ETH_STS.LINK 1
def ses1 (sq : Option Nat) : Session := ⟨2, 1, 0, 1, sq, [9, 9], 0⟩
def sreq (n : Nat) (a : Word) (data : List Byte) : SashReq := ⟨2, 1, 0, 0, 1, 5, a, Fin.ofNat 65536 n, 0, data⟩
def hat (n : Nat) (h : Hatch) (x : HostSt) : HostSt := { x with hatch := [(n, h)] }
def cfgMode1 : Word := (7 : Word).setFld CU_CFG.MODE 1
def fwUp (d : Dev) : Dev := later (d.put PWR_STS PWR_STS.STAGE 7)
def fmsg (type : Nat) (ws : List Word) (d : Dev) : Dev :=
  let ws := (0x01000007 + BitVec.ofNat 32 (type * 65536) : Word) :: ws
  host (hat 1 { st := .full, sport := 5 } { logN := 5 }) (fwUp ((ws.zipIdx).foldl (fun d p => d.wr (HAT_D 1 p.2) p.1) d))
def memOk (d : Dev) : Dev := (d.put (MEM_CFG 0) MEM_CFG.PRESENT 1).put (MEM_STS 0) MEM_STS.INIT_DONE 1
def ev1 : FwEvent := ⟨7, 1, 2, [5]⟩
def kblk (t : Nat) (b : List Byte) : List Byte := leBytes 2 t ++ leBytes 2 0 ++ leBytes 4 b.length ++ leBytes 4 (crc32c b) ++ leBytes 4 0 ++ b
def geoB (nch : Nat) : List Byte := leBytes 2 1 ++ leBytes 1 nch ++ leBytes 1 0 ++ leBytes 4 0 ++ leBytes 4 256 ++ leBytes 4 256 ++
  leBytes 1 0 ++ leBytes 1 0 ++ leBytes 1 1 ++ leBytes 1 0 ++ leBytes 2 16 ++ leBytes 2 0 ++ leBytes 4 0 ++ leBytes 4 0 ++ leBytes 16 0
def memB : List Byte := leBytes 2 1 ++ leBytes 1 1 ++ leBytes 1 4 ++ [1, 1, 2, 1, 1, 0, 0, 0, 0, 0] ++ leBytes 2 0
def kimg (nch : Nat) : List Byte :=
  let bs := kblk 1 [1, 2, 3, 4] ++ kblk 2 (geoB nch) ++ kblk 3 memB
  let h := leBytes 4 0x4554494B ++ leBytes 2 1 ++ leBytes 2 0 ++ leBytes 4 (32 + bs.length) ++ leBytes 2 3 ++ leBytes 2 0 ++ leBytes 4 77 ++
    leBytes 2 0x0A64 ++ leBytes 6 0
  h ++ leBytes 4 (crc32c h) ++ bs
def kiteOf (r : Except Reject Kite) : Kite := match r with | .ok k => k | .error _ => ⟨0, [], [], 0⟩
def stageUp (n : Nat) (d : Dev) : Dev := d.put PWR_STS PWR_STS.STAGE n
def withImg (b : List Byte) (d : Dev) : Dev := { d with pwr := { d.pwr with image := b } }
def jb (d : Dev) : List Byte := d.joinBody 1 1 0
def brdU (d : Dev) : Dev := { d with bl := { d.bl with phase := 3 } }
def prop0 : PairProp := ⟨5, 1, 1, 0, 100, 0, 0, []⟩
def pairW (x : PairSt) (d : Dev) : Dev := { d with pair := x }

theorem ok_kiteOf (r : Except Reject Kite) (h : (match r with | .ok _ => true | .error _ => false) = true) : r = .ok (kiteOf r) := by
  cases r with
  | ok k => rfl
  | error e => cases h
def stOf (o : Host.Outcome State Fault Refusal) : State := match o with | .next t => t | _ => State.reset
theorem isNext (o : Host.Outcome State Fault Refusal) (h : (match o with | .next _ => true | _ => false) = true) : o = .next (stOf o) := by
  cases o with
  | next t => rfl
  | fault f => cases h
  | refused r => cases h

/-! ## Well-formed commands: each check of WellFormed.lean refuses a command that breaks it, and a good one passes -/

def entry0 : NhEntry := ⟨0, 3, 0, 1, 1, 1, 1, 0, 9⟩
def note0 : JobNote := ⟨1, 1, false, 100, 1, 2, none, 0⟩

theorem test_wellFormed_accepts :
    [Instr.registerWrite q0 4 32 0, .firArm q0, .nhReport [entry0] 5, .joinOffer (List.replicate 32 0) 1,
      .memRequest 0 1 4096 true [(127, 5)] [(15, 1)], .ethFrameRx 0 7 [] 3, .brdState 2 1 (some 5) 7 true [note0] 2,
      .sessionTimeout 2 65535 9].all Instr.wellFormed = true := by decide +kernel

theorem test_wellFormed_refuses :
    [Instr.registerWrite ⟨0, 65536, false⟩ 4 32 0, .registerWrite q0 4 24 0, .readClear q0 4 0,
      .statusFrame 0 (List.replicate 65 0) 0, .bridgeTs 0 256 0 0 0 0, .bridgeTs 0 1 4 0 0 0, .bridgeTs 0 1 0 16384 0 0,
      .bridgeTs 0 1 0 0 65536 0, .ts2Echo 0 256 0, .lockLoss 0 65 0, .offer [] 0, .confirm [] 0, .joinOffer [] 0,
      .joinConfirm (List.replicate 33 0) 0, .openLost (2 ^ 32) 0, .rereqNo 65536, .memRequest 0 0 (2 ^ 36) false [] [],
      .memRequest 0 0 0 true [(128, 0)] [], .memRequest 0 0 0 false [] [(16, 0)], .memReadReturn 0 [(0, 2 ^ 72)], .scrub 0 [(16, 1)] 0,
      .nhReport [{ entry0 with noz := 4096 }] 0, .nhReport [{ entry0 with covDen := 0 }] 0, .nhReport [{ entry0 with covNum := 2 }] 0,
      .nhReport [{ entry0 with shDen := 0 }] 0, .nhReport [{ entry0 with shNum := 2 }] 0, .nhReport [{ entry0 with first := 10 }] 0,
      .nhReport [{ entry0 with last := 2 ^ 40 }] 0, .adcConversionDone 0 (2 ^ 32) 0, .trimEvaluation [(0, 65536)] 0,
      .ethFrameRx 0 8 [] 0, .ethFrameRx 0 (-1) [] 0, .ptpSend 0 8 false 0, .sessionTimeout 2 65536 0,
      .brdState 2 1 (some (2 ^ 40)) 7 true [] 2, .brdState 2 1 none 7 true [{ note0 with id := 2 ^ 32 }] 2,
      .brdState 2 1 none 7 true [{ note0 with last := 2 ^ 40 }] 2].all (fun i => !i.wellFormed) = true := by decide +kernel

theorem test_wellFormed_refuses_long :
    frameOk (List.replicate 65556 0) = false ∧ (Instr.ethFrameTx 0 0 (some 65536) none false [] 0).wellFormed = false := by
  decide +kernel

/-! ## The spec's own values -/

def digits : List Byte := [0x31, 0x32, 0x33, 0x34, 0x35, 0x36, 0x37, 0x38, 0x39]

/-- The catalogue of R389. -/
theorem test_catalogue :
    [(⟨5, 0x05, 0x1F, true, true, 0x1F⟩, 0x19), (⟨7, 0x09, 0, false, false, 0⟩, 0x75), (⟨8, 0x07, 0, false, false, 0⟩, 0xF4),
      (⟨16, 0x1021, 0xFFFF, false, false, 0⟩, 0x29B1), (⟨16, 0x1021, 0, false, false, 0⟩, 0x31C3),
      (⟨16, 0x1021, 0, true, true, 0⟩, 0x2189), (⟨16, 0x8005, 0, true, true, 0⟩, 0xBB3D),
      (⟨16, 0x8005, 0xFFFF, true, true, 0⟩, 0x4B37), (⟨24, 0x864CFB, 0xB704CE, false, false, 0⟩, 0x21CF02),
      (⟨32, 0x04C11DB7, 0xFFFFFFFF, true, true, 0xFFFFFFFF⟩, 0xCBF43926),
      (⟨32, 0x04C11DB7, 0xFFFFFFFF, false, false, 0xFFFFFFFF⟩, 0xFC891918),
      (⟨32, 0x04C11DB7, 0xFFFFFFFF, false, false, 0⟩, 0x0376E6E7),
      (⟨32, 0x1EDC6F41, 0xFFFFFFFF, true, true, 0xFFFFFFFF⟩, 0xE3069283),
      (⟨64, 0x42F0E1EBA9EA3693, 0, false, false, 0⟩, 0x6C40DF5F0B497347),
      (⟨64, 0x42F0E1EBA9EA3693, 0xFFFFFFFFFFFFFFFF, true, true, 0xFFFFFFFFFFFFFFFF⟩, 0x995DC9BBDF1939FA)].all
      (fun (p : CrcParams × Nat) => crcOf p.1 digits == p.2) = true := by decide +kernel

/-- The named checks of R390 are the catalogue's, and R389: a unit holds CRC-32C at reset. -/
theorem test_fixed_checks :
    crcOf crc8Smbus digits = 0xF4 ∧ crcOf crc16Ibm3740 digits = 0x29B1 ∧ crcOf crc16Xmodem digits = 0x31C3 ∧
    crc32c digits = 0xE3069283 ∧ State.reset.dev.rd (CU_CFG 3) = 0x31F ∧ State.reset.dev.rd (CU_POLY_LO 3) = 0x1EDC6F41 := by
  decide +kernel

/-- The example of CU2 (R382): the last byte enters by DIN8. -/
theorem test_cu2_example :
    (match execCuDin q0 2 0 0x39 (wst [(CU_STS 2, CU_STS.STATE, 1)] (fun d =>
        (d.setCu 2 ⟨15, 0x1021, 0xFFFF, 0, 0⟩).setCuReg 2 (crcFeed ⟨16, 0x1021, 0xFFFF, false, false, 0⟩ 0xFFFF
          (dinBytes 4 0x34333231 false ++ dinBytes 4 0x38373635 false)))) with
      | .next t => t.dev.cuResult 2
      | _ => 0) = 0x29B1 := by decide +kernel

/-- Page store address 0x5_1234_5678 of the example of R214 lies at 0x2_891A_2678 of the second channel. -/
theorem test_page_store_example :
    (wst [(MEM_CFG 0, MEM_CFG.PRESENT, 1), (MEM_CFG 1, MEM_CFG.PRESENT, 1), (MEM_CFG 0, MEM_CFG.GRAIN, 4), (MEM_CFG 1, MEM_CFG.GRAIN, 4)]
      (fun d => d)).dev.memMap 0x512345678 = (1, 0x2891A2678) ∧
    memFields false false 0x2891A2678 = ⟨120, 32, 3, 2, 0, 41542⟩ := by decide +kernel

/-- A clean beat, a corrected data bit, a corrected check bit, two flipped bits (R211). -/
theorem test_beats :
    hsiaoDecode 0x0123456789ABCDEF (hsiaoCheck 0x0123456789ABCDEF) = .clean 0x0123456789ABCDEF ∧
    (hsiaoDecode (0x0123456789ABCDEF ^^^ 2 ^ 17) (hsiaoCheck 0x0123456789ABCDEF)).data = 0x0123456789ABCDEF ∧
    (hsiaoDecode 0x0123456789ABCDEF (hsiaoCheck 0x0123456789ABCDEF ^^^ 4)).data = 0x0123456789ABCDEF ∧
    (hsiaoDecode (0x0123456789ABCDEF ^^^ 3) (hsiaoCheck 0x0123456789ABCDEF)).isUe = true := by decide +kernel

/-- The example of R268: nozzle 2,000 of a line at 2 bits, here nozzle 2 of five, is spread. -/
theorem test_spread_example :
    (spreadValue 2 [1, 3, 0, 4] 2 #[1, 3, 0, 2, 0]).1.toList = [2, 3, 0, 3, 0] ∧
    (spreadValue 2 [1, 3, 0, 4] 2 #[1, 3, 0, 2, 0]).2 = 0 := by decide +kernel

/-- The example of R316: HC53's WFA calibrates to Gdac = 82 and Odac = 20. -/
theorem test_daccal_example :
    dacResult [1662810, 10800536661, 11678958, 532804922870, 6713571] = .ok 0x00140052 := by decide +kernel

/-- The example of R312: a thermistor of 10 kOhm and B = 3,435 K behind 10 kOhm reads 25,030 at 38.0 degrees. -/
theorem test_thermistor_example : thermTemp 1000 1000 3435 25030 = some 608 := by decide +kernel

/-- The example of R313: at 38 degrees between the points of 35 and 40 degrees G_A is 164. -/
theorem test_interpolation_example :
    (evalPoints [⟨560, 140, 0, -140, 0⟩, ⟨640, 180, 0, -180, 0⟩] 608).ga = 164 ∧
    (evalPoints [⟨560, 140, 0, -140, 0⟩, ⟨640, 180, 0, -180, 0⟩] 608).gb = -164 := by decide +kernel

/-- The first six tokens of the spec's worked encoding of Spool, then END (R233 to R240, R250). -/
theorem test_spool :
    spoolEncode [0x55, 0x55, 0xAA, 0xAA, 0x55, 0x55, 0xAA, 0xAA] 8 [] = [0x01, 0x55, 0xAA, 0xA8, 0x52, 0x65, 0x10, 0x61, 0x40] ∧
    (spoolDecode [0x01, 0x55, 0xAA, 0xA8, 0x52, 0x65, 0x10, 0x61, 0x40] 8 8).out.toList =
      [0x55, 0x55, 0xAA, 0xAA, 0x55, 0x55, 0xAA, 0xAA] := by decide +kernel


/-- A frame with the largest payload takes 1,027 blocks (R156). -/
theorem test_frame_blocks : (frameBlocks (List.replicate 8212 0)).length = 1027 := by decide +kernel

/-- Lane 1 carries bytes 1 and 5 of a body of eight (R108). -/
theorem test_body_lane : lvrLane 1 (.body [0, 1, 2, 3, 4, 5, 6, 7]) = [.k 27 7, .d 1, .d 5, .k 29 7] := by decide +kernel

/-- The table gives no row bits, so no word spells a command. -/
theorem test_no_words : decodeTableWord 32 5 = none := rfl

/-! ## Witnesses: the hypotheses of each clause of each obligation, met -/

theorem test_witness_CommandsLeaveTheQueue :
  (∃ (i : Instr) (t : State) (s : State),
    exec i s = .next t) ∧
  (∃ (c : Instr) (l : List Instr) (t : State) (s : State),
    s.pending = c :: l ∧ step s = .next t) :=
  ⟨⟨.firArm q0, (stOf (exec (.firArm q0) State.reset)), State.reset, isNext _ (by decide +kernel)⟩,
   ⟨.firArm q0, [], (stOf (exec (.firArm q0) State.reset)), (⟨[.firArm q0], State.reset.mem, State.reset.dev⟩ : State), by and_intros <;> decide +kernel, isNext _ (by decide +kernel)⟩⟩

theorem test_witness_StepsKeepTheStoreForm :
  (∃ (t : State) (s : State),
    s.mem.wf = true ∧ step s = .next t) :=
  ⟨(stOf (step State.reset)), State.reset, by and_intros <;> decide +kernel, isNext _ (by decide +kernel)⟩

theorem test_witness_OnlyStoringCommandsStore :
  (∃ (i : Instr) (t : State) (s : State),
    mayStore i = false ∧ exec i s = .next t) :=
  ⟨.firArm q0, (stOf (exec (.firArm q0) State.reset)), State.reset, by and_intros <;> decide +kernel, isNext _ (by decide +kernel)⟩

theorem test_witness_RefusedWritesHaveNoEffect :
  (∃ (q : Req) (a : Word) (st : Status) (s : State),
    s.dev.writeVerdict q a.toNat 32 = .refuse st) ∧
  (∃ (q : Req) (a : Word) (width : Nat) (s : State),
    s.dev.sessionOk q = true ∧ (width ≠ 32 ∨ a.toNat % 4 ≠ 0)) ∧
  (∃ (q : Req) (a : Word) (width : Nat) (s : State),
    s.dev.sessionOk q = true ∧ (width ≠ 32 ∨ a.toNat % 4 ≠ 0)) ∧
  (∃ (q : Req) (a : Word) (s : State),
    (q.port.val = 1 ∨ q.port.val = 2 ∨ q.port.val = 3 ∨ q.port.val = 5) ∧ s.dev.sessionOk q = true ∧ s.dev.reach a.toNat 32 = .ok ∧ s.dev.isHolder q = false ∧ latchFree a.toNat = false) :=
  ⟨⟨q0, 2, .access, wst [] (fun d => d), by decide +kernel⟩,
   ⟨q0, 0, 0, wst [] (fun d => d), by and_intros <;> decide +kernel⟩,
   ⟨q0, 0, 0, wst [] (fun d => d), by and_intros <;> decide +kernel⟩,
   ⟨⟨5,0,false⟩, 0x20, wst [] (fun d => d), by and_intros <;> decide +kernel⟩⟩

theorem test_witness_PageStoreAddressesAlternate :
  (∃ (d : Dev),
    d.bit (MEM_CFG 1) MEM_CFG.PRESENT = false) ∧
  (∃ (d : Dev),
    d.bit (MEM_CFG 1) MEM_CFG.PRESENT = true) ∧
  (∃ (d : Dev),
    d.bit (MEM_CFG 1) MEM_CFG.PRESENT = true) ∧
  (∃ (n : Nat) (d : Dev),
    d.bit (MEM_CFG 1) MEM_CFG.PRESENT = true ∧ n < 2) :=
  ⟨⟨(wst [((MEM_CFG 1), MEM_CFG.PRESENT, 0)] (fun d => d)).dev, by decide +kernel⟩,
   ⟨(wst [((MEM_CFG 1), MEM_CFG.PRESENT, 1)] (fun d => d)).dev, by decide +kernel⟩,
   ⟨(wst [((MEM_CFG 1), MEM_CFG.PRESENT, 1)] (fun d => d)).dev, by decide +kernel⟩,
   ⟨0, (wst [((MEM_CFG 1), MEM_CFG.PRESENT, 1)] (fun d => d)).dev, by and_intros <;> decide +kernel⟩⟩

theorem test_witness_StartOutsideWidthIsRefused :
  (∃ (q : Req) (k : Fin 8) (j : Nat) (s : State),
    Allowed s q (CU_CMD k.val) ∧ cuWidth (s.dev.rd (CU_CFG k.val)) ≤ j ∧ ((s.dev.rd64 (CU_POLY_LO k.val) (CU_POLY_HI k.val)).testBit j = true ∨ (s.dev.rd64 (CU_INIT_LO k.val) (CU_INIT_HI k.val)).testBit j = true ∨ (s.dev.rd64 (CU_XOR_LO k.val) (CU_XOR_HI k.val)).testBit j = true)) :=
  ⟨q0, 0, 8, wst [((CU_CFG 0), CU_CFG.WIDTH, 7), ((CU_XOR_LO 0), whole, 0x100)] (fun d => d), by unfold Allowed; and_intros <;> decide +kernel⟩

theorem test_witness_NozzlesLieAtTheirDots :
  (∃ (c : Nat) (d : Dev),
    d.bit (HC_GEOM_NOZ c) HC_GEOM_NOZ.MIRROR = false) ∧
  (∃ (c : Nat) (d : Dev),
    d.bit (HC_GEOM_NOZ c) HC_GEOM_NOZ.MIRROR = true) ∧
  (∃ (c : Nat) (d : Dev),
    0 < d.nozzles c) ∧
  (∃ (c : Nat) (n : Nat) (d : Dev),
    n < d.nozzles c) :=
  ⟨⟨0, (wst [((HC_GEOM_NOZ (0 : Nat)), HC_GEOM_NOZ.MIRROR, 0)] (fun d => d)).dev, by decide +kernel⟩,
   ⟨0, (wst [((HC_GEOM_NOZ (0 : Nat)), HC_GEOM_NOZ.MIRROR, 1)] (fun d => d)).dev, by decide +kernel⟩,
   ⟨0, (wst [] (fun d => d)).dev, by decide +kernel⟩,
   ⟨0, 0, (wst [] (fun d => d)).dev, by decide +kernel⟩⟩

theorem test_witness_RowsOfNozzles :
  (∃ (c : Nat) (d : Dev),
    d.bit (HC_GEOM_NOZ c) HC_GEOM_NOZ.BLOCKED = false) ∧
  (∃ (c : Nat) (d : Dev),
    d.bit (HC_GEOM_NOZ c) HC_GEOM_NOZ.BLOCKED = true) ∧
  (∃ (g : List Byte),
    (∃ r ∈ geoChans g, r.n % r.rows ≠ 0)) ∧
  (∃ (c : Nat) (n : Nat) (d : Dev),
    n < d.nozzles c ∧ d.nozzles c % d.rows c = 0) :=
  ⟨⟨0, (wst [((HC_GEOM_NOZ (0 : Nat)), HC_GEOM_NOZ.BLOCKED, 0)] (fun d => d)).dev, by decide +kernel⟩,
   ⟨0, (wst [((HC_GEOM_NOZ (0 : Nat)), HC_GEOM_NOZ.BLOCKED, 1)] (fun d => d)).dev, by decide +kernel⟩,
   ⟨([1,0,1] ++ List.replicate 13 0 ++ [0,0,2,0,3,0] ++ List.replicate 26 0 : List Byte), by decide +kernel⟩,
   ⟨0, 0, (wst [] (fun d => d)).dev, by and_intros <;> decide +kernel⟩⟩

theorem test_witness_IdleStepIsOneTick :
  (∃ (s : State),
    s.pending = []) :=
  ⟨wst [] (fun d => d), by decide +kernel⟩

theorem test_witness_RegisterWriteObeysAccessTypes :
  (∃ (q : Req) (a : Word) (s : State),
    Allowed s q a.toNat ∧ a.toNat < 0x10000 ∧ a.toNat ≠ GLB_XING_TMO ∧ accessKind a.toNat = .plain) :=
  ⟨q0, 0, wst [] (fun d => d), by unfold Allowed; and_intros <;> decide +kernel⟩

theorem test_witness_ReadsReturnClearAndCapture :
  (∃ (q : Req) (a : Word) (s : State),
    Readable s q a.toNat ∧ accessKind a.toNat = .plain ∧ ¬(0x70000 ≤ a.toNat ∧ a.toNat < 0x80000)) ∧
  (∃ (q : Req) (a : Word) (s : State),
    Readable s q a.toNat ∧ accessKind a.toNat = .lo) ∧
  (∃ (q : Req) (a : Word) (s : State),
    Readable s q a.toNat ∧ accessKind a.toNat = .frac) ∧
  (∃ (q : Req) (n : Fin 4) (s : State),
    Readable s q (CAM_STAT n.val 0)) ∧
  (∃ (a : Word) (s : State),
    Readable s ⟨5, 0, false⟩ a.toNat ∧ accessKind a.toNat = .plain ∧ ¬(0x70000 ≤ a.toNat ∧ a.toNat < 0x80000)) :=
  ⟨⟨q0, 0, wst [] (fun d => d), by unfold Readable; and_intros <;> decide +kernel⟩,
   ⟨q0, 0x28, wst [] (fun d => d), by unfold Readable; and_intros <;> decide +kernel⟩,
   ⟨q0, BitVec.ofNat 32 (TIM_D_FRAC 0), wst [] (fun d => d), by unfold Readable; and_intros <;> decide +kernel⟩,
   ⟨q0, 0, wst [] (fun d => d), by unfold Readable; decide +kernel⟩,
   ⟨0, wst [] (fun d => d), by unfold Readable; and_intros <;> decide +kernel⟩⟩

theorem test_witness_WideValuesTakeEffectHigh :
  (∃ (q : Req) (a : Word) (s : State),
    Allowed s q a.toNat ∧ accessKind a.toNat = .lo) ∧
  (∃ (q : Req) (s : State),
    Allowed s q FIR_START_POS_HI) ∧
  (∃ (a : Word) (s : State),
    Allowed s ⟨5, 0, false⟩ a.toNat ∧ a.toNat < 0x10000 ∧ a.toNat ≠ GLB_XING_TMO ∧ accessKind a.toNat = .plain) ∧
  (∃ (a : Word) (s : State),
    Allowed s ⟨5, 0, true⟩ a.toNat ∧ a.toNat < 0x10000 ∧ a.toNat ≠ GLB_XING_TMO ∧ accessKind a.toNat = .plain) :=
  ⟨⟨q0, BitVec.ofNat 32 (CU_POLY_LO 0), wst [] (fun d => d), by unfold Allowed; and_intros <;> decide +kernel⟩,
   ⟨q0, wst [] (fun d => d), by unfold Allowed; decide +kernel⟩,
   ⟨0x20, wst [] (held5), by unfold Allowed; and_intros <;> decide +kernel⟩,
   ⟨0x20, wst [] (held5), by unfold Allowed; and_intros <;> decide +kernel⟩⟩

theorem test_witness_IslandCommandsComplete :
  (∃ (y : Fin 128) (dt : Nat) (s : State),
    islExists y.val = true ∧ (s.after dt).isIsolated y.val = false ∧ (s.after dt).bit (PWR_ISL y.val) PWR_ISL.GATED = false) ∧
  (∃ (y : Fin 128) (w : Fin 128) (dt : Nat) (s : State),
    islExists y.val = true ∧ islExists w.val = true ∧ y.val < w.val ∧ (s.after dt).isIsolated y.val = false ∧ (s.after dt).isIsolated w.val = false ∧ (s.after dt).bit (PWR_ISL y.val) PWR_ISL.GATED = false ∧ (s.after dt).bit (PWR_ISL w.val) PWR_ISL.GATED = false) ∧
  (∃ (q : Req) (code : Fin 128) (s : State),
    Allowed s q (PWR_ISL code.val) ∧ islExists code.val = true ∧ (code.val < 0x40 ∨ code.val - 0x40 < s.dev.hcCount) ∧ s.dev.get PWR_STS PWR_STS.STATE < 3) ∧
  (∃ (q : Req) (code : Fin 128) (s : State),
    Allowed s q (PWR_ISL code.val) ∧ islExists code.val = true ∧ (code.val < 0x40 ∨ code.val - 0x40 < s.dev.hcCount) ∧ s.dev.get PWR_STS PWR_STS.STATE < 3) ∧
  (∃ (code : Fin 128) (dt : Nat) (s : State),
    (s.after dt).islReq.find? (fun r => r.1 == code.val) = some (code.val, 1)) ∧
  (∃ (code : Fin 128) (dt : Nat) (s : State),
    (s.after dt).islReq.find? (fun r => r.1 == code.val) = some (code.val, 2)) ∧
  (∃ (c : Fin 64) (dt : Nat) (s : State),
    (s.after dt).jobRunning = true ∧ c.val ∈ (s.after dt).fir.chans ∧ ((s.after dt).hc c.val).m = none ∧ (s.after dt).lvrUp c.val = true ∧ (s.after dt).islUp (0x40 + c.val) = true ∧ (s.after dt).activeOfPair = false) :=
  ⟨⟨3, 0, wst [((PWR_ISL (3 : Fin 128).val), PWR_ISL.GATED, 0)] (fun d => d), by and_intros <;> decide +kernel⟩,
   ⟨3, 4, 0, wst [((PWR_ISL (3 : Fin 128).val), PWR_ISL.GATED, 0), ((PWR_ISL (4 : Fin 128).val), PWR_ISL.GATED, 0)] (fun d => d), by and_intros <;> decide +kernel⟩,
   ⟨q0, 1, wst [] (fun d => d), by unfold Allowed; and_intros <;> decide +kernel⟩,
   ⟨q0, 1, wst [] (fun d => d), by unfold Allowed; and_intros <;> decide +kernel⟩,
   ⟨1, 0, wst [] (fun d => { d with islReq := [(1,1)] }), by decide +kernel⟩,
   ⟨1, 0, wst [] (fun d => { d with islReq := [(1,2)] }), by decide +kernel⟩,
   ⟨0, 0, wst [] (fun d => hcw {} (lup (running d))), by and_intros <;> decide +kernel⟩⟩

theorem test_witness_FiringCommandsComplete :
  (∃ (q : Req) (s : State),
    Allowed s q FIR_CMD ∧ (s.granted q).get PWR_STS PWR_STS.STATE < 3 ∧ (s.granted q).armEnds.jobRunning = false) ∧
  (∃ (q : Req) (s : State),
    Allowed s q FIR_CMD ∧ (s.granted q).get PWR_STS PWR_STS.STATE < 3 ∧ (s.granted q).armEnds.jobRunning = true) ∧
  (∃ (q : Req) (s : State),
    Allowed s q FIR_CMD ∧ 3 ≤ (s.granted q).get PWR_STS PWR_STS.STATE ∧ (s.granted q).get PWR_STS PWR_STS.STATE ≤ 6) ∧
  (∃ (q : Req) (s : State),
    Allowed s q FIR_CMD) ∧
  (∃ (q : Req) (s : State),
    Allowed s q FIR_CMD) ∧
  (∃ (c : Fin 64) (m : Nat) (dt : Nat) (s : State),
    (s.after dt).canFire c.val = true ∧ (s.after dt).pending c.val = some m) ∧
  (∃ (c : Fin 64) (x : Strobe) (l : List Strobe) (dt : Nat) (s : State),
    ((s.after dt).hc c.val).strobes = x :: l ∧ x.at_ ≤ (s.after dt).now ∧ x.live = true ∧ (s.after dt).bit FIR_STS FIR_STS.INH_NOW = false) ∧
  (∃ (c : Fin 64) (x : Strobe) (l : List Strobe) (dt : Nat) (s : State),
    ((s.after dt).hc c.val).strobes = x :: l ∧ x.at_ ≤ (s.after dt).now ∧ x.live = true ∧ (s.after dt).bit FIR_STS FIR_STS.INH_NOW = true) ∧
  (∃ (c : Fin 64) (m : Nat) (dt : Nat) (s : State),
    (s.after dt).mustSkip c.val = true ∧ (s.after dt).pending c.val = some m) ∧
  (∃ (dt : Nat) (s : State),
    (s.after dt).firingOn = true) ∧
  (∃ (dt : Nat) (s : State),
    (s.after dt).bit FIR_STS FIR_STS.INH_NOW = false) ∧
  (∃ (dt : Nat) (s : State),
    (s.after dt).bit FIR_STS FIR_STS.INH_NOW = true) :=
  ⟨⟨q0, wst [] (fun d => d), by unfold Allowed; and_intros <;> decide +kernel⟩,
   ⟨q0, wst [] (running), by unfold Allowed; and_intros <;> decide +kernel⟩,
   ⟨q0, wst [(PWR_STS, PWR_STS.STATE, 4)] (fun d => d), by unfold Allowed; and_intros <;> decide +kernel⟩,
   ⟨q0, wst [] (fun d => d), by unfold Allowed; decide +kernel⟩,
   ⟨q0, wst [] (fun d => d), by unfold Allowed; decide +kernel⟩,
   ⟨0, 0, 0, wst [] (running), by and_intros <;> decide +kernel⟩,
   ⟨0, ⟨0,0,true,1,1⟩, [], 0, wst [(FIR_STS, FIR_STS.INH_NOW, 0)] (fun d => hcw { strobes := [⟨0,0,true,1,1⟩] } d), by and_intros <;> decide +kernel⟩,
   ⟨0, ⟨0,0,true,1,1⟩, [], 0, wst [(FIR_STS, FIR_STS.INH_NOW, 1)] (fun d => hcw { strobes := [⟨0,0,true,1,1⟩] } d), by and_intros <;> decide +kernel⟩,
   ⟨0, 0, 0, wst [] (fun d => hcw { m := some 0, kPrev := some 0 } { (running d) with pac := { p0 := 2^32 * 10, held := 2560 } }), by and_intros <;> decide +kernel⟩,
   ⟨0, wst [] (running), by decide +kernel⟩,
   ⟨0, wst [(FIR_STS, FIR_STS.INH_NOW, 0)] (fun d => d), by decide +kernel⟩,
   ⟨0, wst [(FIR_STS, FIR_STS.INH_NOW, 1)] (fun d => d), by decide +kernel⟩⟩

theorem test_witness_PassCommandsComplete :
  (∃ (q : Req) (s : State),
    Allowed s q FIR_CMD ∧ (s.granted q).scan = true ∧ ((s.granted q).describedPass.last < (s.granted q).describedPass.first ∨ ∃ c ∈ (s.granted q).channels, 1048575 < (s.granted q).describedPass.last + (s.granted q).maxOff c)) ∧
  (∃ (q : Req) (s : State),
    Allowed s q FIR_CMD ∧ (s.granted q).scan = true ∧ (s.granted q).describedPass.first ≤ (s.granted q).describedPass.last ∧ (∀ c ∈ (s.granted q).channels, (s.granted q).describedPass.last + (s.granted q).maxOff c ≤ 1048575)) ∧
  (∃ (q : Req) (s : State),
    Allowed s q FIR_CMD ∧ (s.granted q).passActive = true) ∧
  (∃ (q : Req) (s : State),
    Allowed s q FIR_CMD ∧ (s.granted q).passActive = false) ∧
  (∃ (p : Pass) (dt : Nat) (s : State),
    (s.after dt).fir.armed = some p ∧ (s.after dt).passActive = false ∧ ((s.after dt).bit FIR_CFG FIR_CFG.WAIT_ADV = false ∨ (s.after dt).bit PAC_ADV_CFG PAC_ADV_CFG.IDLE = true) ∧ (s.after dt).headJob = none ∧ (∀ c ∈ (s.after dt).channels, (s.after dt).bankCurrent c = true) ∧ (∀ c ∈ (s.after dt).channels, if p.rev then (s.after dt).passTarget c ((s.after dt).passStart p c) p < (s.after dt).P else (s.after dt).P < (s.after dt).passTarget c ((s.after dt).passStart p c) p) ∧ (s.after dt).startFault (s.after dt).channels 1 = none) ∧
  (∃ (p : Pass) (c : Nat) (dt : Nat) (s : State),
    (s.after dt).fir.armed = some p ∧ (s.after dt).passActive = false ∧ ((s.after dt).bit FIR_CFG FIR_CFG.WAIT_ADV = false ∨ (s.after dt).bit PAC_ADV_CFG PAC_ADV_CFG.IDLE = true) ∧ (s.after dt).headJob = none ∧ (∀ c ∈ (s.after dt).channels, (s.after dt).bankCurrent c = true) ∧ c ∈ (s.after dt).channels ∧ p.rev = false ∧ (s.after dt).passTarget c p.first p ≤ (s.after dt).P) ∧
  (∃ (q : Req) (c : Fin 64) (s : State),
    Allowed s q (HC_ROWDLY_AT_HI c.val) ∧ ((s.granted q).jobActive || (s.granted q).passBusy) = false ∧ (s.granted q).activeOfPair = false) ∧
  (∃ (q : Req) (c : Fin 64) (s : State),
    Allowed s q (HC_ROWDLY_AT_HI c.val) ∧ ((s.granted q).jobActive || (s.granted q).passBusy) = true ∧ 255 < ((s.dev.rdN (HC_ROWDLY_NEXT c.val) : Int) - (s.dev.hc c.val).dStart).natAbs) ∧
  (∃ (q : Req) (c : Fin 64) (s : State),
    Allowed s q (HC_ROWDLY_AT_HI c.val) ∧ ((s.granted q).jobActive || (s.granted q).passBusy) = true ∧ ((s.dev.rdN (HC_ROWDLY_NEXT c.val) : Int) - (s.dev.hc c.val).dStart).natAbs ≤ 255) ∧
  (∃ (c : Fin 64) (m : Nat) (dt : Nat) (s : State),
    (s.after dt).pending c.val = some m ∧ (s.after dt).bit (HC_GEOM_STS c.val) HC_GEOM_STS.PENDING = true ∧ (s.after dt).atOrAfter ((s.after dt).rowDelayAt c.val) m = true ∧ (s.after dt).canFire c.val = true ∧ (s.after dt).bit FIR_STS FIR_STS.INH_NOW = false) :=
  ⟨⟨q0, wst [(FIR_CFG, FIR_CFG.SCAN, 1), (FIR_PASS_FIRST, whole, 5)] (fun d => d), by unfold Allowed; and_intros <;> decide +kernel⟩,
   ⟨q0, wst [(FIR_CFG, FIR_CFG.SCAN, 1), (FIR_PASS_LAST, whole, 5)] (fun d => d), by unfold Allowed; and_intros <;> decide +kernel⟩,
   ⟨q0, wst [(FIR_STS, FIR_STS.PASS_ACTIVE, 1)] (fun d => d), by unfold Allowed; and_intros <;> decide +kernel⟩,
   ⟨q0, wst [] (fun d => d), by unfold Allowed; and_intros <;> decide +kernel⟩,
   ⟨⟨0,false,100,200⟩, 0, wst [(FIR_CFG, FIR_CFG.WAIT_ADV, 0)] (fun d => waves <| d |> fir { armed := some ⟨0,false,100,200⟩ }), by and_intros <;> decide +kernel⟩,
   ⟨⟨0,false,0,200⟩, 0, 0, wst [(FIR_CFG, FIR_CFG.WAIT_ADV, 0)] (fir { armed := some ⟨0,false,0,200⟩ }), by and_intros <;> decide +kernel⟩,
   ⟨q0, 0, wst [] (fun d => d), by unfold Allowed; and_intros <;> decide +kernel⟩,
   ⟨q0, 0, wst [((HC_ROWDLY_NEXT 0), whole, 256)] (running), by unfold Allowed; and_intros <;> decide +kernel⟩,
   ⟨q0, 0, wst [((HC_ROWDLY_NEXT 0), whole, 255)] (running), by unfold Allowed; and_intros <;> decide +kernel⟩,
   ⟨0, 0, 0, wst [((HC_GEOM_STS (0 : Fin 64).val), HC_GEOM_STS.PENDING, 1), (FIR_STS, FIR_STS.INH_NOW, 0)] (running), by and_intros <;> decide +kernel⟩⟩

theorem test_witness_JobCommandsComplete :
  (∃ (s : State),
    16 ≤ s.dev.ras.jobs.length) ∧
  (∃ (job : Word) (s : State),
    s.dev.ras.jobs.length < 16 ∧ (s.dev.jobOf job.toNat).isSome = true) ∧
  (∃ (arg : Fin 256) (job : Word) (mask : BitVec 64) (s : State),
    s.dev.ras.jobs.length < 16 ∧ s.dev.jobOf job.toNat = none ∧ mask ≠ 0 ∧ (∀ c, mask.toNat.testBit c = true → s.dev.hasChannel c = true) ∧ arg.val < 8 ∧ arg.val % 4 ≠ 3 ∧ (∀ c, mask.toNat.testBit c = true → 80 ≤ s.dev.leadCap c (arg.val % 4 + 1))) ∧
  (∃ (job : Word) (s : State),
    s.dev.jobOf job.toNat = none) ∧
  (∃ (job : Word) (line : BitVec 40) (j : Job) (s : State),
    s.dev.jobOf job.toNat = some j ∧ j.atFront line.toNat = false) ∧
  (∃ (job : Word) (j : Job) (s : State),
    s.dev.jobOf job.toNat = some j) ∧
  (∃ (job : Word) (line : BitVec 40) (j : Job) (s : State),
    s.dev.jobOf job.toNat = some j ∧ j.state = 4 ∧ j.atFront line.toNat = false) ∧
  (∃ (job : Word) (line : BitVec 40) (j : Job) (s : State),
    s.dev.jobOf job.toNat = some j ∧ (j.state ≠ 4 ∨ j.atFront line.toNat = true)) ∧
  (∃ (q : Req) (j : Job) (s : State),
    Allowed s q CMP_RFL_CMD ∧ (s.granted q).headJob = some j ∧ j.state = 4 ∧ j.atFront (s.dev.rdN CMP_RESUME_LO + 2 ^ 32 * (s.dev.rdN CMP_RESUME_HI % 256)) = false) ∧
  (∃ (j : Job) (l : Nat) (dt : Nat) (s : State),
    (s.after dt).headJob = some j ∧ (s.after dt).autoLine = some l ∧ j.autoarm = true ∧ j.state = 1 ∧ (∀ c ∈ j.chans, ((s.after dt).blk c (blkKey j.id (l / 64))).st = .held)) ∧
  (∃ (j : Job) (dt : Nat) (s : State),
    (s.after dt).headJob = some j ∧ j.state = 3 ∧ (s.after dt).ras.progressAt + 800000 ≤ (s.after dt).now) :=
  ⟨⟨wst [] (jobs (List.replicate 16 J0)), by decide +kernel⟩,
   ⟨0, wst [] (jobs [J0]), by and_intros <;> decide +kernel⟩,
   ⟨0, 0, 1, wst [] (fun d => d), by and_intros <;> decide +kernel, by and_intros <;> decide +kernel, by and_intros <;> decide +kernel, fun c h => by
      rcases c with _ | c
      · decide +kernel
      · simp [Nat.testBit_succ] at h, by and_intros <;> decide +kernel, by and_intros <;> decide +kernel, fun c h => by
      rcases c with _ | c
      · decide +kernel
      · simp [Nat.testBit_succ] at h⟩,
   ⟨0, wst [] (fun d => d), by decide +kernel⟩,
   ⟨0, 50, J0, wst [] (jobs [J0]), by and_intros <;> decide +kernel⟩,
   ⟨0, J0, wst [] (jobs [J0]), by decide +kernel⟩,
   ⟨0, 50, { J0 with state := 4 }, wst [] (jobs [{ J0 with state := 4 }]), by and_intros <;> decide +kernel⟩,
   ⟨0, 50, J0, wst [] (jobs [J0]), by and_intros <;> decide +kernel⟩,
   ⟨q0, { J0 with state := 4 }, wst [] (jobs [{ J0 with state := 4 }]), by unfold Allowed; and_intros <;> decide +kernel⟩,
   ⟨{ J0 with autoarm := true }, 0, 0, wst [] (fun d => { (jobs [{ J0 with autoarm := true }] d) with hcs := [(0, { blks := [(0, { st := .held })] })] }), by and_intros <;> decide +kernel⟩,
   ⟨{ J0 with state := 3 }, 0, wst [] (fun d => later (jobs [{ J0 with state := 3 }] d)), by and_intros <;> decide +kernel⟩⟩

theorem test_witness_InputCommandsComplete :
  (∃ (dt : Nat) (s : State),
    (s.after dt).islUp 6 = true) ∧
  (∃ (q : Req) (i : Fin 32) (s : State),
    Allowed s q (inCfg i.val)) ∧
  (∃ (dt : Nat) (s : State),
    (s.after dt).islUp 6 = true) ∧
  (∃ (i : Fin 32) (k : Nat) (j : Nat) (f : Nat) (dt : Nat) (s : State),
    (s.after dt).islUp 6 = true ∧ ((s.after dt).inp i.val).change = some (k, j, f) ∧ k + f ≤ (s.after dt).now ∧ (s.after dt).isStuck i.val = true) ∧
  (∃ (dt : Nat) (s : State),
    (s.after dt).islUp 6 = true) ∧
  (∃ (i : Fin 32) (g : Nat) (dt : Nat) (s : State),
    (s.after dt).islUp 6 = true ∧ ((s.after dt).inp i.val).gapEnd = some g ∧ g ≤ (s.after dt).now ∧ ((((s.after dt).inp i.val).filt && !(s.after dt).isStuck i.val) = ((s.after dt).inp i.val).passed)) ∧
  (∃ (i : Fin 32) (k : Nat) (m : Nat) (dt : Nat) (s : State),
    (s.after dt).islUp 6 = true ∧ ((s.after dt).inp i.val).activeAt = some (k, m) ∧ m ≠ 0 ∧ (s.after dt).isStuck i.val = false ∧ k + 800 * m < (s.after dt).now ∧ ((s.after dt).inp i.val).passed = false ∧ i.val ≠ 14 ∧ i.val ≠ 15) ∧
  (∃ (i : Fin 32) (k : Nat) (m : Nat) (dt : Nat) (s : State),
    (s.after dt).islUp 6 = true ∧ ((s.after dt).inp i.val).activeAt = some (k, m) ∧ m ≠ 0 ∧ (s.after dt).isStuck i.val = false ∧ k + 800 * m < (s.after dt).now ∧ ((s.after dt).inp i.val).passed = true) ∧
  (∃ (i : Fin 32) (k : Nat) (r : Nat) (dt : Nat) (s : State),
    (s.after dt).islUp 6 = true ∧ ((s.after dt).inp i.val).inactiveAt = some (k, r) ∧ (s.after dt).isStuck i.val = true ∧ k + 800 * r ≤ (s.after dt).now) :=
  ⟨⟨0, wst [] (fun d => d), by decide +kernel⟩,
   ⟨q0, 0, wst [] (fun d => d), by unfold Allowed; decide +kernel⟩,
   ⟨0, wst [] (fun d => d), by decide +kernel⟩,
   ⟨0, 0, 0, 0, 0, wst [((inSts 0), PAC_IN_STS.STUCK_NOW, 1)] (fun d => { d with input := [(0, { change := some (0,0,0) })] }), by and_intros <;> decide +kernel⟩,
   ⟨0, wst [] (fun d => d), by decide +kernel⟩,
   ⟨0, 0, 0, wst [] (fun d => { d with input := [(0, { gapEnd := some 0 })] }), by and_intros <;> decide +kernel⟩,
   ⟨0, 0, 1, 0, wst [] (fun d => { later d with input := [(0, { activeAt := some (0,1) })] }), by and_intros <;> decide +kernel⟩,
   ⟨0, 0, 1, 0, wst [] (fun d => { later d with input := [(0, { activeAt := some (0,1), passed := true, filt := true })] }), by and_intros <;> decide +kernel⟩,
   ⟨0, 0, 0, 0, wst [((inSts 0), PAC_IN_STS.STUCK_NOW, 1)] (fun d => { d with input := [(0, { inactiveAt := some (0,0) })] }), by and_intros <;> decide +kernel⟩⟩

theorem test_witness_PacingCommandsComplete :
  (∃ (dt : Nat) (s : State),
    (s.after dt).islUp 6 = true ∧ (s.after dt).bit PAC_CFG PAC_CFG.EN = true ∧ (s.after dt).pac.lastUpd + 1024 ≤ (s.after dt).now ∧ ((s.after dt).pacState = 2 ∨ (s.after dt).pacState = 3 ∨ (s.after dt).pacState = 4)) ∧
  (∃ (dt : Nat) (s : State),
    (s.after dt).now < (s.after dt).pac.lastUpd + 1024) ∧
  (∃ (q : Req) (v : Word) (s : State),
    Allowed s q PAC_CFG ∧ (s.granted q).bit PAC_CFG PAC_CFG.EN = false ∧ v.fld PAC_CFG.BKP ≠ 3 ∧ (v.fld PAC_CFG.BKP ≠ 0 → v.fld PAC_CFG.BKP - 1 ≠ v.fld PAC_CFG.SRC) ∧ advSource ((s.granted q).get PAC_ADV_CFG PAC_ADV_CFG.SRC) = none ∧ (s.granted q).pacBusy = false ∧ (s.granted q).enCheck (v.fld PAC_CFG.SRC) = true) ∧
  (∃ (q : Req) (v : Word) (s : State),
    Allowed s q PAC_CFG ∧ (s.granted q).bit PAC_CFG PAC_CFG.EN = true ∧ v.fld PAC_CFG.BKP ≠ 3 ∧ (v.fld PAC_CFG.BKP ≠ 0 → v.fld PAC_CFG.BKP - 1 ≠ v.fld PAC_CFG.SRC) ∧ advSource ((s.granted q).get PAC_ADV_CFG PAC_ADV_CFG.SRC) = none ∧ (s.granted q).pacBusy = false) ∧
  (∃ (q : Req) (src : Fin 4) (bkp : Fin 4) (s : State),
    Allowed s q PAC_CFG ∧ (s.granted q).bit PAC_CFG PAC_CFG.EN = true ∧ (s.granted q).get PAC_CFG PAC_CFG.SRC ≠ src.val ∧ bkp.val ≠ 3 ∧ (bkp.val ≠ 0 → bkp.val - 1 ≠ src.val) ∧ advSource ((s.granted q).get PAC_ADV_CFG PAC_ADV_CFG.SRC) = none ∧ (s.granted q).pacBusy = false) ∧
  (∃ (q : Req) (src : Fin 4) (bkp : Fin 4) (s : State),
    Allowed s q PAC_CFG ∧ (bkp.val = 3 ∨ (bkp.val ≠ 0 ∧ bkp.val - 1 = src.val))) ∧
  (∃ (q : Req) (s : State),
    Allowed s q PAC_CMD ∧ (s.granted q).jobActive = false ∧ (s.granted q).passActive = false) ∧
  (∃ (q : Req) (s : State),
    Allowed s q PAC_CMD ∧ ((s.granted q).jobActive = true ∨ (s.granted q).passActive = true)) ∧
  (∃ (q : Req) (s : State),
    Allowed s q PAC_CMD ∧ (s.granted q).jobActive = false ∧ (s.granted q).passActive = false) ∧
  (∃ (q : Req) (s : State),
    Allowed s q PAC_CMD) ∧
  (∃ (e : Fin 2) (dt : Nat) (s : State),
    (s.after dt).islUp 6 = true ∧ (s.after dt).pac.zarm = true ∧ (s.after dt).get PAC_CFG PAC_CFG.SRC = e.val) ∧
  (∃ (q : Req) (s : State),
    Allowed s q PAC_CMD ∧ (s.granted q).backup = none) ∧
  (∃ (q : Req) (s : State),
    Allowed s q PAC_CMD ∧ (s.granted q).backup ≠ none) ∧
  (∃ (dt : Nat) (s : State),
    (s.after dt).islUp 6 = true ∧ (s.after dt).pac.restore = true ∧ (s.after dt).bit PAC_STS PAC_STS.ON_BACKUP = true ∧ 256 ≤ (s.after dt).pac.nprim) ∧
  (∃ (dt : Nat) (s : State),
    (s.after dt).islUp 6 = true ∧ (s.after dt).pac.restore = true ∧ (s.after dt).bit PAC_STS PAC_STS.ON_BACKUP = true ∧ (s.after dt).pac.nprim < 256) ∧
  (∃ (b : Nat) (dt : Nat) (s : State),
    (s.after dt).islUp 6 = true ∧ (s.after dt).switchDue = true ∧ (s.after dt).backup = some b) ∧
  (∃ (dt : Nat) (s : State),
    (s.after dt).islUp 6 = true ∧ (s.after dt).silent = true ∧ (s.after dt).motionExpected = false) ∧
  (∃ (dt : Nat) (s : State),
    (s.after dt).islUp 6 = true ∧ (s.after dt).silent = true ∧ (s.after dt).motionExpected = true ∧ (s.after dt).bit PAC_CFG PAC_CFG.LOSS_STOP = false) ∧
  (∃ (dt : Nat) (s : State),
    (s.after dt).islUp 6 = true ∧ (s.after dt).silent = true ∧ (s.after dt).motionExpected = true ∧ (s.after dt).bit PAC_CFG PAC_CFG.LOSS_STOP = true) ∧
  (∃ (dt : Nat) (s : State),
    (s.after dt).islUp 6 = true ∧ (s.after dt).pac.advAt + 800 * (s.after dt).get PAC_ADV_CFG PAC_ADV_CFG.SETTLE ≤ (s.after dt).now) ∧
  (∃ (q : Req) (s : State),
    Allowed s q PAC_ADV_CFG) :=
  ⟨⟨0, wst [(PAC_CFG, PAC_CFG.EN, 1), (PAC_STS, PAC_STS.STATE, 3)] (later), by and_intros <;> decide +kernel⟩,
   ⟨0, wst [] (fun d => d), by decide +kernel⟩,
   ⟨q0, 0, wst [(PAC_CFG, PAC_CFG.EN, 0)] (fun d => d), by unfold Allowed; and_intros <;> decide +kernel⟩,
   ⟨q0, 0, wst [(PAC_CFG, PAC_CFG.EN, 1)] (fun d => d), by unfold Allowed; and_intros <;> decide +kernel⟩,
   ⟨q0, 1, 0, wst [(PAC_CFG, PAC_CFG.EN, 1)] (fun d => d), by unfold Allowed; and_intros <;> decide +kernel⟩,
   ⟨q0, 0, 3, wst [] (fun d => d), by unfold Allowed; and_intros <;> decide +kernel⟩,
   ⟨q0, wst [] (fun d => d), by unfold Allowed; and_intros <;> decide +kernel⟩,
   ⟨q0, wst [] (running), by unfold Allowed; and_intros <;> decide +kernel⟩,
   ⟨q0, wst [] (fun d => d), by unfold Allowed; and_intros <;> decide +kernel⟩,
   ⟨q0, wst [] (fun d => d), by unfold Allowed; decide +kernel⟩,
   ⟨0, 0, wst [(PAC_CFG, PAC_CFG.SRC, (0 : Fin 2).val)] (fun d => { d with pac := { zarm := true } }), by and_intros <;> decide +kernel⟩,
   ⟨q0, wst [] (fun d => d), by unfold Allowed; and_intros <;> decide +kernel⟩,
   ⟨q0, wst [(PAC_CFG, PAC_CFG.BKP, 2)] (fun d => d), by unfold Allowed; and_intros <;> decide +kernel⟩,
   ⟨0, wst [(PAC_STS, PAC_STS.ON_BACKUP, 1)] (fun d => { d with pac := { restore := true, nprim := 256 } }), by and_intros <;> decide +kernel⟩,
   ⟨0, wst [(PAC_STS, PAC_STS.ON_BACKUP, 1)] (fun d => { d with pac := { restore := true, nprim := 255 } }), by and_intros <;> decide +kernel⟩,
   ⟨1, 0, wst [(PAC_CFG, PAC_CFG.BKP, 2), (PAC_CFG, PAC_CFG.EN, 1), (PAC_STS, PAC_STS.STATE, 3)] (fun d => { d with pac := { nbk := 100000 } }), by and_intros <;> decide +kernel⟩,
   ⟨0, wst [(PAC_CFG, PAC_CFG.EN, 1), (PAC_STS, PAC_STS.STATE, 3), (PAC_VMIN, whole, 1)] (later), by and_intros <;> decide +kernel⟩,
   ⟨0, wst [(PAC_CFG, PAC_CFG.LOSS_STOP, 0), (PAC_CFG, PAC_CFG.EN, 1), (PAC_STS, PAC_STS.STATE, 3)] (fun d => { later d with pac := { nbk := 1 } }), by and_intros <;> decide +kernel⟩,
   ⟨0, wst [(PAC_CFG, PAC_CFG.LOSS_STOP, 1), (PAC_CFG, PAC_CFG.EN, 1), (PAC_STS, PAC_STS.STATE, 3)] (fun d => { later d with pac := { nbk := 1 } }), by and_intros <;> decide +kernel⟩,
   ⟨0, wst [] (later), by and_intros <;> decide +kernel⟩,
   ⟨q0, wst [] (fun d => d), by unfold Allowed; decide +kernel⟩⟩

theorem test_witness_LouvreLinkCommandsComplete :
  (∃ (c : Fin 64) (dt : Nat) (s : State),
    (s.after dt).lvrUp c.val = true ∧ ((s.after dt).hc c.val).frameAt + 16000 ≤ (s.after dt).now) ∧
  (∃ (c : Fin 64) (dt : Nat) (s : State),
    (s.after dt).islUp (0x40 + c.val) = true ∧ (s.after dt).lvrUp c.val = true) ∧
  (∃ (q : Req) (c : Fin 64) (s : State),
    Allowed s q (HC_LVR_CMD c.val)) ∧
  (∃ (c : Fin 64) (dt : Nat) (s : State),
    (s.after dt).lvrUp c.val = true) ∧
  (∃ (c : Fin 64) (n : Nat) (dt : Nat) (s : State),
    (s.after dt).islUp (0x40 + c.val) = true ∧ (s.after dt).bit (HC_LVR_CFG c.val) HC_LVR_CFG.EN = true ∧ 0 < n ∧ (((s.after dt).hc c.val).errs.filter (fun k => (s.after dt).now < k + 800)).length + n < 4) ∧
  (∃ (c : Fin 64) (n : Nat) (dt : Nat) (s : State),
    (s.after dt).islUp (0x40 + c.val) = true ∧ (s.after dt).bit (HC_LVR_CFG c.val) HC_LVR_CFG.EN = true ∧ 4 ≤ n ∧ (s.after dt).lvrUp c.val = true) ∧
  (∃ (q : Req) (c : Fin 64) (v : Word) (s : State),
    Allowed s q (HC_LVR_CFG c.val) ∧ s.dev.bit (HC_LVR_CFG c.val) HC_LVR_CFG.EN = false ∧ s.dev.linksHeld = false ∧ (v.fld HC_LVR_CFG.VER_MAX = 1 ∨ v.fld HC_LVR_CFG.VER_MAX = 2) ∧ 16 ≤ v.fld HC_LVR_CFG.STB_W) ∧
  (∃ (c : Fin 64) (dt : Nat) (s : State),
    (s.after dt).islUp (0x40 + c.val) = true ∧ (s.after dt).bit (HC_LVR_CFG c.val) HC_LVR_CFG.EN = true ∧ (s.after dt).linksHeld = false ∧ (s.after dt).looped 2 c.val = false ∧ (s.after dt).get (HC_LVR_STS c.val) HC_LVR_STS.STATE = 0 ∧ ((s.after dt).hc c.val).stateAt + 80000 ≤ (s.after dt).now) ∧
  (∃ (c : Fin 64) (dt : Nat) (s : State),
    (s.after dt).islUp (0x40 + c.val) = true ∧ (s.after dt).bit (HC_LVR_CFG c.val) HC_LVR_CFG.EN = true ∧ (s.after dt).get (HC_LVR_STS c.val) HC_LVR_STS.STATE = 4 ∧ ((s.after dt).hc c.val).stateAt + 80000000 ≤ (s.after dt).now) ∧
  (∃ (c : Fin 64) (dt : Nat) (s : State),
    (s.after dt).islUp (0x40 + c.val) = true ∧ ((s.after dt).get (HC_LVR_STS c.val) HC_LVR_STS.STATE = 1 ∨ (s.after dt).get (HC_LVR_STS c.val) HC_LVR_STS.STATE = 2) ∧ ((s.after dt).hc c.val).startAt + 8000000 ≤ (s.after dt).now) ∧
  (∃ (c : Fin 64) (dt : Nat) (s : State),
    (s.after dt).islUp (0x40 + c.val) = true ∧ (s.after dt).get (HC_LVR_STS c.val) HC_LVR_STS.STATE = 1) ∧
  (∃ (c : Fin 64) (ver : Nat) (dt : Nat) (s : State),
    (s.after dt).islUp (0x40 + c.val) = true ∧ (s.after dt).get (HC_LVR_STS c.val) HC_LVR_STS.STATE = 1 ∧ ((s.after dt).hc c.val).ver = ver ∧ ver ≠ 0) ∧
  (∃ (c : Fin 64) (dt : Nat) (s : State),
    (s.after dt).islUp (0x40 + c.val) = true ∧ (s.after dt).lvrUp c.val = true) ∧
  (∃ (c : Fin 64) (dt : Nat) (s : State),
    (s.after dt).islUp (0x40 + c.val) = true ∧ ((s.after dt).hc c.val).hold = true) :=
  ⟨⟨0, 0, wst [] (fun d => later (lup d)), by and_intros <;> decide +kernel⟩,
   ⟨0, 0, wst [] (lup), by and_intros <;> decide +kernel⟩,
   ⟨q0, 0, wst [] (fun d => d), by unfold Allowed; decide +kernel⟩,
   ⟨0, 0, wst [] (fun d => later (lup d)), by decide +kernel⟩,
   ⟨0, 3, 0, wst [((HC_LVR_CFG (0 : Fin 64).val), HC_LVR_CFG.EN, 1)] (fun d => d), by and_intros <;> decide +kernel⟩,
   ⟨0, 4, 0, wst [((HC_LVR_CFG (0 : Fin 64).val), HC_LVR_CFG.EN, 1)] (lup), by and_intros <;> decide +kernel⟩,
   ⟨q0, 0, BitVec.ofNat 32 ((((0 : Word).setFld HC_LVR_CFG.VER_MAX 2).setFld HC_LVR_CFG.STB_W 16).toNat), wst [((HC_LVR_CFG (0 : Fin 64).val), HC_LVR_CFG.EN, 0)] (fun d => d), by unfold Allowed; and_intros <;> decide +kernel⟩,
   ⟨0, 0, wst [((HC_LVR_CFG (0 : Fin 64).val), HC_LVR_CFG.EN, 1), ((HC_LVR_STS (0 : Fin 64).val), HC_LVR_STS.STATE, 0)] (later), by and_intros <;> decide +kernel⟩,
   ⟨0, 0, wst [((HC_LVR_CFG (0 : Fin 64).val), HC_LVR_CFG.EN, 1), ((HC_LVR_STS (0 : Fin 64).val), HC_LVR_STS.STATE, 4)] (later), by and_intros <;> decide +kernel⟩,
   ⟨0, 0, wst [((HC_LVR_STS 0), HC_LVR_STS.STATE, 2)] (later), by and_intros <;> decide +kernel⟩,
   ⟨0, 0, wst [((HC_LVR_STS (0 : Fin 64).val), HC_LVR_STS.STATE, 1)] (fun d => d), by and_intros <;> decide +kernel⟩,
   ⟨0, 2, 0, wst [((HC_LVR_STS (0 : Fin 64).val), HC_LVR_STS.STATE, 1)] (fun d => hcw { ver := 2 } (d)), by and_intros <;> decide +kernel⟩,
   ⟨0, 0, wst [] (lup), by and_intros <;> decide +kernel⟩,
   ⟨0, 0, wst [] (fun d => hcw { hold := true } (d)), by and_intros <;> decide +kernel⟩⟩

theorem test_witness_LouvreDataCommandsComplete :
  (∃ (q : Req) (c : Fin 64) (s : State),
    Allowed s q (HC_LVR_BANK_AT_HI c.val)) ∧
  (∃ (q : Req) (c : Fin 64) (f : Bool × Nat) (s : State),
    Allowed s q (HC_LVR_BANK_AT_HI c.val) ∧ s.dev.lvrUp c.val = false ∧ s.dev.confFault c.val (s.dev.get (HC_FIR_MININT_EFF c.val) ⟨0, 20⟩) (s.dev.checkBits c.val) (s.dev.confNext c.val) (s.dev.hc c.val).restA (s.dev.hc c.val).restB = some f) ∧
  (∃ (q : Req) (c : Fin 64) (s : State),
    Allowed s q (HC_LVR_BANK_AT_HI c.val) ∧ s.dev.lvrUp c.val = false ∧ s.dev.confFault c.val (s.dev.get (HC_FIR_MININT_EFF c.val) ⟨0, 20⟩) (s.dev.checkBits c.val) (s.dev.confNext c.val) (s.dev.hc c.val).restA (s.dev.hc c.val).restB = none) ∧
  (∃ (c : Fin 64) (im : BankImg) (dt : Nat) (s : State),
    (s.after dt).islUp (0x40 + c.val) = true ∧ ((s.after dt).hc c.val).image = some im ∧ im.sent < im.bytes.length ∧ ((s.after dt).get (HC_LVR_STS c.val) HC_LVR_STS.STATE = 2 ∨ (s.after dt).get (HC_LVR_STS c.val) HC_LVR_STS.STATE = 3) ∧ (s.after dt).lanesFree c.val = true ∧ (s.after dt).pending c.val = none) ∧
  (∃ (q : Req) (c : Fin 64) (b : Bool) (s : State),
    Allowed s q (if b then WAV_TRIM_B c.val else WAV_TRIM_A c.val)) ∧
  (∃ (c : Fin 64) (b : Bool) (w : Word) (dt : Nat) (s : State),
    (if b then ((s.after dt).hc c.val).trimB else ((s.after dt).hc c.val).trimA) = some w ∧ (s.after dt).atRest c.val b = true) ∧
  (∃ (q : Req) (c : Fin 64) (i : Fin 1024) (s : State),
    Allowed s q (WAV_SEG c.val i.val) ∧ s.dev.get (WAV_SEL c.val) (if 512 ≤ i.val then WAV_SEL.WFB else WAV_SEL.WFA) = i.val % 512 / 32) ∧
  (∃ (q : Req) (c : Fin 64) (i : Fin 1024) (s : State),
    Allowed s q (WAV_SEG c.val i.val) ∧ s.dev.get (WAV_SEL c.val) (if 512 ≤ i.val then WAV_SEL.WFB else WAV_SEL.WFA) ≠ i.val % 512 / 32 ∧ s.dev.bit (HC_LVR_STS c.val) HC_LVR_STS.PENDING = false) ∧
  (∃ (c : Fin 64) (bs : List Byte) (dt : Nat) (s : State),
    (s.after dt).islUp (0x40 + c.val) = true ∧ ((s.after dt).get (HC_LVR_STS c.val) HC_LVR_STS.STATE = 2 ∨ (s.after dt).get (HC_LVR_STS c.val) HC_LVR_STS.STATE = 3) ∧ (bs.length ≠ 12 ∨ leField bs 0 1 ≠ 0x81 ∨ crcOf crc16Ibm3740 (bs.take 10) ≠ leField bs 10 2)) ∧
  (∃ (c : Fin 64) (bs : List Byte) (dt : Nat) (s : State),
    (s.after dt).islUp (0x40 + c.val) = true ∧ (s.after dt).get (HC_LVR_STS c.val) HC_LVR_STS.STATE = 3 ∧ ((s.after dt).hc c.val).image = none ∧ bs.length = 12 ∧ leField bs 0 1 = 0x81 ∧ crcOf crc16Ibm3740 (bs.take 10) = leField bs 10 2) ∧
  (∃ (c : Fin 64) (m : Nat) (dt : Nat) (s : State),
    (s.after dt).islUp (0x40 + c.val) = true ∧ (s.after dt).pending c.val = some m ∧ (s.after dt).lvrUp c.val = true ∧ ((s.after dt).hc c.val).body = none ∧ (s.after dt).masked m = false ∧ ((s.after dt).hc c.val).idleAt + 80 ≤ (s.after dt).now ∧ (s.after dt).lineReleased c.val m = true ∧ (s.after dt).lineData c.val m = true) :=
  ⟨⟨q0, 0, wst [] (fun d => d), by unfold Allowed; decide +kernel⟩,
   ⟨q0, 0, (false, 31), wst [] (fun d => d), by unfold Allowed; and_intros <;> decide +kernel⟩,
   ⟨q0, 0, wst [] (waves), by unfold Allowed; and_intros <;> decide +kernel⟩,
   ⟨0, ⟨1,[1,2,3],0,false,0,0⟩, 0, wst [] (fun d => hcw { image := some ⟨1,[1,2,3],0,false,0,0⟩ } (lup d)), by and_intros <;> decide +kernel⟩,
   ⟨q0, 0, false, wst [] (fun d => d), by unfold Allowed; decide +kernel⟩,
   ⟨0, true, 5, 0, wst [] (fun d => hcw { trimB := some 5 } (d)), by and_intros <;> decide +kernel⟩,
   ⟨q0, 0, 0, wst [] (fun d => d), by unfold Allowed; and_intros <;> decide +kernel⟩,
   ⟨q0, 0, 544, wst [((HC_LVR_STS (0 : Fin 64).val), HC_LVR_STS.PENDING, 0)] (fun d => d), by unfold Allowed; and_intros <;> decide +kernel⟩,
   ⟨0, [], 0, wst [] (lup), by and_intros <;> decide +kernel⟩,
   ⟨0, (let b : List Byte := [0x81,0,0,0,0,0,3,4,0,0]; b ++ leBytes 2 (crcOf crc16Ibm3740 b)), 0, wst [((HC_LVR_STS (0 : Fin 64).val), HC_LVR_STS.STATE, 3)] (lup), by and_intros <;> decide +kernel⟩,
   ⟨0, 0, 0, wst [] (fun d => hcw { m := some 0, lines := [⟨0, List.replicate 16 1, [0]⟩] } (lup (later (running d)))), by and_intros <;> decide +kernel⟩⟩

theorem test_witness_LaneCommandsComplete :
  (∃ (i : Fin 18) (pass : BitVec 16) (a : Nat) (z : Nat) (dt : Nat) (s : State),
    (s.after dt).islUp (linkIsland (laneLink i.val)) = true ∧ (s.after dt).laneState i.val = 1 ∧ (s.after dt).blocksPast (laneLink i.val) ((s.after dt).laneSt i.val).at_ 1179648 = true ∧ bestRun pass.toNat = some (a, z)) ∧
  (∃ (i : Fin 18) (pass : BitVec 16) (dt : Nat) (s : State),
    (s.after dt).islUp (linkIsland (laneLink i.val)) = true ∧ (s.after dt).laneState i.val = 1 ∧ (s.after dt).blocksPast (laneLink i.val) ((s.after dt).laneSt i.val).at_ 1179648 = true ∧ bestRun pass.toNat = none) ∧
  (∃ (i : Fin 18) (dt : Nat) (s : State),
    (s.after dt).islUp (linkIsland (laneLink i.val)) = true ∧ (s.after dt).laneState i.val = 2) ∧
  (∃ (i : Fin 18) (dt : Nat) (s : State),
    (s.after dt).islUp (linkIsland (laneLink i.val)) = true ∧ (s.after dt).laneState i.val = 3) ∧
  (∃ (i : Fin 18) (dt : Nat) (s : State),
    (s.after dt).islUp (linkIsland (laneLink i.val)) = true ∧ (s.after dt).laneState i.val = 4) ∧
  (∃ (i : Fin 16) (dt : Nat) (s : State),
    (s.after dt).islUp 1 = true ∧ (s.after dt).laneState i.val = 5 ∧ (s.after dt).get TTH_STS TTH_STS.LINK = 3 ∧ (s.after dt).tethVer < 3) ∧
  (∃ (i : Fin 18) (lane : Fin 16) (epoch : Fin 256) (skew : Nat) (k : Nat) (m : Nat) (dt : Nat) (s : State),
    (s.after dt).islUp (linkIsland (laneLink i.val)) = true ∧ (s.after dt).laneState i.val = 3 ∧ ((s.after dt).laneSt i.val).mark = some (k, lane.val) ∧ (s.after dt).blocks (laneLink i.val) ((s.after dt).now - k) = 16384 ∧ skew ≤ 32 ∧ ((s.after dt).lk (laneLink i.val)).er = some (epoch.val, m)) ∧
  (∃ (i : Fin 18) (lane : Fin 16) (skew : Nat) (k : Nat) (dt : Nat) (s : State),
    (s.after dt).islUp (linkIsland (laneLink i.val)) = true ∧ (s.after dt).laneState i.val = 3 ∧ ((s.after dt).laneSt i.val).mark = some (k, lane.val) ∧ (s.after dt).blocks (laneLink i.val) ((s.after dt).now - k) = 16384 ∧ 32 < skew) ∧
  (∃ (i : Fin 18) (dt : Nat) (s : State),
    (s.after dt).islUp (linkIsland (laneLink i.val)) = true ∧ (s.after dt).laneState i.val = 4 ∧ (s.after dt).marksLost i.val = true) ∧
  (∃ (i : Fin 16) (dt : Nat) (s : State),
    (s.after dt).islUp 1 = true ∧ 3 ≤ (s.after dt).laneState i.val ∧ (s.after dt).laneState i.val ≠ 6) ∧
  (∃ (i : Fin 16) (dt : Nat) (s : State),
    (s.after dt).islUp 1 = true ∧ 3 ≤ (s.after dt).laneState i.val ∧ (s.after dt).laneState i.val ≠ 6 ∧ (s.after dt).tethUp = true ∧ (s.after dt).teth.settled = true) :=
  ⟨⟨0, 0xE, 1, 3, 0, wst [((laneSts 0), TTH_LANE_STS.STATE, 1)] (later), by and_intros <;> decide +kernel⟩,
   ⟨0, 0, 0, wst [((laneSts 0), TTH_LANE_STS.STATE, 1)] (later), by and_intros <;> decide +kernel⟩,
   ⟨0, 0, wst [((laneSts 0), TTH_LANE_STS.STATE, 2)] (fun d => d), by and_intros <;> decide +kernel⟩,
   ⟨0, 0, wst [((laneSts 0), TTH_LANE_STS.STATE, 3)] (fun d => d), by and_intros <;> decide +kernel⟩,
   ⟨0, 0, wst [((laneSts 0), TTH_LANE_STS.STATE, 4)] (fun d => d), by and_intros <;> decide +kernel⟩,
   ⟨0, 0, wst [(TTH_STS, TTH_STS.LINK, 3), ((laneSts 0), TTH_LANE_STS.STATE, 5)] (fun d => (tup d).put TTH_STS TTH_STS.VER 2), by and_intros <;> decide +kernel⟩,
   ⟨0, 2, 0, 32, 0, 7, 0, wst [((laneSts 0), TTH_LANE_STS.STATE, 3)] (fun d => { (teth { lane := [(0, ⟨0, some (0, 2)⟩)], er := some (0, 7) } d) with now := (16384 * blockTime (d.linkRate false)) / 1000 }), by and_intros <;> decide +kernel⟩,
   ⟨0, 2, 33, 0, 0, wst [((laneSts 0), TTH_LANE_STS.STATE, 3)] (fun d => { (teth { lane := [(0, ⟨0, some (0, 2)⟩)], er := some (0, 7) } d) with now := (16384 * blockTime (d.linkRate false)) / 1000 }), by and_intros <;> decide +kernel⟩,
   ⟨0, 0, wst [((laneSts 0), TTH_LANE_STS.STATE, 4)] (fun d => d), by and_intros <;> decide +kernel⟩,
   ⟨0, 0, wst [((laneSts 0), TTH_LANE_STS.STATE, 3)] (fun d => d), by and_intros <;> decide +kernel⟩,
   ⟨0, 0, wst [((laneSts 0), TTH_LANE_STS.STATE, 5)] (tup), by and_intros <;> decide +kernel⟩⟩

theorem test_witness_TetherLinkCommandsComplete :
  (∃ (q : Req) (s : State),
    Allowed s q TTH_CFG ∧ s.dev.bit TTH_CFG TTH_CFG.EN = false ∧ s.dev.linksHeld = false) ∧
  (∃ (q : Req) (s : State),
    Allowed s q TTH_CFG ∧ s.dev.bit TTH_CFG TTH_CFG.EN = true ∧ s.dev.get TTH_STS TTH_STS.LINK ≠ 0) ∧
  (∃ (q : Req) (s : State),
    Allowed s q TTH_CMD ∧ s.dev.linkEn false = true ∧ s.dev.get TTH_STS TTH_STS.LINK ≠ 0) ∧
  (∃ (b : Bool) (dt : Nat) (s : State),
    (s.after dt).islUp (linkIsland b) = true ∧ (s.after dt).linkEn b = true ∧ (s.after dt).linkSt b = 0 ∧ ((s.after dt).lk b).downAt + 800000 ≤ (s.after dt).now) ∧
  (∃ (b : Bool) (dt : Nat) (s : State),
    (s.after dt).islUp (linkIsland b) = true ∧ (s.after dt).linkSt b = 1 ∧ (∀ i ∈ (s.after dt).linkLanes b, (s.after dt).laneState i = 4) ∧ (s.after dt).linkLanes b ≠ []) ∧
  (∃ (dt : Nat) (s : State),
    (s.after dt).islUp 1 = true ∧ (s.after dt).get TTH_STS TTH_STS.LINK = 1 ∧ (s.after dt).teth.trainAt + 800000 * (10 * (s.after dt).get TTH_TMO TTH_TMO.TRAIN_TMO) ≤ (s.after dt).now) ∧
  (∃ (dt : Nat) (s : State),
    (s.after dt).islUp 7 = true ∧ (s.after dt).bl.phase = 1 ∧ (s.after dt).bl.trainAt + 40000000 ≤ (s.after dt).now) ∧
  (∃ (dt : Nat) (s : State),
    (s.after dt).islUp 1 = true ∧ (s.after dt).get TTH_STS TTH_STS.LINK = 2 ∧ (s.after dt).teth.verLowAt = none ∧ (s.after dt).teth.offerAt + 8000 ≤ (s.after dt).now) ∧
  (∃ (dt : Nat) (s : State),
    (s.after dt).islUp 1 = true ∧ (s.after dt).get TTH_STS TTH_STS.LINK = 2 ∧ (s.after dt).teth.verLowAt = none) ∧
  (∃ (dt : Nat) (s : State),
    (s.after dt).islUp 1 = true ∧ (s.after dt).get TTH_STS TTH_STS.LINK = 3) ∧
  (∃ (dt : Nat) (s : State),
    (s.after dt).islUp 1 = true ∧ (s.after dt).get TTH_STS TTH_STS.LINK = 2 ∧ (s.after dt).teth.verLowAt = none ∧ (s.after dt).teth.ms = 0) ∧
  (∃ (dt : Nat) (s : State),
    (s.after dt).islUp 1 = true ∧ (s.after dt).get TTH_STS TTH_STS.LINK = 2 ∧ (s.after dt).teth.verLowAt = none ∧ (s.after dt).teth.helloAt + 800000 * (s.after dt).get TTH_TMO TTH_TMO.HELLO_TMO ≤ (s.after dt).now) ∧
  (∃ (k : Nat) (dt : Nat) (s : State),
    (s.after dt).islUp 1 = true ∧ (s.after dt).get TTH_STS TTH_STS.LINK = 2 ∧ (s.after dt).teth.verLowAt = some k ∧ k + 800000000 ≤ (s.after dt).now) ∧
  (∃ (b : Bool) (dt : Nat) (s : State),
    (s.after dt).linkSt b ≠ 2 ∧ (s.after dt).linkSt b ≠ 3) ∧
  (∃ (b : Bool) (dt : Nat) (s : State),
    (s.after dt).islUp (linkIsland b) = true ∧ (s.after dt).linkSt b = 2 ∧ ((s.after dt).lk b).er = none ∧ ((s.after dt).lk b).ms = 0) ∧
  (∃ (b : Bool) (epoch : Fin 256) (mask : BitVec 16) (dt : Nat) (s : State),
    (s.after dt).islUp (linkIsland b) = true ∧ (s.after dt).linkSt b = 2 ∧ ((s.after dt).lk b).er = none ∧ mask ≠ 0 ∧ ((s.after dt).lk b).ms = mask.toNat ∧ ((s.after dt).lk b).es = epoch.val ∧ ((s.after dt).lk b).settled = false) :=
  ⟨⟨q0, wst [(TTH_CFG, TTH_CFG.EN, 0)] (fun d => d), by unfold Allowed; and_intros <;> decide +kernel⟩,
   ⟨q0, wst [(TTH_CFG, TTH_CFG.EN, 1), (TTH_STS, TTH_STS.LINK, 1)] (fun d => d), by unfold Allowed; and_intros <;> decide +kernel⟩,
   ⟨q0, wst [(TTH_STS, TTH_STS.LINK, 1), (TTH_CFG, TTH_CFG.EN, 1), (PWR_STS, PWR_STS.STAGE, 7)] (tup), by unfold Allowed; and_intros <;> decide +kernel⟩,
   ⟨false, 0, wst [(TTH_CFG, TTH_CFG.EN, 1), (PWR_STS, PWR_STS.STAGE, 7)] (later), by and_intros <;> decide +kernel⟩,
   ⟨false, 0, wst [(TTH_STS, TTH_STS.LINK, 1)] (fun d => (List.range 16).foldl (fun d i => d.put (laneSts i) TTH_LANE_STS.STATE 4) d), by and_intros <;> decide +kernel⟩,
   ⟨0, wst [(TTH_STS, TTH_STS.LINK, 1)] (later), by and_intros <;> decide +kernel⟩,
   ⟨0, wst [] (fun d => { later d with bl := { phase := 1 } }), by and_intros <;> decide +kernel⟩,
   ⟨0, wst [(TTH_STS, TTH_STS.LINK, 2)] (later), by and_intros <;> decide +kernel⟩,
   ⟨0, wst [(TTH_STS, TTH_STS.LINK, 2)] (fun d => d), by and_intros <;> decide +kernel⟩,
   ⟨0, wst [(TTH_STS, TTH_STS.LINK, 3)] (fun d => d), by and_intros <;> decide +kernel⟩,
   ⟨0, wst [(TTH_STS, TTH_STS.LINK, 2)] (fun d => d), by and_intros <;> decide +kernel⟩,
   ⟨0, wst [(TTH_STS, TTH_STS.LINK, 2)] (later), by and_intros <;> decide +kernel⟩,
   ⟨0, 0, wst [(TTH_STS, TTH_STS.LINK, 2)] (fun d => teth { verLowAt := some 0 } (later d)), by and_intros <;> decide +kernel⟩,
   ⟨false, 0, wst [] (fun d => d), by and_intros <;> decide +kernel⟩,
   ⟨false, 0, wst [(TTH_STS, TTH_STS.LINK, 2)] (fun d => d), by and_intros <;> decide +kernel⟩,
   ⟨false, 0, 3, 0, wst [(TTH_STS, TTH_STS.LINK, 2)] (teth { ms := 3 }), by and_intros <;> decide +kernel⟩⟩

theorem test_witness_TetherFrameCommandsComplete :
  (∃ (bs : List Byte) (dt : Nat) (s : State),
    (s.after dt).islUp 1 = true ∧ (s.after dt).get TTH_STS TTH_STS.LINK = 3 ∧ (s.after dt).teth.settled = true ∧ parseFrame bs = none ∧ (s.after dt).teth.nak = false) ∧
  (∃ (bs : List Byte) (f : RxFrame) (dt : Nat) (s : State),
    (s.after dt).islUp 1 = true ∧ (s.after dt).get TTH_STS TTH_STS.LINK = 3 ∧ (s.after dt).teth.settled = true ∧ parseFrame bs = some f ∧ f.unseq = false ∧ 32768 ≤ (f.seq + 65536 - (s.after dt).teth.rxSeq) % 65536) ∧
  (∃ (bs : List Byte) (f : RxFrame) (dt : Nat) (s : State),
    (s.after dt).islUp 1 = true ∧ (s.after dt).get TTH_STS TTH_STS.LINK = 3 ∧ (s.after dt).teth.settled = true ∧ parseFrame bs = some f ∧ f.unseq = false ∧ (f.seq + 65536 - (s.after dt).teth.rxSeq) % 65536 = 0 ∧ (s.after dt).beyondCredit f = true) ∧
  (∃ (bs : List Byte) (f : RxFrame) (dt : Nat) (s : State),
    (s.after dt).islUp 1 = true ∧ (s.after dt).get TTH_STS TTH_STS.LINK = 3 ∧ (s.after dt).teth.settled = true ∧ parseFrame bs = some f ∧ f.unseq = false ∧ (f.seq + 65536 - (s.after dt).teth.rxSeq) % 65536 = 0 ∧ (s.after dt).beyondCredit f = false) ∧
  (∃ (bs : List Byte) (f : RxFrame) (dt : Nat) (s : State),
    (s.after dt).islUp 1 = true ∧ ((s.after dt).get TTH_STS TTH_STS.LINK = 2 ∨ (s.after dt).get TTH_STS TTH_STS.LINK = 3) ∧ parseFrame bs = some f ∧ f.unseq = true) ∧
  (∃ (dt : Nat) (s : State),
    (s.after dt).islUp 1 = true ∧ (s.after dt).tethUp = true ∧ (s.after dt).teth.acked = true ∧ (s.after dt).teth.ackAt + 8000 ≤ (s.after dt).now) ∧
  (∃ (dt : Nat) (s : State),
    (s.after dt).islUp 1 = true ∧ (s.after dt).tethUp = true ∧ (s.after dt).teth.nak = true ∧ (s.after dt).teth.nakAt + 3200 ≤ (s.after dt).now) ∧
  (∃ (seq : Fin 65536) (dt : Nat) (s : State),
    (s.after dt).islUp 1 = true ∧ (s.after dt).tethUp = true ∧ (s.after dt).neverSent seq.val = true) ∧
  (∃ (seq : Fin 65536) (dt : Nat) (s : State),
    (s.after dt).islUp 1 = true ∧ (s.after dt).tethUp = true ∧ (s.after dt).neverSent seq.val = false) ∧
  (∃ (seq : Fin 65536) (dt : Nat) (s : State),
    (s.after dt).islUp 1 = true ∧ (s.after dt).tethUp = true ∧ (s.after dt).neverSent seq.val = false ∧ (s.after dt).teth.replayAt = none) ∧
  (∃ (f : TxFrame) (l : List TxFrame) (dt : Nat) (s : State),
    (s.after dt).islUp 1 = true ∧ (s.after dt).tethUp = true ∧ (s.after dt).teth.kept = f :: l ∧ (s.after dt).teth.ackAdv + 800 * (s.after dt).get TTH_TMO TTH_TMO.REPLAY_TMO ≤ (s.after dt).now) ∧
  (∃ (f : TxFrame) (l : List TxFrame) (dt : Nat) (s : State),
    (s.after dt).islUp 1 = true ∧ (s.after dt).tethUp = true ∧ (s.after dt).teth.kept = f :: l ∧ (s.after dt).teth.replays < (s.after dt).get TTH_TMO TTH_TMO.REPLAY_MAX ∧ (s.after dt).teth.ackAdv + 800 * (s.after dt).get TTH_TMO TTH_TMO.REPLAY_TMO ≤ (s.after dt).now) ∧
  (∃ (dt : Nat) (s : State),
    (s.after dt).islUp 1 = true ∧ (s.after dt).tethUp = true) ∧
  (∃ (dt : Nat) (s : State),
    (s.after dt).islUp 1 = true ∧ (s.after dt).tethUp = true) ∧
  (∃ (dt : Nat) (s : State),
    (s.after dt).islUp 1 = true ∧ (s.after dt).tethUp = true ∧ (s.after dt).teth.creditAt + 8000 ≤ (s.after dt).now) ∧
  (∃ (f : TxFrame) (dt : Nat) (s : State),
    (s.after dt).islUp 1 = true ∧ (s.after dt).tethUp = true ∧ (s.after dt).teth.settled = true ∧ (s.after dt).sendable [] ((s.after dt).teth.wait.filter (fun f => typeVer f.type ≤ (s.after dt).tethVer)) = some f) :=
  ⟨⟨[1,2,3], 0, wst [(TTH_STS, TTH_STS.LINK, 3)] (tup), by and_intros <;> decide +kernel⟩,
   ⟨frameOf 3 0 0 (List.replicate 24 1), ⟨3,0,0,0,0,0,List.replicate 24 1⟩, 0, wst [(TTH_STS, TTH_STS.LINK, 3)] (fun d => teth { settled := true, rxSeq := 1 } (tup d)), by and_intros <;> decide +kernel⟩,
   ⟨frameOf 3 0 0 (List.replicate 24 1), ⟨3,0,0,0,0,0,List.replicate 24 1⟩, 0, wst [(TTH_STS, TTH_STS.LINK, 3)] (tup), by and_intros <;> decide +kernel⟩,
   ⟨frameOf 3 0 0 (List.replicate 24 1), ⟨3,0,0,0,0,0,List.replicate 24 1⟩, 0, wst [(TTH_STS, TTH_STS.LINK, 3)] (fun d => teth { settled := true, grant := [(0,1)] } (tup d)), by and_intros <;> decide +kernel⟩,
   ⟨frameOf 1 128 0 (List.replicate 32 1), ⟨1,128,0,0,0,0,List.replicate 32 1⟩, 0, wst [] (tup), by and_intros <;> decide +kernel⟩,
   ⟨0, wst [] (fun d => later (teth { settled := true, acked := true } (tup d))), by and_intros <;> decide +kernel⟩,
   ⟨0, wst [] (fun d => later (teth { settled := true, nak := true } (tup d))), by and_intros <;> decide +kernel⟩,
   ⟨0, 0, wst [] (tup), by and_intros <;> decide +kernel⟩,
   ⟨0, 0, wst [] (fun d => teth { settled := true, txSeq := 2, kept := [⟨0,3,0,[]⟩,⟨0,3,1,[]⟩] } (tup d)), by and_intros <;> decide +kernel⟩,
   ⟨1, 0, wst [] (fun d => teth { settled := true, txSeq := 2, kept := [⟨0,3,0,[]⟩,⟨0,3,1,[]⟩] } (tup d)), by and_intros <;> decide +kernel⟩,
   ⟨⟨0,3,0,[]⟩, [], 0, wst [] (fun d => later (teth { settled := true, txSeq := 1, kept := [⟨0,3,0,[]⟩] } (tup d))), by and_intros <;> decide +kernel⟩,
   ⟨⟨0,3,0,[]⟩, [], 0, wst [] (fun d => later (teth { settled := true, txSeq := 1, kept := [⟨0,3,0,[]⟩] } (tup d))), by and_intros <;> decide +kernel⟩,
   ⟨0, wst [] (tup), by and_intros <;> decide +kernel⟩,
   ⟨0, wst [] (tup), by and_intros <;> decide +kernel⟩,
   ⟨0, wst [] (fun d => later (tup d)), by and_intros <;> decide +kernel⟩,
   ⟨⟨0,3,0,[]⟩, 0, wst [] (fun d => teth { settled := true, limit := [(0,1)], wait := [⟨0,3,0,[]⟩] } (tup d)), by and_intros <;> decide +kernel⟩⟩

theorem test_witness_RasterCommandsComplete :
  (∃ (first : Bool) (tag : Nat) (off : Nat) (bs : List Byte) (s : State),
    s.dev.islUp 2 = true ∧ s.dev.openSeg tag = none ∧ (first = false ∨ off ≠ 0 ∨ bs.length < 32)) ∧
  (∃ (tag : Nat) (bs : List Byte) (s : State),
    s.dev.islUp 2 = true ∧ s.dev.openSeg tag = none ∧ 32 ≤ bs.length ∧ 128 ≤ (s.dev.ras.segs.filter (fun g => !g.closed)).length) ∧
  (∃ (tag : Nat) (bs : List Byte) (s : State),
    s.dev.islUp 2 = true ∧ s.dev.openSeg tag = none ∧ 32 ≤ bs.length ∧ (s.dev.ras.segs.filter (fun g => !g.closed)).length < 128) ∧
  (∃ (g : Seg) (tag : Nat) (s : State),
    s.dev.islUp 2 = true ∧ s.dev.openSeg tag = some g ∧ g.drop = false) ∧
  (∃ (g : Seg) (tag : Nat) (k : Nat) (dt : Nat) (s : State),
    (s.after dt).islUp 2 = true ∧ (s.after dt).openSeg tag = some g ∧ g.keptAt = some k ∧ (s.after dt).tethUp = true ∧ (s.after dt).teth.upAt + 800000 * ((s.after dt).rdN CMP_OPEN_KEEP % 65536) ≤ (s.after dt).now) ∧
  (∃ (j : Job) (c : Nat) (key : Nat) (e : Nat) (dt : Nat) (s : State),
    (s.after dt).islUp 2 = true ∧ (s.after dt).headJob = some j ∧ (s.after dt).leastSlack j.chans = some (c, key) ∧ (s.after dt).fastest ((s.after dt).blkMethod c key) (s.after dt).freeEngines = some e) ∧
  (∃ (e : Fin 16) (c : Nat) (key : Nat) (dt : Nat) (g : Seg) (h : SegHdr) (s : State),
    (s.after dt).islUp 2 = true ∧ ((s.after dt).eng e.val).work = .decode c key ∧ (s.after dt).segOf ((s.after dt).blk c key).src = some g ∧ g.hdr = some h) ∧
  (∃ (e : Fin 16) (c : Nat) (key : Nat) (dt : Nat) (s : State),
    (s.after dt).islUp 2 = true ∧ (∀ j, (s.after dt).headJob = some j → (s.after dt).leastSlack j.chans = none) ∧ (s.after dt).bit CMP_RFL_CFG CMP_RFL_CFG.AVERIFY_EN = true ∧ ((s.after dt).eng e.val).retired = false ∧ ((s.after dt).eng e.val).work = .idle ∧ (s.after dt).oldestUnchecked = some (c, key)) ∧
  (∃ (e : Fin 16) (c : Nat) (key : Nat) (dt : Nat) (g : Seg) (h : SegHdr) (s : State),
    (s.after dt).islUp 2 = true ∧ ((s.after dt).eng e.val).work = .verify c key ∧ (s.after dt).segOf ((s.after dt).blk c key).src = some g ∧ g.hdr = some h) ∧
  (∃ (e : Fin 16) (c : Nat) (key : Nat) (dt : Nat) (s : State),
    (s.after dt).islUp 2 = true ∧ ((s.after dt).eng e.val).work = .decode c key ∧ ((s.after dt).eng e.val).since + 16000 ≤ (s.after dt).now) ∧
  (∃ (reqId : Nat) (s : State),
    (∀ r ∈ s.dev.ras.reqs, r.1 ≠ reqId)) ∧
  (∃ (reqId : Nat) (c : Nat) (key : Nat) (s : State),
    s.dev.ras.reqs.find? (fun r => r.1 == reqId) = some (reqId, c, key) ∧ (s.dev.blk c key).st = .awaiting reqId) ∧
  (∃ (c : Fin 64) (r : VoidRun) (l : List VoidRun) (dt : Nat) (s : State),
    (s.after dt).islUp 2 = true ∧ ((s.after dt).hc c.val).ended = r :: l) :=
  ⟨⟨false, 0, 0, [], wst [] (fun d => d), by and_intros <;> decide +kernel⟩,
   ⟨0, List.replicate 32 0, wst [] (ras { segs := List.replicate 128 { seg0 with tag := 9 } }), by and_intros <;> decide +kernel⟩,
   ⟨0, List.replicate 32 0, wst [] (fun d => d), by and_intros <;> decide +kernel⟩,
   ⟨seg0, 0, wst [] (ras { segs := [seg0] }), by and_intros <;> decide +kernel⟩,
   ⟨{ seg0 with keptAt := some 0 }, 0, 0, 0, wst [] (fun d => later (ras { segs := [{ seg0 with keptAt := some 0 }] } (tup d))), by and_intros <;> decide +kernel⟩,
   ⟨{ J0 with state := 3 }, 0, 0, 0, 0, wst [] (fun d => ras { jobs := [{ J0 with state := 3 }], segs := [{ seg0 with hdr := some hdr0, closed := true, ready := true }], eng := [(0, { work := .idle })] } (hcw { blks := [(0, { st := .held, src := 1 })] } d)), by and_intros <;> decide +kernel⟩,
   ⟨0, 0, 0, 0, { seg0 with hdr := some hdr0, closed := true, ready := true }, hdr0, wst [] (fun d => ras { jobs := [{ J0 with state := 3 }], segs := [{ seg0 with hdr := some hdr0, closed := true, ready := true }], eng := [(0, { work := .decode 0 0 })] } (hcw { blks := [(0, { st := .engine, src := 1 })] } d)), by and_intros <;> decide +kernel⟩,
   ⟨0, 0, 0, 0, wst [(CMP_RFL_CFG, CMP_RFL_CFG.AVERIFY_EN, 1)] (fun d => ras { jobs := [], segs := [{ seg0 with hdr := some hdr0, closed := true, ready := true }], eng := [(0, { work := .idle })] } (hcw { blks := [(0, { st := .held, src := 1 })] } d)), by and_intros <;> decide +kernel⟩,
   ⟨0, 0, 0, 0, { seg0 with hdr := some hdr0, closed := true, ready := true }, hdr0, wst [] (fun d => ras { jobs := [{ J0 with state := 3 }], segs := [{ seg0 with hdr := some hdr0, closed := true, ready := true }], eng := [(0, { work := .verify 0 0 })] } (hcw { blks := [(0, { st := .held, src := 1 })] } d)), by and_intros <;> decide +kernel⟩,
   ⟨0, 0, 0, 0, wst [] (fun d => later (ras { jobs := [{ J0 with state := 3 }], segs := [{ seg0 with hdr := some hdr0, closed := true, ready := true }], eng := [(0, { work := .decode 0 0 })] } (hcw { blks := [(0, { st := .engine, src := 1 })] } d))), by and_intros <;> decide +kernel⟩,
   ⟨0, wst [] (fun d => d), by decide +kernel⟩,
   ⟨1, 0, 0, wst [] (fun d => { (hcw { blks := [(0, { st := .awaiting 1, src := 1 })] } d) with ras := { d.ras with reqs := [(1,0,0)] } }), by and_intros <;> decide +kernel⟩,
   ⟨0, ⟨0,64,1,0,7⟩, [], 0, wst [] (hcw { ended := [⟨0,64,1,0,7⟩] }), by and_intros <;> decide +kernel⟩⟩

theorem test_witness_SecdedCorrectsOneBit :
  (∃ (d : Nat),
    d < 2 ^ 64) ∧
  (∃ (d : Nat) (i : Nat),
    d < 2 ^ 64 ∧ i < 64) ∧
  (∃ (d : Nat) (j : Nat),
    d < 2 ^ 64 ∧ j < 8) ∧
  (∃ (d : Nat) (i : Nat) (j : Nat),
    d < 2 ^ 64 ∧ i < j ∧ j < 64) :=
  ⟨⟨0, by decide +kernel⟩,
   ⟨0, 0, by and_intros <;> decide +kernel⟩,
   ⟨0, 0, by and_intros <;> decide +kernel⟩,
   ⟨0, 0, 1, by and_intros <;> decide +kernel⟩⟩

theorem test_witness_PageStoreRequestsComplete :
  (∃ (n : Fin 2) (s : State),
    (64 ≤ (s.dev.memCh n.val).queue.length ∨ s.dev.get (MEM_STS n.val) MEM_STS.STATE = 0 ∨ s.dev.get (MEM_STS n.val) MEM_STS.STATE = 6 ∨ s.dev.islUp (3 + n.val) = false)) ∧
  (∃ (n : Fin 2) (x : Nat) (a : Nat) (s : State),
    s.dev.memMap x = (n.val, a) ∧ s.dev.bit (MEM_CFG n.val) MEM_CFG.PRESENT = true ∧ s.dev.islUp (3 + n.val) = true ∧ a < s.dev.chanCap n.val ∧ (s.dev.memCh n.val).queue.length < 64 ∧ s.dev.get (MEM_STS n.val) MEM_STS.STATE ≠ 0 ∧ s.dev.get (MEM_STS n.val) MEM_STS.STATE ≠ 6 ∧ s.dev.looped 4 n.val = false) ∧
  (∃ (n : Fin 2) (x : Nat) (a : Nat) (ws : List (Nat × Byte)) (s : State),
    s.dev.memMap x = (n.val, a) ∧ s.dev.bit (MEM_CFG n.val) MEM_CFG.PRESENT = true ∧ s.dev.islUp (3 + n.val) = true ∧ a < s.dev.chanCap n.val ∧ (s.dev.memCh n.val).queue.length < 64 ∧ s.dev.get (MEM_STS n.val) MEM_STS.STATE ≠ 0 ∧ s.dev.get (MEM_STS n.val) MEM_STS.STATE ≠ 6 ∧ s.dev.looped 4 n.val = false ∧ (∀ i, i < 128 → ∃ b, (i, b) ∈ ws)) ∧
  (∃ (n : Fin 2) (r : MemReq) (s : State),
    s.dev.islUp (3 + n.val) = true ∧ s.dev.get (MEM_STS n.val) MEM_STS.STATE = 2 ∧ (s.dev.memCh n.val).queue = [r] ∧ r.write = false ∧ r.ue = false ∧ r.data.length = 128) ∧
  (∃ (n : Fin 2) (r : MemReq) (s : State),
    s.dev.islUp (3 + n.val) = true ∧ s.dev.get (MEM_STS n.val) MEM_STS.STATE = 2 ∧ (s.dev.memCh n.val).queue = [r] ∧ r.write = false ∧ r.ue = true ∧ s.dev.bit (MEM_STS n.val) MEM_STS.DEGRADED = false) ∧
  (∃ (n : Fin 2) (dt : Nat) (s : State),
    (s.after dt).islUp (3 + n.val) = true ∧ (s.after dt).bit (MEM_SCRUB_CFG n.val) MEM_SCRUB_CFG.EN = true ∧ (s.after dt).get (MEM_STS n.val) MEM_STS.STATE = 2 ∧ (s.after dt).uninit n.val ((s.after dt).memCh n.val).scrubGran = false ∧ s.mem.isBad ((s.after dt).memUnmap n.val (((s.after dt).memCh n.val).scrubGran * 128) / 128) = false) :=
  ⟨⟨0, wst [] (fun d => d), by decide +kernel⟩,
   ⟨0, 0, 0, wst [((MEM_CFG (0 : Fin 2).val), MEM_CFG.PRESENT, 1), ((MEM_STS (0 : Fin 2).val), MEM_STS.STATE, 1), ((MEM_STS 0), MEM_STS.STATE, 2)] (fun d => d), by and_intros <;> decide +kernel⟩,
   ⟨0, 0, 0, (List.range 128).map (fun i => (i, 7)), wst [((MEM_CFG (0 : Fin 2).val), MEM_CFG.PRESENT, 1), ((MEM_STS (0 : Fin 2).val), MEM_STS.STATE, 1), ((MEM_STS 0), MEM_STS.STATE, 2)] (fun d => d), by and_intros <;> decide +kernel, by and_intros <;> decide +kernel, by and_intros <;> decide +kernel, by and_intros <;> decide +kernel, by and_intros <;> decide +kernel, by and_intros <;> decide +kernel, by and_intros <;> decide +kernel, by and_intros <;> decide +kernel, fun i h => ⟨7, List.mem_map.mpr ⟨i, List.mem_range.mpr h, rfl⟩⟩⟩,
   ⟨0, mreq, wst [((MEM_STS (0 : Fin 2).val), MEM_STS.STATE, 2)] (dch { queue := [mreq] }), by and_intros <;> decide +kernel⟩,
   ⟨0, { mreq with ue := true }, wst [((MEM_STS (0 : Fin 2).val), MEM_STS.STATE, 2), ((MEM_STS (0 : Fin 2).val), MEM_STS.DEGRADED, 0)] (dch { queue := [{ mreq with ue := true }] }), by and_intros <;> decide +kernel⟩,
   ⟨0, 0, wst [((MEM_SCRUB_CFG (0 : Fin 2).val), MEM_SCRUB_CFG.EN, 1), ((MEM_STS (0 : Fin 2).val), MEM_STS.STATE, 2), ((MEM_STS 0), MEM_STS.INIT_DONE, 1)] (fun d => d), by and_intros <;> decide +kernel⟩⟩

theorem test_witness_MemoryControlCommandsComplete :
  (∃ (n : Fin 2) (s : State),
    s.dev.islUp (3 + n.val) = true ∧ s.dev.get (MEM_STS n.val) MEM_STS.STATE ≠ 0 ∧ s.dev.get (MEM_STS n.val) MEM_STS.STATE ≠ 6 ∧ s.dev.bit (MEM_STS n.val) MEM_STS.INIT_DONE = false) ∧
  (∃ (n : Fin 2) (dt : Nat) (s : State),
    (s.after dt).islUp (3 + n.val) = true ∧ (s.after dt).get (MEM_STS n.val) MEM_STS.STATE = 2 ∧ ((s.after dt).memCh n.val).queue = []) ∧
  (∃ (n : Fin 2) (rank : Fin 2) (r : MemReq) (dt : Nat) (s : State),
    (s.after dt).islUp (3 + n.val) = true ∧ (s.after dt).get (MEM_STS n.val) MEM_STS.STATE = 2 ∧ r ∈ ((s.after dt).memCh n.val).queue ∧ ((s.after dt).granFields n.val r.gran).rank = rank.val ∧ (if rank.val = 0 then ((s.after dt).memCh n.val).postponed0 else ((s.after dt).memCh n.val).postponed1) < 4) ∧
  (∃ (n : Fin 2) (dt : Nat) (s : State),
    (s.after dt).islUp (3 + n.val) = true) ∧
  (∃ (n : Fin 2) (s : State),
    s.dev.islUp (3 + n.val) = true ∧ (s.dev.memCh n.val).train ≠ .idle ∧ (s.dev.memCh n.val).nextBin = none ∧ (s.dev.memCh n.val).selfRefReq = false) ∧
  (∃ (n : Fin 2) (s : State),
    s.dev.islUp (3 + n.val) = true ∧ ((s.dev.memCh n.val).train = .initial ∨ (s.dev.memCh n.val).train = .fast)) ∧
  (∃ (n : Fin 2) (s : State),
    s.dev.islUp (3 + n.val) = true ∧ (s.dev.memCh n.val).train = .initial ∧ 0 < s.dev.get (MEM_STS n.val) MEM_STS.BIN ∧ s.dev.bit (MEM_CFG n.val) MEM_CFG.PRESENT = true) ∧
  (∃ (n : Fin 2) (dt : Nat) (s : State),
    (s.after dt).islUp (3 + n.val) = true ∧ (s.after dt).get (MEM_STS n.val) MEM_STS.STATE = 2 ∧ ((s.after dt).memCh n.val).oscAt + 800000 * (s.after dt).get (MEM_RETRAIN_CFG n.val) MEM_RETRAIN_CFG.OSC_PERIOD ≤ (s.after dt).now) ∧
  (∃ (n : Fin 2) (s : State),
    s.dev.islUp (3 + n.val) = true ∧ s.dev.jobGap = true ∧ s.dev.bit (MEM_STS n.val) MEM_STS.RETRAIN_DUE = true ∧ s.dev.get (MEM_STS n.val) MEM_STS.STATE = 2) ∧
  (∃ (q : Req) (n : Fin 2) (s : State),
    Allowed s q (MEM_CMD n.val) ∧ s.dev.memCmdDead n.val = true) ∧
  (∃ (q : Req) (n : Fin 2) (s : State),
    Allowed s q (MEM_CMD n.val) ∧ s.dev.memCmdDead n.val = false ∧ (s.dev.memCh n.val).train = .idle) ∧
  (∃ (n : Fin 2) (s : State),
    s.dev.islUp (3 + n.val) = true ∧ (s.dev.memCh n.val).train = .retrain ∧ (s.dev.memCh n.val).nextBin = none) ∧
  (∃ (n : Fin 2) (dt : Nat) (s : State),
    (s.after dt).islUp (3 + n.val) = true ∧ ((s.after dt).memCh n.val).ceWinAt + 800000000 * (s.after dt).get (MEM_CE_CFG n.val) MEM_CE_CFG.WINDOW ≤ (s.after dt).now) ∧
  (∃ (n : Fin 2) (s : State),
    s.dev.islUp (3 + n.val) = true ∧ s.dev.bit (MEM_STS n.val) MEM_STS.STEP_DUE = true ∧ s.dev.jobGap = true ∧ s.dev.get (MEM_STS n.val) MEM_STS.BIN = 0) ∧
  (∃ (n : Fin 2) (s : State),
    s.dev.islUp (3 + n.val) = true ∧ s.dev.bit (MEM_STS n.val) MEM_STS.STEP_DUE = true ∧ s.dev.jobGap = true ∧ 0 < s.dev.get (MEM_STS n.val) MEM_STS.BIN ∧ (s.dev.memCh n.val).train = .idle) ∧
  (∃ (q : Req) (n : Fin 2) (bin : Fin 8) (s : State),
    Allowed s q (MEM_CMD n.val) ∧ s.dev.memCmdDead n.val = false ∧ s.dev.get (MEM_CFG n.val) MEM_CFG.BIN_MAX < bin.val) ∧
  (∃ (q : Req) (n : Fin 2) (bin : Fin 8) (s : State),
    Allowed s q (MEM_CMD n.val) ∧ s.dev.memCmdDead n.val = false ∧ bin.val ≤ s.dev.get (MEM_CFG n.val) MEM_CFG.BIN_MAX) ∧
  (∃ (n : Fin 2) (s : State),
    s.dev.islUp (3 + n.val) = true ∧ (s.dev.memCh n.val).train = .freq ∧ (s.dev.memCh n.val).nextBin = none) ∧
  (∃ (n : Fin 2) (rank : Fin 2) (dt : Nat) (s : State),
    (s.after dt).islUp (3 + n.val) = true ∧ (s.after dt).get (MEM_STS n.val) MEM_STS.STATE = 2 ∧ 0 < (s.after dt).get (MEM_PD_CFG n.val) MEM_PD_CFG.IDLE ∧ ((s.after dt).memCh n.val).queue = [] ∧ (if rank.val = 0 then ((s.after dt).memCh n.val).idleAt0 else ((s.after dt).memCh n.val).idleAt1) + (s.after dt).get (MEM_PD_CFG n.val) MEM_PD_CFG.IDLE * 80 ≤ (s.after dt).now) :=
  ⟨⟨0, wst [((MEM_STS (0 : Fin 2).val), MEM_STS.STATE, 1), ((MEM_STS (0 : Fin 2).val), MEM_STS.INIT_DONE, 0)] (fun d => d), by and_intros <;> decide +kernel⟩,
   ⟨0, 0, wst [((MEM_STS (0 : Fin 2).val), MEM_STS.STATE, 2)] (fun d => d), by and_intros <;> decide +kernel⟩,
   ⟨0, 0, mreq, 0, wst [((MEM_STS (0 : Fin 2).val), MEM_STS.STATE, 2)] (dch { queue := [mreq] }), by and_intros <;> decide +kernel⟩,
   ⟨0, 0, wst [] (fun d => d), by decide +kernel⟩,
   ⟨0, wst [] (dch { train := .initial }), by and_intros <;> decide +kernel⟩,
   ⟨0, wst [] (dch { train := .initial }), by and_intros <;> decide +kernel⟩,
   ⟨0, wst [((MEM_CFG (0 : Fin 2).val), MEM_CFG.PRESENT, 1), ((MEM_STS 0), MEM_STS.BIN, 1)] (dch { train := .initial }), by and_intros <;> decide +kernel⟩,
   ⟨0, 0, wst [((MEM_STS (0 : Fin 2).val), MEM_STS.STATE, 2)] (later), by and_intros <;> decide +kernel⟩,
   ⟨0, wst [((MEM_STS (0 : Fin 2).val), MEM_STS.RETRAIN_DUE, 1), ((MEM_STS (0 : Fin 2).val), MEM_STS.STATE, 2)] (fun d => d), by and_intros <;> decide +kernel⟩,
   ⟨q0, 0, wst [] (fun d => d), by unfold Allowed; and_intros <;> decide +kernel⟩,
   ⟨q0, 0, wst [((MEM_STS 0), MEM_STS.STATE, 2)] (fun d => d), by unfold Allowed; and_intros <;> decide +kernel⟩,
   ⟨0, wst [] (dch { train := .retrain }), by and_intros <;> decide +kernel⟩,
   ⟨0, 0, wst [] (fun d => { d with now := 10 ^ 12 }), by and_intros <;> decide +kernel⟩,
   ⟨0, wst [((MEM_STS (0 : Fin 2).val), MEM_STS.STEP_DUE, 1), ((MEM_STS (0 : Fin 2).val), MEM_STS.BIN, 0)] (fun d => d), by and_intros <;> decide +kernel⟩,
   ⟨0, wst [((MEM_STS (0 : Fin 2).val), MEM_STS.STEP_DUE, 1), ((MEM_STS 0), MEM_STS.BIN, 1)] (fun d => d), by and_intros <;> decide +kernel⟩,
   ⟨q0, 0, 7, wst [((MEM_STS 0), MEM_STS.STATE, 2), ((MEM_CFG 0), MEM_CFG.BIN_MAX, 4)] (fun d => d), by unfold Allowed; and_intros <;> decide +kernel⟩,
   ⟨q0, 0, 0, wst [((MEM_STS 0), MEM_STS.STATE, 2)] (fun d => d), by unfold Allowed; and_intros <;> decide +kernel⟩,
   ⟨0, wst [] (dch { train := .freq }), by and_intros <;> decide +kernel⟩,
   ⟨0, 0, 0, wst [((MEM_STS (0 : Fin 2).val), MEM_STS.STATE, 2)] (later), by and_intros <;> decide +kernel⟩⟩

theorem test_witness_EngineCommandsComplete :
  (∃ (q : Req) (s : State),
    Allowed s q CMP_OBJ_CMD ∧ q.port.val ≠ 0) ∧
  (∃ (q : Req) (e : Nat) (s : State),
    Allowed s q CMP_OBJ_CMD ∧ q.port.val = 0 ∧ s.dev.objResult ≠ 1 ∧ s.dev.objResult ≠ 2 ∧ (s.granted q).jobRunning = false ∧ (s.granted q).objPick = some e) ∧
  (∃ (q : Req) (s : State),
    Allowed s q CMP_OBJ_CMD ∧ q.port.val = 0 ∧ s.dev.objResult ≠ 1 ∧ s.dev.objResult ≠ 2 ∧ ((s.granted q).objPick = none ∨ ((s.granted q).jobRunning = true ∧ s.dev.bit CMP_OBJ_CFG CMP_OBJ_CFG.RUN_OK = false))) ∧
  (∃ (q : Req) (s : State),
    Allowed s q CMP_OBJ_CMD ∧ q.port.val = 0 ∧ (s.dev.objResult = 1 ∨ s.dev.objResult = 2)) ∧
  (∃ (e : Nat) (dt : Nat) (s : State),
    (s.after dt).islUp 2 = true ∧ (s.after dt).objResult = 1 ∧ (s.after dt).jobGap = true ∧ (s.after dt).objPick = some e) ∧
  (∃ (bs : List Byte) (dt : Nat) (s : State),
    (s.after dt).islUp 2 = true ∧ (s.after dt).objResult = 2 ∧ readToBad (s.after dt) s.mem ((s.after dt).rd64 CMP_OBJ_SRC_LO CMP_OBJ_SRC_HI) ((s.after dt).get CMP_OBJ_SLEN ⟨0, 25⟩ / 128 + 2) ((s.after dt).get CMP_OBJ_SLEN ⟨0, 25⟩) [] = (bs, false) ∧ (objectDecode bs).done = true) ∧
  (∃ (bs : List Byte) (ue : Bool) (dt : Nat) (s : State),
    (s.after dt).islUp 2 = true ∧ (s.after dt).objResult = 2 ∧ readToBad (s.after dt) s.mem ((s.after dt).rd64 CMP_OBJ_SRC_LO CMP_OBJ_SRC_HI) ((s.after dt).get CMP_OBJ_SLEN ⟨0, 25⟩ / 128 + 2) ((s.after dt).get CMP_OBJ_SLEN ⟨0, 25⟩) [] = (bs, ue) ∧ ((objectDecode bs).done = false ∨ ue = true)) ∧
  (∃ (q : Req) (k : Fin 2) (s : State),
    Allowed s q (CMP_CX_CMD k.val) ∧ s.dev.bit (CMP_CX_STS k.val) CMP_CX_STS.ASSIGNED = false ∧ s.dev.cxState k.val ≠ 1 ∧ (s.dev.get (CMP_CX_CFG k.val) CMP_CX_CFG.METHOD = 1 ∨ s.dev.get (CMP_CX_CFG k.val) CMP_CX_CFG.METHOD = 2)) ∧
  (∃ (q : Req) (k : Fin 2) (s : State),
    Allowed s q (CMP_CX_CMD k.val) ∧ (s.dev.cxState k.val = 1 ∨ s.dev.get (CMP_CX_CFG k.val) CMP_CX_CFG.METHOD = 0 ∨ s.dev.get (CMP_CX_CFG k.val) CMP_CX_CFG.METHOD = 3)) ∧
  (∃ (q : Req) (k : Fin 2) (s : State),
    Allowed s q (CMP_CX_CMD k.val) ∧ s.dev.cxState k.val ≠ 1) ∧
  (∃ (q : Req) (k : Fin 2) (s : State),
    Allowed s q (CMP_CX_CMD k.val) ∧ s.dev.bit (CMP_CX_STS k.val) CMP_CX_STS.ASSIGNED = false ∧ s.dev.cxState k.val = 1 ∧ (s.dev.cxSt k.val).finishing = false) ∧
  (∃ (k : Fin 2) (consumed : Nat) (dt : Nat) (s : State),
    (s.after dt).islUp 2 = true ∧ (s.after dt).cxState k.val = 1 ∧ ((s.after dt).cxSt k.val).flushBusy = true ∧ ((s.after dt).cxSt k.val).flushes = [] ∧ (cxOutput { (s.after dt).cxSt k.val with flushes := [((cxInput ((s.after dt).cxSt k.val) (s.pass dt)).take consumed).length], flushBusy := false } ((cxInput ((s.after dt).cxSt k.val) (s.pass dt)).take consumed) false).length ≤ ((s.after dt).cxSt k.val).dlen) ∧
  (∃ (k : Fin 2) (dt : Nat) (s : State),
    (s.after dt).islUp 2 = true ∧ (s.after dt).cxState k.val = 1 ∧ ((s.after dt).cxSt k.val).finishing = true ∧ (cxOutput ((s.after dt).cxSt k.val) (cxInput ((s.after dt).cxSt k.val) (s.pass dt)) true).length ≤ ((s.after dt).cxSt k.val).dlen) ∧
  (∃ (k : Fin 2) (consumed : Nat) (dt : Nat) (s : State),
    (s.after dt).islUp 2 = true ∧ (s.after dt).cxState k.val = 1 ∧ ((s.after dt).cxSt k.val).dlen < (cxOutput ((s.after dt).cxSt k.val) ((cxInput ((s.after dt).cxSt k.val) (s.pass dt)).take consumed) true).length) :=
  ⟨⟨⟨6,0,false⟩, wst [] (fun d => d), by unfold Allowed; and_intros <;> decide +kernel⟩,
   ⟨q0, 15, wst [] (fun d => d), by unfold Allowed; and_intros <;> decide +kernel⟩,
   ⟨q0, wst [] (running), by unfold Allowed; and_intros <;> decide +kernel⟩,
   ⟨q0, wst [(CMP_OBJ_STS, CMP_OBJ_STS.RESULT, 1)] (fun d => d), by unfold Allowed; and_intros <;> decide +kernel⟩,
   ⟨15, 0, wst [(CMP_OBJ_STS, CMP_OBJ_STS.RESULT, 1)] (fun d => d), by and_intros <;> decide +kernel⟩,
   ⟨objBytes, 0, { (wst [(CMP_OBJ_SLEN, whole, 16), ((MEM_CFG 0), MEM_CFG.PRESENT, 1), ((MEM_STS 0), MEM_STS.INIT_DONE, 1), (CMP_OBJ_STS, CMP_OBJ_STS.RESULT, 2)] (fun d => d)) with mem := Store.empty.setBytes 0 objBytes }, by and_intros <;> decide +kernel⟩,
   ⟨[], true, 0, wst [(CMP_OBJ_SLEN, whole, 16), (CMP_OBJ_STS, CMP_OBJ_STS.RESULT, 2)] (fun d => d), by and_intros <;> decide +kernel⟩,
   ⟨q0, 0, wst [((CMP_CX_STS (0 : Fin 2).val), CMP_CX_STS.ASSIGNED, 0)] (fun d => d), by unfold Allowed; and_intros <;> decide +kernel⟩,
   ⟨q0, 0, wst [((CMP_CX_CFG 0), CMP_CX_CFG.METHOD, 3)] (fun d => d), by unfold Allowed; and_intros <;> decide +kernel⟩,
   ⟨q0, 0, wst [] (fun d => d), by unfold Allowed; and_intros <;> decide +kernel⟩,
   ⟨q0, 0, wst [((CMP_CX_STS (0 : Fin 2).val), CMP_CX_STS.ASSIGNED, 0), ((CMP_CX_STS 0), CMP_CX_STS.STATE, 1)] (fun d => d), by unfold Allowed; and_intros <;> decide +kernel⟩,
   ⟨0, 8, 0, wst [((CMP_CX_STS 0), CMP_CX_STS.STATE, 1)] (cx { flushBusy := true, slen := 8, dlen := 100, cfg := (0 : Word).setFld CMP_CX_CFG.METHOD 1 }), by and_intros <;> decide +kernel⟩,
   ⟨0, 0, wst [((CMP_CX_STS 0), CMP_CX_STS.STATE, 1)] (cx { finishing := true, slen := 8, dlen := 100, cfg := (0 : Word).setFld CMP_CX_CFG.METHOD 1 }), by and_intros <;> decide +kernel⟩,
   ⟨0, 8, 0, wst [((CMP_CX_STS 0), CMP_CX_STS.STATE, 1)] (cx { slen := 8, dlen := 0, cfg := (0 : Word).setFld CMP_CX_CFG.METHOD 1 }), by and_intros <;> decide +kernel⟩⟩

theorem test_witness_NozzleHealthCommandsComplete :
  (∃ (dt : Nat) (s : State),
    (s.after dt).standby = true) ∧
  (∃ (dt : Nat) (s : State),
    (s.after dt).standby = false) ∧
  (∃ (e : NhEntry) (dt : Nat) (s : State),
    (s.after dt).standby = false ∧ (s.after dt).hasChannel e.chan.val = true ∧ e.noz < (s.after dt).nozzles e.chan.val ∧ (s.after dt).nhStale e.chan.val e.noz e.first = false ∧ e.kind.val ≠ 0 ∧ (s.after dt).get FIR_NH_CFG FIR_NH_CFG.COVER * e.covDen ≤ e.covNum * 100 ∧ (s.after dt).noz e.chan.val e.noz fState = 0 ∧ 0 < (8 * e.shNum + e.shDen) / (2 * e.shDen)) ∧
  (∃ (e : NhEntry) (dt : Nat) (s : State),
    (s.after dt).standby = false ∧ (s.after dt).hasChannel e.chan.val = true ∧ e.noz < (s.after dt).nozzles e.chan.val ∧ (s.after dt).nhStale e.chan.val e.noz e.first = true) ∧
  (∃ (q : Req) (c : Fin 64) (n : Fin 4096) (kind : Fin 4) (s : State),
    Allowed s q (HC_NH_CMD c.val) ∧ s.dev.standby = false ∧ (kind.val = 0 ∨ s.dev.nozzles c.val ≤ n.val)) ∧
  (∃ (q : Req) (c : Fin 64) (n : Fin 4096) (kind : Fin 4) (s : State),
    Allowed s q (HC_NH_CMD c.val) ∧ s.dev.standby = false ∧ kind.val ≠ 0 ∧ n.val < s.dev.nozzles c.val ∧ s.dev.nhStale c.val n.val s.dev.frontLine = false ∧ s.dev.noz c.val n.val fState = 0) ∧
  (∃ (q : Req) (c : Fin 64) (n : Fin 4096) (st : Fin 8) (s : State),
    Allowed s q (HC_NH_CMD c.val) ∧ s.dev.standby = false ∧ (st.val = 1 ∨ 5 < st.val ∨ s.dev.nozzles c.val ≤ n.val)) ∧
  (∃ (q : Req) (c : Fin 64) (n : Fin 4096) (st : Fin 8) (s : State),
    Allowed s q (HC_NH_CMD c.val) ∧ s.dev.standby = false ∧ st.val ≠ 1 ∧ st.val ≤ 5 ∧ n.val < s.dev.nozzles c.val) ∧
  (∃ (q : Req) (c : Fin 64) (s : State),
    Allowed s q (HC_NH_CMD c.val) ∧ s.dev.standby = false) ∧
  (∃ (dt : Nat) (s : State),
    ((s.after dt).standby = true ∨ (s.after dt).nh.flight ≠ none ∨ (s.after dt).nh.wait = [])) ∧
  (∃ (dt : Nat) (s : State),
    (s.after dt).standby = false ∧ (s.after dt).nh.flight = none ∧ (s.after dt).nh.wait ≠ [] ∧ (s.after dt).get FIR_NH_VETO FIR_NH_VETO.HOLD = 0) ∧
  (∃ (dt : Nat) (s : State),
    (s.after dt).standby = false ∧ (s.after dt).nh.flight = none ∧ (s.after dt).nh.prop = none ∧ (∃ x ∈ (s.after dt).nh.wait, x.override = false) ∧ (s.after dt).get FIR_NH_VETO FIR_NH_VETO.HOLD ≠ 0) ∧
  (∃ (id : Nat) (end_ : Nat) (cs : List NhChange) (dt : Nat) (s : State),
    (s.after dt).nh.prop = some (id, end_, cs) ∧ end_ ≤ (s.after dt).now ∧ (s.after dt).nh.flight = none) ∧
  (∃ (q : Req) (id : Fin 65536) (s : State),
    Allowed s q FIR_NH_CMD ∧ (∀ k e cs, s.dev.nh.prop = some (k, e, cs) → k ≠ id.val)) ∧
  (∃ (q : Req) (id : Fin 65536) (end_ : Nat) (cs : List NhChange) (s : State),
    Allowed s q FIR_NH_CMD ∧ s.dev.nh.prop = some (id.val, end_, cs) ∧ (∀ x ∈ cs, x.override = false)) ∧
  (∃ (u : NhUpd) (dt : Nat) (s : State),
    (s.after dt).nh.flight = some u ∧ (s.after dt).nhReleased u = true) ∧
  (∃ (u : NhUpd) (dt : Nat) (s : State),
    (s.after dt).nh.flight = some u ∧ (s.after dt).nhReleased u = false) :=
  ⟨⟨0, wst [(BRD_STS, BRD_STS.ROLE, 2)] (role 2), by decide +kernel⟩,
   ⟨0, wst [] (fun d => d), by decide +kernel⟩,
   ⟨ent 1, 0, wst [(FIR_NH_CFG, FIR_NH_CFG.EN, 1)] (fun d => d), by and_intros <;> decide +kernel⟩,
   ⟨{ ent 1 with first := 0 }, 0, wst [(FIR_NH_CFG, FIR_NH_CFG.EN, 1)] (nh { ev := [(3, { eff := some 5 })] }), by and_intros <;> decide +kernel⟩,
   ⟨q0, 0, 0, 0, wst [] (fun d => d), by unfold Allowed; and_intros <;> decide +kernel⟩,
   ⟨q0, 0, 3, 1, wst [(FIR_NH_CFG, FIR_NH_CFG.EN, 1)] (fun d => d), by unfold Allowed; and_intros <;> decide +kernel⟩,
   ⟨q0, 0, 0, 6, wst [] (fun d => d), by unfold Allowed; and_intros <;> decide +kernel⟩,
   ⟨q0, 0, 0, 0, wst [] (fun d => d), by unfold Allowed; and_intros <;> decide +kernel⟩,
   ⟨q0, 0, wst [] (fun d => d), by unfold Allowed; and_intros <;> decide +kernel⟩,
   ⟨0, wst [] (fun d => d), by decide +kernel⟩,
   ⟨0, wst [(FIR_NH_VETO, FIR_NH_VETO.HOLD, 0)] (nh { wait := [chg] }), by and_intros <;> decide +kernel⟩,
   ⟨0, wst [(FIR_NH_VETO, FIR_NH_VETO.HOLD, 1)] (nh { wait := [chg] }), by and_intros <;> decide +kernel⟩,
   ⟨1, 0, [chg], 0, wst [] (nh { prop := some (1, 0, [chg]) }), by and_intros <;> decide +kernel⟩,
   ⟨q0, 0, wst [] (fun d => d), by unfold Allowed; and_intros <;> decide +kernel, fun k e cs h => nomatch (show none = some (k, e, cs) from h)⟩,
   ⟨q0, 1, 0, [chg], wst [] (nh { prop := some (1, 0, [chg]) }), by unfold Allowed; and_intros <;> decide +kernel⟩,
   ⟨⟨[chg],[0],0,2,true⟩, 0, wst [] (nh { flight := some ⟨[chg],[0],0,2,true⟩ }), by and_intros <;> decide +kernel⟩,
   ⟨⟨[chg],[0],5,2,false⟩, 0, wst [] (fun d => jobs [J0] (nh { flight := some ⟨[chg],[0],5,2,false⟩ } d)), by and_intros <;> decide +kernel⟩⟩

theorem test_witness_GateCommandsComplete :
  (∃ (q : Req) (k : Fin 2) (s : State),
    Allowed s q (FIR_GATE_CMD k.val) ∧ (s.dev.gateSt k.val).run = false ∧ s.dev.standby = false ∧ s.dev.gateReason k.val (s.dev.get (FIR_GATE_CFG k.val) FIR_GATE_CFG.CHANNEL) (s.dev.get (FIR_GATE_RANGE k.val) FIR_GATE_RANGE.FIRST + s.dev.get (FIR_GATE_RANGE k.val) FIR_GATE_RANGE.COUNT) ≠ 0) ∧
  (∃ (q : Req) (k : Fin 2) (s : State),
    Allowed s q (FIR_GATE_CMD k.val) ∧ (s.dev.gateSt k.val).run = false ∧ s.dev.standby = false ∧ 0 < s.dev.get (FIR_GATE_RANGE k.val) FIR_GATE_RANGE.COUNT ∧ s.dev.gateReason k.val (s.dev.get (FIR_GATE_CFG k.val) FIR_GATE_CFG.CHANNEL) (s.dev.get (FIR_GATE_RANGE k.val) FIR_GATE_RANGE.FIRST + s.dev.get (FIR_GATE_RANGE k.val) FIR_GATE_RANGE.COUNT) = 0) ∧
  (∃ (q : Req) (k : Fin 2) (s : State),
    Allowed s q (FIR_GATE_CMD k.val) ∧ (s.dev.gateSt k.val).run = true ∧ s.dev.cal.proc = none) ∧
  (∃ (k : Fin 2) (dt : Nat) (s : State),
    ((s.after dt).gateSt k.val).run = true ∧ ((s.after dt).gateSt k.val).nextAt ≤ (s.after dt).now ∧ ((s.after dt).gateSt k.val).strobeAt = none ∧ ((s.after dt).gateSt k.val).strobes < (s.after dt).get (FIR_GATE_CFG k.val) FIR_GATE_CFG.REP ∧ (s.after dt).bit FIR_STS FIR_STS.INH_NOW = true) ∧
  (∃ (k : Fin 2) (dt : Nat) (s : State),
    ((s.after dt).gateSt k.val).run = true ∧ ((s.after dt).gateSt k.val).nextAt ≤ (s.after dt).now ∧ ((s.after dt).gateSt k.val).strobeAt = none ∧ ((s.after dt).gateSt k.val).strobes < (s.after dt).get (FIR_GATE_CFG k.val) FIR_GATE_CFG.REP ∧ (s.after dt).bit FIR_STS FIR_STS.INH_NOW = false ∧ (s.after dt).bit BRD_STS BRD_STS.GUARD_OK = true ∧ ((s.after dt).hc ((s.after dt).gateSt k.val).chan).hold = false) ∧
  (∃ (k : Fin 2) (u : Nat) (dt : Nat) (s : State),
    ((s.after dt).gateSt k.val).run = true ∧ ((s.after dt).gateSt k.val).strobeAt = some u ∧ u + tenNs ((s.after dt).get (FIR_GATE_TOF k.val) FIR_GATE_TOF.TOFMAX) ≤ (s.after dt).now ∧ (s.after dt).gatePending k.val (u + tenNs ((s.after dt).get (FIR_GATE_TOF k.val) FIR_GATE_TOF.TOFMAX)) = false ∧ (s.after dt).cal.proc = none ∧ ((s.after dt).gateSt k.val).closed + 1 < (s.after dt).get (FIR_GATE_CFG k.val) FIR_GATE_CFG.REP) ∧
  (∃ (k : Fin 2) (u : Nat) (dt : Nat) (s : State),
    ((s.after dt).gateSt k.val).run = true ∧ ((s.after dt).gateSt k.val).strobeAt = some u ∧ u + tenNs ((s.after dt).get (FIR_GATE_TOF k.val) FIR_GATE_TOF.TOFMAX) ≤ (s.after dt).now ∧ (s.after dt).gatePending k.val (u + tenNs ((s.after dt).get (FIR_GATE_TOF k.val) FIR_GATE_TOF.TOFMAX)) = false ∧ (s.after dt).get (FIR_GATE_CFG k.val) FIR_GATE_CFG.REP ≤ ((s.after dt).gateSt k.val).closed + 1) :=
  ⟨⟨q0, 0, wst [] (fun d => d), by unfold Allowed; and_intros <;> decide +kernel⟩,
   ⟨q0, 0, wst [((FIR_GATE_RANGE 0), FIR_GATE_RANGE.COUNT, 2), ((FIR_GATE_CFG 0), FIR_GATE_CFG.GVAL, 1)] (gatew), by unfold Allowed; and_intros <;> decide +kernel⟩,
   ⟨q0, 0, wst [] (fun d => { (gatew d) with nh := { gate := [(0, { run := true })] } }), by unfold Allowed; and_intros <;> decide +kernel⟩,
   ⟨0, 0, wst [(FIR_STS, FIR_STS.INH_NOW, 1), ((FIR_GATE_CFG 0), FIR_GATE_CFG.REP, 3), ((FIR_GATE_CFG 0), FIR_GATE_CFG.GVAL, 1)] (fun d => { (gatew d) with nh := { gate := [(0, { run := true })] } }), by and_intros <;> decide +kernel⟩,
   ⟨0, 0, wst [(FIR_STS, FIR_STS.INH_NOW, 0), (BRD_STS, BRD_STS.GUARD_OK, 1), ((FIR_GATE_CFG 0), FIR_GATE_CFG.REP, 3), ((FIR_GATE_CFG 0), FIR_GATE_CFG.GVAL, 1)] (fun d => { (gatew d) with nh := { gate := [(0, { run := true })] } }), by and_intros <;> decide +kernel⟩,
   ⟨0, 0, 0, wst [((FIR_GATE_CFG 0), FIR_GATE_CFG.REP, 3), ((FIR_GATE_CFG 0), FIR_GATE_CFG.GVAL, 1)] (fun d => { (gatew (later d)) with nh := { gate := [(0, { run := true, strobeAt := some 0 })] } }), by and_intros <;> decide +kernel⟩,
   ⟨0, 0, 0, wst [((FIR_GATE_CFG 0), FIR_GATE_CFG.REP, 3), ((FIR_GATE_CFG 0), FIR_GATE_CFG.GVAL, 1)] (fun d => { (gatew (later d)) with nh := { gate := [(0, { run := true, strobeAt := some 0, closed := 2 })] } }), by and_intros <;> decide +kernel⟩⟩

theorem test_witness_SenseCommandsComplete :
  (∃ (q : Req) (input : Fin 256) (s : State),
    Allowed s q CAL_ADC_REQ ∧ 0xC7 < input.val) ∧
  (∃ (q : Req) (input : Fin 256) (s : State),
    Allowed s q CAL_ADC_REQ ∧ input.val ≤ 0xC7) ∧
  (∃ (k : Fin 4) (input : Nat) (a : Nat) (dt : Nat) (s : State),
    (s.after dt).cal.adc.find? (fun r => adcOf r.1 == k.val) = some (input, a, 16) ∧ input < 256) ∧
  (∃ (k : Fin 4) (dt : Nat) (s : State),
    (s.after dt).cal.adc.find? (fun r => adcOf r.1 == k.val) = none) ∧
  (∃ (dt : Nat) (s : State),
    (s.after dt).cal.vrefAt + secTicks 10 ≤ (s.after dt).now) ∧
  (∃ (dt : Nat) (s : State),
    (s.after dt).calTick = (s.after dt).cal.evalK) ∧
  (∃ (dt : Nat) (s : State),
    (s.after dt).calTick ≠ (s.after dt).cal.evalK ∧ (s.after dt).standby = true) ∧
  (∃ (codes : List (Nat × Nat)) (c : Nat) (code : Nat) (dt : Nat) (s : State),
    (s.after dt).calTick ≠ (s.after dt).cal.evalK ∧ (s.after dt).standby = false ∧ (s.after dt).activeOfPair = false ∧ (s.after dt).channels = [c] ∧ (s.after dt).get (HC_CAL_TCFG c) HC_CAL_TCFG.TSRC = 2 ∧ (s.after dt).get (HC_CAL_TCFG c) HC_CAL_TCFG.EVAL_EN = 1 ∧ codes.find? (fun p => p.1 == c) = some (c, code) ∧ (s.after dt).calOn c = false) ∧
  (∃ (codes : List (Nat × Nat)) (c : Nat) (code : Nat) (dt : Nat) (s : State),
    (s.after dt).calTick ≠ (s.after dt).cal.evalK ∧ (s.after dt).standby = false ∧ (s.after dt).activeOfPair = false ∧ (s.after dt).channels = [c] ∧ (s.after dt).get (HC_CAL_TCFG c) HC_CAL_TCFG.TSRC = 0 ∧ codes.find? (fun p => p.1 == c) = some (c, code) ∧ (code % 65536 < 656 ∨ 64880 < code % 65536) ∧ (s.after dt).bit (HC_CAL_STS c) HC_CAL_STS.FAULT_NOW = false) ∧
  (∃ (q : Req) (c : Fin 64) (s : State),
    Allowed s q (HC_CAL_SET_AT_HI c.val) ∧ s.dev.activeOfPair = false ∧ s.dev.jobActive = true) ∧
  (∃ (q : Req) (c : Fin 64) (s : State),
    Allowed s q (HC_CAL_SET_AT_HI c.val) ∧ s.dev.activeOfPair = false ∧ s.dev.jobActive = false ∧ s.dev.passBusy = false) :=
  ⟨⟨q0, 0xC8, wst [] (fun d => d), by unfold Allowed; and_intros <;> decide +kernel⟩,
   ⟨q0, 0, wst [] (fun d => d), by unfold Allowed; and_intros <;> decide +kernel⟩,
   ⟨⟨adcOf 5 % 4, Nat.mod_lt _ (by decide)⟩, 5, 4, 0, wst [] (cal { adc := [(5,4,16)] }), by and_intros <;> decide +kernel⟩,
   ⟨0, 0, wst [] (fun d => d), by decide +kernel⟩,
   ⟨0, wst [] (later), by decide +kernel⟩,
   ⟨0, wst [] (fun d => d), by decide +kernel⟩,
   ⟨0, wst [(BRD_STS, BRD_STS.ROLE, 2)] (fun d => role 2 { d with time := { a0 := 2^32 * 10000000 } }), by and_intros <;> decide +kernel⟩,
   ⟨[(0,9000)], 0, 9000, 0, wst [((HC_CAL_TCFG (0 : Nat)), HC_CAL_TCFG.TSRC, 2), ((HC_CAL_TCFG (0 : Nat)), HC_CAL_TCFG.EVAL_EN, 1), ((HC_GEOM_NOZ 1), HC_GEOM_NOZ.USED, 0)] (fun d => { d with time := { a0 := 2^32 * 10000000 } }), by and_intros <;> decide +kernel⟩,
   ⟨[(0,600)], 0, 600, 0, wst [((HC_CAL_TCFG (0 : Nat)), HC_CAL_TCFG.TSRC, 0), ((HC_CAL_STS (0 : Nat)), HC_CAL_STS.FAULT_NOW, 0), ((HC_GEOM_NOZ 1), HC_GEOM_NOZ.USED, 0)] (fun d => { d with time := { a0 := 2^32 * 10000000 } }), by and_intros <;> decide +kernel⟩,
   ⟨q0, 0, wst [] (running), by unfold Allowed; and_intros <;> decide +kernel⟩,
   ⟨q0, 0, wst [] (fun d => d), by unfold Allowed; and_intros <;> decide +kernel⟩⟩

theorem test_witness_ProcedureCommandsComplete :
  (∃ (q : Req) (s : State),
    Allowed s q CAL_CMD ∧ s.dev.cal.proc ≠ none) ∧
  (∃ (q : Req) (c : Fin 64) (outputs : Fin 4) (bandgap : Fin 65536) (s : State),
    Allowed s q CAL_CMD ∧ s.dev.cal.proc = none ∧ c.val < s.dev.hcCount ∧ outputs.val ≠ 0 ∧ s.dev.bit FIR_STS FIR_STS.INH_NOW = false ∧ 30840 ≤ bandgap.val ∧ bandgap.val ≤ 32099 ∧ s.dev.hasChannel c.val = true ∧ s.dev.lvrUp c.val = true ∧ s.dev.jobActive = false ∧ s.dev.passBusy = false) ∧
  (∃ (q : Req) (c : Fin 64) (gate : Fin 2) (bandgap : Fin 65536) (s : State),
    Allowed s q CAL_CMD ∧ s.dev.cal.proc = none ∧ c.val < s.dev.hcCount ∧ s.dev.bit FIR_STS FIR_STS.INH_NOW = false ∧ 30840 ≤ bandgap.val ∧ bandgap.val ≤ 32099 ∧ s.dev.hasChannel c.val = true ∧ s.dev.lvrUp c.val = true ∧ s.dev.jobActive = false ∧ s.dev.passBusy = false ∧ ((((s.granted q).put CAL_STS CAL_STS.OP 2).put CAL_STS CAL_STS.CHANNEL c.val).vrefCode bandgap.val).gateReason gate.val c.val (s.dev.nozzles c.val) = 0 ∧ 0 < s.dev.nozzles c.val) ∧
  (∃ (q : Req) (c : Fin 64) (gate : Fin 2) (bandgap : Fin 65536) (s : State),
    Allowed s q CAL_CMD ∧ s.dev.cal.proc = none ∧ c.val < s.dev.hcCount ∧ s.dev.bit FIR_STS FIR_STS.INH_NOW = false ∧ 30840 ≤ bandgap.val ∧ bandgap.val ≤ 32099 ∧ s.dev.hasChannel c.val = true ∧ s.dev.lvrUp c.val = true ∧ s.dev.jobActive = false ∧ s.dev.passBusy = false ∧ ((((s.granted q).put CAL_STS CAL_STS.OP 3).put CAL_STS CAL_STS.CHANNEL c.val).vrefCode bandgap.val).gateReason gate.val c.val (s.dev.nozzles c.val) = 0) ∧
  (∃ (q : Req) (c : Fin 64) (bandgap : Fin 65536) (s : State),
    Allowed s q CAL_CMD ∧ s.dev.cal.proc = none ∧ c.val < s.dev.hcCount ∧ 30840 ≤ bandgap.val ∧ bandgap.val ≤ 32099) ∧
  (∃ (q : Req) (c : Fin 64) (bandgap : Fin 65536) (i : Nat) (s : State),
    Allowed s q CAL_CMD ∧ s.dev.cal.proc = none ∧ c.val < s.dev.hcCount ∧ 30840 ≤ bandgap.val ∧ bandgap.val ≤ 32099 ∧ s.dev.jobActive = false ∧ s.dev.passBusy = false ∧ setFault s.dev.stagedSet = some i) ∧
  (∃ (q : Req) (c : Fin 64) (bandgap : Fin 65536) (s : State),
    Allowed s q CAL_CMD ∧ s.dev.cal.proc = none ∧ c.val < s.dev.hcCount ∧ 30840 ≤ bandgap.val ∧ bandgap.val ≤ 32099 ∧ s.dev.jobActive = false ∧ s.dev.passBusy = false ∧ setFault s.dev.stagedSet = none) ∧
  (∃ (q : Req) (p : CalProc) (s : State),
    Allowed s q CAL_CMD ∧ s.dev.cal.proc = some p ∧ (p.op = 1 ∨ p.op = 3) ∧ p.stage = 1) ∧
  (∃ (dt : Nat) (s : State),
    (s.after dt).cal.proc = none) ∧
  (∃ (p : CalProc) (o : Nat) (rest : List Nat) (m : Int) (meas : List Int) (dt : Nat) (s : State),
    (s.after dt).cal.proc = some p ∧ p.stage = 1 ∧ p.op = 1 ∧ p.todo = o :: rest ∧ dacResult meas = .gain m) ∧
  (∃ (p : CalProc) (o : Nat) (w : Word) (meas : List Int) (dt : Nat) (s : State),
    (s.after dt).cal.proc = some p ∧ p.stage = 1 ∧ p.op = 1 ∧ p.todo = [o] ∧ p.dac = [] ∧ dacResult meas = .ok w) ∧
  (∃ (p : CalProc) (dt : Nat) (s : State),
    (s.after dt).cal.proc = some p ∧ p.stage = 3 ∧ p.committed = some false ∧ 5 ≤ p.op) ∧
  (∃ (p : CalProc) (x : CalSet) (dt : Nat) (s : State),
    (s.after dt).cal.proc = some p ∧ p.stage = 3 ∧ p.committed = some true ∧ p.op = 5 ∧ p.newSet = some x) ∧
  (∃ (dt : Nat) (s : State),
    (s.after dt).nextCommit = none) ∧
  (∃ (r : KeelReq) (dt : Nat) (s : State),
    (s.after dt).nextCommit = some r ∧ (s.after dt).activeOfPair = false ∧ (s.after dt).cal.proc = none) :=
  ⟨⟨q0, wst [] (cal { proc := some (proc0 1 1) }), by unfold Allowed; and_intros <;> decide +kernel⟩,
   ⟨q0, 0, 1, 31500, wst [(FIR_STS, FIR_STS.INH_NOW, 0)] (lup), by unfold Allowed; and_intros <;> decide +kernel⟩,
   ⟨q0, 0, 0, 31500, wst [(FIR_STS, FIR_STS.INH_NOW, 0), ((FIR_GATE_CFG 0), FIR_GATE_CFG.REP, 3), ((FIR_GATE_CFG 0), FIR_GATE_CFG.GVAL, 1)] (gatew), by unfold Allowed; and_intros <;> decide +kernel⟩,
   ⟨q0, 0, 0, 31500, wst [(FIR_STS, FIR_STS.INH_NOW, 0), ((FIR_GATE_CFG 0), FIR_GATE_CFG.REP, 3), ((FIR_GATE_CFG 0), FIR_GATE_CFG.GVAL, 1)] (gatew), by unfold Allowed; and_intros <;> decide +kernel⟩,
   ⟨q0, 0, 31500, wst [] (fun d => d), by unfold Allowed; and_intros <;> decide +kernel⟩,
   ⟨q0, 0, 31500, 8, wst [(CAL_STAGE_HDR, CAL_STAGE_HDR.NPTS, 9)] (fun d => d), by unfold Allowed; and_intros <;> decide +kernel⟩,
   ⟨q0, 0, 31500, wst [] (fun d => d), by unfold Allowed; and_intros <;> decide +kernel⟩,
   ⟨q0, proc0 1 1, wst [] (fun d => cal { proc := some (proc0 1 1) } (d)), by unfold Allowed; and_intros <;> decide +kernel⟩,
   ⟨0, wst [] (fun d => d), by decide +kernel⟩,
   ⟨{ proc0 1 1 with todo := [0, 1] }, 0, [1], -16384, [0,0,0,0,0], 0, wst [] (fun d => cal { proc := some ({ proc0 1 1 with todo := [0, 1] }) } (d)), by and_intros <;> decide +kernel⟩,
   ⟨{ proc0 1 1 with todo := [0] }, 0, (match dacResult [1677722, 1677722*1677722/256, 11744052, 11744052*11744052/256, 6710886] with | .ok w => w | _ => 0), [1677722, 1677722*1677722/256, 11744052, 11744052*11744052/256, 6710886], 0, wst [] (fun d => cal { proc := some ({ proc0 1 1 with todo := [0] }) } (d)), by and_intros <;> decide +kernel⟩,
   ⟨{ proc0 5 3 with committed := some false }, 0, wst [] (fun d => cal { proc := some ({ proc0 5 3 with committed := some false }) } (d)), by and_intros <;> decide +kernel⟩,
   ⟨{ proc0 5 3 with committed := some true, newSet := some {} }, {}, 0, wst [] (fun d => cal { proc := some ({ proc0 5 3 with committed := some true, newSet := some {} }) } (d)), by and_intros <;> decide +kernel⟩,
   ⟨0, wst [] (fun d => d), by decide +kernel⟩,
   ⟨⟨0x40,[1,2],false⟩, 0, wst [] (cal { commits := [⟨0x40,[1,2],false⟩] }), by and_intros <;> decide +kernel⟩⟩

theorem test_witness_KeelCommandsComplete :
  (∃ (dt : Nat) (s : State),
    (s.after dt).nh.recordNow = false ∧ (s.after dt).nh.recordDue = false) ∧
  (∃ (dt : Nat) (s : State),
    (s.after dt).nh.recordNow = true ∧ (s.after dt).keptNozzles.length ≤ 8192) ∧
  (∃ (rid : Fin 256) (u : Nat) (dt : Nat) (s : State),
    (s.after dt).lastCommit rid.val = some u ∧ u + secTicks 1 ≤ (s.after dt).now ∧ (s.after dt).pwr.uvWarn = false ∧ (s.after dt).test.mramRun = false ∧ (∀ r ∈ (s.after dt).cal.commits, r.rid = rid.val → r.deferred = true)) ∧
  (∃ (rid : Fin 256) (u : Nat) (dt : Nat) (s : State),
    (s.after dt).lastCommit rid.val = some u ∧ (s.after dt).now < u + secTicks 1) ∧
  (∃ (dt : Nat) (s : State),
    (s.after dt).now < (s.after dt).cal.deviceAt + secTicks 3600) ∧
  (∃ (dt : Nat) (s : State),
    (s.after dt).cal.deviceAt + secTicks 3600 ≤ (s.after dt).now) ∧
  (∃ (q : Req) (s : State),
    Allowed s q KEEL_KEY_CMD ∧ q.port.val ≠ 6 ∧ (q.port.val ≠ 5 ∨ s.dev.isHolder q = false)) ∧
  (∃ (q : Req) (confirm : Fin 65536) (s : State),
    Allowed s q KEEL_KEY_CMD ∧ q.port.val = 6 ∧ confirm.val ≠ 0x4B59) ∧
  (∃ (q : Req) (slot : Fin 4) (s : State),
    Allowed s q KEEL_KEY_CMD ∧ q.port.val = 6 ∧ s.dev.keyState slot.val = 0) ∧
  (∃ (q : Req) (slot : Fin 4) (s : State),
    Allowed s q KEEL_KEY_CMD ∧ q.port.val = 6 ∧ s.dev.keyState slot.val = 1) :=
  ⟨⟨0, wst [] (fun d => d), by and_intros <;> decide +kernel⟩,
   ⟨0, wst [] (nh { recordNow := true }), by and_intros <;> decide +kernel⟩,
   ⟨1, 0, 0, wst [] (fun d => later (cal { lastCommit := [(1,0)], commits := [⟨1,[1],true⟩] } d)), by and_intros <;> decide +kernel⟩,
   ⟨1, 0, 0, wst [] (fun d => cal { lastCommit := [(1,0)], commits := [⟨1,[1],true⟩] } d), by and_intros <;> decide +kernel⟩,
   ⟨0, wst [] (fun d => d), by decide +kernel⟩,
   ⟨0, wst [] (fun d => { d with now := 10 ^ 13 }), by decide +kernel⟩,
   ⟨q0, wst [] (fun d => d), by unfold Allowed; and_intros <;> decide +kernel⟩,
   ⟨⟨6,0,false⟩, 0, wst [] (fun d => d), by unfold Allowed; and_intros <;> decide +kernel⟩,
   ⟨⟨6,0,false⟩, 0, wst [] (fun d => d), by unfold Allowed; and_intros <;> decide +kernel⟩,
   ⟨⟨6,0,false⟩, 0, wst [] (cal { keel := (((List.replicate 32 (1 : Byte)) ++ leBytes 4 0x4B455931 ++ leBytes 4 (crc32c (List.replicate 32 1))).zipIdx.map (fun (p : Byte × Nat) => (p.2, p.1))).filter (fun p => p.2 != 0) }), by unfold Allowed; and_intros <;> decide +kernel⟩⟩

theorem test_witness_CameraLineCommandsComplete :
  (∃ (n : Fin 4) (dt : Nat) (s : State),
    (s.after dt).islUp 5 = true ∧ (s.after dt).camOn n.val = true ∧ (s.after dt).framing n.val = 0 ∧ (s.after dt).gridPos n.val ((s.after dt).cam n.val).nextY ≤ (s.after dt).P ∧ (∀ t, ((s.after dt).cam n.val).lastTrig = some t → t + (s.after dt).get (CAM_LTRIG n.val) CAM_LTRIG.LT_MIN ≤ (s.after dt).now) ∧ ((s.after dt).cam n.val).nextY % (s.after dt).camLines n.val ≠ 0 ∧ ((s.after dt).cam n.val).trigs.length < 4) ∧
  (∃ (n : Fin 4) (u : Nat) (dt : Nat) (s : State),
    (s.after dt).islUp 5 = true ∧ (s.after dt).camOn n.val = true ∧ (s.after dt).framing n.val = 0 ∧ (s.after dt).gridPos n.val ((s.after dt).cam n.val).nextY ≤ (s.after dt).P ∧ ((s.after dt).cam n.val).lastTrig = some u ∧ (s.after dt).now < u + (s.after dt).get (CAM_LTRIG n.val) CAM_LTRIG.LT_MIN ∧ 2 * ((s.after dt).P - (s.after dt).gridPos n.val ((s.after dt).cam n.val).nextY) < (s.after dt).clp n.val) ∧
  (∃ (n : Fin 4) (u : Nat) (dt : Nat) (s : State),
    (s.after dt).islUp 5 = true ∧ (s.after dt).camOn n.val = true ∧ (s.after dt).framing n.val = 0 ∧ ((s.after dt).cam n.val).lastTrig = some u ∧ (s.after dt).now < u + (s.after dt).get (CAM_LTRIG n.val) CAM_LTRIG.LT_MIN ∧ ((s.after dt).clp n.val : Int) ≤ 2 * ((s.after dt).P - (s.after dt).gridPos n.val ((s.after dt).cam n.val).nextY) ∧ ((s.after dt).cam n.val).nextY % (s.after dt).camLines n.val ≠ 0 ∧ 0 < (s.after dt).clp n.val) ∧
  (∃ (n : Fin 4) (dt : Nat) (s : State),
    ((s.after dt).camOn n.val = false ∨ (s.after dt).framing n.val ≠ 0 ∨ (s.after dt).P < (s.after dt).gridPos n.val ((s.after dt).cam n.val).nextY)) ∧
  (∃ (n : Fin 4) (e : Nat) (y : Int) (u : Nat) (rest : List (Nat × Int × Nat)) (dt : Nat) (s : State),
    (s.after dt).islUp 5 = true ∧ (s.after dt).camOn n.val = true ∧ (s.after dt).framing n.val = 0 ∧ ((s.after dt).cam n.val).lval = false ∧ ((s.after dt).cam n.val).trigs = (e, y, u) :: rest) ∧
  (∃ (n : Fin 4) (dt : Nat) (s : State),
    (s.after dt).islUp 5 = true ∧ (s.after dt).camOn n.val = true ∧ (s.after dt).framing n.val = 0 ∧ ((s.after dt).cam n.val).lval = false ∧ ((s.after dt).cam n.val).trigs = []) ∧
  (∃ (dt : Nat) (s : State),
    (s.after dt).islUp 5 = true) ∧
  (∃ (n : Fin 4) (f : CamFrame) (c : CamOpen) (dt : Nat) (s : State),
    (s.after dt).islUp 5 = true ∧ ((s.after dt).cam n.val).cur = some c ∧ ((s.after dt).cam n.val).frames = [f] ∧ f.covers ((s.after dt).camLines n.val) c.epoch c.y = true ∧ (s.after dt).framing n.val ≠ 0 ∧ (s.after dt).fullSamples n.val ≤ c.taps.length ∧ c.long = false) ∧
  (∃ (n : Fin 4) (dt : Nat) (s : State),
    (s.after dt).islUp 5 = true ∧ (s.after dt).camOn n.val = false) ∧
  (∃ (n : Fin 4) (c : CamOpen) (dt : Nat) (s : State),
    (s.after dt).islUp 5 = true ∧ (s.after dt).camOn n.val = true ∧ ((s.after dt).cam n.val).lval = true ∧ ((s.after dt).cam n.val).fval = true ∧ ((s.after dt).cam n.val).cur = some c ∧ c.cut = false ∧ c.taps.length < (s.after dt).fullSamples n.val) ∧
  (∃ (n : Fin 4) (e : Nat) (y : Int) (u : Nat) (rest : List (Nat × Int × Nat)) (dt : Nat) (s : State),
    ((s.after dt).cam n.val).trigs = (e, y, u) :: rest ∧ (s.after dt).now < u + usTicks ((s.after dt).get (CAM_LTRIG n.val) CAM_LTRIG.LINE_TMO)) ∧
  (∃ (n : Fin 4) (e : Nat) (y : Int) (u : Nat) (rest : List (Nat × Int × Nat)) (dt : Nat) (s : State),
    (s.after dt).islUp 5 = true ∧ ((s.after dt).cam n.val).trigs = (e, y, u) :: rest ∧ (s.after dt).framing n.val ≠ 0 ∧ u + usTicks ((s.after dt).get (CAM_LTRIG n.val) CAM_LTRIG.LINE_TMO) ≤ (s.after dt).now) ∧
  (∃ (n : Fin 4) (u : Nat) (dt : Nat) (s : State),
    (s.after dt).islUp 5 = true ∧ ((s.after dt).cam n.val).pulseEnd = some u ∧ u ≤ (s.after dt).now) ∧
  (∃ (n : Fin 4) (dt : Nat) (s : State),
    (∀ u, ((s.after dt).cam n.val).pulseEnd = some u → (s.after dt).now < u)) ∧
  (∃ (n : Fin 4) (dt : Nat) (s : State),
    (s.after dt).now < ((s.after dt).cam n.val).pclkAt + usTicks 1) ∧
  (∃ (n : Fin 4) (dt : Nat) (s : State),
    (s.after dt).islUp 5 = true ∧ (s.after dt).camOn n.val = true ∧ (s.after dt).bit (CAM_STS n.val) CAM_STS.PCLK_OK = true ∧ ((s.after dt).cam n.val).pclkAt + usTicks 1 ≤ (s.after dt).now ∧ ((s.after dt).cam n.val).cur = none ∧ ((s.after dt).cam n.val).frames = []) :=
  ⟨⟨0, 0, wst [((CAM_CFG 0), CAM_CFG.EN, 1), ((CAM_SIZE 0), CAM_SIZE.LINES, 8), ((CAM_SIZE 0), CAM_SIZE.PIXELS, 32), ((CAM_GRID 0), CAM_GRID.CLP, 64)] (fun d => cam { nextY := 1 } ({ d with pac := { p0 := 2^32 } })), by and_intros <;> decide +kernel⟩,
   ⟨0, 0, 0, wst [((CAM_CFG 0), CAM_CFG.EN, 1), ((CAM_SIZE 0), CAM_SIZE.LINES, 8), ((CAM_SIZE 0), CAM_SIZE.PIXELS, 32), ((CAM_GRID 0), CAM_GRID.CLP, 64), ((CAM_LTRIG 0), CAM_LTRIG.LT_MIN, 80)] (fun d => cam { lastTrig := some 0 } (d)), by and_intros <;> decide +kernel⟩,
   ⟨0, 0, 0, wst [((CAM_CFG 0), CAM_CFG.EN, 1), ((CAM_SIZE 0), CAM_SIZE.LINES, 8), ((CAM_SIZE 0), CAM_SIZE.PIXELS, 32), ((CAM_GRID 0), CAM_GRID.CLP, 64), ((CAM_LTRIG 0), CAM_LTRIG.LT_MIN, 80)] (fun d => cam { lastTrig := some 0, nextY := 1 } ({ d with pac := { p0 := 2^32 } })), by and_intros <;> decide +kernel⟩,
   ⟨0, 0, wst [] (fun d => d), by decide +kernel⟩,
   ⟨0, 0, 0, 0, [], 0, wst [((CAM_CFG 0), CAM_CFG.EN, 1), ((CAM_SIZE 0), CAM_SIZE.LINES, 8), ((CAM_SIZE 0), CAM_SIZE.PIXELS, 32), ((CAM_GRID 0), CAM_GRID.CLP, 64)] (fun d => cam { trigs := [(0,0,0)] } (d)), by and_intros <;> decide +kernel⟩,
   ⟨0, 0, wst [((CAM_CFG 0), CAM_CFG.EN, 1), ((CAM_SIZE 0), CAM_SIZE.LINES, 8), ((CAM_SIZE 0), CAM_SIZE.PIXELS, 32), ((CAM_GRID 0), CAM_GRID.CLP, 64)] (fun d => d), by and_intros <;> decide +kernel⟩,
   ⟨0, wst [] (fun d => d), by decide +kernel⟩,
   ⟨0, frm, { epoch := 0, y := 3, taps := List.replicate 32 (1,1) }, 0, wst [((CAM_CFG 0), CAM_CFG.EN, 1), ((CAM_SIZE 0), CAM_SIZE.LINES, 8), ((CAM_SIZE 0), CAM_SIZE.PIXELS, 32), ((CAM_GRID 0), CAM_GRID.CLP, 64), ((CAM_CFG 0), CAM_CFG.FRAMING, 1)] (fun d => cam { cur := some { epoch := 0, y := 3, taps := List.replicate 32 (1,1) }, frames := [frm] } (d)), by and_intros <;> decide +kernel⟩,
   ⟨0, 0, wst [] (fun d => d), by and_intros <;> decide +kernel⟩,
   ⟨0, { epoch := 0, y := 0 }, 0, wst [((CAM_CFG 0), CAM_CFG.EN, 1), ((CAM_SIZE 0), CAM_SIZE.LINES, 8), ((CAM_SIZE 0), CAM_SIZE.PIXELS, 32), ((CAM_GRID 0), CAM_GRID.CLP, 64), ((CAM_CFG 0), CAM_CFG.FRAMING, 1)] (fun d => cam { lval := true, fval := true, cur := some { epoch := 0, y := 0 } } (d)), by and_intros <;> decide +kernel⟩,
   ⟨0, 0, 0, 0, [], 0, wst [((CAM_CFG 0), CAM_CFG.EN, 1), ((CAM_SIZE 0), CAM_SIZE.LINES, 8), ((CAM_SIZE 0), CAM_SIZE.PIXELS, 32), ((CAM_GRID 0), CAM_GRID.CLP, 64), ((CAM_LTRIG 0), CAM_LTRIG.LINE_TMO, 10)] (fun d => cam { trigs := [(0,0,0)] } (d)), by and_intros <;> decide +kernel⟩,
   ⟨0, 0, 0, 0, [], 0, wst [((CAM_CFG 0), CAM_CFG.EN, 1), ((CAM_SIZE 0), CAM_SIZE.LINES, 8), ((CAM_SIZE 0), CAM_SIZE.PIXELS, 32), ((CAM_GRID 0), CAM_GRID.CLP, 64), ((CAM_CFG 0), CAM_CFG.FRAMING, 1)] (fun d => cam { trigs := [(0,0,0)] } (later d)), by and_intros <;> decide +kernel⟩,
   ⟨0, 0, 0, wst [] (fun d => cam { pulseEnd := some 0 } (d)), by and_intros <;> decide +kernel⟩,
   ⟨0, 0, wst [] (fun d => d), by decide +kernel⟩,
   ⟨0, 0, wst [] (fun d => d), by decide +kernel⟩,
   ⟨0, 0, wst [((CAM_STS (0 : Fin 4).val), CAM_STS.PCLK_OK, 1), ((CAM_CFG 0), CAM_CFG.EN, 1), ((CAM_SIZE 0), CAM_SIZE.LINES, 8), ((CAM_SIZE 0), CAM_SIZE.PIXELS, 32), ((CAM_GRID 0), CAM_GRID.CLP, 64)] (later), by and_intros <;> decide +kernel⟩⟩

theorem test_witness_CameraFrameCommandsComplete :
  (∃ (n : Fin 4) (dt : Nat) (s : State),
    (s.after dt).islUp 5 = true ∧ (s.after dt).camOn n.val = true ∧ (s.after dt).framing n.val = 1 ∧ ((s.after dt).cam n.val).fval = false ∧ ((s.after dt).cam n.val).frames = [] ∧ ((s.after dt).cam n.val).commit = none) ∧
  (∃ (n : Fin 4) (dt : Nat) (s : State),
    (s.after dt).islUp 5 = true ∧ (s.after dt).framing n.val ≠ 1) ∧
  (∃ (n : Fin 4) (f : CamFrame) (dt : Nat) (s : State),
    (s.after dt).islUp 5 = true ∧ (s.after dt).camOn n.val = true ∧ (s.after dt).framing n.val ≠ 0 ∧ ((s.after dt).cam n.val).cur = none ∧ ((s.after dt).cam n.val).frames = [f]) ∧
  (∃ (n : Fin 4) (dt : Nat) (s : State),
    (s.after dt).islUp 5 = true ∧ (s.after dt).framing n.val = 0) ∧
  (∃ (n : Fin 4) (dt : Nat) (s : State),
    (s.after dt).islUp 5 = true ∧ (s.after dt).camOn n.val = true ∧ (s.after dt).framing n.val = 2 ∧ (s.after dt).startsReached n.val = [] ∧ ((s.after dt).cam n.val).frames = [] ∧ ((s.after dt).cam n.val).commit = none ∧ ((s.after dt).frameJob n.val (((s.after dt).cam n.val).nextF * (s.after dt).camLines n.val)).isSome = true ∧ (s.after dt).gridPos n.val (((s.after dt).cam n.val).nextF * (s.after dt).camLines n.val) ≤ (s.after dt).P) ∧
  (∃ (n : Fin 4) (dt : Nat) (s : State),
    ((s.after dt).camOn n.val = false ∨ (s.after dt).framing n.val ≠ 2)) ∧
  (∃ (n : Fin 4) (dt : Nat) (s : State),
    (s.after dt).framing n.val = 0 ∧ (s.after dt).now < ((s.after dt).cam n.val).lineAt + msTicks (10 * (s.after dt).get (CAM_CFG n.val) CAM_CFG.FTMO)) ∧
  (∃ (n : Fin 4) (f : CamFrame) (dt : Nat) (s : State),
    (s.after dt).islUp 5 = true ∧ (s.after dt).framing n.val = 0 ∧ (s.after dt).get (CAM_CFG n.val) CAM_CFG.FTMO ≠ 0 ∧ ((s.after dt).cam n.val).lineAt + msTicks (10 * (s.after dt).get (CAM_CFG n.val) CAM_CFG.FTMO) ≤ (s.after dt).now ∧ ((s.after dt).cam n.val).frames = [f]) ∧
  (∃ (n : Fin 4) (id : Nat) (bits : Nat) (st : Int) (dt : Nat) (s : State),
    (s.after dt).islUp 5 = true ∧ (s.after dt).camOn n.val = true ∧ (s.after dt).framing n.val = 0 ∧ (s.after dt).startsReached n.val = [(id, bits, st)] ∧ ((s.after dt).cam n.val).frames = []) ∧
  (∃ (n : Fin 4) (dt : Nat) (s : State),
    (s.after dt).startsReached n.val = []) ∧
  (∃ (q : Req) (n : Fin 4) (v : Word) (s : State),
    Allowed s q (CAM_CFG n.val) ∧ (s.dev.jobActive = true ∨ s.dev.mapOk n.val = false ∨ s.dev.camPixels n.val % 32 ≠ 0 ∨ s.dev.clp n.val < 64 ∨ 2 ^ 29 < s.dev.ringNeed n.val (v.setFld CAM_CFG.EN 1))) ∧
  (∃ (q : Req) (n : Fin 4) (v : Word) (s : State),
    Allowed s q (CAM_CFG n.val) ∧ s.dev.jobActive = false ∧ s.dev.mapOk n.val = true ∧ s.dev.camPixels n.val % 32 = 0 ∧ 64 ≤ s.dev.clp n.val ∧ s.dev.ringNeed n.val (v.setFld CAM_CFG.EN 1) ≤ 2 ^ 29 ∧ s.dev.scan = false ∧ s.dev.camOn n.val = false) ∧
  (∃ (q : Req) (s : State),
    Allowed s q INS_COMMIT ∧ (∀ n < 4, s.dev.camOn n = false)) :=
  ⟨⟨0, 0, wst [((CAM_CFG 0), CAM_CFG.EN, 1), ((CAM_SIZE 0), CAM_SIZE.LINES, 8), ((CAM_SIZE 0), CAM_SIZE.PIXELS, 32), ((CAM_GRID 0), CAM_GRID.CLP, 64), ((CAM_CFG 0), CAM_CFG.FRAMING, 1)] (fun d => d), by and_intros <;> decide +kernel⟩,
   ⟨0, 0, wst [] (fun d => d), by and_intros <;> decide +kernel⟩,
   ⟨0, frm, 0, wst [((CAM_CFG 0), CAM_CFG.EN, 1), ((CAM_SIZE 0), CAM_SIZE.LINES, 8), ((CAM_SIZE 0), CAM_SIZE.PIXELS, 32), ((CAM_GRID 0), CAM_GRID.CLP, 64), ((CAM_CFG 0), CAM_CFG.FRAMING, 1)] (fun d => cam { frames := [frm] } (d)), by and_intros <;> decide +kernel⟩,
   ⟨0, 0, wst [] (fun d => d), by and_intros <;> decide +kernel⟩,
   ⟨0, 0, wst [((CAM_CFG 0), CAM_CFG.EN, 1), ((CAM_SIZE 0), CAM_SIZE.LINES, 8), ((CAM_SIZE 0), CAM_SIZE.PIXELS, 32), ((CAM_GRID 0), CAM_GRID.CLP, 64), ((CAM_CFG 0), CAM_CFG.FRAMING, 2)] (fun d => cam { job := some (0,1) } (running { d with pac := { p0 := 2^32 } })), by and_intros <;> decide +kernel⟩,
   ⟨0, 0, wst [] (fun d => d), by decide +kernel⟩,
   ⟨0, 0, wst [((CAM_CFG 0), CAM_CFG.EN, 1), ((CAM_SIZE 0), CAM_SIZE.LINES, 8), ((CAM_SIZE 0), CAM_SIZE.PIXELS, 32), ((CAM_GRID 0), CAM_GRID.CLP, 64), ((CAM_CFG 0), CAM_CFG.FTMO, 3)] (fun d => d), by and_intros <;> decide +kernel⟩,
   ⟨0, frm, 0, wst [((CAM_CFG (0 : Fin 4).val), CAM_CFG.FTMO, 1), ((CAM_CFG 0), CAM_CFG.EN, 1), ((CAM_SIZE 0), CAM_SIZE.LINES, 8), ((CAM_SIZE 0), CAM_SIZE.PIXELS, 32), ((CAM_GRID 0), CAM_GRID.CLP, 64), ((CAM_CFG 0), CAM_CFG.FTMO, 3)] (fun d => cam { frames := [frm] } (later d)), by and_intros <;> decide +kernel⟩,
   ⟨0, 0, 1, 0, 0, wst [((CAM_CFG 0), CAM_CFG.EN, 1), ((CAM_SIZE 0), CAM_SIZE.LINES, 8), ((CAM_SIZE 0), CAM_SIZE.PIXELS, 32), ((CAM_GRID 0), CAM_GRID.CLP, 64)] (fun d => fir { starts := [(0,1,0)] } d), by and_intros <;> decide +kernel⟩,
   ⟨0, 0, wst [] (fun d => d), by decide +kernel⟩,
   ⟨q0, 0, 0, wst [] (fun d => d), by unfold Allowed; and_intros <;> decide +kernel⟩,
   ⟨q0, 0, 0, wst [((CAM_SIZE 0), CAM_SIZE.LINES, 8), ((CAM_SIZE 0), CAM_SIZE.PIXELS, 32), ((CAM_GRID 0), CAM_GRID.CLP, 64)] (fun d => (List.range 33).foldl (fun d i => d.wrN (CAM_MAP 0 i) (16 * i)) d), by unfold Allowed; and_intros <;> decide +kernel⟩,
   ⟨q0, wst [] (fun d => d), by unfold Allowed; and_intros <;> decide +kernel⟩⟩

theorem test_witness_InspectionCommandsComplete :
  (∃ (n : Fin 4) (dt : Nat) (s : State),
    ((s.after dt).cam n.val).closed = []) ∧
  (∃ (n : Fin 4) (f : CamFrame) (rest : List CamFrame) (dt : Nat) (s : State),
    (s.after dt).islUp 5 = true ∧ ((s.after dt).cam n.val).closed = f :: rest ∧ f.job = none ∧ f.set.getD 7 0 = 0 ∧ f.num < 2 ^ 32 ∧ f.gen < 2 ^ 16) ∧
  (∃ (dt : Nat) (s : State),
    ((s.after dt).tethUp = false ∨ (s.after dt).tethVer < 2 ∨ (s.after dt).nextPane = none ∨ ∃ f ∈ (s.after dt).teth.wait, f.vc = 2)) ∧
  (∃ (n : Nat) (p : PaneImg) (dt : Nat) (s : State),
    (s.after dt).islUp 5 = true ∧ (s.after dt).tethUp = true ∧ 2 ≤ (s.after dt).tethVer ∧ (∀ f ∈ (s.after dt).teth.wait, f.vc ≠ 2) ∧ (s.after dt).nextPane = some (n, p) ∧ p.sent = 0 ∧ p.bytes.length ≤ (s.after dt).teth.maxPay - 16) :=
  ⟨⟨0, 0, wst [] (fun d => d), by decide +kernel⟩,
   ⟨0, { frm with set := List.replicate 8 0 }, [], 0, wst [] (cam { closed := [{ frm with set := List.replicate 8 0 }] }), by and_intros <;> decide +kernel⟩,
   ⟨0, wst [] (fun d => d), by decide +kernel⟩,
   ⟨0, ⟨0,0,0,0,[1,2,3],0⟩, 0, wst [] (fun d => cam { panes := [⟨0,0,0,0,[1,2,3],0⟩] } (tup d)), by and_intros <;> decide +kernel⟩⟩

theorem test_witness_TimeDomainCommandsComplete :
  (∃ (q : Req) (dom : Fin 2) (v : Word) (s : State),
    Allowed s q (TIM_D_INC_HI dom.val) ∧ incMin ≤ (wide (s.dev.lowPart q (TIM_D_INC_LO dom.val)) v) % 2 ^ 36 ∧ (wide (s.dev.lowPart q (TIM_D_INC_LO dom.val)) v) % 2 ^ 36 ≤ incMax) ∧
  (∃ (q : Req) (dom : Fin 2) (v : Word) (s : State),
    Allowed s q (TIM_D_INC_HI dom.val) ∧ incMax < (wide (s.dev.lowPart q (TIM_D_INC_LO dom.val)) v) % 2 ^ 36) ∧
  (∃ (q : Req) (dom : Fin 2) (s : State),
    Allowed s q (TIM_D_CMD dom.val) ∧ s.dev.get (TIM_D_SET_NS dom.val) TIM_D_SET_NS.NS < 1000000000) ∧
  (∃ (q : Req) (dom : Fin 2) (s : State),
    Allowed s q (TIM_D_CMD dom.val) ∧ 1000000000 ≤ s.dev.get (TIM_D_SET_NS dom.val) TIM_D_SET_NS.NS) ∧
  (∃ (q : Req) (dom : Fin 2) (s : State),
    Allowed s q (TIM_D_CMD dom.val) ∧ 0 ≤ (s.dev.domTime dom.val : Int) + signedOf 32 (s.dev.rdN (TIM_D_ADJ dom.val)) * 2 ^ 32) ∧
  (∃ (q : Req) (dom : Fin 2) (s : State),
    Allowed s q (TIM_D_CMD dom.val) ∧ (s.dev.domTime dom.val : Int) + signedOf 32 (s.dev.rdN (TIM_D_ADJ dom.val)) * 2 ^ 32 < 0) ∧
  (∃ (dom : Fin 2) (e : Int) (dt : Nat) (s : State),
    (s.after dt).islUp 6 = true ∧ 0 ≤ e ∧ (s.after dt).domTime dom.val = (s.after dt).domSecond dom.val) ∧
  (∃ (dom : Fin 2) (ea : Int) (eb : Int) (dt : Nat) (s : State),
    (s.after dt).islUp 6 = true ∧ (((s.after dt).domTime dom.val : Int) + ea).toNat ≠ (((s.after dt).domSecond dom.val : Int) + eb).toNat ∧ dom.val ≠ (s.after dt).selDom) ∧
  (∃ (dom : Fin 2) (dt : Nat) (s : State),
    (s.after dt).get (TIM_D_CFG dom.val) TIM_D_CFG.SERVO_TMO = 0) ∧
  (∃ (dom : Fin 2) (dt : Nat) (s : State),
    (s.after dt).islUp 6 = true ∧ (s.after dt).get (TIM_D_CFG dom.val) TIM_D_CFG.SERVO_TMO ≠ 0 ∧ (s.after dt).domHold dom.val = false ∧ dom.val ≠ (s.after dt).selDom ∧ (if dom.val = 0 then (s.after dt).time.servo0 else (s.after dt).time.servo1) + msTicks ((s.after dt).get (TIM_D_CFG dom.val) TIM_D_CFG.SERVO_TMO) ≤ (s.after dt).now) ∧
  (∃ (q : Req) (s : State),
    Allowed s q TIM_CMD ∧ s.dev.domFaulty (1 - s.dev.selDom) = false ∧ ((s.dev.domTime s.dev.selDom : Int) + s.dev.time.h - s.dev.domTime (1 - s.dev.selDom)).natAbs < 2 ^ 63) ∧
  (∃ (q : Req) (s : State),
    Allowed s q TIM_CMD ∧ (s.dev.domFaulty (1 - s.dev.selDom) = true ∨ 2 ^ 63 ≤ ((s.dev.domTime s.dev.selDom : Int) + s.dev.time.h - s.dev.domTime (1 - s.dev.selDom)).natAbs)) ∧
  (∃ (q : Req) (s : State),
    Allowed s q TIM_CMD) :=
  ⟨⟨q0, 0, 1, wst [((TIM_D_INC_LO 0), whole, 0x40000000)] (fun d => d), by unfold Allowed; and_intros <;> decide +kernel⟩,
   ⟨q0, 0, 2, wst [] (fun d => d), by unfold Allowed; and_intros <;> decide +kernel⟩,
   ⟨q0, 0, wst [] (fun d => d), by unfold Allowed; and_intros <;> decide +kernel⟩,
   ⟨q0, 0, wst [((TIM_D_SET_NS 0), TIM_D_SET_NS.NS, 1000000000)] (fun d => d), by unfold Allowed; and_intros <;> decide +kernel⟩,
   ⟨q0, 0, wst [] (fun d => d), by unfold Allowed; and_intros <;> decide +kernel⟩,
   ⟨q0, 0, wst [((TIM_D_ADJ 0), whole, 0xFFFFFFFF)] (fun d => d), by unfold Allowed; and_intros <;> decide +kernel⟩,
   ⟨0, 0, 0, wst [] (fun d => d), by and_intros <;> decide +kernel⟩,
   ⟨1, 1, 0, 0, wst [] (fun d => d), by and_intros <;> decide +kernel⟩,
   ⟨0, 0, wst [((TIM_D_CFG (0 : Fin 2).val), TIM_D_CFG.SERVO_TMO, 0)] (fun d => d), by decide +kernel⟩,
   ⟨1, 0, wst [((TIM_D_CFG (1 : Fin 2).val), TIM_D_CFG.SERVO_TMO, 1), ((TIM_D_CFG 1), TIM_D_CFG.SERVO_TMO, 1000)] (later), by and_intros <;> decide +kernel⟩,
   ⟨q0, wst [] (fun d => d), by unfold Allowed; and_intros <;> decide +kernel⟩,
   ⟨q0, wst [((TIM_D_STS 1), TIM_D_STS.CNTERR, 1)] (fun d => d), by unfold Allowed; and_intros <;> decide +kernel⟩,
   ⟨q0, wst [] (fun d => d), by unfold Allowed; decide +kernel⟩⟩

theorem test_witness_EthernetAndCaptureCommandsComplete :
  (∃ (p : Fin 2) (dt : Nat) (s : State),
    (s.after dt).islUp 7 = true ∧ (s.after dt).bit (ETH_CFG p.val) ETH_CFG.EN = true ∧ (s.after dt).bit (ETH_STS p.val) ETH_STS.LINK = false ∧ (s.after dt).looped 6 p.val = false) ∧
  (∃ (p : Fin 2) (dt : Nat) (s : State),
    (s.after dt).bit (ETH_STS p.val) ETH_STS.LINK = false) ∧
  (∃ (p : Fin 2) (dt : Nat) (s : State),
    (s.after dt).islUp 7 = true ∧ (s.after dt).bit (ETH_STS p.val) ETH_STS.LINK = true) ∧
  (∃ (p : Fin 2) (frame : List Byte) (dt : Nat) (s : State),
    (s.after dt).islUp 7 = true ∧ (s.after dt).bit (ETH_STS p.val) ETH_STS.LINK = true ∧ frame.length ≤ 9216) ∧
  (∃ (p : Fin 2) (frame : List Byte) (dt : Nat) (s : State),
    ((s.after dt).bit (ETH_STS p.val) ETH_STS.LINK = false ∨ 9216 < frame.length)) ∧
  (∃ (p : Fin 2) (dt : Nat) (s : State),
    (s.after dt).islUp 7 = true ∧ (s.after dt).bit (ETH_STS p.val) ETH_STS.LINK = true) ∧
  (∃ (p : Fin 2) (dt : Nat) (s : State),
    (s.after dt).islUp 7 = true ∧ (s.after dt).bit (ETH_STS p.val) ETH_STS.LINK = true) ∧
  (∃ (dt : Nat) (s : State),
    (s.after dt).islUp 7 = true) ∧
  (∃ (q : Req) (p : Fin 2) (s : State),
    Allowed s q (ETH_TXQ_CMD p.val)) ∧
  (∃ (q : Req) (p : Fin 2) (s : State),
    Allowed s q (ETH_TXQ_CMD p.val)) ∧
  (∃ (q : Req) (p : Fin 2) (s : State),
    Allowed s q (ETH_CFG p.val)) ∧
  (∃ (q : Req) (n : Fin 16) (s : State),
    Allowed s q (CAP_CMD n.val)) ∧
  (∃ (q : Req) (n : Fin 16) (s : State),
    Allowed s q (CAP_CMD n.val)) :=
  ⟨⟨0, 0, wst [((ETH_CFG (0 : Fin 2).val), ETH_CFG.EN, 1), ((ETH_STS (0 : Fin 2).val), ETH_STS.LINK, 0)] (fun d => d), by and_intros <;> decide +kernel⟩,
   ⟨0, 0, wst [((ETH_STS (0 : Fin 2).val), ETH_STS.LINK, 0)] (fun d => d), by decide +kernel⟩,
   ⟨0, 0, wst [((ETH_STS (0 : Fin 2).val), ETH_STS.LINK, 1)] (fun d => d), by and_intros <;> decide +kernel⟩,
   ⟨0, [], 0, wst [((ETH_STS (0 : Fin 2).val), ETH_STS.LINK, 1)] (fun d => d), by and_intros <;> decide +kernel⟩,
   ⟨0, [], 0, wst [] (fun d => d), by decide +kernel⟩,
   ⟨0, 0, wst [((ETH_STS (0 : Fin 2).val), ETH_STS.LINK, 1)] (fun d => d), by and_intros <;> decide +kernel⟩,
   ⟨0, 0, wst [((ETH_STS (0 : Fin 2).val), ETH_STS.LINK, 1)] (fun d => d), by and_intros <;> decide +kernel⟩,
   ⟨0, wst [] (fun d => d), by decide +kernel⟩,
   ⟨q0, 0, wst [] (fun d => d), by unfold Allowed; decide +kernel⟩,
   ⟨q0, 0, wst [] (fun d => d), by unfold Allowed; decide +kernel⟩,
   ⟨q0, 0, wst [] (fun d => d), by unfold Allowed; decide +kernel⟩,
   ⟨q0, 0, wst [] (fun d => d), by unfold Allowed; decide +kernel⟩,
   ⟨q0, 0, wst [] (fun d => d), by unfold Allowed; decide +kernel⟩⟩

theorem test_witness_TriggerCommandsComplete :
  (∃ (q : Req) (n : Fin 16) (s : State),
    Allowed s q (TRG_CMD n.val) ∧ (s.dev.trgPeriod n.val = 0 ∨ 100 * 2 ^ 32 ≤ s.dev.trgPeriod n.val) ∧ s.dev.rdN (TRG_T_NS n.val) < 1000000000 ∧ s.dev.bit (TRG_OUT n.val) TRG_OUT.GPIO_EN = false) ∧
  (∃ (q : Req) (n : Fin 16) (s : State),
    Allowed s q (TRG_CMD n.val) ∧ (1000000000 ≤ s.dev.rdN (TRG_T_NS n.val) ∨ (s.dev.trgPeriod n.val ≠ 0 ∧ s.dev.trgPeriod n.val < 100 * 2 ^ 32))) ∧
  (∃ (q : Req) (n : Fin 16) (s : State),
    Allowed s q (TRG_CMD n.val)) ∧
  (∃ (n : Fin 16) (dt : Nat) (s : State),
    ((s.after dt).bit (TRG_STS n.val) TRG_STS.ARMED = false ∨ (s.after dt).trgTime n.val < (s.after dt).trgTarget n.val)) ∧
  (∃ (n : Fin 16) (dt : Nat) (s : State),
    (s.after dt).islUp 6 = true ∧ (s.after dt).bit (TRG_STS n.val) TRG_STS.ARMED = true ∧ (s.after dt).trgTarget n.val ≤ (s.after dt).trgTime n.val ∧ ((s.after dt).trgSt n.val).ahead = true) ∧
  (∃ (n : Fin 16) (dt : Nat) (s : State),
    (s.after dt).islUp 6 = true ∧ (s.after dt).bit (TRG_STS n.val) TRG_STS.ARMED = true ∧ (s.after dt).trgTarget n.val ≤ (s.after dt).trgTime n.val ∧ ((s.after dt).trgSt n.val).ahead = false ∧ ((s.after dt).trgSt n.val).at_ < (s.after dt).now ∧ (s.after dt).bit (TRG_CFG n.val) TRG_CFG.STRICT = true ∧ (s.after dt).trgPeriod n.val = 0 ∧ (s.after dt).rdN (TRG_COUNT n.val) = 0) ∧
  (∃ (n : Fin 16) (e : Nat) (dt : Nat) (s : State),
    ((s.after dt).trgSt n.val).pulseEnd = some e ∧ (s.after dt).now < e) ∧
  (∃ (n : Fin 16) (e : Nat) (dt : Nat) (s : State),
    (s.after dt).islUp 6 = true ∧ ((s.after dt).trgSt n.val).pulseEnd = some e ∧ e ≤ (s.after dt).now) :=
  ⟨⟨q0, 0, wst [((TRG_OUT (0 : Fin 16).val), TRG_OUT.GPIO_EN, 0)] (fun d => d), by unfold Allowed; and_intros <;> decide +kernel⟩,
   ⟨q0, 0, wst [((TRG_T_NS 0), whole, 1000000000)] (fun d => d), by unfold Allowed; and_intros <;> decide +kernel⟩,
   ⟨q0, 0, wst [] (fun d => d), by unfold Allowed; decide +kernel⟩,
   ⟨0, 0, wst [] (fun d => d), by decide +kernel⟩,
   ⟨0, 0, wst [((TRG_STS (0 : Fin 16).val), TRG_STS.ARMED, 1)] (trg { ahead := true }), by and_intros <;> decide +kernel⟩,
   ⟨0, 0, wst [((TRG_STS (0 : Fin 16).val), TRG_STS.ARMED, 1), ((TRG_CFG (0 : Fin 16).val), TRG_CFG.STRICT, 1), ((TRG_COUNT (0 : Fin 16).val), whole, 0)] (later), by and_intros <;> decide +kernel⟩,
   ⟨0, 5, 0, wst [] (trg { pulseEnd := some 5 }), by and_intros <;> decide +kernel⟩,
   ⟨0, 0, 0, wst [] (trg { pulseEnd := some 0 }), by and_intros <;> decide +kernel⟩⟩

def w_SashCommandsComplete_4 : State :=
  wst [] (fun d => host { hold5 with holder := some ⟨2, 1, 0⟩, sessions := [ses1 (none)] } (eup d))

def w_SashCommandsComplete_5 : State :=
  wst [] (fun d => host { hold5 with holder := some ⟨2, 1, 0⟩, sessions := [ses1 (none)] } (eup d))

theorem test_witness_SashCommandsComplete :
  (∃ (r : SashReq) (s : State),
    s.dev.sashUp r.port.val = true ∧ s.dev.sashGood 0x01 r = true ∧ r.ver.val ≠ 0 ∧ (s.dev.host.sessions.filter (fun x => x.port == r.port.val)).length < sessionMax r.port.val) ∧
  (∃ (r : SashReq) (x : Session) (s : State),
    s.dev.sashUp r.port.val = true ∧ s.dev.host.sessions.find? (fun x => x.port == r.port.val && x.num == r.session.val) = some x ∧ r.ver.val = x.ver ∧ x.lastSeq ≠ some r.seq.val ∧ s.dev.sashGood 0x03 r = true) ∧
  (∃ (r : SashReq) (x : Session) (s : State),
    s.dev.sashUp r.port.val = true ∧ s.dev.host.sessions.find? (fun x => x.port == r.port.val && x.num == r.session.val) = some x ∧ r.ver.val = x.ver ∧ x.lastSeq ≠ some r.seq.val ∧ s.dev.sashGood 0x02 r = true) ∧
  (∃ (r : SashReq) (x : Session) (s : State) (e : Dev) (d : Dev) (v : Word) (e : Dev) (d : Dev),
    s.dev.sashUp r.port.val = true ∧ s.dev.host.sessions.find? (fun x => x.port == r.port.val && x.num == r.session.val) = some x ∧ r.ver.val = x.ver ∧ x.lastSeq ≠ some r.seq.val ∧ s.dev.sashGood 0x10 r = true ∧ r.count.val = 1 ∧ e = s.dev.modSession r.port.val x.num (fun y => { y with at_ := s.dev.now }) ∧ e.busRead (sashWho r) r.addr.toNat 32 (e.mayClear (sashWho r)) = (d, .ok, v)) ∧
  (∃ (r : SashReq) (x : Session) (s : State) (u : State),
    s.dev.sashUp r.port.val = true ∧ s.dev.host.sessions.find? (fun x => x.port == r.port.val && x.num == r.session.val) = some x ∧ r.ver.val = x.ver ∧ x.lastSeq ≠ some r.seq.val ∧ s.dev.sashGood 0x11 r = true ∧ r.count.val = 1 ∧ (s.onDev (fun d => d.modSession r.port.val x.num (fun y => { y with at_ := d.now }))).busWrite (sashWho r) r.addr.toNat 32 (BitVec.ofNat 32 (leNat (r.data.take 4))) = (u, .ok)) ∧
  (∃ (r : SashReq) (x : Session) (s : State),
    s.dev.sashUp r.port.val = true ∧ s.dev.host.sessions.find? (fun x => x.port == r.port.val && x.num == r.session.val) = some x ∧ r.ver.val = x.ver ∧ x.lastSeq ≠ some r.seq.val ∧ s.dev.sashGood 0x12 r = true ∧ s.dev.islUp 3 = true ∧ s.dev.get (MEM_STS 0) MEM_STS.STATE ≠ 0) ∧
  (∃ (r : SashReq) (s : State),
    s.dev.sashUp r.port.val = true ∧ s.dev.host.sessions.find? (fun x => x.port == r.port.val && x.num == r.session.val) = none) ∧
  (∃ (r : SashReq) (x : Session) (s : State),
    s.dev.sashUp r.port.val = true ∧ s.dev.host.sessions.find? (fun x => x.port == r.port.val && x.num == r.session.val) = some x ∧ r.ver.val = x.ver ∧ x.lastSeq = some r.seq.val) :=
  ⟨⟨⟨2,1,0,0,0,5,0,0,0,[1,2,3,4]⟩, wst [] (eup), by and_intros <;> decide +kernel⟩,
   ⟨sreq 0 (0) [], ses1 none, wst [] (fun d => host { hold5 with holder := some ⟨2, 1, 0⟩, sessions := [ses1 (none)] } (eup d)), by and_intros <;> decide +kernel⟩,
   ⟨sreq 0 (0) [], ses1 none, wst [] (fun d => host { hold5 with holder := some ⟨2, 1, 0⟩, sessions := [ses1 (none)] } (eup d)), by and_intros <;> decide +kernel⟩,
   ⟨sreq 1 (0) [], ses1 none, w_SashCommandsComplete_4, w_SashCommandsComplete_4.dev.modSession 2 1 (fun y => { y with at_ := w_SashCommandsComplete_4.dev.now }), ((w_SashCommandsComplete_4.dev.modSession 2 1 (fun y => { y with at_ := w_SashCommandsComplete_4.dev.now })).busRead (sashWho (sreq 1 0 [])) 0 32 ((w_SashCommandsComplete_4.dev.modSession 2 1 (fun y => { y with at_ := w_SashCommandsComplete_4.dev.now })).mayClear (sashWho (sreq 1 0 [])))).1, ((w_SashCommandsComplete_4.dev.modSession 2 1 (fun y => { y with at_ := w_SashCommandsComplete_4.dev.now })).busRead (sashWho (sreq 1 0 [])) 0 32 ((w_SashCommandsComplete_4.dev.modSession 2 1 (fun y => { y with at_ := w_SashCommandsComplete_4.dev.now })).mayClear (sashWho (sreq 1 0 [])))).2.2, w_SashCommandsComplete_4.dev.modSession 2 1 (fun y => { y with at_ := w_SashCommandsComplete_4.dev.now }), ((w_SashCommandsComplete_4.dev.modSession 2 1 (fun y => { y with at_ := w_SashCommandsComplete_4.dev.now })).busRead (sashWho (sreq 1 0 [])) 0 32 ((w_SashCommandsComplete_4.dev.modSession 2 1 (fun y => { y with at_ := w_SashCommandsComplete_4.dev.now })).mayClear (sashWho (sreq 1 0 [])))).1, by and_intros <;> decide +kernel⟩,
   ⟨sreq 1 (BitVec.ofNat 32 FIR_CFG) [1,2,3,4], ses1 none, w_SashCommandsComplete_5, ((w_SashCommandsComplete_5.onDev (fun d => d.modSession 2 1 (fun y => { y with at_ := d.now }))).busWrite (sashWho (sreq 1 (BitVec.ofNat 32 FIR_CFG) [1,2,3,4] : SashReq)) (sreq 1 (BitVec.ofNat 32 FIR_CFG) [1,2,3,4] : SashReq).addr.toNat 32 (BitVec.ofNat 32 (leNat ((sreq 1 (BitVec.ofNat 32 FIR_CFG) [1,2,3,4] : SashReq).data.take 4)))).1, by and_intros <;> decide +kernel⟩,
   ⟨sreq 4 (64) [1,2,3,4], ses1 none, wst [((MEM_STS 0), MEM_STS.STATE, 1), ((MEM_STS 0), MEM_STS.STATE, 2)] (fun d => host { hold5 with holder := some ⟨2, 1, 0⟩, sessions := [ses1 (none)] } (eup d)), by and_intros <;> decide +kernel⟩,
   ⟨sreq 1 (0) [1,2,3,4], wst [] (eup), by and_intros <;> decide +kernel⟩,
   ⟨sreq 1 (0) [1,2,3,4], ses1 (some 5), wst [] (fun d => host { hold5 with holder := some ⟨2, 1, 0⟩, sessions := [ses1 (some 5)] } (eup d)), by and_intros <;> decide +kernel⟩⟩

theorem test_witness_LatchCommandsComplete :
  (∃ (q : Req) (s : State),
    Allowed s q OWN_REQ ∧ s.dev.host.holder = none) ∧
  (∃ (q : Req) (h : Holder) (s : State),
    Allowed s q OWN_REQ ∧ s.dev.host.holder = some h ∧ s.dev.host.foreign = false ∧ s.dev.now < s.dev.host.leaseEnd ∧ h.port ≠ q.port.val) ∧
  (∃ (q : Req) (s : State),
    Allowed s q OWN_CMD ∧ s.dev.isHolder q = true ∧ 0 < s.dev.host.lease) ∧
  (∃ (q : Req) (s : State),
    Allowed s q OWN_CMD ∧ s.dev.isHolder q = true ∧ 0 < s.dev.host.lease ∧ s.dev.host.waiting = none) ∧
  (∃ (q : Req) (h : Holder) (l : Nat) (s : State),
    Allowed s q OWN_CMD ∧ s.dev.isHolder q = true ∧ 0 < s.dev.host.lease ∧ s.dev.host.waiting = some (h, l)) ∧
  (∃ (q : Req) (port : Fin 8) (session : Fin 256) (client : Fin 65536) (l : Nat) (s : State),
    Allowed s q OWN_CMD ∧ s.dev.isHolder q = true ∧ 0 < s.dev.host.lease ∧ s.dev.host.waiting = some (⟨port.val, session.val, client.val⟩, l)) ∧
  (∃ (q : Req) (s : State),
    Allowed s q OWN_CMD ∧ s.dev.isHolder q = false ∧ s.dev.now < s.dev.host.leaseEnd) ∧
  (∃ (q : Req) (s : State),
    Allowed s q OWN_CMD ∧ (q.port.val = 5 ∨ q.port.val = 6)) ∧
  (∃ (q : Req) (s : State),
    Allowed s q OWN_CMD ∧ q.port.val < 5) ∧
  (∃ (h : Holder) (dt : Nat) (s : State),
    (s.after dt).host.holder = some h ∧ (s.after dt).host.leaseEnd ≤ (s.after dt).now ∧ (s.after dt).host.foreign = false ∧ (s.after dt).host.waiting = none) ∧
  (∃ (dt : Nat) (s : State),
    ((s.after dt).host.holder = none ∨ (s.after dt).now < (s.after dt).host.leaseEnd)) ∧
  (∃ (port : Fin 7) (num : Nat) (dt : Nat) (s : State),
    (∃ x ∈ (s.after dt).host.sessions, x.port = port.val ∧ x.num = num ∧ x.at_ + secTicks 5 ≤ (s.after dt).now) ∧ (∀ h, (s.after dt).host.holder = some h → h.port ≠ port.val)) ∧
  (∃ (port : Fin 7) (num : Nat) (dt : Nat) (s : State),
    (∀ x ∈ (s.after dt).host.sessions, x.port = port.val → x.num = num → (s.after dt).now < x.at_ + secTicks 5)) :=
  ⟨⟨q0, wst [] (fun d => d), by unfold Allowed; and_intros <;> decide +kernel⟩,
   ⟨⟨6,1,false⟩, ⟨5,0,0⟩, wst [] (held5), by unfold Allowed; and_intros <;> decide +kernel⟩,
   ⟨q5, wst [] (held5), by unfold Allowed; and_intros <;> decide +kernel⟩,
   ⟨q5, wst [] (held5), by unfold Allowed; and_intros <;> decide +kernel⟩,
   ⟨q5, ⟨2,1,7⟩, 50, wst [] (fun d => host { hold5 with waiting := some (⟨2,1,7⟩, 50) } d), by unfold Allowed; and_intros <;> decide +kernel⟩,
   ⟨q5, 2, 1, 7, 50, wst [] (fun d => host { hold5 with waiting := some (⟨2,1,7⟩, 50) } d), by unfold Allowed; and_intros <;> decide +kernel⟩,
   ⟨⟨2,1,false⟩, wst [] (fun d => host { hold5 with sessions := [ses1 none] } (eup d)), by unfold Allowed; and_intros <;> decide +kernel⟩,
   ⟨⟨6,1,false⟩, wst [] (held5), by unfold Allowed; and_intros <;> decide +kernel⟩,
   ⟨⟨2,1,false⟩, wst [] (fun d => host { hold5 with sessions := [ses1 none] } (eup d)), by unfold Allowed; and_intros <;> decide +kernel⟩,
   ⟨⟨5,0,0⟩, 0, wst [] (fun d => later (host { hold5 with leaseEnd := 5 } d)), by and_intros <;> decide +kernel⟩,
   ⟨0, wst [] (fun d => d), by decide +kernel⟩,
   ⟨2, 1, 0, wst [] (fun d => later (host { hold5 with sessions := [ses1 none] } d)), by and_intros <;> decide +kernel⟩,
   ⟨0, 0, 0, wst [] (fun d => d), by decide +kernel⟩⟩

theorem test_witness_HatchCommandsComplete :
  (∃ (q : Req) (n : Fin 8) (i : Fin 16) (s : State),
    Allowed s { q with urgent := false } (HAT_D n.val i.val) ∧ n.val < 4 ∧ q.port.val ≠ 0 ∧ (s.dev.hatch n.val).st = .empty) ∧
  (∃ (q : Req) (n : Fin 8) (i : Fin 16) (s : State),
    Allowed s { q with urgent := false } (HAT_D n.val i.val) ∧ n.val < 4 ∧ q.port.val ≠ 0 ∧ (s.dev.hatch n.val).st = .filling ∧ (s.dev.hatch n.val).sport = q.port.val) ∧
  (∃ (q : Req) (n : Fin 8) (i : Fin 16) (s : State),
    Allowed s { q with urgent := false } (HAT_D n.val i.val) ∧ n.val < 4 ∧ q.port.val ≠ 0 ∧ (s.dev.hatch n.val).st = .full) ∧
  (∃ (q : Req) (n : Fin 8) (s : State),
    Allowed s q (HAT_CTRL n.val) ∧ n.val < 4 ∧ (s.dev.hatch n.val).st = .filling ∧ (s.dev.hatch n.val).sport = q.port.val) ∧
  (∃ (q : Req) (n : Fin 8) (s : State),
    Allowed s q (HAT_CTRL n.val) ∧ ((s.dev.hatch n.val).st ≠ .filling ∨ (s.dev.hatch n.val).sport ≠ q.port.val)) ∧
  (∃ (q : Req) (n : Fin 8) (s : State),
    Allowed s q (HAT_CTRL n.val) ∧ (s.dev.hatch n.val).st = .full ∧ (s.dev.hatch n.val).rxport = q.port.val) ∧
  (∃ (q : Req) (n : Fin 8) (s : State),
    Allowed s q (HAT_CTRL n.val) ∧ (s.dev.hatch n.val).st = .full ∧ (s.dev.hatch n.val).rxport ≠ q.port.val) ∧
  (∃ (q : Req) (n : Fin 8) (i : Fin 16) (s : State),
    Allowed s { q with urgent := true } (HAT_D n.val i.val) ∧ n.val < 4 ∧ q.port.val ≠ 0 ∧ (s.dev.hatch n.val).st = .full ∧ (s.dev.hatch n.val).sport ≠ q.port.val ∧ (q.port.val = 6 ∨ s.dev.isHolder q = true) ∧ 0 < s.dev.host.lease) ∧
  (∃ (q : Req) (n : Fin 8) (i : Fin 16) (s : State),
    Allowed s { q with urgent := true } (HAT_D n.val i.val) ∧ n.val < 4 ∧ q.port.val ≠ 0 ∧ q.port.val ≠ 6 ∧ (s.dev.hatch n.val).st = .full ∧ (s.dev.hatch n.val).sport ≠ q.port.val ∧ s.dev.isHolder q = false) ∧
  (∃ (n : Fin 8) (dt : Nat) (s : State),
    ((s.after dt).hatch n.val).st = .filling ∧ ((s.after dt).hatch n.val).wrAt + msTicks 10 ≤ (s.after dt).now) ∧
  (∃ (n : Fin 8) (dt : Nat) (s : State),
    (((s.after dt).hatch n.val).st ≠ .filling ∨ (s.after dt).now < ((s.after dt).hatch n.val).wrAt + msTicks 10)) ∧
  (∃ (q : Req) (s : State),
    Allowed s q HAT_CMD ∧ q.port.val ≠ 6) :=
  ⟨⟨q5, 2, 3, wst [] (fun d => later (host (hat 2 {  } hold5) d)), by unfold Allowed; and_intros <;> decide +kernel⟩,
   ⟨q5, 2, 3, wst [] (fun d => later (host (hat 2 { st := .filling, sport := 5 } hold5) d)), by unfold Allowed; and_intros <;> decide +kernel⟩,
   ⟨q5, 2, 3, wst [] (fun d => later (host (hat 2 { st := .full, sport := 5 } hold5) d)), by unfold Allowed; and_intros <;> decide +kernel⟩,
   ⟨q5, 2, wst [] (fun d => later (host (hat 2 { st := .filling, sport := 5 } hold5) d)), by unfold Allowed; and_intros <;> decide +kernel⟩,
   ⟨q5, 2, wst [] (fun d => later (host (hat 2 { st := .filling, sport := 4 } hold5) d)), by unfold Allowed; and_intros <;> decide +kernel⟩,
   ⟨q5, 4, wst [] (fun d => later (host (hat 4 { st := .full, sport := 0, rxport := 5 } hold5) d)), by unfold Allowed; and_intros <;> decide +kernel⟩,
   ⟨q5, 4, wst [] (fun d => later (host (hat 4 { st := .full, sport := 0, rxport := 3 } hold5) d)), by unfold Allowed; and_intros <;> decide +kernel⟩,
   ⟨q5u, 2, 3, wst [] (fun d => later (host (hat 2 { st := .full, sport := 4 } hold5) d)), by unfold Allowed; and_intros <;> decide +kernel⟩,
   ⟨⟨2,1,true⟩, 2, 3, wst [] (fun d => eup (host (hat 2 { st := .full, sport := 4 } { hold5 with sessions := [ses1 none] }) d)), by unfold Allowed; and_intros <;> decide +kernel⟩,
   ⟨2, 0, wst [] (fun d => later (host (hat 2 { st := .filling, sport := 4 } hold5) d)), by and_intros <;> decide +kernel⟩,
   ⟨0, 0, wst [] (fun d => d), by decide +kernel⟩,
   ⟨q5, wst [] (fun d => later (host (hat 4 { st := .full, rxport := 5 } hold5) d)), by unfold Allowed; and_intros <;> decide +kernel⟩⟩

def w_CheckUnitCommandsComplete_7 : State :=
  { (wst [((CU_STS (0 : Fin 8).val), CU_STS.STATE, 2), ((CU_BUF_LEN 0), CU_BUF_LEN.LEN, 100), ((MEM_CFG 0), MEM_CFG.PRESENT, 1), ((MEM_STS 0), MEM_STS.INIT_DONE, 1)] (fun d => later { d with cu := [(0, { cfg := cfgMode1, poly := 7 })] })) with mem := storePut Store.empty 0 (List.replicate 256 7) }

theorem test_witness_CheckUnitCommandsComplete :
  (∃ (q : Req) (k : Fin 8) (s : State),
    Allowed s q (CU_CMD k.val) ∧ s.dev.cuState k.val = 0 ∧ s.dev.rd64 (CU_POLY_LO k.val) (CU_POLY_HI k.val) < 2 ^ cuWidth (s.dev.rd (CU_CFG k.val)) ∧ s.dev.rd64 (CU_INIT_LO k.val) (CU_INIT_HI k.val) < 2 ^ cuWidth (s.dev.rd (CU_CFG k.val)) ∧ s.dev.rd64 (CU_XOR_LO k.val) (CU_XOR_HI k.val) < 2 ^ cuWidth (s.dev.rd (CU_CFG k.val))) ∧
  (∃ (q : Req) (k : Fin 8) (s : State),
    Allowed s q (CU_CMD k.val) ∧ (s.dev.cuState k.val = 0 ∨ s.dev.get (CU_STS k.val) CU_STS.OWNER = q.port.val) ∧ (s.dev.cuState k.val = 2 ∨ 2 ^ cuWidth (s.dev.rd (CU_CFG k.val)) ≤ s.dev.rd64 (CU_POLY_LO k.val) (CU_POLY_HI k.val))) ∧
  (∃ (q : Req) (k : Fin 8) (size : Fin 3) (s : State),
    Allowed s q (dinAddr k.val size.val) ∧ s.dev.cuState k.val = 1 ∧ s.dev.get (CU_STS k.val) CU_STS.OWNER = q.port.val) ∧
  (∃ (q : Req) (k : Fin 8) (s : State),
    Allowed s q (CU_STATE_HI k.val) ∧ s.dev.cuState k.val = 1 ∧ s.dev.get (CU_STS k.val) CU_STS.OWNER = q.port.val) ∧
  (∃ (q : Req) (k : Fin 8) (s : State),
    Allowed s q (CU_CMD k.val) ∧ s.dev.cuState k.val = 1 ∧ s.dev.get (CU_STS k.val) CU_STS.OWNER = q.port.val) ∧
  (∃ (k : Fin 8) (dt : Nat) (s : State),
    (s.after dt).cuState k.val ≠ 2) ∧
  (∃ (k : Fin 8) (dt : Nat) (s : State) (bs : List Byte),
    (s.after dt).cuState k.val = 2 ∧ (s.after dt).cuMode k.val = 1 ∧ (s.after dt).cuRead s.mem k.val ((s.after dt).cuTotal k.val) = (bs, false) ∧ ((s.after dt).cuSt k.val).goAt + 4 * bs.length ≤ (s.after dt).now) ∧
  (∃ (q : Req) (k : Fin 8) (s : State),
    Allowed s q (CU_CMD k.val) ∧ s.dev.cuState k.val = 2 ∧ s.dev.get (CU_STS k.val) CU_STS.OWNER = q.port.val) ∧
  (∃ (q : Req) (k : Fin 8) (s : State),
    Allowed s q (CU_CMD k.val) ∧ (s.dev.cuState k.val = 1 ∨ s.dev.cuState k.val = 3) ∧ (s.dev.get (CU_STS k.val) CU_STS.OWNER = q.port.val ∨ q.port.val = 6)) :=
  ⟨⟨q0, 0, wst [((CU_STS (0 : Fin 8).val), CU_STS.STATE, 0), ((CU_POLY_LO 0), whole, 7), ((CU_CFG 0), CU_CFG.WIDTH, 7), ((CU_INIT_LO 0), whole, 0), ((CU_INIT_HI 0), whole, 0), ((CU_XOR_LO 0), whole, 0), ((CU_XOR_HI 0), whole, 0), ((CU_POLY_HI 0), whole, 0)] (fun d => d), by unfold Allowed; and_intros <;> decide +kernel⟩,
   ⟨q0, 0, wst [((CU_POLY_LO 0), whole, 4096), ((CU_CFG 0), CU_CFG.WIDTH, 7)] (fun d => d), by unfold Allowed; and_intros <;> decide +kernel⟩,
   ⟨q0, 0, 2, wst [((CU_STS (0 : Fin 8).val), CU_STS.STATE, 1), ((CU_STS (0 : Fin 8).val), CU_STS.OWNER, (q0 : Req).port.val)] (fun d => { d with cu := [(0, { cfg := 7, poly := 7 })] }), by unfold Allowed; and_intros <;> decide +kernel⟩,
   ⟨q0, 0, wst [((CU_STS (0 : Fin 8).val), CU_STS.STATE, 1), ((CU_STS (0 : Fin 8).val), CU_STS.OWNER, (q0 : Req).port.val)] (fun d => d), by unfold Allowed; and_intros <;> decide +kernel⟩,
   ⟨q0, 0, wst [((CU_STS (0 : Fin 8).val), CU_STS.STATE, 1), ((CU_STS (0 : Fin 8).val), CU_STS.OWNER, (q0 : Req).port.val), ((CU_BUF_LEN 0), CU_BUF_LEN.LEN, 100)] (fun d => { d with cu := [(0, { cfg := cfgMode1 })] }), by unfold Allowed; and_intros <;> decide +kernel⟩,
   ⟨0, 0, wst [] (fun d => d), by decide +kernel⟩,
   ⟨0, 0, w_CheckUnitCommandsComplete_7, ((w_CheckUnitCommandsComplete_7.after (0 : Nat)).cuRead w_CheckUnitCommandsComplete_7.mem (0 : Fin 8).val ((w_CheckUnitCommandsComplete_7.after (0 : Nat)).cuTotal (0 : Fin 8).val)).1, by and_intros <;> decide +kernel⟩,
   ⟨q0, 0, wst [((CU_STS (0 : Fin 8).val), CU_STS.STATE, 2), ((CU_STS (0 : Fin 8).val), CU_STS.OWNER, (q0 : Req).port.val)] (fun d => d), by unfold Allowed; and_intros <;> decide +kernel⟩,
   ⟨q0, 0, wst [((CU_STS 0), CU_STS.STATE, 3)] (fun d => d), by unfold Allowed; and_intros <;> decide +kernel⟩⟩

def w_FirmwareMessageCommandsComplete_1 : State :=
  wst [] (fun d =>  (fmsg 1 [] d))

def w_FirmwareMessageCommandsComplete_2 : State :=
  wst [] (fun d => fmsg 2 [0x10] (d.keelWrite 0x10 [1, 2, 3, 4] true))

def w_FirmwareMessageCommandsComplete_3 : State :=
  wst [] (fun d =>  (fmsg 2 [0x10] d))

def w_FirmwareMessageCommandsComplete_4 : State :=
  wst [] (fun d =>  (fmsg 3 [2] d))

def w_FirmwareMessageCommandsComplete_5 : State :=
  wst [] (fun d =>  (fmsg 4 [0x02000064, 0x10, 0x20] d))

def w_FirmwareMessageCommandsComplete_6 : State :=
  wst [] (fun d =>  (fmsg 5 [3] d))

def w_FirmwareMessageCommandsComplete_7 : State :=
  { (wst [] (fun d => memOk (fmsg 6 [0, 16] d))) with mem := Store.empty.setBytes 0 objBytes }

def w_FirmwareMessageCommandsComplete_8 : State :=
  wst [] (fun d => (fun (d : Dev) => { d with host := { d.host with lastObj := some (kimg 1) } }) (fmsg 7 [1] d))

def w_FirmwareMessageCommandsComplete_9 : State :=
  { (wst [] (fun d => memOk (fmsg 8 [0, 0, 16] d))) with mem := Store.empty.setBytes 0 objBytes }

theorem test_witness_FirmwareMessageCommandsComplete :
  (∃ (n : Fin 4) (dt : Nat) (s : State) (ws : List Word),
    n.val < 3 ∧ (s.after dt).fwMessage n.val = some ws ∧ msgVer ws = 1 ∧ msgType ws = 1) ∧
  (∃ (n : Fin 4) (dt : Nat) (s : State) (ws : List Word) (b : List Byte),
    n.val < 3 ∧ (s.after dt).fwMessage n.val = some ws ∧ msgVer ws = 1 ∧ msgType ws = 2 ∧ (s.after dt).keelBody (msgWord ws 1 % 256) = some b) ∧
  (∃ (n : Fin 4) (dt : Nat) (s : State) (ws : List Word),
    n.val < 3 ∧ (s.after dt).fwMessage n.val = some ws ∧ msgVer ws = 1 ∧ msgType ws = 2 ∧ (s.after dt).keelBody (msgWord ws 1 % 256) = none) ∧
  (∃ (n : Fin 4) (dt : Nat) (s : State) (ws : List Word),
    n.val < 3 ∧ (s.after dt).fwMessage n.val = some ws ∧ msgVer ws = 1 ∧ msgType ws = 3 ∧ msgWord ws 1 < 65536 ∧ msgWord ws 1 < (s.after dt).host.logN) ∧
  (∃ (n : Fin 4) (dt : Nat) (s : State) (ws : List Word),
    n.val < 3 ∧ (s.after dt).fwMessage n.val = some ws ∧ msgVer ws = 1 ∧ msgType ws = 4 ∧ msgWord ws 1 / 2 ^ 24 ≤ 14 ∧ msgWord ws 1 / 2 ^ 16 % 256 + msgWord ws 1 / 2 ^ 24 ≤ 64 ∧ msgWord ws 1 / 2 ^ 16 % 256 ≤ (s.after dt).host.telem.addrs.length) ∧
  (∃ (n : Fin 4) (dt : Nat) (s : State) (ws : List Word),
    n.val < 3 ∧ (s.after dt).fwMessage n.val = some ws ∧ msgVer ws = 1 ∧ msgType ws = 5 ∧ msgWord ws 1 / 2 % 4 ≠ 3 ∧ (s.after dt).cxState (msgWord ws 1 % 2) ≠ 1) ∧
  (∃ (n : Fin 4) (bs : List Byte) (dt : Nat) (s : State) (ws : List Word),
    n.val < 3 ∧ (s.after dt).fwMessage n.val = some ws ∧ msgVer ws = 1 ∧ msgType ws = 6 ∧ inStaging (msgWord ws 1) (msgWord ws 2) = true ∧ (s.after dt).objResult ≠ 1 ∧ (s.after dt).objResult ≠ 2 ∧ storeRead ((s.after dt).hatchEmpty n.val 1) s.mem (msgWord ws 1) (msgWord ws 2) = (bs, false) ∧ (objectDecode bs).done = true) ∧
  (∃ (n : Fin 4) (dt : Nat) (img : List Byte) (entryOk : Bool) (s : State) (ws : List Word) (k : Kite),
    n.val < 3 ∧ (s.after dt).fwMessage n.val = some ws ∧ msgVer ws = 1 ∧ msgType ws = 7 ∧ msgWord ws 1 % 2 ≠ (s.after dt).get PWR_STS PWR_STS.SLOT ∧ (s.after dt).host.lastObj = some img ∧ ((s.after dt).hatchEmpty n.val 1).kiteAccept img entryOk = .ok k) ∧
  (∃ (n : Fin 4) (bs : List Byte) (dt : Nat) (s : State) (ws : List Word),
    n.val < 3 ∧ (s.after dt).fwMessage n.val = some ws ∧ msgVer ws = 1 ∧ msgType ws = 8 ∧ msgWord ws 1 % 4 < 2 ∧ msgWord ws 3 ≠ 0 ∧ inStaging (msgWord ws 2) (msgWord ws 3) = true ∧ (s.after dt).islUp 7 = true ∧ storeRead ((s.after dt).hatchEmpty n.val 1) s.mem (msgWord ws 2) (msgWord ws 3) = (bs, false) ∧ msgWord ws 4 = 0) ∧
  (∃ (n : Fin 4) (dt : Nat) (s : State),
    (s.after dt).fwMessage n.val = none ∧ (s.after dt).fwRuns = true) :=
  ⟨⟨1, 0, w_FirmwareMessageCommandsComplete_1, (w_FirmwareMessageCommandsComplete_1.after (0 : Nat)).hatchWords 1, by and_intros <;> decide +kernel⟩,
   ⟨1, 0, w_FirmwareMessageCommandsComplete_2, (w_FirmwareMessageCommandsComplete_2.after (0 : Nat)).hatchWords 1, ((w_FirmwareMessageCommandsComplete_2.after (0 : Nat)).keelBody 0x10).getD [], by and_intros <;> decide +kernel⟩,
   ⟨1, 0, w_FirmwareMessageCommandsComplete_3, (w_FirmwareMessageCommandsComplete_3.after (0 : Nat)).hatchWords 1, by and_intros <;> decide +kernel⟩,
   ⟨1, 0, w_FirmwareMessageCommandsComplete_4, (w_FirmwareMessageCommandsComplete_4.after (0 : Nat)).hatchWords 1, by and_intros <;> decide +kernel⟩,
   ⟨1, 0, w_FirmwareMessageCommandsComplete_5, (w_FirmwareMessageCommandsComplete_5.after (0 : Nat)).hatchWords 1, by and_intros <;> decide +kernel⟩,
   ⟨1, 0, w_FirmwareMessageCommandsComplete_6, (w_FirmwareMessageCommandsComplete_6.after (0 : Nat)).hatchWords 1, by and_intros <;> decide +kernel⟩,
   ⟨1, objBytes, 0, w_FirmwareMessageCommandsComplete_7, (w_FirmwareMessageCommandsComplete_7.after (0 : Nat)).hatchWords 1, by and_intros <;> decide +kernel⟩,
   ⟨1, 0, kimg 1, true, w_FirmwareMessageCommandsComplete_8, (w_FirmwareMessageCommandsComplete_8.after (0 : Nat)).hatchWords 1, kiteOf (((w_FirmwareMessageCommandsComplete_8.after (0 : Nat)).hatchEmpty 1 1).kiteAccept (kimg 1 : List Byte) (true : Bool)), by and_intros <;> decide +kernel, by and_intros <;> decide +kernel, by and_intros <;> decide +kernel, by and_intros <;> decide +kernel, by and_intros <;> decide +kernel, by and_intros <;> decide +kernel, ok_kiteOf _ (by decide +kernel)⟩,
   ⟨1, objBytes, 0, w_FirmwareMessageCommandsComplete_9, (w_FirmwareMessageCommandsComplete_9.after (0 : Nat)).hatchWords 1, by and_intros <;> decide +kernel⟩,
   ⟨0, 0, wst [] (fwUp), by and_intros <;> decide +kernel⟩⟩

def w_EventTelemetryAndImageCommandsComplete_5 : State :=
  wst [] (fun d => fwUp (tup (host { telem := { period := 10, addrs := [0x10, 0x14] } } d)))

def w_EventTelemetryAndImageCommandsComplete_6 : State :=
  wst [] (fun d => d)

def w_EventTelemetryAndImageCommandsComplete_7 : State :=
  wst [] (fun d => d)

def w_EventTelemetryAndImageCommandsComplete_11 : State :=
  wst [(PWR_STS, PWR_STS.STAGE, 4)] (fun d => withImg (kimg 1) d)

def w_EventTelemetryAndImageCommandsComplete_12 : State :=
  wst [(PWR_STS, PWR_STS.STAGE, 4)] (fun d => withImg (kimg 0) d)

theorem test_witness_EventTelemetryAndImageCommandsComplete :
  (∃ (e : FwEvent) (es : List FwEvent) (dt : Nat) (s : State),
    (s.after dt).fwRuns = true ∧ (s.after dt).host.replies = [] ∧ ((s.after dt).hatch 7).st = .empty ∧ (s.after dt).host.events = e :: es ∧ (s.after dt).host.eventsLost = 0) ∧
  (∃ (dt : Nat) (s : State),
    (s.after dt).fwRuns = false) ∧
  (∃ (dt : Nat) (s : State),
    ((s.after dt).fwRuns = false ∨ (s.after dt).host.telem.period = 0 ∨ (s.after dt).host.telem.addrs = [] ∨ (s.after dt).now < (s.after dt).host.telem.at_ + msTicks (s.after dt).host.telem.period)) ∧
  (∃ (dt : Nat) (s : State),
    (s.after dt).fwRuns = true ∧ (s.after dt).host.telem.period ≠ 0 ∧ (s.after dt).host.telem.addrs ≠ [] ∧ (s.after dt).host.telem.at_ + msTicks (s.after dt).host.telem.period ≤ (s.after dt).now ∧ (s.after dt).tethUp = false) ∧
  (∃ (dt : Nat) (s : State) (e : Dev) (e : Dev) (bs : List Byte) (f : Dev),
    (s.after dt).fwRuns = true ∧ (s.after dt).host.telem.period ≠ 0 ∧ (s.after dt).host.telem.addrs ≠ [] ∧ (s.after dt).host.telem.at_ + msTicks (s.after dt).host.telem.period ≤ (s.after dt).now ∧ (s.after dt).tethUp = true ∧ 2 ≤ (s.after dt).tethVer ∧ e = (s.after dt).modHost (fun x => { x with telem := { x.telem with at_ := (s.after dt).now } }) ∧ telemRead e.host.telem.addrs e = (f, bs)) ∧
  (∃ (dr : BitVec 72) (dt : Nat) (s : State) (u : State) (st : Status),
    dr.toNat.testBit 0 = true ∧ ((s.pass dt).onDev (fun d => { d with test := { d.test with ir := 0x10 } })).busWrite ⟨6, 0, dr.toNat.testBit 1⟩ (dr.toNat / 4 % 2 ^ 30 * 4) 32 (BitVec.ofNat 32 (dr.toNat / 2 ^ 32)) = (u, st)) ∧
  (∃ (dt : Nat) (dr : BitVec 72) (s : State) (e : Dev) (e : Dev) (d : Dev) (d : Dev) (st : Status) (v : Word),
    dr.toNat.testBit 0 = false ∧ e = { s.after dt with test := { (s.after dt).test with ir := 0x10 } } ∧ e.busRead ⟨6, 0, dr.toNat.testBit 1⟩ (dr.toNat / 4 % 2 ^ 30 * 4) 32 true = (d, st, v)) ∧
  (∃ (dt : Nat) (s : State),
    ((s.after dt).get PWR_STS PWR_STS.STAGE ≠ 3 ∨ (s.after dt).pwr.held = true)) ∧
  (∃ (dt : Nat) (s : State),
    (s.after dt).get PWR_STS PWR_STS.STAGE = 3 ∧ (s.after dt).pwr.held = false) ∧
  (∃ (dt : Nat) (s : State),
    (s.after dt).get PWR_STS PWR_STS.STAGE = 3 ∧ (s.after dt).pwr.held = false) ∧
  (∃ (dt : Nat) (s : State) (k : Kite) (u : State),
    (s.after dt).get PWR_STS PWR_STS.STAGE = 4 ∧ (s.after dt).pwr.held = false ∧ kiteRead (s.after dt).pwr.image = .ok k ∧ (s.after dt).kiteConfig k = none ∧ ((s.pass dt).onDev (·.loadPlane k)).writeBlks k.writes = (u, none)) ∧
  (∃ (dt : Nat) (s : State) (k : Kite) (r : Reject),
    (s.after dt).get PWR_STS PWR_STS.STAGE = 4 ∧ (s.after dt).pwr.held = false ∧ kiteRead (s.after dt).pwr.image = .ok k ∧ (s.after dt).kiteConfig k = some r) :=
  ⟨⟨ev1, [], 0, wst [] (fun d => fwUp (host { events := [ev1] } d)), by and_intros <;> decide +kernel⟩,
   ⟨0, wst [] (fun d => d), by decide +kernel⟩,
   ⟨0, wst [] (fun d => d), by decide +kernel⟩,
   ⟨0, wst [] (fun d => fwUp (host { telem := { period := 10, addrs := [0x10, 0x14] } } d)), by and_intros <;> decide +kernel⟩,
   ⟨0, w_EventTelemetryAndImageCommandsComplete_5, (w_EventTelemetryAndImageCommandsComplete_5.after (0 : Nat)).modHost (fun x => { x with telem := { x.telem with at_ := (w_EventTelemetryAndImageCommandsComplete_5.after (0 : Nat)).now } }), (w_EventTelemetryAndImageCommandsComplete_5.after (0 : Nat)).modHost (fun x => { x with telem := { x.telem with at_ := (w_EventTelemetryAndImageCommandsComplete_5.after (0 : Nat)).now } }), (telemRead ((w_EventTelemetryAndImageCommandsComplete_5.after (0 : Nat)).modHost (fun x => { x with telem := { x.telem with at_ := (w_EventTelemetryAndImageCommandsComplete_5.after (0 : Nat)).now } }) : Dev).host.telem.addrs ((w_EventTelemetryAndImageCommandsComplete_5.after (0 : Nat)).modHost (fun x => { x with telem := { x.telem with at_ := (w_EventTelemetryAndImageCommandsComplete_5.after (0 : Nat)).now } }) : Dev)).2, (telemRead ((w_EventTelemetryAndImageCommandsComplete_5.after (0 : Nat)).modHost (fun x => { x with telem := { x.telem with at_ := (w_EventTelemetryAndImageCommandsComplete_5.after (0 : Nat)).now } }) : Dev).host.telem.addrs ((w_EventTelemetryAndImageCommandsComplete_5.after (0 : Nat)).modHost (fun x => { x with telem := { x.telem with at_ := (w_EventTelemetryAndImageCommandsComplete_5.after (0 : Nat)).now } }) : Dev)).1, by and_intros <;> decide +kernel⟩,
   ⟨BitVec.ofNat 72 (1 + 0xB0200 + 5 * 2 ^ 32), 0, w_EventTelemetryAndImageCommandsComplete_6, (((w_EventTelemetryAndImageCommandsComplete_6.pass (0 : Nat)).onDev (fun d => { d with test := { d.test with ir := 0x10 } })).busWrite ⟨6, 0, (BitVec.ofNat 72 (1 + 0xB0200 + 5 * 2 ^ 32) : BitVec 72).toNat.testBit 1⟩ ((BitVec.ofNat 72 (1 + 0xB0200 + 5 * 2 ^ 32) : BitVec 72).toNat / 4 % 2 ^ 30 * 4) 32 (BitVec.ofNat 32 ((BitVec.ofNat 72 (1 + 0xB0200 + 5 * 2 ^ 32) : BitVec 72).toNat / 2 ^ 32))).1, (((w_EventTelemetryAndImageCommandsComplete_6.pass (0 : Nat)).onDev (fun d => { d with test := { d.test with ir := 0x10 } })).busWrite ⟨6, 0, (BitVec.ofNat 72 (1 + 0xB0200 + 5 * 2 ^ 32) : BitVec 72).toNat.testBit 1⟩ ((BitVec.ofNat 72 (1 + 0xB0200 + 5 * 2 ^ 32) : BitVec 72).toNat / 4 % 2 ^ 30 * 4) 32 (BitVec.ofNat 32 ((BitVec.ofNat 72 (1 + 0xB0200 + 5 * 2 ^ 32) : BitVec 72).toNat / 2 ^ 32))).2, by and_intros <;> decide +kernel⟩,
   ⟨0, BitVec.ofNat 72 (0xB0200 + 5 * 2 ^ 32), w_EventTelemetryAndImageCommandsComplete_7, { w_EventTelemetryAndImageCommandsComplete_7.after (0 : Nat) with test := { (w_EventTelemetryAndImageCommandsComplete_7.after (0 : Nat)).test with ir := 0x10 } }, { w_EventTelemetryAndImageCommandsComplete_7.after (0 : Nat) with test := { (w_EventTelemetryAndImageCommandsComplete_7.after (0 : Nat)).test with ir := 0x10 } }, (({ w_EventTelemetryAndImageCommandsComplete_7.after (0 : Nat) with test := { (w_EventTelemetryAndImageCommandsComplete_7.after (0 : Nat)).test with ir := 0x10 } } : Dev).busRead ⟨6, 0, (BitVec.ofNat 72 (0xB0200 + 5 * 2 ^ 32) : BitVec 72).toNat.testBit 1⟩ ((BitVec.ofNat 72 (0xB0200 + 5 * 2 ^ 32) : BitVec 72).toNat / 4 % 2 ^ 30 * 4) 32 true).1, (({ w_EventTelemetryAndImageCommandsComplete_7.after (0 : Nat) with test := { (w_EventTelemetryAndImageCommandsComplete_7.after (0 : Nat)).test with ir := 0x10 } } : Dev).busRead ⟨6, 0, (BitVec.ofNat 72 (0xB0200 + 5 * 2 ^ 32) : BitVec 72).toNat.testBit 1⟩ ((BitVec.ofNat 72 (0xB0200 + 5 * 2 ^ 32) : BitVec 72).toNat / 4 % 2 ^ 30 * 4) 32 true).1, ({ w_EventTelemetryAndImageCommandsComplete_7.after (0 : Nat) with test := { (w_EventTelemetryAndImageCommandsComplete_7.after (0 : Nat)).test with ir := 0x10 } }.busRead ⟨6, 0, (BitVec.ofNat 72 (0xB0200 + 5 * 2 ^ 32) : BitVec 72).toNat.testBit 1⟩ ((BitVec.ofNat 72 (0xB0200 + 5 * 2 ^ 32) : BitVec 72).toNat / 4 % 2 ^ 30 * 4) 32 true).2.1, ({ w_EventTelemetryAndImageCommandsComplete_7.after (0 : Nat) with test := { (w_EventTelemetryAndImageCommandsComplete_7.after (0 : Nat)).test with ir := 0x10 } }.busRead ⟨6, 0, (BitVec.ofNat 72 (0xB0200 + 5 * 2 ^ 32) : BitVec 72).toNat.testBit 1⟩ ((BitVec.ofNat 72 (0xB0200 + 5 * 2 ^ 32) : BitVec 72).toNat / 4 % 2 ^ 30 * 4) 32 true).2.2, by and_intros <;> decide +kernel⟩,
   ⟨0, wst [] (fun d => d), by decide +kernel⟩,
   ⟨0, wst [(PWR_STS, PWR_STS.STAGE, 3)] (fun d => d), by and_intros <;> decide +kernel⟩,
   ⟨0, wst [(PWR_STS, PWR_STS.STAGE, 3)] (fun d => d), by and_intros <;> decide +kernel⟩,
   ⟨0, w_EventTelemetryAndImageCommandsComplete_11, kiteOf (kiteRead (w_EventTelemetryAndImageCommandsComplete_11.after (0 : Nat)).pwr.image), (((w_EventTelemetryAndImageCommandsComplete_11.pass (0 : Nat)).onDev (·.loadPlane (kiteOf (kiteRead (w_EventTelemetryAndImageCommandsComplete_11.after (0 : Nat)).pwr.image) : Kite))).writeBlks (kiteOf (kiteRead (w_EventTelemetryAndImageCommandsComplete_11.after (0 : Nat)).pwr.image) : Kite).writes).1, by and_intros <;> decide +kernel, by and_intros <;> decide +kernel, ok_kiteOf _ (by decide +kernel), by and_intros <;> decide +kernel, by and_intros <;> decide +kernel⟩,
   ⟨0, w_EventTelemetryAndImageCommandsComplete_12, kiteOf (kiteRead (w_EventTelemetryAndImageCommandsComplete_12.after (0 : Nat)).pwr.image), (((w_EventTelemetryAndImageCommandsComplete_12.after (0 : Nat)).kiteConfig (kiteOf (kiteRead (w_EventTelemetryAndImageCommandsComplete_12.after (0 : Nat)).pwr.image) : Kite)).getD { code := 0 }), by and_intros <;> decide +kernel, by and_intros <;> decide +kernel, ok_kiteOf _ (by decide +kernel), by and_intros <;> decide +kernel⟩⟩

theorem test_witness_TestCommandsComplete :
  (∃ (q : Req) (k : Fin 4) (v : Word) (s : State),
    Allowed s q (TST_LB_CFG k.val) ∧ s.dev.lbOn k.val = false ∧ ((s.granted q).typedWrite (TST_LB_CFG k.val) (v.setFld TST_LB_CFG.EN 1)).lbReason k.val q.port.val ≠ 0) ∧
  (∃ (q : Req) (k : Fin 4) (v : Word) (s : State),
    Allowed s q (TST_LB_CFG k.val) ∧ s.dev.lbOn k.val = false ∧ ((s.granted q).typedWrite (TST_LB_CFG k.val) (v.setFld TST_LB_CFG.EN 1)).lbReason k.val q.port.val = 0 ∧ ((v.setFld TST_LB_CFG.EN 1).fld TST_LB_CFG.IF = 3 ∨ (v.setFld TST_LB_CFG.EN 1).fld TST_LB_CFG.IF = 4 ∨ (v.setFld TST_LB_CFG.EN 1).fld TST_LB_CFG.IF = 5)) ∧
  (∃ (k : Fin 4) (dt : Nat) (s : State),
    (s.after dt).lbOn k.val = true ∧ (s.after dt).lbBits k.val = false) ∧
  (∃ (k : Fin 4) (dt : Nat) (s : State),
    (s.after dt).lbOn k.val = false) ∧
  (∃ (q : Req) (k : Fin 4) (s : State),
    Allowed s q (TST_LB_CFG k.val)) ∧
  (∃ (k : Fin 4) (dt : Nat) (s : State),
    (s.after dt).lbIf k.val ≠ 4) ∧
  (∃ (q : Req) (group : Fin 256) (s : State),
    Allowed s q TST_BIST_CMD ∧ s.dev.test.bistRun = none ∧ s.dev.bistRefused q.port.val group.val = true) ∧
  (∃ (q : Req) (group : Fin 256) (s : State),
    Allowed s q TST_BIST_CMD ∧ s.dev.test.bistRun = none ∧ s.dev.bistRefused q.port.val group.val = false ∧ group.val < 64) ∧
  (∃ (g : Nat) (dt : Nat) (s : State),
    (s.after dt).test.bistRun = some g) ∧
  (∃ (g : Nat) (dt : Nat) (s : State),
    (s.after dt).test.bistRun = some g) ∧
  (∃ (dt : Nat) (s : State),
    (s.after dt).test.bistRun = none) ∧
  (∃ (q : Req) (s : State),
    Allowed s q TST_MRAM_CMD ∧ s.dev.test.mramRun = false) ∧
  (∃ (dt : Nat) (s : State),
    (s.after dt).test.mramRun = true ∧ (s.after dt).test.mramAgain = false) ∧
  (∃ (dt : Nat) (s : State),
    (s.after dt).test.mramRun = true ∧ (s.after dt).test.mramAgain = false) ∧
  (∃ (code : Fin 64),
    code.val ∉ jtagCodes) :=
  ⟨⟨q0, 0, 0, wst [] (fun d => d), by unfold Allowed; and_intros <;> decide +kernel⟩,
   ⟨q0, 0, ((0 : Word).setFld TST_LB_CFG.IF 3).setFld TST_LB_CFG.DEPTH 1 |>.setFld TST_LB_CFG.PAT 3, wst [] (fun d => d), by unfold Allowed; and_intros <;> decide +kernel⟩,
   ⟨0, 0, wst [((TST_LB_STS 0), TST_LB_STS.STATE, 1), ((TST_LB_CFG 0), TST_LB_CFG.IF, 3)] (fun d => d), by and_intros <;> decide +kernel⟩,
   ⟨0, 0, wst [] (fun d => d), by decide +kernel⟩,
   ⟨q0, 0, wst [] (fun d => d), by unfold Allowed; decide +kernel⟩,
   ⟨0, 0, wst [] (fun d => d), by decide +kernel⟩,
   ⟨q0, 200, wst [] (fun d => d), by unfold Allowed; and_intros <;> decide +kernel⟩,
   ⟨q0, 0, wst [] (fun d => d), by unfold Allowed; and_intros <;> decide +kernel⟩,
   ⟨3, 0, wst [] (fun d => { d with test := { bistRun := some 3 } }), by decide +kernel⟩,
   ⟨3, 0, wst [] (fun d => { d with test := { bistRun := some 3 } }), by decide +kernel⟩,
   ⟨0, wst [] (fun d => d), by decide +kernel⟩,
   ⟨q0, wst [] (fun d => d), by unfold Allowed; and_intros <;> decide +kernel⟩,
   ⟨0, wst [] (fun d => { (d.keelWrite 0x10 [1, 2, 3] true) with test := { mramRun := true } }), by and_intros <;> decide +kernel⟩,
   ⟨0, wst [] (fun d => { (d.keelWrite 0x10 [1, 2, 3] true) with test := { mramRun := true } }), by and_intros <;> decide +kernel⟩,
   ⟨9, by decide +kernel⟩⟩

theorem test_witness_SupplyCommandsComplete :
  (∃ (dt : Nat) (s : State),
    (s.after dt).pwr.vin = true) ∧
  (∃ (dt : Nat) (s : State),
    (s.after dt).pwr.vin = false) ∧
  (∃ (dt : Nat) (s : State),
    (s.after dt).pwr.vin = true) ∧
  (∃ (dt : Nat) (s : State),
    (s.after dt).pwr.vin = true ∧ (s.after dt).pwr.uvWarn = false ∧ (s.after dt).guardOk = false) ∧
  (∃ (dt : Nat) (s : State),
    (s.after dt).pwr.vin = true ∧ (s.after dt).pwr.uvWarn = false) ∧
  (∃ (dt : Nat) (s : State),
    (s.after dt).pwr.held = true ∧ (s.after dt).powered = true ∧ (s.after dt).rd PWR_RAIL = 0x100) ∧
  (∃ (rail : Fin 5) (dt : Nat) (s : State),
    (s.after dt).powered = true ∧ ((s.after dt).railEn).testBit rail.val = true) ∧
  (∃ (u : Nat) (rest : List Nat) (dt : Nat) (s : State),
    (s.after dt).pwr.railTry = u :: rest ∧ (s.after dt).now < u + msTicks 100) ∧
  (∃ (u : Nat) (rest : List Nat) (dt : Nat) (s : State),
    (s.after dt).pwr.railTry = u :: rest ∧ u + msTicks 100 ≤ (s.after dt).now ∧ (s.after dt).powered = true ∧ (s.after dt).pwr.held = true ∧ (s.after dt).rd PWR_RAIL = 0) ∧
  (∃ (dt : Nat) (s : State),
    (s.after dt).powered = true) ∧
  (∃ (q : Req) (s : State),
    Allowed s q PWR_CMD) ∧
  (∃ (q : Req) (s : State),
    Allowed s q PWR_CMD) ∧
  (∃ (q : Req) (confirm : Fin 65536) (s : State),
    Allowed s q PWR_CMD ∧ confirm.val ≠ 0x5253) ∧
  (∃ (u : Nat) (dt : Nat) (s : State),
    (s.after dt).pair.lapseAt = some u ∧ (s.after dt).guardOk = false ∧ ((s.after dt).nextCommit = none ∨ u + msTicks 2 ≤ (s.after dt).now)) ∧
  (∃ (dt : Nat) (s : State),
    ((s.after dt).pair.lapseAt = none ∨ (s.after dt).guardOk = true)) ∧
  (∃ (dt : Nat) (s : State),
    (s.after dt).pwr.held = true ∧ (s.after dt).powered = true ∧ (s.after dt).pwr.uvWarn = false ∧ (s.after dt).rdN PWR_RAIL = railsGood) :=
  ⟨⟨0, wst [] (fun d => (fun (d : Dev) => { d with pwr := { d.pwr with vin := true } }) ((later) d)), by decide +kernel⟩,
   ⟨0, wst [] (fun d => (fun (d : Dev) => { d with pwr := { d.pwr with vin := false } }) ((later) d)), by decide +kernel⟩,
   ⟨0, wst [] (fun d => (fun (d : Dev) => { d with pwr := { d.pwr with vin := true } }) ((later) d)), by decide +kernel⟩,
   ⟨0, wst [] (fun d => (fun (d : Dev) => { d with pwr := { d.pwr with uvWarn := false } }) ((fun d => (fun (d : Dev) => { d with pwr := { d.pwr with vin := true } }) ((later) d)) d)), by and_intros <;> decide +kernel⟩,
   ⟨0, wst [] (fun d => (fun (d : Dev) => { d with pwr := { d.pwr with uvWarn := false } }) ((fun d => (fun (d : Dev) => { d with pwr := { d.pwr with vin := true } }) ((later) d)) d)), by and_intros <;> decide +kernel⟩,
   ⟨0, wst [(PWR_RAIL, whole, 0x100)] (fun d => (fun (d : Dev) => { d with pwr := { d.pwr with held := true } }) ((later) d)), by and_intros <;> decide +kernel⟩,
   ⟨0, 0, wst [] (later), by and_intros <;> decide +kernel⟩,
   ⟨5, [], 0, wst [] (fun d => (fun (d : Dev) => { d with pwr := { d.pwr with railTry := 5 :: [] } }) ((fun d => d) d)), by and_intros <;> decide +kernel⟩,
   ⟨5, [], 0, wst [(PWR_RAIL, whole, 0)] (fun d => (fun (d : Dev) => { d with pwr := { d.pwr with held := true } }) ((fun d => (fun (d : Dev) => { d with pwr := { d.pwr with railTry := 5 :: [] } }) ((later) d)) d)), by and_intros <;> decide +kernel⟩,
   ⟨0, wst [] (later), by decide +kernel⟩,
   ⟨q0, wst [] (later), by unfold Allowed; decide +kernel⟩,
   ⟨q0, wst [] (later), by unfold Allowed; decide +kernel⟩,
   ⟨q0, 0, wst [] (later), by unfold Allowed; and_intros <;> decide +kernel⟩,
   ⟨5, 0, wst [] (fun d => (fun (d : Dev) => { d with pair := { d.pair with lapseAt := some 5 } }) ((later) d)), by and_intros <;> decide +kernel⟩,
   ⟨0, wst [] (later), by decide +kernel⟩,
   ⟨0, wst [] (fun d => (fun (d : Dev) => { d with pwr := { d.pwr with uvWarn := false } }) ((fun d => (fun (d : Dev) => { d with pwr := { d.pwr with held := true } }) ((later) d)) d)), by and_intros <;> decide +kernel⟩⟩

theorem test_witness_PowerStateCommandsComplete :
  (∃ (dt : Nat) (s : State),
    (s.after dt).get PWR_STS PWR_STS.STAGE = 6 ∧ (s.after dt).memReady = true) ∧
  (∃ (dt : Nat) (s : State),
    ((s.after dt).get PWR_STS PWR_STS.STAGE ≠ 6 ∨ (s.after dt).memReady = false)) ∧
  (∃ (dt : Nat) (s : State),
    (s.after dt).get PWR_STS PWR_STS.STATE = 1 ∧ (s.after dt).bit PWR_STS PWR_STS.READY = false ∧ (∀ n ∈ (s.after dt).memChannels, (s.after dt).bit (MEM_STS n) MEM_STS.INIT_DONE = true) ∧ (s.after dt).bit TTH_CFG TTH_CFG.EN = false) ∧
  (∃ (dt : Nat) (s : State),
    (s.after dt).bit PWR_BOOT PWR_BOOT.PERSISTED = false) ∧
  (∃ (dt : Nat) (s : State),
    (s.after dt).bit PWR_BOOT PWR_BOOT.PERSISTED = true) ∧
  (∃ (q : Req) (target : Fin 8) (s : State),
    Allowed s q PWR_CMD ∧ (target.val = 3 ∨ target.val = 4) ∧ s.dev.get PWR_STS PWR_STS.STATE = 1) ∧
  (∃ (dt : Nat) (s : State),
    (s.after dt).get PWR_STS PWR_STS.STATE = 5 ∧ (s.after dt).pwr.wakeAfter = false ∧ (s.after dt).pwr.target = 3 ∧ (∀ n ∈ (s.after dt).memChannels, (s.after dt).get (MEM_STS n) MEM_STS.STATE = 5)) ∧
  (∃ (dt : Nat) (s : State),
    (s.after dt).get PWR_STS PWR_STS.STATE = 5 ∧ (s.after dt).pwr.wakeAfter = false ∧ (s.after dt).pwr.target = 4) ∧
  (∃ (dt : Nat) (s : State),
    (s.after dt).get PWR_STS PWR_STS.STATE = 5 ∧ (s.after dt).pwr.wakeAfter = true ∧ (s.after dt).pwr.target = 3 ∧ (∀ n ∈ (s.after dt).memChannels, (s.after dt).get (MEM_STS n) MEM_STS.STATE = 5)) ∧
  (∃ (dt : Nat) (s : State),
    (s.after dt).get PWR_STS PWR_STS.STATE ≠ 5) ∧
  (∃ (q : Req) (s : State),
    Allowed s q PWR_CMD) ∧
  (∃ (dt : Nat) (s : State),
    3 ≤ (s.after dt).get PWR_STS PWR_STS.STATE ∧ (s.after dt).get PWR_STS PWR_STS.STATE ≤ 5) ∧
  (∃ (dt : Nat) (s : State),
    ((s.after dt).get PWR_STS PWR_STS.STATE < 3 ∨ 5 < (s.after dt).get PWR_STS PWR_STS.STATE)) ∧
  (∃ (u : Nat) (dt : Nat) (s : State),
    (s.after dt).pwr.wakeAt = some u) ∧
  (∃ (dt : Nat) (s : State),
    (s.after dt).get PWR_STS PWR_STS.STATE = 6 ∧ (s.after dt).pwr.wakeKind = 3 ∧ (s.after dt).pwr.heldIsl = [] ∧ (s.after dt).pwr.armHeld = false) ∧
  (∃ (dt : Nat) (s : State),
    (s.after dt).get PWR_STS PWR_STS.STATE ≠ 6) ∧
  (∃ (dt : Nat) (s : State),
    ((s.after dt).bit PWR_AUTO PWR_AUTO.EN = false ∨ (s.after dt).now < (s.after dt).pwr.evalAt + msTicks 1)) ∧
  (∃ (dt : Nat) (s : State),
    (s.after dt).bit PWR_AUTO PWR_AUTO.EN = true ∧ (s.after dt).pwr.evalAt + msTicks 1 ≤ (s.after dt).now ∧ (s.after dt).get PWR_STS PWR_STS.STATE = 1 ∧ (s.after dt).get PWR_AUTO PWR_AUTO.DEEPEST = 0 ∧ (s.after dt).tNext = none) :=
  ⟨⟨0, wst [(PWR_STS, PWR_STS.STAGE, 6)] (later), by and_intros <;> decide +kernel⟩,
   ⟨0, wst [] (later), by decide +kernel⟩,
   ⟨0, wst [(PWR_STS, PWR_STS.STATE, 1), (PWR_STS, PWR_STS.READY, 0), (TTH_CFG, TTH_CFG.EN, 0)] (later), by and_intros <;> decide +kernel⟩,
   ⟨0, wst [(PWR_BOOT, PWR_BOOT.PERSISTED, 0)] (later), by decide +kernel⟩,
   ⟨0, wst [(PWR_BOOT, PWR_BOOT.PERSISTED, 1)] (later), by decide +kernel⟩,
   ⟨q0, 3, wst [(PWR_STS, PWR_STS.STATE, 1)] (later), by unfold Allowed; and_intros <;> decide +kernel⟩,
   ⟨0, wst [(PWR_STS, PWR_STS.STATE, 5)] (fun d => (fun (d : Dev) => { d with pwr := { d.pwr with target := 3 } }) ((fun d => (fun (d : Dev) => { d with pwr := { d.pwr with wakeAfter := false } }) ((later) d)) d)), by and_intros <;> decide +kernel⟩,
   ⟨0, wst [(PWR_STS, PWR_STS.STATE, 5)] (fun d => (fun (d : Dev) => { d with pwr := { d.pwr with target := 4 } }) ((fun d => (fun (d : Dev) => { d with pwr := { d.pwr with wakeAfter := false } }) ((later) d)) d)), by and_intros <;> decide +kernel⟩,
   ⟨0, wst [(PWR_STS, PWR_STS.STATE, 5)] (fun d => (fun (d : Dev) => { d with pwr := { d.pwr with target := 3 } }) ((fun d => (fun (d : Dev) => { d with pwr := { d.pwr with wakeAfter := true } }) ((later) d)) d)), by and_intros <;> decide +kernel⟩,
   ⟨0, wst [] (later), by decide +kernel⟩,
   ⟨q0, wst [] (later), by unfold Allowed; decide +kernel⟩,
   ⟨0, wst [(PWR_STS, PWR_STS.STATE, 4)] (later), by and_intros <;> decide +kernel⟩,
   ⟨0, wst [] (later), by decide +kernel⟩,
   ⟨5, 0, wst [] (fun d => (fun (d : Dev) => { d with pwr := { d.pwr with wakeAt := some 5 } }) ((later) d)), by decide +kernel⟩,
   ⟨0, wst [(PWR_STS, PWR_STS.STATE, 6)] (fun d => (fun (d : Dev) => { d with pwr := { d.pwr with armHeld := false } }) ((fun d => (fun (d : Dev) => { d with pwr := { d.pwr with heldIsl := [] } }) ((fun d => (fun (d : Dev) => { d with pwr := { d.pwr with wakeKind := 3 } }) ((later) d)) d)) d)), by and_intros <;> decide +kernel⟩,
   ⟨0, wst [] (later), by decide +kernel⟩,
   ⟨0, wst [] (later), by decide +kernel⟩,
   ⟨0, wst [(PWR_AUTO, PWR_AUTO.EN, 1), (PWR_STS, PWR_STS.STATE, 1), (PWR_AUTO, PWR_AUTO.DEEPEST, 0)] (later), by and_intros <;> decide +kernel⟩⟩

def w_JoinAndGuardCommandsComplete_5 : State :=
  wst [(BRD_STS, BRD_STS.ROLE, 1)] (fun d => (fun (d : Dev) => { d with pair := { d.pair with gotConf := none } }) ((fun d => (fun (d : Dev) => { d with bl := { d.bl with phase := 3 } }) ((fun (d : Dev) => later ((d.wrN (HC_GEOM_NOZ 0) 0).wrN (HC_GEOM_NOZ 1) 0)) d)) d))

theorem test_witness_JoinAndGuardCommandsComplete :
  (∃ (dt : Nat) (s : State),
    (s.after dt).brdUp = true ∧ (s.after dt).role ≠ 4 ∧ (s.after dt).pair.offerAt + usTicks 10 ≤ (s.after dt).now) ∧
  (∃ (dt : Nat) (s : State),
    ((s.after dt).brdUp = false ∨ ((s.after dt).role ≠ 4 ∧ (s.after dt).now < (s.after dt).pair.offerAt + usTicks 10))) ∧
  (∃ (dt : Nat) (s : State),
    ((s.after dt).brdUp = false ∨ (s.after dt).role = 0)) ∧
  (∃ (bs : List Byte) (dt : Nat) (s : State),
    (s.after dt).brdUp = true ∧ (s.after dt).role = 1 ∧ (s.after dt).joined = false ∧ ((s.after dt).peerJoin bs).joinReason bs ≠ 0) ∧
  (∃ (dt : Nat) (s : State) (bs : List Byte),
    (s.after dt).brdUp = true ∧ (s.after dt).role = 1 ∧ (s.after dt).joined = false ∧ ((s.after dt).peerJoin bs).joinReason bs = 0 ∧ (s.after dt).pair.gotConf = none) ∧
  (∃ (bs : List Byte) (dt : Nat) (s : State),
    (s.after dt).brdUp = true ∧ (s.after dt).role ≠ 0 ∧ leField bs 3 1 = 0 ∧ (s.after dt).pair.sentConf = none) ∧
  (∃ (u : Nat) (dt : Nat) (s : State),
    (s.after dt).islUp 7 = true ∧ (s.after dt).pair.hbAt = some u ∧ hbClass ((s.after dt).now - u) = (s.after dt).hbPeer ∧ (s.after dt).pair.hbLast = (s.after dt).hbPeer) ∧
  (∃ (u : Nat) (dt : Nat) (s : State),
    (s.after dt).islUp 7 = true ∧ (s.after dt).pair.hbAt = some u ∧ hbClass ((s.after dt).now - u) = 1 ∧ (s.after dt).pair.hbLast = 1) ∧
  (∃ (u : Nat) (dt : Nat) (s : State),
    (s.after dt).islUp 7 = true ∧ (s.after dt).pair.hbAt = some u ∧ u + usTicks ((s.after dt).get BRD_HB BRD_HB.MISS) ≤ (s.after dt).now) ∧
  (∃ (u : Nat) (dt : Nat) (s : State),
    (s.after dt).pair.hbAt = some u ∧ (s.after dt).now < u + usTicks ((s.after dt).get BRD_HB BRD_HB.MISS)) ∧
  (∃ (q : Req) (s : State),
    Allowed s q BRD_KICK) ∧
  (∃ (dt : Nat) (s : State),
    (s.after dt).guardOk = true) ∧
  (∃ (dt : Nat) (s : State),
    (s.after dt).guardOk = false) ∧
  (∃ (dt : Nat) (s : State),
    (s.after dt).guardOk = true ∧ (s.after dt).pair.kickAt + usTicks ((s.after dt).get BRD_GUARD BRD_GUARD.KICK_TMO) ≤ (s.after dt).now) ∧
  (∃ (dt : Nat) (s : State),
    ((s.after dt).guardOk = false ∨ (s.after dt).now < (s.after dt).pair.kickAt + usTicks ((s.after dt).get BRD_GUARD BRD_GUARD.KICK_TMO))) ∧
  (∃ (q : Req) (s : State),
    Allowed s q BRD_CMD ∧ s.dev.guardOk = true) ∧
  (∃ (u : Nat) (dt : Nat) (s : State),
    (s.after dt).pair.relinquishAt = some u ∧ (s.after dt).test.scanned = false ∧ u + msTicks 1 ≤ (s.after dt).now ∧ (s.after dt).guardOk = false) ∧
  (∃ (dt : Nat) (s : State),
    (s.after dt).pair.arb = true ∧ (s.after dt).pair.silent = false) ∧
  (∃ (dt : Nat) (s : State),
    (s.after dt).pair.arb = false) :=
  ⟨⟨0, wst [] (fun d => (fun (d : Dev) => { d with bl := { d.bl with phase := 3 } }) ((later) d)), by and_intros <;> decide +kernel⟩,
   ⟨0, wst [] (later), by and_intros <;> decide +kernel⟩,
   ⟨0, wst [] (later), by decide +kernel⟩,
   ⟨[], 0, wst [(BRD_STS, BRD_STS.ROLE, 1)] (fun d => (fun (d : Dev) => { d with bl := { d.bl with phase := 3 } }) ((fun (d : Dev) => later ((d.wrN (HC_GEOM_NOZ 0) 0).wrN (HC_GEOM_NOZ 1) 0)) d)), by and_intros <;> decide +kernel⟩,
   ⟨0, w_JoinAndGuardCommandsComplete_5, (((jb w_JoinAndGuardCommandsComplete_5.dev).take 8).set 4 1 ++ List.replicate 8 0 ++ (jb w_JoinAndGuardCommandsComplete_5.dev).drop 16), by and_intros <;> decide +kernel⟩,
   ⟨[1,1,1,0,0,0], 0, wst [(BRD_STS, BRD_STS.ROLE, 1)] (fun d => (fun (d : Dev) => { d with pair := { d.pair with sentConf := none } }) ((fun d => (fun (d : Dev) => { d with bl := { d.bl with phase := 3 } }) ((later) d)) d)), by and_intros <;> decide +kernel⟩,
   ⟨3, 0, wst [] (fun d => later (pairW { hbAt := some 3 } d)), by and_intros <;> decide +kernel⟩,
   ⟨10000000000 - usTicks 1, 0, wst [] (fun d => later (pairW { hbAt := some (10000000000 - usTicks 1), hbLast := 1 } d)), by and_intros <;> decide +kernel⟩,
   ⟨5, 0, wst [] (fun d => (fun (d : Dev) => { d with pair := { d.pair with hbAt := some 5 } }) ((later) d)), by and_intros <;> decide +kernel⟩,
   ⟨5, 0, wst [] (fun d => (fun (d : Dev) => { d with pair := { d.pair with hbAt := some 5 } }) ((fun d => d) d)), by and_intros <;> decide +kernel⟩,
   ⟨q0, wst [] (later), by unfold Allowed; decide +kernel⟩,
   ⟨0, wst [(BRD_STS, BRD_STS.GUARD_OK, 1)] (later), by decide +kernel⟩,
   ⟨0, wst [] (later), by decide +kernel⟩,
   ⟨0, wst [(BRD_STS, BRD_STS.GUARD_OK, 1)] (later), by and_intros <;> decide +kernel⟩,
   ⟨0, wst [] (later), by decide +kernel⟩,
   ⟨q0, wst [(BRD_STS, BRD_STS.GUARD_OK, 1)] (later), by unfold Allowed; and_intros <;> decide +kernel⟩,
   ⟨5, 0, wst [] (fun d => (fun (d : Dev) => { d with pair := { d.pair with relinquishAt := some 5 } }) ((later) d)), by and_intros <;> decide +kernel⟩,
   ⟨0, wst [] (fun d => (fun (d : Dev) => { d with pair := { d.pair with silent := false } }) ((fun d => (fun (d : Dev) => { d with pair := { d.pair with arb := true } }) ((later) d)) d)), by and_intros <;> decide +kernel⟩,
   ⟨0, wst [] (fun d => (fun (d : Dev) => { d with pair := { d.pair with arb := false } }) ((later) d)), by decide +kernel⟩⟩

theorem test_witness_PairRoleCommandsComplete :
  (∃ (dt : Nat) (s : State),
    (s.after dt).role = 1 ∧ (s.after dt).hbPeer ≠ 2 ∧ (s.after dt).guardOk = true ∧ (s.after dt).pair.seekAt + msTicks 1 ≤ (s.after dt).now ∧ (s.after dt).bit BRD_STS BRD_STS.HOLDOFF = false ∧ (s.after dt).strap.rank = false) ∧
  (∃ (dt : Nat) (s : State),
    (s.after dt).role = 1 ∧ (s.after dt).hbPeer ≠ 2 ∧ (s.after dt).guardOk = true ∧ (s.after dt).pair.seekAt + msTicks 1 ≤ (s.after dt).now ∧ (s.after dt).bit BRD_STS BRD_STS.HOLDOFF = false ∧ (s.after dt).strap.rank = true) ∧
  (∃ (dt : Nat) (s : State),
    ((s.after dt).role ≠ 1 ∨ (s.after dt).hbPeer = 2 ∨ (s.after dt).guardOk = false ∨ (s.after dt).now < (s.after dt).pair.seekAt + msTicks 1)) ∧
  (∃ (dt : Nat) (s : State),
    (s.after dt).role = 1 ∧ (s.after dt).bit BRD_STS BRD_STS.HOLDOFF = true ∧ (s.after dt).pair.holdAt + usTicks 50 ≤ (s.after dt).now ∧ (s.after dt).hbPeer ≠ 2 ∧ (s.after dt).guardOk = true) ∧
  (∃ (dt : Nat) (s : State),
    (s.after dt).standby = true ∧ (s.after dt).bit BRD_STS BRD_STS.HOLDOFF = false ∧ (s.after dt).hbPeer ≠ 2 ∧ (s.after dt).guardOk = true ∧ (s.after dt).pair.yielded = false ∧ (s.after dt).sync = 2) ∧
  (∃ (dt : Nat) (s : State),
    ((s.after dt).standby = false ∨ (s.after dt).bit BRD_STS BRD_STS.HOLDOFF = true ∨ (s.after dt).hbPeer = 2 ∨ (s.after dt).guardOk = false)) ∧
  (∃ (dt : Nat) (s : State),
    (s.after dt).standby = true ∧ (s.after dt).bit BRD_STS BRD_STS.HOLDOFF = true ∧ (s.after dt).pair.holdAt + usTicks 50 ≤ (s.after dt).now) ∧
  (∃ (dt : Nat) (s : State),
    (s.after dt).now < (s.after dt).pair.holdAt + usTicks 50) ∧
  (∃ (u : Nat) (dt : Nat) (s : State),
    (s.after dt).role = 3 ∧ (s.after dt).hbPeer = 0 ∧ (s.after dt).pair.rxAt = some u ∧ u + usTicks 20 ≤ (s.after dt).now ∧ (s.after dt).pair.lost = false) ∧
  (∃ (dt : Nat) (s : State),
    ((s.after dt).role ≠ 3 ∨ (s.after dt).hbPeer ≠ 0 ∨ (s.after dt).pair.lost = true)) ∧
  (∃ (dt : Nat) (s : State),
    (s.after dt).brdUp = true ∧ (s.after dt).pair.txAt + usTicks 5 ≤ (s.after dt).now) ∧
  (∃ (dt : Nat) (s : State),
    ((s.after dt).brdUp = false ∨ (s.after dt).now < (s.after dt).pair.txAt + usTicks 5)) ∧
  (∃ (role : Fin 5) (dt : Nat) (s : State),
    (s.after dt).brdUp = true ∧ role.val ≠ 3) ∧
  (∃ (dt : Nat) (s : State),
    (s.after dt).brdUp = false) :=
  ⟨⟨0, wst [(BRD_STS, BRD_STS.HOLDOFF, 0), (BRD_STS, BRD_STS.ROLE, 1), (BRD_STS, BRD_STS.GUARD_OK, 1)] (later), by and_intros <;> decide +kernel⟩,
   ⟨0, wst [(BRD_STS, BRD_STS.HOLDOFF, 0), (BRD_STS, BRD_STS.ROLE, 1), (BRD_STS, BRD_STS.GUARD_OK, 1)] (fun d => later { d with strap := { d.strap with rank := true } }), by and_intros <;> decide +kernel⟩,
   ⟨0, wst [] (later), by decide +kernel⟩,
   ⟨0, wst [(BRD_STS, BRD_STS.HOLDOFF, 1), (BRD_STS, BRD_STS.ROLE, 1), (BRD_STS, BRD_STS.GUARD_OK, 1)] (later), by and_intros <;> decide +kernel⟩,
   ⟨0, wst [(BRD_STS, BRD_STS.HOLDOFF, 0), (BRD_STS, BRD_STS.ROLE, 2), (BRD_STS, BRD_STS.GUARD_OK, 1), (BRD_STS, BRD_STS.SYNC, 2)] (fun d => (fun (d : Dev) => { d with pair := { d.pair with yielded := false } }) ((later) d)), by and_intros <;> decide +kernel⟩,
   ⟨0, wst [] (later), by decide +kernel⟩,
   ⟨0, wst [(BRD_STS, BRD_STS.HOLDOFF, 1), (BRD_STS, BRD_STS.ROLE, 2)] (later), by and_intros <;> decide +kernel⟩,
   ⟨0, wst [] (fun d => d), by decide +kernel⟩,
   ⟨5, 0, wst [(BRD_STS, BRD_STS.ROLE, 3), (BRD_STS, BRD_STS.HB_PEER, 0)] (fun d => (fun (d : Dev) => { d with pair := { d.pair with lost := false } }) ((fun d => (fun (d : Dev) => { d with pair := { d.pair with rxAt := some 5 } }) ((later) d)) d)), by and_intros <;> decide +kernel⟩,
   ⟨0, wst [] (later), by decide +kernel⟩,
   ⟨0, wst [] (fun d => (fun (d : Dev) => { d with bl := { d.bl with phase := 3 } }) ((later) d)), by and_intros <;> decide +kernel⟩,
   ⟨0, wst [] (later), by decide +kernel⟩,
   ⟨0, 0, wst [] (fun d => (fun (d : Dev) => { d with bl := { d.bl with phase := 3 } }) ((later) d)), by and_intros <;> decide +kernel⟩,
   ⟨0, wst [] (later), by decide +kernel⟩⟩

theorem test_witness_PairSyncCommandsComplete :
  (∃ (dt : Nat) (s : State),
    (s.after dt).standby = false) ∧
  (∃ (p : Int) (dt : Nat) (s : State),
    (s.after dt).standby = true ∧ (s.after dt).joined = true ∧ (s.after dt).pair.zP = some p ∧ (s.after dt).pair.syncWait = true ∧ (s.after dt).pair.snap = false) ∧
  (∃ (peerP : Int) (p : Int) (dt : Nat) (s : State),
    (s.after dt).standby = true ∧ (s.after dt).joined = true ∧ (s.after dt).pair.zP = some p ∧ (s.after dt).pair.syncWait = false ∧ (s.after dt).sync ≠ 1 ∧ ((peerP - p).natAbs * 16777216 : Int) ≤ ((s.after dt).source (s.after dt).pac.use).ratio) ∧
  (∃ (dt : Nat) (s : State),
    (s.after dt).standby = true ∧ (s.after dt).sync ≠ 0 ∧ (s.after dt).digest ≠ (s.after dt).rdN BRD_PEER_DIGEST) ∧
  (∃ (job : Word) (start : Int) (j : Job) (dt : Nat) (s : State),
    (s.after dt).standby = true ∧ (s.after dt).sync ≠ 0 ∧ (s.after dt).digest = (s.after dt).rdN BRD_PEER_DIGEST ∧ (s.after dt).jobOf job.toNat = some j ∧ j.state < 3 ∧ (∀ c ∈ j.chans, 2048 ≤ start + 256 * ((j.resume.getD 0 : Nat) : Int) + (s.after dt).rowDelay c - (s.after dt).P) ∧ (s.after dt).headJob.map (·.id) = some j.id) ∧
  (∃ (dt : Nat) (s : State),
    (s.after dt).joined = true ∧ (s.after dt).fir.recs = []) ∧
  (∃ (dt : Nat) (s : State),
    (s.after dt).joined = false) ∧
  (∃ (own : LineRec) (r : PeerRec) (dt : Nat) (s : State),
    (s.after dt).joined = true ∧ (s.after dt).fir.recs = [own] ∧ (s.after dt).pair.recs = [] ∧ own.chan = r.chan.val ∧ (s.after dt).recLine r.chan.val r.tag.val % 65536 = own.line % 65536 ∧ own.disp = 0 ∧ r.disp.val = 0 ∧ own.crc = r.crc.val ∧ (s.after dt).standby = false) ∧
  (∃ (dt : Nat) (s : State),
    (∀ r ∈ (s.after dt).fir.recs, (s.after dt).now < r.at_ + usTicks 50)) ∧
  (∃ (dt : Nat) (s : State),
    (∃ r ∈ (s.after dt).fir.recs, r.at_ + usTicks 50 ≤ (s.after dt).now) ∧ (s.after dt).standby = true ∧ (s.after dt).sync ≠ 0) ∧
  (∃ (q : Req) (s : State),
    Allowed s q BRD_CMD ∧ s.dev.standby = true ∧ s.dev.sync ≠ 0) ∧
  (∃ (q : Req) (s : State),
    Allowed s q BRD_CMD ∧ s.dev.standby = true ∧ s.dev.sync = 0 ∧ s.dev.joined = true) ∧
  (∃ (u : Nat) (dt : Nat) (s : State),
    (s.after dt).pair.detachAt = some u ∧ ((s.after dt).pair.manual = true ∨ (s.after dt).now < u + msTicks 1)) ∧
  (∃ (u : Nat) (dt : Nat) (s : State),
    (s.after dt).pair.detachAt = some u ∧ (s.after dt).pair.manual = false ∧ u + msTicks 1 ≤ (s.after dt).now ∧ (s.after dt).standby = true ∧ (s.after dt).sync = 0 ∧ (s.after dt).joined = true) ∧
  (∃ (dt : Nat) (s : State),
    (s.after dt).joined = true ∧ (s.after dt).standby = true) ∧
  (∃ (dt : Nat) (s : State),
    (s.after dt).joined = false) ∧
  (∃ (dt : Nat) (s : State),
    (s.after dt).standby = true) ∧
  (∃ (dt : Nat) (s : State),
    (s.after dt).standby = true) :=
  ⟨⟨0, wst [] (later), by decide +kernel⟩,
   ⟨7, 0, wst [(BRD_STS, BRD_STS.ROLE, 2), (BRD_STS, BRD_STS.VER, 1)] (fun d => (fun (d : Dev) => { d with pair := { d.pair with snap := false } }) ((fun d => (fun (d : Dev) => { d with pair := { d.pair with syncWait := true } }) ((fun d => (fun (d : Dev) => { d with pair := { d.pair with zP := some 7 } }) ((later) d)) d)) d)), by and_intros <;> decide +kernel⟩,
   ⟨0, 7, 0, wst [(BRD_STS, BRD_STS.ROLE, 2), (BRD_STS, BRD_STS.VER, 1)] (fun d => (fun (d : Dev) => { d with pair := { d.pair with syncWait := false } }) ((fun d => (fun (d : Dev) => { d with pair := { d.pair with zP := some 7 } }) ((later) d)) d)), by and_intros <;> decide +kernel⟩,
   ⟨0, wst [(BRD_STS, BRD_STS.ROLE, 2), (BRD_STS, BRD_STS.SYNC, 2)] (fun (d : Dev) => later ((d.wrN (HC_GEOM_NOZ 0) 0).wrN (HC_GEOM_NOZ 1) 0)), by and_intros <;> decide +kernel⟩,
   ⟨0, 10000, J0, 0, wst [(BRD_STS, BRD_STS.ROLE, 2), (BRD_STS, BRD_STS.SYNC, 2)] (fun (d : Dev) => (fun (d : Dev) => d.wrN BRD_PEER_DIGEST d.digest) (jobs [J0] ((d.wrN (HC_GEOM_NOZ 0) 0).wrN (HC_GEOM_NOZ 1) 0))), by and_intros <;> decide +kernel⟩,
   ⟨0, wst [(BRD_STS, BRD_STS.VER, 1)] (later), by and_intros <;> decide +kernel⟩,
   ⟨0, wst [] (later), by decide +kernel⟩,
   ⟨⟨0,0,0,7,0,0⟩, ⟨0, 0, 0, 7, 0⟩, 0, wst [(BRD_STS, BRD_STS.VER, 1)] (fun d => (fun (d : Dev) => { d with pair := { d.pair with recs := [] } }) ((fun d => later (fir { recs := [⟨0,0,0,7,0,0⟩] } d)) d)), by and_intros <;> decide +kernel⟩,
   ⟨0, wst [] (later), by decide +kernel⟩,
   ⟨0, wst [(BRD_STS, BRD_STS.ROLE, 2), (BRD_STS, BRD_STS.SYNC, 2)] (fun d => later (fir { recs := [⟨0,0,0,7,0,0⟩] } d)), by and_intros <;> decide +kernel⟩,
   ⟨q0, wst [(BRD_STS, BRD_STS.ROLE, 2), (BRD_STS, BRD_STS.SYNC, 2)] (later), by unfold Allowed; and_intros <;> decide +kernel⟩,
   ⟨q0, wst [(BRD_STS, BRD_STS.ROLE, 2), (BRD_STS, BRD_STS.SYNC, 0), (BRD_STS, BRD_STS.VER, 1)] (later), by unfold Allowed; and_intros <;> decide +kernel⟩,
   ⟨5, 0, wst [] (fun d => (fun (d : Dev) => { d with pair := { d.pair with detachAt := some 5 } }) ((fun d => d) d)), by and_intros <;> decide +kernel⟩,
   ⟨5, 0, wst [(BRD_STS, BRD_STS.ROLE, 2), (BRD_STS, BRD_STS.SYNC, 0), (BRD_STS, BRD_STS.VER, 1)] (fun d => (fun (d : Dev) => { d with pair := { d.pair with manual := false } }) ((fun d => (fun (d : Dev) => { d with pair := { d.pair with detachAt := some 5 } }) ((later) d)) d)), by and_intros <;> decide +kernel⟩,
   ⟨0, wst [(BRD_STS, BRD_STS.VER, 1), (BRD_STS, BRD_STS.ROLE, 2)] (later), by and_intros <;> decide +kernel⟩,
   ⟨0, wst [] (later), by decide +kernel⟩,
   ⟨0, wst [(BRD_STS, BRD_STS.ROLE, 2)] (later), by decide +kernel⟩,
   ⟨0, wst [(BRD_STS, BRD_STS.ROLE, 2)] (later), by decide +kernel⟩⟩

theorem test_witness_AgreementAndSwapCommandsComplete :
  (∃ (dt : Nat) (s : State),
    (s.after dt).standby = true ∧ (s.after dt).joined = true ∧ (s.after dt).pair.asked = []) ∧
  (∃ (id : Fin 65536) (dt : Nat) (s : State),
    (∀ p ∈ (s.after dt).pair.props, p.id ≠ id.val)) ∧
  (∃ (id : Fin 65536) (line : BitVec 40) (p : PairProp) (dt : Nat) (s : State),
    (s.after dt).activeOfPair = true ∧ (s.after dt).pair.props.find? (fun p => p.id == id.val) = some p ∧ (s.after dt).unreleased p.mask ≤ line.toNat) ∧
  (∃ (id : Fin 65536) (line : BitVec 40) (p : PairProp) (dt : Nat) (s : State),
    (s.after dt).standby = true ∧ (s.after dt).sync ≠ 0 ∧ (s.after dt).pair.asked.find? (fun p => p.id == id.val) = some p ∧ line.toNat < (s.after dt).unreleased p.mask) ∧
  (∃ (id : Fin 65536) (line : BitVec 40) (p : PairProp) (dt : Nat) (s : State),
    (s.after dt).standby = true ∧ (s.after dt).pair.asked.find? (fun p => p.id == id.val) = some p ∧ (s.after dt).unreleased p.mask ≤ line.toNat) ∧
  (∃ (p : PairProp) (dt : Nat) (s : State),
    (s.after dt).activeOfPair = true ∧ (s.after dt).pair.props = [p]) ∧
  (∃ (q : Req) (s : State),
    Allowed s q BRD_CMD ∧ s.dev.activeOfPair = true ∧ s.dev.pair.swap = none ∧ (s.dev.joined = false ∨ s.dev.pair.peerSync ≠ 2)) ∧
  (∃ (q : Req) (s : State),
    Allowed s q BRD_CMD ∧ s.dev.activeOfPair = true ∧ s.dev.pair.swap = none ∧ s.dev.joined = true ∧ s.dev.pair.peerSync = 2) ∧
  (∃ (dt : Nat) (s : State),
    (s.after dt).activeOfPair = true ∧ (s.after dt).bit BRD_CFG BRD_CFG.AUTO_SWAP = true ∧ (s.after dt).tethUp = false ∧ (s.after dt).teth.downAt + msTicks 1 ≤ (s.after dt).now ∧ (s.after dt).pair.peerTether = true ∧ (s.after dt).joined = true ∧ (s.after dt).pair.peerSync = 2 ∧ (s.after dt).pair.swap = none) ∧
  (∃ (dt : Nat) (s : State),
    ((s.after dt).activeOfPair = false ∨ (s.after dt).tethUp = true ∨ (s.after dt).now < (s.after dt).teth.downAt + msTicks 1)) ∧
  (∃ (l : Nat) (cause : Nat) (dt : Nat) (s : State),
    (s.after dt).pair.swap = some (l, cause) ∧ (s.after dt).swapDue l = true ∧ (∀ p ∈ (s.after dt).pair.props, p.kind ≠ 7) ∧ (s.after dt).activeOfPair = true ∧ (s.after dt).pair.peerSync = 2 ∧ (∀ k : Fin 4, (s.after dt).lbOn k.val = false)) ∧
  (∃ (l : Nat) (cause : Nat) (dt : Nat) (s : State),
    (s.after dt).pair.swap = some (l, cause) ∧ (s.after dt).swapDue l = true ∧ (∀ p ∈ (s.after dt).pair.props, p.kind ≠ 7) ∧ (s.after dt).standby = true) ∧
  (∃ (dt : Nat) (s : State),
    (∀ l cause, (s.after dt).pair.swap = some (l, cause) → (s.after dt).swapDue l = false)) ∧
  (∃ (u : Nat) (dt : Nat) (s : State),
    (s.after dt).pair.swapHold = some u ∧ u + usTicks 10 ≤ (s.after dt).now) ∧
  (∃ (u : Nat) (dt : Nat) (s : State),
    (s.after dt).pair.swapHold = some u ∧ (s.after dt).now < u + usTicks 10) :=
  ⟨⟨0, wst [(BRD_STS, BRD_STS.ROLE, 2), (BRD_STS, BRD_STS.VER, 1)] (fun d => (fun (d : Dev) => { d with pair := { d.pair with asked := [] } }) ((later) d)), by and_intros <;> decide +kernel⟩,
   ⟨0, 0, wst [] (later), by decide +kernel⟩,
   ⟨5, 100, prop0, 0, wst [(BRD_STS, BRD_STS.ROLE, 3)] (fun d => later (pairW { props := [prop0] } d)), by and_intros <;> decide +kernel⟩,
   ⟨5, 0, prop0, 0, wst [(BRD_STS, BRD_STS.ROLE, 2), (BRD_STS, BRD_STS.SYNC, 2)] (fun d => later (hcw { rMax := some 50 } (pairW { asked := [prop0] } d))), by and_intros <;> decide +kernel⟩,
   ⟨5, 100, prop0, 0, wst [(BRD_STS, BRD_STS.ROLE, 2)] (fun d => later (pairW { asked := [prop0] } d)), by and_intros <;> decide +kernel⟩,
   ⟨prop0, 0, wst [(BRD_STS, BRD_STS.ROLE, 3)] (fun d => (fun (d : Dev) => { d with pair := { d.pair with props := [prop0] } }) ((later) d)), by and_intros <;> decide +kernel⟩,
   ⟨q0, wst [(BRD_STS, BRD_STS.ROLE, 3)] (fun d => (fun (d : Dev) => { d with pair := { d.pair with swap := none } }) ((later) d)), by unfold Allowed; and_intros <;> decide +kernel⟩,
   ⟨q0, wst [(BRD_STS, BRD_STS.ROLE, 3), (BRD_STS, BRD_STS.VER, 1)] (fun d => (fun (d : Dev) => { d with pair := { d.pair with peerSync := 2 } }) ((fun d => (fun (d : Dev) => { d with pair := { d.pair with swap := none } }) ((later) d)) d)), by unfold Allowed; and_intros <;> decide +kernel⟩,
   ⟨0, wst [(BRD_CFG, BRD_CFG.AUTO_SWAP, 1), (BRD_STS, BRD_STS.ROLE, 3), (BRD_STS, BRD_STS.VER, 1)] (fun d => (fun (d : Dev) => { d with pair := { d.pair with swap := none } }) ((fun d => (fun (d : Dev) => { d with pair := { d.pair with peerSync := 2 } }) ((fun d => (fun (d : Dev) => { d with pair := { d.pair with peerTether := true } }) ((later) d)) d)) d)), by and_intros <;> decide +kernel⟩,
   ⟨0, wst [] (later), by decide +kernel⟩,
   ⟨3, 1, 0, wst [(BRD_STS, BRD_STS.ROLE, 3)] (fun d => (fun (d : Dev) => { d with pair := { d.pair with peerSync := 2 } }) ((fun d => (fun (d : Dev) => { d with pair := { d.pair with swap := some (3, 1) } }) ((later) d)) d)), by and_intros <;> decide +kernel⟩,
   ⟨3, 1, 0, wst [(BRD_STS, BRD_STS.ROLE, 2)] (fun d => (fun (d : Dev) => { d with pair := { d.pair with swap := some (3, 1) } }) ((later) d)), by and_intros <;> decide +kernel⟩,
   ⟨0, wst [] (later), fun l c h => nomatch (show none = some (l, c) from h)⟩,
   ⟨5, 0, wst [] (fun d => (fun (d : Dev) => { d with pair := { d.pair with swapHold := some 5 } }) ((later) d)), by and_intros <;> decide +kernel⟩,
   ⟨5, 0, wst [] (fun d => (fun (d : Dev) => { d with pair := { d.pair with swapHold := some 5 } }) ((fun d => d) d)), by and_intros <;> decide +kernel⟩⟩

theorem test_witness_FramesAndBodiesTravelWhole :
  (∃ (bs : List Byte),
    20 ≤ bs.length) ∧
  (∃ (bs : List Byte) (i : Nat),
    i < bs.length) :=
  ⟨⟨List.replicate 20 0, by decide +kernel⟩,
   ⟨[1,2,3,4,5,6,7,8], 7, by decide +kernel⟩⟩

end Sys2Proof.Tests
end

section
/-! Proofs about one register access: what the access types of R9 leave, what a checked read or write of the bus comes to, and the
statements about the register commands that rest on them. -/

namespace Sys2Proof.Machine

/-! ## The access types of R9 -/

/-- A 32-bit complement turns each of the 32 bits over. -/
theorem testBit_complement32 (m i : Nat) (hi : i < 32) : (0xFFFFFFFF ^^^ m).testBit i = !m.testBit i := by
  have ones : (0xFFFFFFFF : Nat).testBit i = true := by
    have := Nat.testBit_two_pow_sub_one 32 i
    simpa [hi] using this
  simp [Nat.testBit_xor, ones]

/-- R9, bit by bit: RW bits take the written bit, W1C bits clear where 1 is written, every other bit stays. -/
theorem Dev.testBit_rd_typedWrite (d : Dev) (a : Nat) (v : Word) (i : Nat) (hi : i < 32) :
    ((d.typedWrite a v).rd a).toNat.testBit i =
      if (regMasks a).1.testBit i then v.toNat.testBit i
      else (d.rd a).toNat.testBit i && !((regMasks a).2.1.testBit i && v.toNat.testBit i) := by
  simp only [Dev.typedWrite, Dev.rd_wrN, if_true, BitVec.toNat_ofNat, Nat.testBit_mod_two_pow, hi, decide_true, Bool.true_and,
    Nat.testBit_or, Nat.testBit_and, testBit_complement32 _ _ hi, Dev.rdN]
  cases (regMasks a).1.testBit i <;> simp

theorem Dev.rd_typedWrite_ne (d : Dev) {a b : Nat} (v : Word) (h : b ≠ a) : (d.typedWrite a v).rd b = d.rd b :=
  Dev.rd_wr_ne d _ h

/-- What a typed write leaves follows from the register's value alone. -/
theorem Dev.rd_typedWrite_congr {d e : Dev} {a : Nat} (v : Word) (h : d.rd a = e.rd a) :
    (d.typedWrite a v).rd a = (e.typedWrite a v).rd a := by
  simp [Dev.typedWrite, Dev.rd_wrN, Dev.rdN, h]

/-- A register of 32 RW bits takes the written word. -/
theorem Dev.rd_typedWrite_of_rw (d : Dev) (a : Nat) (v : Word) (h : (regMasks a).1 = 0xFFFFFFFF) : (d.typedWrite a v).rd a = v := by
  apply BitVec.eq_of_getLsbD_eq
  intro i hi
  have all : (regMasks a).1.testBit i = true := by
    simpa [h, hi] using Nat.testBit_two_pow_sub_one 32 i
  rw [BitVec.getLsbD, BitVec.getLsbD, Dev.testBit_rd_typedWrite d a v i hi, if_pos all]

/-- A field of RW bits reads as the written field. -/
theorem Dev.get_typedWrite_of_rw (d : Dev) (a : Nat) (v : Word) (f : Fld) (hf : f.lo + f.width ≤ 32)
    (h : ∀ i, i < f.width → (regMasks a).1.testBit (f.lo + i) = true) : (d.typedWrite a v).get a f = v.fld f := by
  apply Nat.eq_of_testBit_eq
  intro j
  simp only [Dev.get, Word.fld, Nat.testBit_mod_two_pow, Nat.testBit_div_two_pow]
  by_cases hj : j < f.width
  · rw [Nat.add_comm, Dev.testBit_rd_typedWrite d a v _ (by omega), if_pos (h j hj)]
  · simp [hj]

/-- Reading a register clears its RC bits and leaves its others (R9). -/
theorem Dev.rd_readClear (d : Dev) (a : Nat) :
    (d.readClear a).rd a = d.rd a &&& BitVec.ofNat 32 (0xFFFFFFFF ^^^ (regMasks a).2.2) := by
  simp only [Dev.readClear]
  split
  · next h => rw [h]; exact (BitVec.and_allOnes).symm
  · rw [Dev.rd_wrN, if_pos rfl, BitVec.ofNat_and, Dev.rdN, BitVec.ofNat_toNat, BitVec.setWidth_eq]

theorem Frame.readClear (rs : List Nat) (ps : List Part) (d : Dev) (a : Nat) (h : a ∈ rs) : Frame rs ps d (d.readClear a) := by
  simp only [Dev.readClear]
  split
  · exact Frame.refl rs ps d
  · exact Frame.wrN rs ps d a _ h

@[simp] theorem Dev.readClear_host (d : Dev) (a : Nat) : (d.readClear a).host = d.host := by
  simp only [Dev.readClear]; split <;> rfl

/-! ## The ports' hold and capture registers (R11) -/

@[simp] theorem Dev.lowPart_holdLow (d : Dev) (q : Req) (a : Nat) (v : Word) : (d.holdLow q a v).lowPart q a = v := by
  simp [Dev.lowPart, Dev.holdLow]

theorem Frame.holdLow (rs : List Nat) (ps : List Part) (d : Dev) (q : Req) (a : Nat) (v : Word) (h : Part.host ∈ ps) :
    Frame rs ps d (d.holdLow q a v) :=
  Frame.modHost rs ps d (fun x => { x with holds := tput (fun _ => none) x.holds (portKey q a) (some v) }) h

theorem Frame.capture (rs : List Nat) (ps : List Part) (d : Dev) (q : Req) (a : Nat) (v : Word) (h : Part.host ∈ ps) :
    Frame rs ps d (d.capture q a v) :=
  Frame.modHost rs ps d (fun x => { x with captures := tput (fun _ => 0) x.captures (portKey q a) v.toNat }) h

/-- A port's captures at different addresses are apart. -/
theorem Dev.captured_capture (d : Dev) (q : Req) (a b : Nat) (v : Word) :
    (d.capture q a v).captured q b = if b = a then v else d.captured q b := by
  have key : portKey q b = portKey q a ↔ b = a := by simp [portKey]
  simp only [Dev.captured, Dev.capture, tget_tput, key]
  split <;> simp

/-- Captures at a list of addresses: each address of the list then holds its word, and every other what it held. -/
theorem Dev.captured_each_capture (q : Req) (f : Nat → Nat) (w : Nat → Word) (b : Nat) (l : List Nat) :
    ∀ d : Dev, (d.each l (fun k e => e.capture q (f k) (w (f k)))).captured q b =
      if b ∈ l.map f then w b else d.captured q b := by
  induction l with
  | nil => intro d; simp [Dev.each]
  | cons k l ih =>
    intro d
    have step : d.each (k :: l) (fun k e => e.capture q (f k) (w (f k))) =
        (d.capture q (f k) (w (f k))).each l (fun k e => e.capture q (f k) (w (f k))) := rfl
    rw [step, ih, Dev.captured_capture]
    by_cases hb : b = f k <;> simp [hb]

theorem Dev.captured_congr {d e : Dev} (h : d.host = e.host) (q : Req) (a : Nat) : d.captured q a = e.captured q a := by
  rw [Dev.captured, Dev.captured, h]

theorem Dev.lowPart_congr {d e : Dev} (h : d.host = e.host) (q : Req) {a : Nat} (ha : d.rd a = e.rd a) :
    d.lowPart q a = e.lowPart q a := by
  rw [Dev.lowPart, Dev.lowPart, h, ha]

/-! ## What leaves the part last -/

@[simp] theorem Dev.lastOut_emit (d : Dev) (o : Out) : (d.emit o).lastOut = some o := by
  simp [Dev.lastOut]

/-! ## What a command runs to -/

theorem Runs.imp {i : Instr} {s : State} {P Q : Dev → Prop} (h : Runs i s P) (hPQ : ∀ t, P t → Q t) : Runs i s Q := by
  obtain ⟨t, ht, hm, hp, hP⟩ := h
  exact ⟨t, ht, hm, hp, hPQ _ hP⟩

end Sys2Proof.Machine
end

section
/-! Proofs: what a checked read or write of the bus comes to, and the statements about register accesses (R7 to R11, R29, R290,
R333, R356 to R363, R438). -/

namespace Sys2Proof.Machine

/-! ## Refused accesses -/

/-- An access of another width, or at an address that is no multiple of 4, is an error (R7). -/
theorem Dev.reach_eq_error (d : Dev) {a width : Nat} (h : width ≠ 32 ∨ a % 4 ≠ 0) : d.reach a width = .error := by
  have bad : (decide (a % 4 ≠ 0) || decide (width ≠ 32)) = true := by simpa [or_comm] using h
  unfold Dev.reach
  exact if_pos bad

theorem Dev.writeVerdict_of_error {d : Dev} {q : Req} {a width : Nat} (hs : d.sessionOk q = true) (hr : d.reach a width = .error) :
    d.writeVerdict q a width = .refuse .access := by
  simp [Dev.writeVerdict, hs, hr]

/-- A register that is not free of the Latch refuses a port that may not write (R362). -/
theorem Dev.writeVerdict_of_latch {d : Dev} {q : Req} {a width : Nat} (hs : d.sessionOk q = true) (hr : d.reach a width = .ok)
    (hf : latchFree a = false) (hw : d.mayWrite q = false) : d.writeVerdict q a width = .refuse .latch := by
  simp [Dev.writeVerdict, hs, hr, hf, hw]

/-- TETHER, ETH0, ETH1 and SERVICE write as the Latch's holder or not at all (R362). -/
theorem Dev.mayWrite_eq_false {d : Dev} {q : Req} (hq : q.port.val = 1 ∨ q.port.val = 2 ∨ q.port.val = 3 ∨ q.port.val = 5)
    (hh : d.isHolder q = false) : d.mayWrite q = false := by
  obtain h | h | h | h := hq <;> simp [Dev.mayWrite, h, hh]

theorem State.busWrite_refused {s : State} {q : Req} {a : Nat} {st : Status} (v : Word)
    (h : s.dev.writeVerdict q a 32 = .refuse st) : s.busWrite q a 32 v = (s.onDev (·.accessWake a), st) := by
  simp [State.busWrite, State.write, h]

/-- A write of another width, or at an address that is no multiple of 4, ends in ACCESS (R7). -/
theorem State.busWrite_misshapen {s : State} {q : Req} {a width : Nat} (v : Word) (hs : s.dev.sessionOk q = true)
    (h : width ≠ 32 ∨ a % 4 ≠ 0) : s.busWrite q a width v = (s.onDev (·.accessWake a), .access) := by
  by_cases hw : width = 32
  · subst hw
    exact State.busWrite_refused v (Dev.writeVerdict_of_error hs (Dev.reach_eq_error _ h))
  · simp [State.busWrite, hw, hs]

theorem Dev.busRead_of_error {d : Dev} {q : Req} {a width : Nat} (clear : Bool) (hs : d.sessionOk q = true)
    (hr : d.reach a width = .error) : d.busRead q a width clear = (d.accessWake a, .access, 0) := by
  simp [Dev.busRead, hs, hr]

/-- A REGISTER_WRITE that ends in an error does nothing but report it and, where the block is gated, wake the part (R438). -/
theorem runs_registerWrite_refused {s : State} {q : Req} {a v : Word} {width : Nat} {st : Status}
    (h : s.busWrite q a.toNat width v = (s.onDev (·.accessWake a.toNat), st)) :
    Runs (.registerWrite q a width v) s fun t => t = (s.dev.accessWake a.toNat).emit (.access q.port.val st.code 0) :=
  ⟨_, congrArg (fun r => Host.Outcome.next (State.report r q 0)) h, rfl, rfl, rfl⟩

theorem State.readReport_of_error {s : State} {q : Req} {a width : Nat} (hs : s.dev.sessionOk q = true)
    (hr : s.dev.reach a width = .error) :
    s.readReport q a width = { s with dev := (s.dev.accessWake a).emit (.access q.port.val 1 0) } := by
  unfold State.readReport
  rw [Dev.busRead_of_error _ hs hr]
  rfl

/-- Settles O7: each refusal reaches the bus as a status with only the wake of R438. -/
theorem refusedWritesHaveNoEffect : Obligations.RefusedWritesHaveNoEffect := by
  unfold Obligations.RefusedWritesHaveNoEffect
  refine ⟨fun s q a v st h => ?verdict, fun s q a v width hs hb => ?misshapenWrite, fun s q a width hs hb => ?misshapenRead,
    fun s q a v hq hs hr hh hf => ?latch⟩
  case verdict => exact runs_registerWrite_refused (State.busWrite_refused v h)
  case misshapenWrite => exact runs_registerWrite_refused (State.busWrite_misshapen v hs hb)
  case misshapenRead =>
    exact ⟨_, congrArg Host.Outcome.next (State.readReport_of_error hs (Dev.reach_eq_error _ hb)), rfl, rfl, rfl⟩
  case latch =>
    have mayNot := Dev.mayWrite_eq_false hq hh
    exact runs_registerWrite_refused (State.busWrite_refused v (Dev.writeVerdict_of_latch hs hr hf mayNot))

/-! ## Allowed writes -/

/-- The lease's renewal and the forwarding of a write stand around the effect of an allowed write (R364, R416). -/
theorem State.busWrite_allowed {s : State} {q : Req} {a : Nat} {v : Word} {d : Dev} (h : Allowed s q a)
    (he : regEffect q a v { s with dev := s.granted q } = ({ s with dev := d }, .ok)) :
    s.busWrite q a 32 v = ({ s with dev := d.forward q a v }, .ok) := by
  unfold Allowed at h
  unfold State.granted at he
  simp [State.busWrite, State.write, h, State.onDev, he]

/-- Every limit of the register tables but that of GLB_XING_TMO lies above the GLB_ block. -/
theorem clampWrite_glb {a : Nat} (v : Word) (ha : a < 0x10000) (hx : a ≠ GLB_XING_TMO) : clampWrite a v = v := by
  have far : ∀ b, 0x10000 ≤ b → a ≠ b := by omega
  have loopback : ¬ TST_LB_CFG 0 ≤ a := Nat.not_le.2 (Nat.lt_of_lt_of_le ha (by decide))
  simp (disch := decide) [clampWrite, hx, far, loopback]

/-- A register of the GLB_ block that has no limit takes a write by its access types alone (R9, R30). -/
theorem regEffect_glb (q : Req) {a : Nat} (v : Word) (s : State) (ha : a < 0x10000) (hx : a ≠ GLB_XING_TMO)
    (hk : accessKind a = .plain) : regEffect q a v s = ({ s with dev := s.dev.typedWrite a v }, .ok) := by
  have block : a / 0x10000 = 0 := Nat.div_eq_of_lt ha
  unfold regEffect
  rw [hk]
  unfold regWrite
  rw [if_neg (by omega), if_neg (by omega), block]
  simp only [okDev, plainWrite, clampWrite_glb v ha hx, State.onDev]

theorem regEffect_lo (q : Req) {a : Nat} (v : Word) (s : State) (hk : accessKind a = .lo) :
    regEffect q a v s = ({ s with dev := s.dev.holdLow q a v }, .ok) := by
  unfold regEffect
  rw [hk]
  rfl

/-- FIR_START_POS has no effect of its own: both of its words are written by their access types (R11, R102). -/
theorem regEffect_startPosHi (q : Req) (v : Word) (s : State) :
    regEffect q FIR_START_POS_HI v s =
      ({ s with dev := (s.dev.typedWrite FIR_START_POS_LO (s.dev.lowPart q FIR_START_POS_LO)).typedWrite FIR_START_POS_HI v },
        .ok) := rfl

/-! ## What an allowed write answers -/

@[simp] theorem State.answered_rd (s : State) (q : Req) (a : Nat) (v : Word) (d : Dev) (b : Nat) :
    (s.answered q a v d).dev.rd b = d.rd b := Dev.rd_forward d q a v b

@[simp] theorem State.answered_host (s : State) (q : Req) (a : Nat) (v : Word) (d : Dev) :
    (s.answered q a v d).dev.host = d.host := Dev.forward_host d q a v

@[simp] theorem State.answered_lastOut (s : State) (q : Req) (a : Nat) (v : Word) (d : Dev) :
    (s.answered q a v d).dev.lastOut = some (.access q.port.val 0 0) := Dev.lastOut_emit _ _

/-- An access leaves what its effect leaves, but for the lease and what leaves the part. -/
theorem Frame.answered {rs : List Nat} {ps : List Part} {s : State} {q : Req} {d : Dev} (a : Nat) (v : Word)
    (h : Part.out ∈ ps) (h' : Part.host ∈ ps) (hd : Frame rs ps (s.granted q) d) : Frame rs ps s.dev (s.answered q a v d).dev :=
  (Frame.renew rs ps s.dev q h h').trans (hd.trans ((Frame.forward rs ps d q a v h).trans (Frame.emit rs ps _ _ h)))

/-- An allowed write by REGISTER_WRITE, LO_WRITE_HOLD or HI_WRITE_COMMIT whose effect ends well. -/
theorem State.report_busWrite_allowed {s : State} {q : Req} {a : Nat} {v : Word} {d : Dev} (h : Allowed s q a)
    (he : regEffect q a v { s with dev := s.granted q } = ({ s with dev := d }, .ok)) :
    State.report (s.busWrite q a 32 v) q 0 = s.answered q a v d := by
  rw [State.busWrite_allowed h he]; rfl

/-- Settles O15: the effect is a typed write, whose bits `Dev.testBit_rd_typedWrite` gives. -/
theorem registerWriteObeysAccessTypes : Obligations.RegisterWriteObeysAccessTypes := by
  unfold Obligations.RegisterWriteObeysAccessTypes
  intro s q a v h ha hx hk
  refine ⟨s.answered q a.toNat v _,
    congrArg Host.Outcome.next (State.report_busWrite_allowed h (regEffect_glb q v _ ha hx hk)), rfl, rfl, ?_,
    State.answered_lastOut .., fun i hi => ?_⟩
  · exact Frame.answered _ _ (by decide) (by decide) (Frame.typedWrite _ _ _ _ _ (List.mem_singleton_self _))
  · rw [State.answered_rd, Dev.testBit_rd_typedWrite _ _ _ _ hi, State.granted, Dev.rd_renew]

/-- SPI_WRITE and SPI_WRITE_URGENT of a register of the GLB_ block: a typed write, the lease, what leaves the part, and last of
that the status byte READY with code 0 (R358). -/
theorem runs_spiWrite_glb {i : Instr} {s : State} {urgent : Bool} {a v : Word} (hi : exec i s = .next (spiWrite urgent a v s))
    (h : Allowed s (spiReq urgent) a.toNat) (ha : a.toNat < 0x10000) (hx : a.toNat ≠ GLB_XING_TMO)
    (hk : accessKind a.toNat = .plain) :
    Runs i s fun t => Frame [a.toNat] [.host, .out] s.dev t ∧ t.rd a.toNat = (s.dev.typedWrite a.toNat v).rd a.toNat ∧
      t.lastOut = some (.spi [0x80]) := by
  unfold spiWrite at hi
  rw [State.busWrite_allowed h (regEffect_glb _ v _ ha hx hk)] at hi
  refine ⟨_, hi, rfl, rfl, ?_, ?_, Dev.lastOut_emit _ _⟩
  · exact (Frame.renew _ _ _ _ (by decide) (by decide)).trans
      ((Frame.typedWrite _ _ _ _ _ (List.mem_singleton_self _)).trans
        ((Frame.forward _ _ _ _ _ _ (by decide)).trans (Frame.emit _ _ _ _ (by decide))))
  · exact (Dev.rd_forward ..).trans (Dev.rd_typedWrite_congr v (Dev.rd_renew ..))

/-- Settles O17: a _LO write only holds, and FIR_START_POS_HI and the SERVICE port's writes are typed writes. -/
theorem wideValuesTakeEffectHigh : Obligations.WideValuesTakeEffectHigh := by
  unfold Obligations.WideValuesTakeEffectHigh
  refine ⟨fun s q a v h hk => ?low, fun s q v h => ?high, fun s a v h ha hx hk => ?spi, fun s a v h ha hx hk => ?spiUrgent⟩
  case low =>
    refine ⟨s.answered q a.toNat v _, congrArg Host.Outcome.next (State.report_busWrite_allowed h (regEffect_lo q v _ hk)),
      rfl, rfl, ?_, ?_, State.answered_lastOut ..⟩
    · exact Frame.answered _ _ (by decide) (by decide) (Frame.holdLow _ _ _ _ _ _ (by decide))
    · rw [Dev.lowPart_congr (State.answered_host ..) q (State.answered_rd ..)]
      exact Dev.lowPart_holdLow ..
  case high =>
    refine ⟨s.answered q FIR_START_POS_HI v _,
      congrArg Host.Outcome.next (State.report_busWrite_allowed h (regEffect_startPosHi q v _)),
      rfl, rfl, ?_, ?_, ?_, State.answered_lastOut ..⟩
    · exact Frame.answered _ _ (by decide) (by decide)
        ((Frame.typedWrite _ _ _ _ _ (by decide)).trans (Frame.typedWrite _ _ _ _ _ (by decide)))
    · rw [State.answered_rd, Dev.rd_typedWrite_ne _ _ (by decide), Dev.rd_typedWrite_of_rw _ _ _ rfl]
      exact Dev.lowPart_renew ..
    · rw [Dev.get, State.answered_rd]
      exact (Dev.get_typedWrite_of_rw _ FIR_START_POS_HI _ ⟨0, 24⟩ (by decide) (by decide)).trans (by simp [Word.fld])
  case spi => exact runs_spiWrite_glb rfl h ha hx hk
  case spiUrgent => exact runs_spiWrite_glb rfl h ha hx hk

/-! ## Reads that pass every check -/

/-- A plain register outside the inspection island's block is no part of a capture (R11, R290). -/
theorem Dev.readKind_plain (d : Dev) (q : Req) {a : Nat} (hk : accessKind a = .plain) (hc : ¬(0x70000 ≤ a ∧ a < 0x80000)) :
    d.readKind q a = (d, d.peek a) := by
  have outside : (decide (CAM_CFG 0 ≤ a) && decide (a < CAM_CFG 4)) = false := by
    rw [← Bool.decide_and, decide_eq_false_iff_not]
    simp only [CAM_CFG]; omega
  unfold Dev.readKind
  rw [hk]
  simp only [outside, Bool.false_and, Bool.false_eq_true, if_false]

theorem Dev.readKind_lo (d : Dev) (q : Req) {a : Nat} (hk : accessKind a = .lo) :
    d.readKind q a = (d.capture q (a + 4) (d.peek (a + 4)), d.peek a) := by
  unfold Dev.readKind; rw [hk]

theorem Dev.readKind_frac (d : Dev) (q : Req) {a : Nat} (hk : accessKind a = .frac) :
    d.readKind q a = (d.each [4, 8, 12] (fun k e => e.capture q (a + k) (d.peek (a + k))), d.peek a) := by
  unfold Dev.readKind; rw [hk]

theorem accessKind_camStat : ∀ n : Fin 4, accessKind (CAM_STAT n.val 0) = .plain := by decide

theorem Dev.readKind_camStat (d : Dev) (q : Req) (n : Fin 4) :
    d.readKind q (CAM_STAT n.val 0) =
      (d.each (List.range 20) (fun j e => e.capture q (CAM_STAT n.val 0 + 4 * j) (d.peek (CAM_STAT n.val 0 + 4 * j))),
        d.peek (CAM_STAT n.val 0)) := by
  have offset : (CAM_STAT n.val 0 - CAM_CFG 0) % 0x100 = 0x80 := by simp only [CAM_STAT, CAM_CFG]; omega
  have inside : CAM_CFG 0 ≤ CAM_STAT n.val 0 ∧ CAM_STAT n.val 0 < CAM_CFG 4 := by simp only [CAM_STAT, CAM_CFG]; omega
  unfold Dev.readKind
  rw [accessKind_camStat n]
  simp [offset, inside]

/-- A read that passes every check: what its kind captures, the clearing where the port may clear, and the value. -/
theorem Dev.busRead_readable {s : State} {q : Req} {a : Nat} {e : Dev} {w : Word} (clear : Bool) (h : Readable s q a)
    (hk : s.dev.readKind q a = (e, w)) : s.dev.busRead q a 32 clear = (e.when clear (·.readClear a), .ok, w) := by
  obtain ⟨open_, reached⟩ := h
  simp [Dev.busRead, open_, reached, hk, Dev.when]

theorem State.readReport_readable {s : State} {q : Req} {a : Nat} {e : Dev} {w : Word} (h : Readable s q a)
    (hk : s.dev.readKind q a = (e, w)) :
    s.readReport q a 32 = { s with dev := (e.when (s.dev.mayClear q) (·.readClear a)).emit (.access q.port.val 0 w) } := by
  unfold State.readReport
  rw [Dev.busRead_readable _ h hk]
  rfl

/-- SPI_READ: the status byte READY with code 0, then the value (R358). -/
theorem spiRead_readable {s : State} {a : Word} {e : Dev} {w : Word} (h : Readable s (spiReq false) a.toNat)
    (hk : s.dev.readKind (spiReq false) a.toNat = (e, w)) :
    spiRead a s =
      { s with dev := (e.when (s.dev.mayClear (spiReq false)) (·.readClear a.toNat)).emit (.spi (0x80 :: spiWord w)) } := by
  unfold spiRead
  dsimp only
  rw [Dev.busRead_readable _ h hk]
  rfl

/-- The clearing and the report of a read leave what its kind captured. -/
theorem Dev.captured_read (e : Dev) (clear : Bool) (a : Nat) (o : Out) (q : Req) (b : Nat) :
    ((e.when clear (·.readClear a)).emit o).captured q b = e.captured q b :=
  Dev.captured_congr (by cases clear <;> simp [Dev.when]) q b

theorem Frame.read {ps : List Part} {d e : Dev} (clear : Bool) (a : Nat) (o : Out) (h : Part.out ∈ ps) (he : Frame [a] ps d e) :
    Frame [a] ps d ((e.when clear (·.readClear a)).emit o) :=
  he.trans ((Frame.when clear (Frame.readClear _ _ _ _ (List.mem_singleton_self _))).trans (Frame.emit _ _ _ _ h))

/-- A read that captures for its port: the report, and nothing else but the register's RC bits and the captures. -/
theorem runs_captureRead {i : Instr} {s : State} {q : Req} {a : Nat} {f : Nat → Nat} {l : List Nat}
    (hi : exec i s = .next (s.readReport q a 32)) (h : Readable s q a)
    (hk : s.dev.readKind q a = (s.dev.each l (fun k e => e.capture q (f k) (s.dev.peek (f k))), s.dev.peek a)) :
    Runs i s fun t => Frame [a] [.host, .out] s.dev t ∧ (∀ k ∈ l, t.captured q (f k) = s.dev.peek (f k)) ∧
      t.lastOut = some (.access q.port.val 0 (s.dev.peek a)) := by
  rw [State.readReport_readable h hk] at hi
  refine ⟨_, hi, rfl, rfl, ?_, fun k hk => ?_, Dev.lastOut_emit _ _⟩
  · exact Frame.read _ _ _ (by decide) (Frame.each _ _ _ (fun _ _ _ => Frame.capture _ _ _ _ _ _ (by decide)))
  · rw [Dev.captured_read, Dev.captured_each_capture q f s.dev.peek, if_pos (List.mem_map_of_mem hk)]

/-- Settles O16: a plain read clears as `Dev.rd_readClear` says, and the reads of wider values are captures for their port. -/
theorem readsReturnClearAndCapture : Obligations.ReadsReturnClearAndCapture := by
  unfold Obligations.ReadsReturnClearAndCapture
  refine ⟨fun s q a h hk hc => ?plain, fun s q a h hk => ?lo, fun s q a h hk => ?frac, fun s q n h => ?stat,
    fun s a h hk hc => ?spi⟩
  case plain =>
    refine ⟨_, congrArg Host.Outcome.next (State.readReport_readable h (Dev.readKind_plain _ q hk hc)), rfl, rfl,
      ?_, Dev.lastOut_emit _ _, fun clears => ?_, fun keeps => ?_⟩
    · exact Frame.read _ _ _ (by decide) (Frame.refl _ _ _)
    · simp only [clears, Dev.when, if_true, Dev.rd_emit, Dev.rd_readClear]
    · simp [keeps, Dev.when]
  case lo =>
    refine (runs_captureRead (f := fun k => a.toNat + k) (l := [4]) rfl h (Dev.readKind_lo _ q hk)).imp ?_
    exact fun t ⟨frame, captured, out⟩ => ⟨frame, captured 4 (by decide), out⟩
  case frac =>
    refine (runs_captureRead (f := fun k => a.toNat + k) (l := [4, 8, 12]) rfl h (Dev.readKind_frac _ q hk)).imp ?_
    exact fun t ⟨frame, captured, out⟩ => ⟨frame, fun k hk => captured k (by simpa using hk), out⟩
  case stat =>
    refine (runs_captureRead (f := fun j => CAM_STAT n.val 0 + 4 * j) (l := List.range 20) rfl h
      (Dev.readKind_camStat _ q n)).imp ?_
    exact fun t ⟨frame, captured, out⟩ => ⟨frame, fun j hj => captured j (List.mem_range.2 hj), out⟩
  case spi =>
    refine ⟨_, congrArg Host.Outcome.next (spiRead_readable h (Dev.readKind_plain _ _ hk hc)), rfl, rfl,
      ?_, Dev.lastOut_emit _ _⟩
    exact Frame.read _ _ _ (by decide) (Frame.refl _ _ _)

end Sys2Proof.Machine
end

section
/-! Proofs: the machine as a whole, its commands and its state at reset (R7, R9, R356, R361, R429). -/

namespace Sys2Proof.Machine

/-- Settles O1: the meaning of each command is a next state, whatever stands in it. -/
theorem everyCommandAnswersNext : Obligations.EveryCommandAnswersNext := by
  unfold Obligations.EveryCommandAnswersNext
  intro i s
  cases i <;> exact ⟨_, rfl⟩

/-- Settles O4: no table lists anything at reset, so every register reads its reset value. -/
theorem resetIsWellKept : Obligations.ResetIsWellKept := by
  unfold Obligations.ResetIsWellKept
  exact ⟨⟨rfl, rfl, rfl, rfl⟩, fun _ => rfl⟩

end Sys2Proof.Machine
end

section
/-! Proofs: isolation, gating and reset of islands (R16, R18, R22, R24, R26, R34, R441). -/

namespace Sys2Proof.Machine

/-! ## One-bit fields -/

/-- Bit `i` of a word is its one-bit field there. -/
theorem Word.bit_eq_fld (w : Word) (i : Nat) : Word.bit w i = (w.fld ⟨i, 1⟩ != 0) := by
  rw [Word.bit, Word.fld, Nat.testBit_eq_decide_div_mod_eq, Nat.pow_one]
  obtain h | h := Nat.mod_two_eq_zero_or_one (w.toNat / 2 ^ i) <;> simp [h]

/-- A field that no write reaches, neither RW nor W1C, keeps its value (R9). -/
theorem Dev.get_typedWrite_of_ro (d : Dev) (a : Nat) (v : Word) (f : Fld) (hf : f.lo + f.width ≤ 32)
    (h : ∀ i, i < f.width → (regMasks a).1.testBit (f.lo + i) = false ∧ (regMasks a).2.1.testBit (f.lo + i) = false) :
    (d.typedWrite a v).get a f = d.get a f := by
  apply Nat.eq_of_testBit_eq
  intro j
  simp only [Dev.get, Word.fld, Nat.testBit_mod_two_pow, Nat.testBit_div_two_pow]
  by_cases hj : j < f.width
  · obtain ⟨noRw, noW1c⟩ := h j hj
    rw [Nat.add_comm, Dev.testBit_rd_typedWrite d a v _ (by omega), noRw, noW1c]
    simp
  · simp [hj]

/-- Every island that can be gated has the access types of PWR_ISLc: GATE and DIV are RW and nothing is W1C (R441). -/
theorem regMasks_pwrIsl : ∀ code : Fin 128, islExists code.val = true → regMasks (PWR_ISL code.val) = (0x31, 0, 0) := by decide

/-- GATED is the hardware's: a write of PWR_ISLc leaves it (R441). -/
theorem Dev.bit_gated_typedWrite (d : Dev) (code : Fin 128) (v : Word) (he : islExists code.val = true) :
    (d.typedWrite (PWR_ISL code.val) v).bit (PWR_ISL code.val) PWR_ISL.GATED = d.bit (PWR_ISL code.val) PWR_ISL.GATED := by
  rw [Dev.bit, Dev.bit, Dev.get_typedWrite_of_ro _ _ _ _ (by decide)]
  rw [regMasks_pwrIsl code he]
  decide

/-- What ISLAND_GATE and ISLAND_RESET put into RESET is bit 1 of the word they write. -/
theorem bit_setReset (v : Word) (n : Nat) : (v.setFld PWR_ISL.RESET n).bit 1 = (n % 2 != 0) := by
  rw [Word.bit_eq_fld]
  exact congrArg (· != 0) (Word.fld_setFld v PWR_ISL.RESET n (by decide))

theorem bit_gate_setReset (v : Word) (n : Nat) : (v.setFld PWR_ISL.RESET n).bit 0 = v.bit 0 := by
  rw [Word.bit_eq_fld, Word.bit_eq_fld, Word.fld_setFld_ne _ _ _ _ (by decide) (by decide)]

/-! ## Isolation (R16, R22, R26, R34) -/

/-- One crossing into an island that is neither isolated nor gated. -/
theorem crossingTimeout_one {d : Dev} {x y : Nat} (he : islExists y = true) (hi : d.isIsolated y = false)
    (hg : d.bit (PWR_ISL y) PWR_ISL.GATED = false) :
    crossingTimeout [(x, y)] d = ((d.isolateMark y x).faultLast y x 1).isolated y := by
  simp [crossingTimeout, he, hi, hg, List.eraseDups_cons]

/-- Two crossings in one cycle, the one into the island of the higher code first: the record is of the lower code. -/
theorem crossingTimeout_two {d : Dev} {x y z w : Nat} (hey : islExists y = true) (hew : islExists w = true) (hlt : y < w)
    (hiy : d.isIsolated y = false) (hiw : d.isIsolated w = false)
    (hgy : d.bit (PWR_ISL y) PWR_ISL.GATED = false) (hgw : d.bit (PWR_ISL w) PWR_ISL.GATED = false) :
    crossingTimeout [(z, w), (x, y)] d =
      ((((d.isolateMark w z).isolateMark y x).faultLast y x 2).isolated w).isolated y := by
  have apart : y ≠ w := Nat.ne_of_lt hlt
  have low : min w y = y := Nat.min_eq_right (Nat.le_of_lt hlt)
  simp [crossingTimeout, hey, hew, hiy, hiw, hgy, hgw, List.eraseDups_cons, apart, apart.symm, low]

/-- The three registers that hold an isolation's flags (R33). -/
theorem Frame.setFaultBit (ps : List Part) (d : Dev) (code : Nat) :
    Frame [GLB_ISL_FAULT, GLB_HC_FAULT0, GLB_HC_FAULT1] ps d (d.setFaultBit code) := by
  unfold Dev.setFaultBit
  split
  · split
    · exact Frame.put _ _ _ _ _ _ (by decide)
    · exact Frame.put _ _ _ _ _ _ (by decide)
  · split
    · exact Frame.put _ _ _ _ _ _ (by decide)
    · exact Frame.refl _ _ _

theorem Frame.faultFlagReset (ps : List Part) (d : Dev) :
    Frame [GLB_ISL_FAULT, GLB_HC_FAULT0, GLB_HC_FAULT1] ps d (faultFlagReset d) := by
  refine Frame.each _ _ d fun code _ e => ?_
  split
  · exact Frame.setFaultBit ps e code
  · exact Frame.refl _ _ _

/-! ## Writes of PWR_ISLc (R18, R441) -/

/-- A request to gate (1) or reset (2) an island replaces the island's last one. -/
def Dev.askIsland (d : Dev) (code k : Nat) : Dev := { d with islReq := d.islReq.filter (fun r => r.1 != code) ++ [(code, k)] }

theorem Dev.mem_askIsland (d : Dev) (code k : Nat) : (code, k) ∈ (d.askIsland code k).islReq :=
  List.mem_append_right _ (List.mem_singleton_self _)

theorem Frame.withIslReq (rs : List Nat) (ps : List Part) (d : Dev) (l : List (Nat × Nat)) (h : Part.islReq ∈ ps) :
    Frame rs ps d { d with islReq := l } :=
  ⟨fun _ _ => rfl, fun p x => by cases p <;> first | rfl | exact absurd h x⟩

theorem Frame.islGate (rs : List Nat) (ps : List Part) (d : Dev) (code : Nat) (on : Bool) (h : PWR_ISL code ∈ rs) :
    Frame rs ps d (d.islGate code on) := by
  unfold Dev.islGate
  split
  · exact (Frame.put _ _ _ _ _ _ h).trans (Frame.put _ _ _ _ _ _ h)
  · split
    · exact Frame.refl _ _ _
    · exact (Frame.put _ _ _ _ _ _ h).trans (Frame.put _ _ _ _ _ _ h)

section
variable {d : Dev} {code : Nat} {v : Word} (he : islExists code = true) (hc : code < 0x40 ∨ code - 0x40 < d.hcCount)
  (hst : d.get PWR_STS PWR_STS.STATE < 3)
include he hc hst

/-- What a write of PWR_ISLc does to an island of the part while no power state has gated it: the write by its access types, then
RESET, then GATE. -/
theorem islWrite_awake : islWrite code v d =
    let e := d.typedWrite (PWR_ISL code) v
    if v.bit 1 then e.askIsland code 2
    else if v.bit 0 then (if e.bit (PWR_ISL code) PWR_ISL.GATED then e else e.askIsland code 1)
    else if e.bit (PWR_ISL code) PWR_ISL.GATED then e.islGate code false
    else { e with islReq := e.islReq.filter (fun r => r.1 != code || r.2 != 1) } := by
  have present : (!islExists code || (decide (0x40 ≤ code) && decide (d.hcCount ≤ code - 0x40))) = false := by
    simp only [he, Bool.not_true, Bool.false_or, Bool.and_eq_false_iff, decide_eq_false_iff_not]
    omega
  have awake : decide (3 ≤ d.get PWR_STS PWR_STS.STATE) = false := decide_eq_false (Nat.not_le.2 hst)
  unfold islWrite
  simp only [present, awake, Bool.false_and, Bool.false_eq_true, if_false]
  rfl

theorem Frame.islWrite (ps : List Part) (h : Part.islReq ∈ ps) : Frame [PWR_ISL code] ps d (islWrite code v d) := by
  rw [islWrite_awake he hc hst]
  refine (Frame.typedWrite _ _ _ (PWR_ISL code) v (List.mem_singleton_self _)).trans ?_
  dsimp only
  split
  · exact Frame.withIslReq _ _ _ _ h
  · split
    · split
      · exact Frame.refl _ _ _
      · exact Frame.withIslReq _ _ _ _ h
    · split
      · exact Frame.islGate _ _ _ _ _ (List.mem_singleton_self _)
      · exact Frame.withIslReq _ _ _ _ h

theorem islWrite_asks_reset (hr : v.bit 1 = true) : (code, 2) ∈ (islWrite code v d).islReq := by
  rw [islWrite_awake he hc hst]
  simp only [hr, if_true]
  exact Dev.mem_askIsland _ _ _

theorem islWrite_asks_gate (hr : v.bit 1 = false) (hg : v.bit 0 = true)
    (open_ : (d.typedWrite (PWR_ISL code) v).bit (PWR_ISL code) PWR_ISL.GATED = false) :
    (code, 1) ∈ (islWrite code v d).islReq := by
  rw [islWrite_awake he hc hst]
  simp only [hr, hg, open_, Bool.false_eq_true, if_true, if_false]
  exact Dev.mem_askIsland _ _ _

end

@[simp] theorem State.granted_hcCount (s : State) (q : Req) : (s.granted q).hcCount = s.dev.hcCount := by
  rw [State.granted, Dev.hcCount, Dev.renew_strap, Dev.hcCount]

@[simp] theorem State.granted_get (s : State) (q : Req) (a : Nat) (f : Fld) : (s.granted q).get a f = s.dev.get a f :=
  Dev.get_renew _ _ _ _

/-- ISLAND_GATE and ISLAND_RESET through an allowed access: the effect is `islWrite` in the state with the lease restarted, and
what it leaves in the requests is what they hold after the access. -/
theorem runs_islWrite {i : Instr} {s : State} {q : Req} {code : Nat} {v : Word}
    (hi : exec i s = .next (s.devCommand q (PWR_ISL code) v (islWrite code))) (h : Allowed s q (PWR_ISL code))
    (he : islExists code = true) (hc : code < 0x40 ∨ code - 0x40 < s.dev.hcCount) (hst : s.dev.get PWR_STS PWR_STS.STATE < 3) :
    Runs i s fun t => Frame [PWR_ISL code] [.islReq, .host, .out] s.dev t ∧ t.islReq = (islWrite code v (s.granted q)).islReq := by
  rw [State.devCommand_allowed _ _ _ _ _ h] at hi
  have effect : Frame [PWR_ISL code] [.islReq, .host, .out] (s.granted q) (islWrite code v (s.granted q)) :=
    Frame.islWrite he (by simpa using hc) (by simpa using hst) _ (by decide)
  exact ⟨_, hi, rfl, rfl, Frame.answered _ _ (by decide) (by decide) effect, Dev.forward_islReq _ _ _ _⟩

/-! ## The end of a request (R18, R24) -/

/-- The island's request waits no longer. -/
def Dev.dropRequest (d : Dev) (code : Nat) : Dev := { d with islReq := d.islReq.filter (fun r => r.1 != code) }

theorem islandGateComplete_gates {s : State} {code : Nat} (h : s.dev.islReq.find? (fun r => r.1 == code) = some (code, 1)) :
    islandGateComplete code s = (s.onDev (·.dropRequest code)).onDev (fun d => (d.islandStops code).islGate code true) := by
  unfold islandGateComplete
  rw [h]
  exact if_neg (by decide)

theorem islandGateComplete_resets {s : State} {code : Nat} (h : s.dev.islReq.find? (fun r => r.1 == code) = some (code, 2)) :
    islandGateComplete code s = (s.onDev (·.dropRequest code)).islandReset code := by
  unfold islandGateComplete
  rw [h]
  exact if_pos rfl

/-- A field of PWR_ISLc beside the one that is set stays. -/
theorem Dev.get_put_pwrIsl (d : Dev) (code : Nat) (f g : Fld) (v : Nat) (hf : f.lo + f.width ≤ 32)
    (hg : f.lo + f.width ≤ g.lo ∨ g.lo + g.width ≤ f.lo) :
    (d.put (PWR_ISL code) f v).get (PWR_ISL code) g = d.get (PWR_ISL code) g :=
  Dev.get_put_other _ _ _ _ _ _ hf (.inr hg)

/-- A gated island shows GATED and not RUNNING (R441). -/
theorem Dev.get_islGate_on (d : Dev) (code : Nat) :
    (d.islGate code true).get (PWR_ISL code) PWR_ISL.GATED = 1 ∧ (d.islGate code true).get (PWR_ISL code) PWR_ISL.RUNNING = 0 := by
  rw [Dev.islGate, if_pos rfl]
  constructor
  · rw [Dev.get_put_pwrIsl _ _ _ _ _ (by decide) (by decide), Dev.get_put_same _ _ _ _ (by decide)]; rfl
  · rw [Dev.get_put_same _ _ _ _ (by decide)]; rfl

/-- The fields of PWR_ISLc at the end of the island's reset: not isolated, and gated or running as GATE says (R24, R441). -/
def Dev.resetIslFlags (d : Dev) (code : Nat) : Dev :=
  let d := (d.put (PWR_ISL code) PWR_ISL.ISOLATED 0).put (PWR_ISL code) PWR_ISL.GATED 0
  let gate := d.bit (PWR_ISL code) PWR_ISL.GATE
  (d.put (PWR_ISL code) PWR_ISL.GATED (if gate then 1 else 0)).put (PWR_ISL code) PWR_ISL.RUNNING (if gate then 0 else 1)

/-- ISOLATED is clear, and GATED and RUNNING say what GATE, which stays, asks for. -/
theorem Dev.resetIslFlags_fields (d : Dev) (code : Nat) :
    (d.resetIslFlags code).get (PWR_ISL code) PWR_ISL.ISOLATED = 0 ∧
    (d.resetIslFlags code).bit (PWR_ISL code) PWR_ISL.GATED = (d.resetIslFlags code).bit (PWR_ISL code) PWR_ISL.GATE ∧
    (d.resetIslFlags code).bit (PWR_ISL code) PWR_ISL.RUNNING = !(d.resetIslFlags code).bit (PWR_ISL code) PWR_ISL.GATE := by
  simp (disch := decide) only [Dev.resetIslFlags, Dev.bit, Dev.get_put_pwrIsl, Dev.get_put_same]
  cases d.get (PWR_ISL code) PWR_ISL.GATE != 0 <;> decide

/-- An island's reset ends with its flags. -/
theorem State.islandReset_dev (s : State) (code : Nat) :
    (s.islandReset code).dev = (((s.dev.islandStops code).resetRegs code).resetUnits code).resetIslFlags code := rfl

/-- Only a memory island's reset takes bytes from the page store (R215). -/
theorem State.islandReset_mem (s : State) {code : Nat} (h3 : code ≠ 3) (h4 : code ≠ 4) : (s.islandReset code).mem = s.mem := by
  simp [State.islandReset, h3, h4]

/-! ## A channel's restart (R24) -/

@[simp] theorem Dev.hc_modHc_same (d : Dev) (c : Nat) (f : HcSt → HcSt) : (d.modHc c f).hc c = f (d.hc c) :=
  tget_tput_same _ _ _ _

/-- Outside a pair, a reset channel of a running job whose link is UP takes up firing at the line named. -/
theorem channelRestart_alone {d : Dev} {c line : Nat} (hj : d.jobRunning = true) (hc : c ∈ d.fir.chans) (hm : (d.hc c).m = none)
    (hl : d.lvrUp c = true) (hi : d.islUp (0x40 + c) = true) (ha : d.activeOfPair = false) :
    channelRestart c line d = (d.modHc c (fun x => { x with restart := some line })).restartChannel c line := by
  have alone : (d.modHc c (fun x => { x with restart := some line })).activeOfPair = false := ha
  simp [channelRestart, hj, hc, hm, hl, hi, alone, Dev.restartAt]

/-! ## The statement -/

/-- Settles O18: each command by the lemma that says what its effect is on the island's state. -/
theorem islandCommandsComplete : Obligations.IslandCommandsComplete := by
  unfold Obligations.IslandCommandsComplete
  refine ⟨fun s x y dt he hi hg => ?one, fun s x y z w dt hey hew hlt hiy hiw hgy hgw => ?two, fun s dt => ?flags,
    fun s q code v h he hc hst => ?gate, fun s q code v h he hc hst => ?reset, fun s code dt h => ?gateEnd,
    fun s code dt h => ?resetEnd, fun s c line dt hj hc hm hl hi ha => ?restart⟩
  case one => exact congrArg (fun d => Host.Outcome.next { s with dev := d }) (crossingTimeout_one he hi hg)
  case two =>
    exact congrArg (fun d => Host.Outcome.next { s with dev := d }) (crossingTimeout_two hey hew hlt hiy hiw hgy hgw)
  case flags => exact ⟨_, rfl, rfl, rfl, Frame.faultFlagReset _ _⟩
  case gate =>
    refine (runs_islWrite rfl h he hc hst).imp fun t ⟨frame, asked⟩ => ⟨frame, fun hv hg => ?_⟩
    have open_ : (s.granted q).bit (PWR_ISL code.val) PWR_ISL.GATED = false := by rwa [Dev.bit, State.granted_get]
    rw [asked]
    exact islWrite_asks_gate he (by simpa using hc) (by simpa using hst) (bit_setReset v 0) ((bit_gate_setReset v 0).trans hv)
      ((Dev.bit_gated_typedWrite _ code _ he).trans open_)
  case reset =>
    refine (runs_islWrite rfl h he hc hst).imp fun t ⟨frame, asked⟩ => ⟨frame, ?_⟩
    rw [asked]
    exact islWrite_asks_reset he (by simpa using hc) (by simpa using hst) (bit_setReset v 1)
  case gateEnd => exact ⟨_, congrArg Host.Outcome.next (islandGateComplete_gates h), rfl, rfl, Dev.get_islGate_on _ _⟩
  case resetEnd =>
    refine ⟨_, congrArg Host.Outcome.next (islandGateComplete_resets h), rfl, ?_⟩
    rw [State.islandReset_dev]
    obtain ⟨isolated, gated, running⟩ := Dev.resetIslFlags_fields
      (((((s.after dt).dropRequest code.val).islandStops code.val).resetRegs code.val).resetUnits code.val) code.val
    exact ⟨isolated, gated, running, fun h3 h4 => State.islandReset_mem _ h3 h4⟩
  case restart =>
    exact congrArg (fun d => Host.Outcome.next { s with dev := d }) (channelRestart_alone hj hc hm hl hi ha)

end Sys2Proof.Machine
end

section
/-! Proofs: where the nozzles of a channel lie on the print plane, and their rows (R45, R46, R51). -/

namespace Sys2Proof.Machine

/-! ## Plane dots (R45) -/

/-- The field STRIDE has two bits. -/
theorem Dev.stride_values (d : Dev) (c : Nat) : d.stride c = 1 ∨ d.stride c = 2 ∨ d.stride c = 4 ∨ d.stride c = 8 := by
  have twoBits : d.get (HC_GEOM_NOZ c) HC_GEOM_NOZ.STRIDE < 4 := Word.fld_lt _ HC_GEOM_NOZ.STRIDE
  unfold Dev.stride
  generalize d.get (HC_GEOM_NOZ c) HC_GEOM_NOZ.STRIDE = k at twoBits
  match k, twoBits with
  | 0, _ | 1, _ | 2, _ | 3, _ => decide

theorem Dev.stride_pos (d : Dev) (c : Nat) : 0 < d.stride c := Nat.two_pow_pos _

theorem Dev.dotOf_plain {d : Dev} {c : Nat} (n : Nat) (h : d.bit (HC_GEOM_NOZ c) HC_GEOM_NOZ.MIRROR = false) :
    d.dotOf c n = d.xOrigin c + n * d.stride c := by
  simp [Dev.dotOf, h]

theorem Dev.dotOf_mirrored {d : Dev} {c : Nat} (n : Nat) (h : d.bit (HC_GEOM_NOZ c) HC_GEOM_NOZ.MIRROR = true) :
    d.dotOf c n = d.xOrigin c + (d.nozzles c - 1 - n) * d.stride c := by
  simp [Dev.dotOf, h]

theorem Dev.xOrigin_le_dotOf (d : Dev) (c n : Nat) : d.xOrigin c ≤ d.dotOf c n := by
  cases h : d.bit (HC_GEOM_NOZ c) HC_GEOM_NOZ.MIRROR with
  | false => rw [Dev.dotOf_plain n h]; exact Nat.le_add_right _ _
  | true => rw [Dev.dotOf_mirrored n h]; exact Nat.le_add_right _ _

/-- The nozzle on X(c) is nozzle 0, and of a mirrored channel the last one. -/
theorem Dev.exists_dotOf_eq_xOrigin {d : Dev} {c : Nat} (h : 0 < d.nozzles c) :
    ∃ n, n < d.nozzles c ∧ d.dotOf c n = d.xOrigin c := by
  cases hm : d.bit (HC_GEOM_NOZ c) HC_GEOM_NOZ.MIRROR with
  | false => exact ⟨0, h, by rw [Dev.dotOf_plain 0 hm, Nat.zero_mul, Nat.add_zero]⟩
  | true =>
    refine ⟨d.nozzles c - 1, Nat.sub_one_lt_of_lt h, ?_⟩
    rw [Dev.dotOf_mirrored _ hm, Nat.sub_self, Nat.zero_mul, Nat.add_zero]

/-- Of a mirrored channel no nozzle lies above nozzle 0. -/
theorem Dev.dotOf_mirrored_le_zero {d : Dev} {c : Nat} (n : Nat) (h : d.bit (HC_GEOM_NOZ c) HC_GEOM_NOZ.MIRROR = true) :
    d.dotOf c n ≤ d.dotOf c 0 := by
  rw [Dev.dotOf_mirrored n h, Dev.dotOf_mirrored 0 h]
  exact Nat.add_le_add_left (Nat.mul_le_mul_right _ (Nat.sub_le _ _)) _

/-- The nozzle at the `k`-th dot that a channel covers, counted from X(c). -/
theorem Dev.nozzleAt_nth_dot {d : Dev} {c k : Nat} (h : k < d.nozzles c) :
    d.nozzleAt c (d.xOrigin c + k * d.stride c) =
      some (if d.bit (HC_GEOM_NOZ c) HC_GEOM_NOZ.MIRROR then d.nozzles c - 1 - k else k) := by
  have place : k * d.stride c / d.stride c = k := Nat.mul_div_cancel _ (d.stride_pos c)
  have covered : ¬ d.nozzles c ≤ k := Nat.not_le.2 h
  simp only [Dev.nozzleAt, Nat.add_sub_cancel_left, Nat.mul_mod_left, place]
  cases d.bit (HC_GEOM_NOZ c) HC_GEOM_NOZ.MIRROR <;> simp [covered]

theorem Dev.nozzleAt_dotOf {d : Dev} {c n : Nat} (h : n < d.nozzles c) : d.nozzleAt c (d.dotOf c n) = some n := by
  cases hm : d.bit (HC_GEOM_NOZ c) HC_GEOM_NOZ.MIRROR with
  | false => rw [Dev.dotOf_plain n hm, Dev.nozzleAt_nth_dot h, hm]; rfl
  | true =>
    have fromHigh : d.nozzles c - 1 - n < d.nozzles c := by omega
    have back : d.nozzles c - 1 - (d.nozzles c - 1 - n) = n := by omega
    rw [Dev.dotOf_mirrored n hm, Dev.nozzleAt_nth_dot fromHigh, hm, if_pos rfl, back]

/-- Settles O11: the two cases of `Dev.dotOf`, and the `k`-th covered dot looked up. -/
theorem nozzlesLieAtTheirDots : Obligations.NozzlesLieAtTheirDots := by
  unfold Obligations.NozzlesLieAtTheirDots
  exact ⟨Dev.stride_values, fun _ _ n h => Dev.dotOf_plain n h,
    fun _ _ n h => ⟨Dev.dotOf_mirrored n h, Dev.dotOf_mirrored_le_zero n h⟩,
    fun d c h => ⟨Dev.exists_dotOf_eq_xOrigin h, d.xOrigin_le_dotOf c⟩, fun _ _ _ h => Dev.nozzleAt_dotOf h⟩

/-! ## Rows (R46, R51) -/

theorem Dev.rowOf_interleaved {d : Dev} {c : Nat} (n : Nat) (h : d.bit (HC_GEOM_NOZ c) HC_GEOM_NOZ.BLOCKED = false) :
    d.rowOf c n = n % d.rows c := by
  simp [Dev.rowOf, h]

theorem Dev.rowOf_blocked {d : Dev} {c : Nat} (n : Nat) (h : d.bit (HC_GEOM_NOZ c) HC_GEOM_NOZ.BLOCKED = true) :
    d.rowOf c n = n / (d.nozzles c / d.rows c) := by
  simp [Dev.rowOf, h]

theorem Dev.rows_pos (d : Dev) (c : Nat) : 0 < d.rows c := Nat.succ_pos _

theorem Dev.rowOf_lt_rows {d : Dev} {c n : Nat} (hn : n < d.nozzles c) (hd : d.nozzles c % d.rows c = 0) :
    d.rowOf c n < d.rows c := by
  cases h : d.bit (HC_GEOM_NOZ c) HC_GEOM_NOZ.BLOCKED with
  | false => rw [Dev.rowOf_interleaved n h]; exact Nat.mod_lt _ (d.rows_pos c)
  | true =>
    have filled : d.nozzles c / d.rows c * d.rows c = d.nozzles c := Nat.div_mul_cancel (Nat.dvd_of_mod_eq_zero hd)
    rw [Dev.rowOf_blocked n h]
    exact Nat.div_lt_of_lt_mul (by rwa [filled])

/-- A geometry block is rejected when one item of R51 names a record. -/
theorem geoFault_ne_none {g : List Byte} {item : Nat} {l : List Nat} (h : (item, l) ∈ geoItems g) (hl : l ≠ []) :
    geoFault g ≠ none := by
  intro accepted
  have noRecord := List.findSome?_eq_none_iff.1 accepted _ h
  cases l with
  | nil => exact hl rfl
  | cons r l => cases noRecord

theorem GeoChan.badField_of_rows {r : GeoChan} (h : r.n % r.rows ≠ 0) : r.badField = true := by
  simp [GeoChan.badField, h]

/-- Item 4 of R51 names the channel records whose nozzles do not fill their rows. -/
theorem geoFault_of_rows {g : List Byte} {r : GeoChan} (hr : r ∈ geoChans g) (h : r.n % r.rows ≠ 0) :
    geoFault g ≠ none := by
  have item : (4, ((geoChans g).filter GeoChan.badField).map (·.rec_)) ∈ geoItems g := by simp [geoItems]
  exact geoFault_ne_none item
    (List.ne_nil_of_mem (List.mem_map_of_mem (List.mem_filter.2 ⟨hr, GeoChan.badField_of_rows h⟩)))

/-- Settles O12: the two cases of `Dev.rowOf`, and item 4 of R51. -/
theorem rowsOfNozzles : Obligations.RowsOfNozzles := by
  unfold Obligations.RowsOfNozzles
  exact ⟨fun _ _ n h => Dev.rowOf_interleaved n h, fun _ _ n h => Dev.rowOf_blocked n h,
    fun _ ⟨_, hr, h⟩ => geoFault_of_rows hr h, fun _ _ _ hn hd => Dev.rowOf_lt_rows hn hd⟩

end Sys2Proof.Machine
end

section
/-! Proofs: passes of a scan geometry, and changes of the row delay (R54, R55, R96 to R98). -/

namespace Sys2Proof.Machine

/-! ## What a command that writes a register runs to -/

/-- An allowed write that answers: what holds of its effect after the forwarding and the report. -/
theorem runs_answered {i : Instr} {s : State} {q : Req} {a : Nat} {v : Word} {d : Dev} {P : Dev → Prop}
    (hi : exec i s = .next (s.answered q a v d)) (h : P (s.answered q a v d).dev) : Runs i s P :=
  ⟨_, hi, rfl, rfl, h⟩

@[simp] theorem State.answered_get (s : State) (q : Req) (a : Nat) (v : Word) (d : Dev) (b : Nat) (f : Fld) :
    (s.answered q a v d).dev.get b f = d.get b f := Dev.get_forward d q a v b f

@[simp] theorem State.answered_fir (s : State) (q : Req) (a : Nat) (v : Word) (d : Dev) : (s.answered q a v d).dev.fir = d.fir :=
  Dev.forward_fir d q a v

/-- What an answered write leaves, seen from the state in which it acts. -/
theorem Frame.answered_granted {rs : List Nat} {ps : List Part} {s : State} {q : Req} {d : Dev} (a : Nat) (v : Word)
    (h : Part.out ∈ ps) (hd : Frame rs ps (s.granted q) d) : Frame rs ps (s.granted q) (s.answered q a v d).dev :=
  hd.trans ((Frame.forward rs ps d q a v h).trans (Frame.emit rs ps _ _ h))

theorem Frame.withFir (rs : List Nat) (ps : List Part) (d : Dev) (x : FirSt) (h : Part.fir ∈ ps) :
    Frame rs ps d { d with fir := x } :=
  ⟨fun _ _ => rfl, fun p n => by cases p <;> first | rfl | exact absurd h n⟩

@[simp] theorem Dev.get_withFir (d : Dev) (x : FirSt) (a : Nat) (f : Fld) : Dev.get { d with fir := x } a f = d.get a f := rfl

/-! ## PASS_GO and PASS_ABORT (R96 to R98) -/

theorem exec_passGo {s : State} {q : Req} (h : Allowed s q FIR_CMD) :
    exec (.passGo q) s = .next (s.answered q FIR_CMD 8 (passGo (s.granted q))) :=
  congrArg Host.Outcome.next (State.devCommand_allowed s q FIR_CMD 8 firCmdWrite h)

theorem exec_passAbort {s : State} {q : Req} (h : Allowed s q FIR_CMD) :
    exec (.passAbort q) s = .next (s.answered q FIR_CMD 16 (passAbort (s.granted q))) :=
  congrArg Host.Outcome.next (State.devCommand_allowed s q FIR_CMD 16 firCmdWrite h)

theorem passGo_refused {d : Dev} (hs : d.scan = true)
    (h : d.describedPass.last < d.describedPass.first ∨
      ∃ c ∈ d.channels, 1048575 < d.describedPass.last + d.maxOff c) :
    passGo d = { d.flag FIR_EVT FIR_EVT.PASS_REJ with fir := { d.fir with held := none } } := by
  have bad : (d.describedPass.last < d.describedPass.first ||
      d.channels.any (fun c => decide (1048575 < d.describedPass.last + d.maxOff c))) = true := by simpa using h
  simp only [passGo, hs, bad, Bool.not_true, Bool.false_eq_true, if_false, if_true]

theorem passGo_accepted {d : Dev} (hs : d.scan = true) (hl : d.describedPass.first ≤ d.describedPass.last)
    (hm : ∀ c ∈ d.channels, d.describedPass.last + d.maxOff c ≤ 1048575) :
    passGo d =
      if d.passActive then { d with fir := { d.fir with held := some d.describedPass } }
      else ((d.armPass d.describedPass).prepBanks d.channels).checkPassSegs d.describedPass := by
  have good : (d.describedPass.last < d.describedPass.first ||
      d.channels.any (fun c => decide (1048575 < d.describedPass.last + d.maxOff c))) = false := by simpa [hl] using hm
  simp only [passGo, hs, good, Bool.not_true, Bool.false_eq_true, if_false]

theorem passAbort_active {d : Dev} (h : d.passActive = true) :
    passAbort d = (d.abortLines.each d.abortLines.fir.chans (fun c d => d.cutStrobes c)).passOver false := by
  simp only [passAbort, h, if_true]

/-- Without an active pass PASS_ABORT disarms, if there is an armed pass to disarm. -/
theorem passAbort_inactive {d : Dev} (h : d.passActive = false) :
    passAbort d = if d.fir.armed.isSome then d.passDisarm else d := by
  simp only [passAbort, h, Bool.false_eq_true, if_false]

theorem Frame.passDisarm (rs : List Nat) (ps : List Part) (d : Dev) (hr : FIR_STS ∈ rs) (hp : Part.fir ∈ ps) :
    Frame rs ps d d.passDisarm :=
  (Frame.put rs ps d _ _ _ hr).trans (Frame.withFir rs ps _ _ hp)

theorem Dev.passDisarm_clears (d : Dev) : d.passDisarm.get FIR_STS FIR_STS.PASS_ARMED = 0 :=
  Dev.get_put_same d FIR_STS FIR_STS.PASS_ARMED 0 (by decide)

theorem Frame.passAbort_disarm (ps : List Part) {d : Dev} (h : d.passActive = false) (hp : Part.fir ∈ ps) :
    Frame [FIR_STS] ps d (passAbort d) := by
  rw [passAbort_inactive h]
  split
  · exact Frame.passDisarm _ _ _ (List.mem_singleton_self _) hp
  · exact Frame.refl _ _ _

theorem passAbort_inactive_armed {d : Dev} (h : d.passActive = false) : (passAbort d).fir.armed = none := by
  rw [passAbort_inactive h]
  split
  · rfl
  · next notArmed => simpa using notArmed

theorem passAbort_inactive_disarms {d : Dev} (h : d.passActive = false) (ha : d.fir.armed ≠ none) :
    (passAbort d).get FIR_STS FIR_STS.PASS_ARMED = 0 := by
  rw [passAbort_inactive h, if_pos (Option.isSome_iff_ne_none.2 ha)]
  exact d.passDisarm_clears

/-! ## PASS_ACTIVATE (R97) -/

/-- What the start of a channel writes: its interval in force and its flags, and its hidden state. -/
theorem Frame.startChannel {rs : List Nat} {ps : List Part} (d : Dev) (b m c : Nat) (hm : HC_FIR_MININT_EFF c ∈ rs)
    (hf : HC_FIR_STS c ∈ rs) (hp : Part.hcs ∈ ps) : Frame rs ps d (d.startChannel b m c) :=
  (Frame.wrN rs ps d _ _ hm).trans ((Frame.put rs ps _ _ _ _ hf).trans ((Frame.put rs ps _ _ _ _ hf).trans
    ((Frame.modHc rs ps _ c _ hp).trans (Frame.modHc rs ps _ c _ hp))))

/-- The registers that the start of channels writes. -/
def startRegs (cs : List Nat) : List Nat := cs.flatMap (fun c => [HC_FIR_MININT_EFF c, HC_FIR_STS c])

theorem Frame.each_startChannel {ps : List Part} (d : Dev) (b : Nat) (m : Nat → Dev → Nat) (cs : List Nat)
    (hp : Part.hcs ∈ ps) :
    Frame (startRegs cs) ps d (d.each cs (fun c e => e.startChannel b (m c e) c)) :=
  Frame.each _ cs d fun c hc e =>
    Frame.startChannel e b (m c e) c (List.mem_flatMap.2 ⟨c, hc, by simp⟩) (List.mem_flatMap.2 ⟨c, hc, by simp⟩) hp

/-- Every register of a channel lies above the blocks of the sequencer. -/
theorem not_mem_startRegs {a : Nat} (cs : List Nat) (h : a < 0x100000) : a ∉ startRegs cs := by
  intro m
  obtain ⟨c, -, m⟩ := List.mem_flatMap.1 m
  simp only [HC_FIR_MININT_EFF, HC_FIR_STS, List.mem_cons, List.not_mem_nil, or_false] at m
  omega

/-- The flags of a pass that becomes active (R97). -/
def Dev.passFlags (d : Dev) (p : Pass) : Dev :=
  ((d.passDisarm.put FIR_STS FIR_STS.PASS_ACTIVE 1).put FIR_STS FIR_STS.PASS_DIR (if p.rev then 1 else 0)).flag
    FIR_EVT FIR_EVT.PASS_START

theorem Dev.passFlags_fields (d : Dev) (p : Pass) :
    (d.passFlags p).get FIR_STS FIR_STS.PASS_ARMED = 0 ∧ (d.passFlags p).get FIR_STS FIR_STS.PASS_ACTIVE = 1 ∧
    (d.passFlags p).get FIR_STS FIR_STS.PASS_DIR = (if p.rev then 1 else 0) ∧
    (d.passFlags p).get FIR_EVT FIR_EVT.PASS_START = 1 := by
  have dirBit : (if p.rev then 1 else 0) % 2 ^ FIR_STS.PASS_DIR.width = if p.rev then 1 else 0 := by cases p.rev <;> rfl
  unfold Dev.passFlags
  simp (disch := decide) only [Dev.get_flag_same, Dev.get_flag_other, Dev.get_put_same, Dev.get_put_other,
    Dev.passDisarm_clears, dirBit]
  decide

/-- The armed pass becomes the active one (R97, R98): its flags, the channels and bits it fires with, and the hold of P. -/
def Dev.openPass (d : Dev) (p : Pass) (cs : List Nat) (b : Nat) : Dev :=
  let d := d.passFlags p
  { d with
    fir := { d.fir with
      active := some p, lastPass := some p.pass, npass := d.get FIR_ILACE FIR_ILACE.NPASS, chans := cs, bits := b }
    pac := { d.pac with
      held := d.P, hwmCnt := (d.source d.pac.use).cnt * (if p.rev then -1 else 1), hwmPos := d.loopMeasured } }

theorem Dev.openPass_fir (d : Dev) (p : Pass) (cs : List Nat) (b : Nat) :
    (d.openPass p cs b).fir.active = some p ∧ (d.openPass p cs b).fir.armed = none ∧ (d.openPass p cs b).fir.chans = cs :=
  ⟨rfl, rfl, rfl⟩

theorem Dev.openPass_regs (d : Dev) (p : Pass) (cs : List Nat) (b : Nat) : (d.openPass p cs b).regs = (d.passFlags p).regs := rfl

theorem Dev.get_openPass (d : Dev) (p : Pass) (cs : List Nat) (b a : Nat) (f : Fld) :
    (d.openPass p cs b).get a f = (d.passFlags p).get a f := by
  rw [Dev.get, Dev.get, Dev.rd, Dev.rd, Dev.openPass_regs]

/-- Opening a pass on its channels (R97, R89, R91). -/
def Dev.startPass (d : Dev) (p : Pass) (cs : List Nat) (b : Nat) : Dev :=
  (d.anchor.openPass p cs b).each cs (fun c e => e.startChannel b (e.passStart p c) c)

theorem Dev.startPass_frame (d : Dev) (p : Pass) (cs : List Nat) (b : Nat) :
    Frame (startRegs cs) [.hcs] (d.anchor.openPass p cs b) (d.startPass p cs b) :=
  Frame.each_startChannel _ _ (fun c e => e.passStart p c) _ (List.mem_singleton_self _)

theorem Dev.startPass_fir (d : Dev) (p : Pass) (cs : List Nat) (b : Nat) :
    (d.startPass p cs b).fir = (d.anchor.openPass p cs b).fir :=
  (d.startPass_frame p cs b).2 .fir (by decide)

theorem Dev.startPass_ras (d : Dev) (p : Pass) (cs : List Nat) (b : Nat) :
    (d.startPass p cs b).ras = (d.anchor.openPass p cs b).ras :=
  (d.startPass_frame p cs b).2 .ras (by decide)

/-- The sequencer's registers hold the flags of the pass. -/
theorem Dev.get_startPass (d : Dev) (p : Pass) (cs : List Nat) (b : Nat) {a : Nat} (f : Fld) (h : a < 0x100000) :
    (d.startPass p cs b).get a f = (d.anchor.passFlags p).get a f := by
  rw [← Dev.get_openPass _ p cs b, Dev.get, Dev.get, (d.startPass_frame p cs b).1 a (not_mem_startRegs cs h)]

theorem Part.same_markDue (d : Dev) (p : Part) (h : p ≠ .hcs) : p.same d d.markDue :=
  (Frame.each (rs := []) (ps := [.hcs]) _ _ d fun c _ e => Frame.modHc _ _ e c _ (by decide)).2 p (by simpa using h)

@[simp] theorem Dev.anchor_headJob (d : Dev) : d.anchor.headJob = d.headJob :=
  congrArg (fun r : RasSt => r.jobs.head?) (Part.same_markDue d .ras (by decide))

/-- The first target of a pass on a channel has passed (R97). -/
def Dev.firstTargetPassed (d : Dev) (p : Pass) (c : Nat) : Bool :=
  if p.rev then decide (d.P ≤ d.passTarget c (d.passStart p c) p) else decide (d.passTarget c (d.passStart p c) p ≤ d.P)

theorem Dev.firstTargetPassed_of_ahead {d : Dev} {p : Pass} {c : Nat}
    (h : if p.rev then d.passTarget c (d.passStart p c) p < d.P else d.P < d.passTarget c (d.passStart p c) p) :
    d.firstTargetPassed p c = false := by
  unfold Dev.firstTargetPassed
  cases hr : p.rev <;> rw [hr] at h <;> exact decide_eq_false (Int.not_le.2 h)

/-- An armed head job is RUNNING from its first pass on. -/
def Dev.startHeadJob (d : Dev) : Dev :=
  match d.headJob with
  | some j =>
    if j.state = 2 then
      let d := { d with ras := { d.ras with progressAt := d.now } }
      (d.setJobState j.id 3).flag FIR_EVT FIR_EVT.STARTED
    else d
  | none => d

theorem Dev.startHeadJob_none {d : Dev} (h : d.headJob = none) : d.startHeadJob = d := by
  unfold Dev.startHeadJob
  rw [h]

/-- PASS_ACTIVATE of an armed pass, on the channels and at the bits of the head job, or on every channel at one bit. -/
theorem passActivate_armed {d : Dev} {p : Pass} (h : d.fir.armed = some p) :
    passActivate d =
      let cs := match d.headJob with
        | some j => j.chans
        | none => d.channels
      let b := (d.headJob.map (·.bits)).getD 1
      if d.passActive || (d.bit FIR_CFG FIR_CFG.WAIT_ADV && !d.bit PAC_ADV_CFG PAC_ADV_CFG.IDLE) then d
      else if cs.any (fun c => !d.bankCurrent c) then d.prepBanks cs
      else if cs.any (d.firstTargetPassed p) then d.passDisarm.flag FIR_EVT FIR_EVT.PASS_REJ
      else match d.startFault cs b with
        | some e => e.passDisarm
        | none => (d.startPass p cs b).startHeadJob := by
  unfold passActivate
  rw [h]
  rfl

section
variable {d : Dev} {p : Pass} (armed : d.fir.armed = some p) (idle : d.passActive = false)
  (settled : d.bit FIR_CFG FIR_CFG.WAIT_ADV = false ∨ d.bit PAC_ADV_CFG PAC_ADV_CFG.IDLE = true) (noJob : d.headJob = none)
  (banks : ∀ c ∈ d.channels, d.bankCurrent c = true)
include armed idle settled noJob banks

/-- PASS_ACTIVATE without a job, with the paper settled and every bank in force: a pass whose first target has passed is refused,
and any other starts unless a table is refused. -/
theorem passActivate_settled : passActivate d =
    if d.channels.any (d.firstTargetPassed p) then d.passDisarm.flag FIR_EVT FIR_EVT.PASS_REJ
    else match d.startFault d.channels 1 with
      | some e => e.passDisarm
      | none => d.startPass p d.channels 1 := by
  have noWait : (d.passActive || (d.bit FIR_CFG FIR_CFG.WAIT_ADV && !d.bit PAC_ADV_CFG PAC_ADV_CFG.IDLE)) = false := by
    obtain h | h := settled <;> simp [idle, h]
  have inForce : d.channels.any (fun c => !d.bankCurrent c) = false := by simpa using banks
  have noHead : (d.startPass p d.channels 1).headJob = none := by
    rw [Dev.headJob, Dev.startPass_ras]
    exact d.anchor_headJob.trans noJob
  rw [passActivate_armed armed]
  simp only [noJob, noWait, inForce, Bool.false_eq_true, if_false, Option.map_none, Option.getD_none,
    Dev.startHeadJob_none noHead]

theorem passActivate_late {c : Nat} (hc : c ∈ d.channels) (hr : p.rev = false) (ht : d.passTarget c p.first p ≤ d.P) :
    passActivate d = d.passDisarm.flag FIR_EVT FIR_EVT.PASS_REJ := by
  have late : d.channels.any (d.firstTargetPassed p) = true :=
    List.any_eq_true.2 ⟨c, hc, by simpa [Dev.firstTargetPassed, Dev.passStart, hr] using ht⟩
  rw [passActivate_settled armed idle settled noJob banks, if_pos late]

theorem passActivate_starts
    (ahead : ∀ c ∈ d.channels, if p.rev then d.passTarget c (d.passStart p c) p < d.P
      else d.P < d.passTarget c (d.passStart p c) p)
    (tables : d.startFault d.channels 1 = none) : passActivate d = d.startPass p d.channels 1 := by
  have noneLate : ¬ d.channels.any (d.firstTargetPassed p) = true := by
    rw [List.any_eq_true]
    rintro ⟨c, hc, late⟩
    exact absurd late (by rw [Dev.firstTargetPassed_of_ahead (ahead c hc)]; decide)
  rw [passActivate_settled armed idle settled noJob banks, if_neg noneLate, tables]

end

/-- PASS_ACTIVATE leaves what its effect leaves of the state in which it arrives. -/
theorem runs_passActivate {s : State} {dt : Nat} {e : Dev} {P : Dev → Prop} (he : passActivate (s.after dt) = e) (h : P e) :
    Runs (.passActivate dt) s P := by
  subst he
  exact ⟨_, rfl, rfl, rfl, h⟩

/-! ## Row delay changes (R54, R55) -/

theorem Frame.propose (rs : List Nat) (ps : List Part) (d : Dev) (kind mask line : Nat) (l : List Nat) (hp : Part.pair ∈ ps)
    (ho : Part.out ∈ ps) : Frame rs ps d (d.propose kind mask line l) := by
  unfold Dev.propose
  split
  · exact (Frame.modPair rs ps _ _ hp).trans (Frame.brdSend rs ps _ _ _ ho)
  · exact Frame.refl _ _ _

/-- Only the active of a pair proposes changes (R415). -/
theorem Dev.propose_alone {d : Dev} (kind mask line : Nat) (l : List Nat) (h : d.activeOfPair = false) :
    d.propose kind mask line l = d := by
  simp [Dev.propose, h]

@[simp] theorem Dev.rd_propose (d : Dev) (kind mask line : Nat) (l : List Nat) (a : Nat) :
    (d.propose kind mask line l).rd a = d.rd a :=
  (Frame.propose [] [.pair, .out] d kind mask line l (by decide) (by decide)).1 a (List.not_mem_nil)

/-- A job is active, or a pass is armed or active: what FIR_STS says. -/
theorem Dev.busy_congr {d e : Dev} (h : e.rd FIR_STS = d.rd FIR_STS) :
    (e.jobActive || e.passBusy) = (d.jobActive || d.passBusy) := by
  simp only [Dev.jobActive, Dev.passBusy, Dev.bit, Dev.get, h]

theorem Dev.activeOfPair_congr {d e : Dev} (h : e.rd BRD_STS = d.rd BRD_STS) : e.activeOfPair = d.activeOfPair := by
  simp only [Dev.activeOfPair, Dev.role, Dev.get, h]

/-- The line of a row delay change stands in its two registers (R11, R54). -/
def Dev.putRowdlyLine (d : Dev) (c : Nat) (lo v : Word) : Dev := (d.wr (HC_ROWDLY_AT_LO c) lo).typedWrite (HC_ROWDLY_AT_HI c) v

theorem Frame.putRowdlyLine (ps : List Part) (d : Dev) (c : Nat) (lo v : Word) :
    Frame [HC_ROWDLY_AT_LO c, HC_ROWDLY_AT_HI c] ps d (d.putRowdlyLine c lo v) :=
  (Frame.wr _ ps d _ _ (by simp)).trans (Frame.typedWrite _ ps _ _ _ (by simp))

theorem Dev.rd_putRowdlyLine (d : Dev) (c : Nat) (lo v : Word) {a : Nat} (hl : a ≠ HC_ROWDLY_AT_LO c)
    (hh : a ≠ HC_ROWDLY_AT_HI c) :
    (d.putRowdlyLine c lo v).rd a = d.rd a :=
  (Frame.putRowdlyLine [] d c lo v).1 a (by simp [hl, hh])

/-- How far the armed row delay lies from the one at the start, in sub-lines (R55). -/
def Dev.rowdlyMove (d : Dev) (c : Nat) : Nat := ((d.rdN (HC_ROWDLY_NEXT c) : Int) - (d.hc c).dStart).natAbs

@[simp] theorem State.granted_rowdlyMove (s : State) (q : Req) (c : Nat) : (s.granted q).rowdlyMove c = s.dev.rowdlyMove c := by
  rw [State.granted, Dev.rowdlyMove, Dev.rdN, Dev.hc, Dev.rd_renew, Dev.renew_hcs]
  rfl

theorem Dev.rowdlyMove_putRowdlyLine (d : Dev) (c : Nat) (lo v : Word) :
    (d.putRowdlyLine c lo v).rowdlyMove c = d.rowdlyMove c := by
  have next : (d.putRowdlyLine c lo v).rd (HC_ROWDLY_NEXT c) = d.rd (HC_ROWDLY_NEXT c) :=
    Dev.rd_putRowdlyLine d c lo v (by simp [HC_ROWDLY_NEXT, HC_ROWDLY_AT_LO]) (by simp [HC_ROWDLY_NEXT, HC_ROWDLY_AT_HI])
  rw [Dev.rowdlyMove, Dev.rdN, next]
  rfl

theorem Dev.busy_putRowdlyLine (d : Dev) (c : Nat) (lo v : Word) :
    ((d.putRowdlyLine c lo v).jobActive || (d.putRowdlyLine c lo v).passBusy) = (d.jobActive || d.passBusy) :=
  Dev.busy_congr (Dev.rd_putRowdlyLine d c lo v (by simp only [FIR_STS, HC_ROWDLY_AT_LO]; omega)
    (by simp only [FIR_STS, HC_ROWDLY_AT_HI]; omega))

theorem Dev.activeOfPair_putRowdlyLine (d : Dev) (c : Nat) (lo v : Word) :
    (d.putRowdlyLine c lo v).activeOfPair = d.activeOfPair :=
  Dev.activeOfPair_congr (Dev.rd_putRowdlyLine d c lo v (by simp only [BRD_STS, HC_ROWDLY_AT_LO]; omega)
    (by simp only [BRD_STS, HC_ROWDLY_AT_HI]; omega))

/-- With no job or pass and no pair, the new row delay is in force at once. -/
theorem rowdlyArm_idle {d : Dev} {c : Nat} (h : (d.jobActive || d.passBusy) = false) (ha : d.activeOfPair = false) :
    rowdlyArm c d = (d.wr (HC_ROWDLY c) (d.rd (HC_ROWDLY_NEXT c))).put (HC_GEOM_STS c) HC_GEOM_STS.PENDING 0 := by
  have role : ((d.wr (HC_ROWDLY c) (d.rd (HC_ROWDLY_NEXT c))).put (HC_GEOM_STS c) HC_GEOM_STS.PENDING 0).rd BRD_STS =
      d.rd BRD_STS := by
    rw [Dev.rd_put, if_neg (by simp only [BRD_STS, HC_GEOM_STS]; omega),
      Dev.rd_wr_ne _ _ (by simp only [BRD_STS, HC_ROWDLY]; omega)]
  simp only [rowdlyArm, h, Bool.false_eq_true, if_false]
  exact Dev.propose_alone _ _ _ _ ((Dev.activeOfPair_congr role).trans ha)

theorem rowdlyArm_rejects {d : Dev} {c : Nat} (h : (d.jobActive || d.passBusy) = true) (hm : 255 < d.rowdlyMove c) :
    rowdlyArm c d = (d.flag (HC_GEOM_STS c) HC_GEOM_STS.REJECT).put (HC_GEOM_STS c) HC_GEOM_STS.PENDING 0 := by
  unfold rowdlyArm
  exact (if_pos h).trans (if_pos hm)

theorem rowdlyArm_pends {d : Dev} {c : Nat} (h : (d.jobActive || d.passBusy) = true) (hm : d.rowdlyMove c ≤ 255) :
    rowdlyArm c d = (d.put (HC_GEOM_STS c) HC_GEOM_STS.PENDING 1).propose 1 (2 ^ c) (d.rowDelayAt c)
      [Int.toNat (d.rdN (HC_ROWDLY_NEXT c))] := by
  unfold rowdlyArm
  exact (if_pos h).trans (if_neg (Nat.not_lt.2 hm))

/-- The word of ROWDLY_ARM has ARM set. -/
theorem bit_arm (hi : Fin 256) : Word.bit (BitVec.ofNat 32 (2 ^ 31 + hi.val)) 31 = true := by
  rw [Word.bit, BitVec.toNat_ofNat, Nat.mod_eq_of_lt (by omega), Nat.testBit_two_pow_add_eq, Nat.testBit_lt_two_pow (by omega)]
  rfl

/-- A write of HC_ROWDLY_AT_HI with ARM arms the change whose line it completes. -/
theorem rowdlyAtWrite_arm (c : Nat) (lo : Word) {v : Word} (d : Dev) (h : Word.bit v 31 = true) :
    rowdlyAtWrite c lo v d = rowdlyArm c (d.putRowdlyLine c lo v) := by
  unfold rowdlyAtWrite
  rw [h]
  rfl

/-- ROWDLY_ARM through an allowed access: the change is armed with its line in the registers. -/
theorem exec_rowdlyArm {s : State} {q : Req} {c : Fin 64} (hi : Fin 256) (h : Allowed s q (HC_ROWDLY_AT_HI c.val)) :
    ∃ lo v, exec (.rowdlyArm q c hi) s =
      .next (s.answered q (HC_ROWDLY_AT_HI c.val) v (rowdlyArm c.val ((s.granted q).putRowdlyLine c.val lo v))) := by
  have allowed := State.highCommand_allowed s q (HC_ROWDLY_AT_LO c.val) _ (BitVec.ofNat 32 (2 ^ 31 + hi.val))
    (rowdlyAtWrite c.val) h
  rw [rowdlyAtWrite_arm _ _ _ (bit_arm hi)] at allowed
  exact ⟨_, _, congrArg Host.Outcome.next allowed⟩

section
variable {s : State} {q : Req} {c : Fin 64} (hi : Fin 256) (h : Allowed s q (HC_ROWDLY_AT_HI c.val))
include h

theorem runs_rowdlyArm_idle (idle : ((s.granted q).jobActive || (s.granted q).passBusy) = false)
    (alone : (s.granted q).activeOfPair = false) :
    Runs (.rowdlyArm q c hi) s fun t => t.rd (HC_ROWDLY c.val) = s.dev.rd (HC_ROWDLY_NEXT c.val) ∧
      t.get (HC_GEOM_STS c.val) HC_GEOM_STS.PENDING = 0 ∧
      Frame [HC_ROWDLY c.val, HC_GEOM_STS c.val, HC_ROWDLY_AT_LO c.val, HC_ROWDLY_AT_HI c.val] [.host, .out] s.dev t := by
  obtain ⟨lo, v, run⟩ := exec_rowdlyArm hi h
  rw [rowdlyArm_idle ((Dev.busy_putRowdlyLine ..).trans idle) ((Dev.activeOfPair_putRowdlyLine ..).trans alone)] at run
  refine runs_answered run ⟨?value, ?pending, Frame.answered _ _ (by decide) (by decide) ?frame⟩
  case value =>
    rw [State.answered_rd, Dev.rd_put, if_neg (by simp [HC_ROWDLY, HC_GEOM_STS]), Dev.rd_wr_same,
      Dev.rd_putRowdlyLine _ _ _ _ (by simp [HC_ROWDLY_NEXT, HC_ROWDLY_AT_LO]) (by simp [HC_ROWDLY_NEXT, HC_ROWDLY_AT_HI]),
      State.granted, Dev.rd_renew]
  case pending => rw [State.answered_get, Dev.get_put_same _ _ _ _ (by decide)]; rfl
  case frame =>
    exact ((Frame.putRowdlyLine _ _ _ lo v).mono (by simp) (fun _ hp => hp)).trans
      ((Frame.wr _ _ _ _ _ (by simp)).trans (Frame.put _ _ _ _ _ _ (by simp)))

theorem runs_rowdlyArm_rejects (busy : ((s.granted q).jobActive || (s.granted q).passBusy) = true)
    (far : 255 < (s.granted q).rowdlyMove c.val) :
    Runs (.rowdlyArm q c hi) s fun t => t.get (HC_GEOM_STS c.val) HC_GEOM_STS.REJECT = 1 ∧
      t.get (HC_GEOM_STS c.val) HC_GEOM_STS.PENDING = 0 ∧
      Frame [HC_GEOM_STS c.val, HC_ROWDLY_AT_LO c.val, HC_ROWDLY_AT_HI c.val] [.host, .out] s.dev t := by
  obtain ⟨lo, v, run⟩ := exec_rowdlyArm hi h
  rw [rowdlyArm_rejects ((Dev.busy_putRowdlyLine ..).trans busy) (by rwa [Dev.rowdlyMove_putRowdlyLine])] at run
  refine runs_answered run ⟨?rejected, ?pending, Frame.answered _ _ (by decide) (by decide) ?frame⟩
  case rejected =>
    rw [State.answered_get, Dev.get_put_other _ _ _ _ _ _ (by decide) (.inr (by decide)),
      Dev.get_flag_same _ _ _ (by decide) (by decide)]
  case pending => rw [State.answered_get, Dev.get_put_same _ _ _ _ (by decide)]; rfl
  case frame =>
    exact ((Frame.putRowdlyLine _ _ _ lo v).mono (by simp) (fun _ hp => hp)).trans
      ((Frame.flag _ _ _ _ _ (by simp)).trans (Frame.put _ _ _ _ _ _ (by simp)))

theorem runs_rowdlyArm_pends (busy : ((s.granted q).jobActive || (s.granted q).passBusy) = true)
    (near : (s.granted q).rowdlyMove c.val ≤ 255) :
    Runs (.rowdlyArm q c hi) s fun t => t.get (HC_GEOM_STS c.val) HC_GEOM_STS.PENDING = 1 ∧
      Frame [HC_GEOM_STS c.val, HC_ROWDLY_AT_LO c.val, HC_ROWDLY_AT_HI c.val] [.host, .pair, .out] s.dev t := by
  obtain ⟨lo, v, run⟩ := exec_rowdlyArm hi h
  rw [rowdlyArm_pends ((Dev.busy_putRowdlyLine ..).trans busy) (by rwa [Dev.rowdlyMove_putRowdlyLine])] at run
  refine runs_answered run ⟨?pending, Frame.answered _ _ (by decide) (by decide) ?frame⟩
  case pending =>
    rw [State.answered_get, Dev.get, Dev.rd_propose, ← Dev.get, Dev.get_put_same _ _ _ _ (by decide)]; rfl
  case frame =>
    exact ((Frame.putRowdlyLine _ _ _ lo v).mono (by simp) (fun _ hp => hp)).trans
      ((Frame.put _ _ _ _ _ _ (by simp)).trans (Frame.propose _ _ _ _ _ _ _ (by decide) (by decide)))

end

/-- ROWDLY_APPLY of a change that is pending at or after its line is the fire of the channel's pending line. -/
theorem rowdlyApply_fires {d : Dev} {c m : Nat} (hm : d.pending c = some m)
    (hp : d.bit (HC_GEOM_STS c) HC_GEOM_STS.PENDING = true) (hl : d.atOrAfter (d.rowDelayAt c) m = true)
    (hf : d.canFire c = true) (hi : d.bit FIR_STS FIR_STS.INH_NOW = false) : rowdlyApply c d = d.fireLine c m := by
  simp [rowdlyApply, lineFire, hm, hp, hl, hf, hi]

/-! ## The statement -/

/-- Settles O20: each command by the lemma that says what its effect is on a state of the clause. -/
theorem passCommandsComplete : Obligations.PassCommandsComplete := by
  unfold Obligations.PassCommandsComplete
  refine ⟨fun s q h hs hb => ?refused, fun s q h hs hl hm => ?accepted, fun s q h ha => ?abort, fun s q h ha => ?disarm,
    fun s p dt armed idle settled noJob banks ahead tables => ?starts,
    fun s p c dt armed idle settled noJob banks hc hr ht => ?late,
    fun s q c hi h idle alone => runs_rowdlyArm_idle hi h idle alone, fun s q c hi h busy far => ?rejects,
    fun s q c hi h busy near => ?pends, fun s c m dt hm hp hl hf hn => ?fires⟩
  case refused =>
    have run := exec_passGo h
    rw [passGo_refused hs hb] at run
    refine runs_answered run ⟨?_, ?_, Frame.answered_granted _ _ (by decide) ?_⟩
    · rw [State.answered_get, Dev.get_withFir, Dev.get_flag_same _ _ _ (by decide) (by decide)]
    · rw [State.answered_fir]
    · exact (Frame.flag _ _ _ _ _ (by decide)).trans (Frame.withFir _ _ _ _ (by decide))
  case accepted => rw [exec_passGo h, passGo_accepted hs hl hm]
  case abort => rw [exec_passAbort h, passAbort_active ha]
  case disarm =>
    refine runs_answered (exec_passAbort h) ⟨?_, Frame.answered_granted _ _ (by decide) ?_, fun armed => ?_⟩
    · rw [State.answered_fir, passAbort_inactive_armed ha]
    · exact Frame.passAbort_disarm _ ha (by decide)
    · rw [State.answered_get, passAbort_inactive_disarms ha armed]
  case starts =>
    refine runs_passActivate (passActivate_starts armed idle settled noJob banks ahead tables) ?_
    simp (disch := decide) only [Dev.startPass_fir, Dev.get_startPass]
    obtain ⟨active, disarmed, chans⟩ := Dev.openPass_fir (s.after dt).anchor p (s.after dt).channels 1
    exact ⟨active, disarmed, chans, Dev.passFlags_fields _ p⟩
  case late =>
    refine runs_passActivate (passActivate_late armed idle settled noJob banks hc hr ht)
      ⟨rfl, Dev.get_flag_same _ _ _ (by decide) (by decide), ?_, ?_⟩
    · rw [Dev.get_flag_other _ _ _ _ _ (by decide) (by decide), Dev.passDisarm_clears]
    · exact (Frame.passDisarm _ _ _ (by decide) (by decide)).trans (Frame.flag _ _ _ _ _ (by decide))
  case rejects => exact runs_rowdlyArm_rejects hi h busy (by rw [State.granted_rowdlyMove]; exact far)
  case pends => exact runs_rowdlyArm_pends hi h busy (by rw [State.granted_rowdlyMove]; exact near)
  case fires => exact congrArg (fun d => Host.Outcome.next { s with dev := d }) (rowdlyApply_fires hm hp hl hf hn)

end Sys2Proof.Machine
end

section
/-! Proofs: the conditioning chains of the discrete inputs (R59 to R62). -/

namespace Sys2Proof.Machine

/-! ## Events on an island -/

/-- An event on an island that runs has its effect after its ticks. -/
theorem exec_event {i : Instr} {s : State} {dt code : Nat} {f : Dev → Dev}
    (hi : exec i s = .next ((s.pass dt).onIsl code f)) (up : (s.after dt).islUp code = true) :
    exec i s = .next ((s.pass dt).onDev f) :=
  hi.trans (congrArg Host.Outcome.next (if_pos up))

/-- What such an event runs to: whatever holds of its effect on the state in which it arrives. -/
theorem runs_event {i : Instr} {s : State} {dt code : Nat} {f : Dev → Dev} {P : Dev → Prop}
    (hi : exec i s = .next ((s.pass dt).onIsl code f)) (up : (s.after dt).islUp code = true) (h : P (f (s.after dt))) :
    Runs i s P :=
  ⟨_, exec_event hi up, rfl, rfl, h⟩

/-! ## The hidden state of a chain -/

@[simp] theorem Dev.inp_setInp (d : Dev) (i : Nat) (x : InSt) : (d.setInp i x).inp i = x := tget_tput_same _ _ _ _

theorem Frame.setInp (rs : List Nat) (ps : List Part) (d : Dev) (i : Nat) (x : InSt) (h : Part.input ∈ ps) :
    Frame rs ps d (d.setInp i x) :=
  ⟨fun _ _ => rfl, fun p n => by
    cases p
    case input => exact absurd h n
    all_goals rfl⟩

/-! ## Changes of level (R59) -/

/-- The level after polarity follows from the chain's hidden state and its IN_CFG. -/
theorem Dev.polLevel_congr {d e : Dev} {i : Nat} (hi : e.input = d.input) (hr : e.rd (inCfg i) = d.rd (inCfg i)) :
    e.polLevel i = d.polLevel i := by
  simp only [Dev.polLevel, Dev.inp, Dev.bit, Dev.get, hi, hr]

theorem Dev.polChange_of_filtered {d : Dev} {i : Nat} (j : Nat) (h : d.polLevel i = (d.inp i).filt) :
    d.polChange i j = d.setInp i { d.inp i with change := none } := if_pos h

theorem Dev.polChange_of_changed {d : Dev} {i : Nat} (j : Nat) (h : d.polLevel i ≠ (d.inp i).filt) :
    d.polChange i j = d.setInp i { d.inp i with
      change := some (d.now, j, d.get (inCfg i) PAC_IN_CFG.FILT), times := d.eventTimes j } := if_neg h

/-- A change of level sets or removes the change that is being filtered, and leaves the levels. -/
theorem Dev.inp_polChange (d : Dev) (i j : Nat) :
    ((d.polChange i j).inp i).raw = (d.inp i).raw ∧ ((d.polChange i j).inp i).filt = (d.inp i).filt ∧
    ((d.polChange i j).inp i).passed = (d.inp i).passed ∧
    ((d.polChange i j).inp i).change =
      if d.polLevel i = (d.inp i).filt then none else some (d.now, j, d.get (inCfg i) PAC_IN_CFG.FILT) := by
  by_cases h : d.polLevel i = (d.inp i).filt
  · simp [Dev.polChange_of_filtered j h, h]
  · simp [Dev.polChange_of_changed j h, h]

theorem Frame.polChange (rs : List Nat) (ps : List Part) (d : Dev) (i j : Nat) (h : Part.input ∈ ps) :
    Frame rs ps d (d.polChange i j) := by
  by_cases filtered : d.polLevel i = (d.inp i).filt
  · rw [Dev.polChange_of_filtered j filtered]; exact Frame.setInp _ _ _ _ _ h
  · rw [Dev.polChange_of_changed j filtered]; exact Frame.setInp _ _ _ _ _ h

theorem Dev.polLevel_polChange (d : Dev) (i j : Nat) : (d.polChange i j).polLevel i = d.polLevel i := by
  have cfg : (d.polChange i j).rd (inCfg i) = d.rd (inCfg i) :=
    (Frame.polChange [] [.input] d i j (by decide)).1 _ List.not_mem_nil
  simp only [Dev.polLevel, Dev.bit, Dev.get, cfg, (d.inp_polChange i j).1]

/-- The pin of an input is at the other level. -/
def Dev.togglePin (d : Dev) (i : Nat) : Dev := d.setInp i { d.inp i with raw := !(d.inp i).raw }

theorem inputTransition_eq (i j : Nat) (d : Dev) : inputTransition i j d = (d.togglePin i).polChange i j := rfl

theorem Dev.inp_togglePin (d : Dev) (i : Nat) : (d.togglePin i).inp i = { d.inp i with raw := !(d.inp i).raw } :=
  Dev.inp_setInp _ _ _

theorem Frame.inputTransition (d : Dev) (i j : Nat) : Frame [] [.input] d (inputTransition i j d) :=
  (Frame.setInp _ _ _ _ _ (by decide)).trans (Frame.polChange _ _ _ _ _ (by decide))

/-- INPUT_TRANSITION inverts the pin's level, and the filter's change follows the new level after polarity. -/
theorem inp_inputTransition (d : Dev) (i j : Nat) :
    ((inputTransition i j d).inp i).raw = (!(d.inp i).raw) ∧ ((inputTransition i j d).inp i).filt = (d.inp i).filt ∧
    ((inputTransition i j d).inp i).passed = (d.inp i).passed ∧
    ((inputTransition i j d).inp i).change =
      if (inputTransition i j d).polLevel i = ((inputTransition i j d).inp i).filt then none
      else some (d.now, j, d.get (inCfg i) PAC_IN_CFG.FILT) := by
  rw [inputTransition_eq, Dev.polLevel_polChange]
  obtain ⟨raw, filt, passed, change⟩ := (d.togglePin i).inp_polChange i j
  rw [raw, passed, change, filt, Dev.inp_togglePin]
  exact ⟨rfl, rfl, rfl, rfl⟩

/-! ## Writes of IN_CFG (R59) -/

theorem inCfgWrite_of_level {d : Dev} {i : Nat} {v : Word} (h : (d.typedWrite (inCfg i) v).polLevel i = d.polLevel i) :
    inCfgWrite i v d = d.typedWrite (inCfg i) v := if_pos h

theorem inCfgWrite_of_change {d : Dev} {i : Nat} {v : Word} (h : (d.typedWrite (inCfg i) v).polLevel i ≠ d.polLevel i) :
    inCfgWrite i v d = (d.typedWrite (inCfg i) v).polChange i 0 := if_neg h

/-- Beside the register a write of IN_CFG changes the chain's hidden state alone. -/
theorem Frame.inCfgWrite_typed (rs : List Nat) (ps : List Part) (d : Dev) (i : Nat) (v : Word) (h : Part.input ∈ ps) :
    Frame rs ps (d.typedWrite (inCfg i) v) (inCfgWrite i v d) := by
  by_cases level : (d.typedWrite (inCfg i) v).polLevel i = d.polLevel i
  · rw [inCfgWrite_of_level level]; exact Frame.refl _ _ _
  · rw [inCfgWrite_of_change level]; exact Frame.polChange _ _ _ _ _ h

theorem Dev.rd_inCfgWrite (d : Dev) (i : Nat) (v : Word) (a : Nat) :
    (inCfgWrite i v d).rd a = (d.typedWrite (inCfg i) v).rd a :=
  (Frame.inCfgWrite_typed [] [.input] d i v (by decide)).1 a List.not_mem_nil

theorem exec_inputPolWrite {s : State} {q : Req} {i : Fin 32} (v : Word) (h : Allowed s q (inCfg i.val)) :
    exec (.inputPolWrite q i v) s = .next (s.answered q (inCfg i.val) v (inCfgWrite i.val v (s.granted q))) :=
  congrArg Host.Outcome.next (State.devCommand_allowed s q (inCfg i.val) v (inCfgWrite i.val) h)

/-- The level that a write of IN_CFG leaves is the same with the lease restarted. -/
theorem State.granted_polLevel_typedWrite (s : State) (q : Req) (i : Nat) (v : Word) :
    ((s.granted q).typedWrite (inCfg i) v).polLevel i = (s.dev.typedWrite (inCfg i) v).polLevel i :=
  Dev.polLevel_congr (Dev.renew_input s.dev q) (Dev.rd_typedWrite_congr v (Dev.rd_renew s.dev q _))

theorem State.granted_polLevel (s : State) (q : Req) (i : Nat) : (s.granted q).polLevel i = s.dev.polLevel i :=
  Dev.polLevel_congr (Dev.renew_input s.dev q) (Dev.rd_renew s.dev q _)

/-! ## Accepted changes and closed gaps (R60 to R62) -/

theorem Dev.gather_singleton (d : Dev) (i : Nat) (f : Dev → Nat → Dev × List Edge) : d.gather [i] f = f d i := by
  simp [Dev.gather]

/-- Without an edge the consumers do nothing. -/
@[simp] theorem Dev.consume_nil (d : Dev) : d.consume [] = d := rfl

/-- The hidden state of a chain whose change has been accepted (R60, R61). -/
def Dev.acceptedInp (d : Dev) (i : Nat) : InSt :=
  let v := !(d.inp i).filt
  { d.inp i with
    filt := v, change := none
    activeAt := if v then some (d.now, d.get (inStuck i) PAC_IN_STUCK.MAX_ACTIVE) else none
    inactiveAt := if v then none else some (d.now, d.get (inStuck i) PAC_IN_STUCK.RELEASE) }

/-- A stuck input passes nothing on: a stable change moves its filtered level alone. -/
theorem Dev.acceptOne_of_stuck {d : Dev} {i k j f : Nat} (hc : (d.inp i).change = some (k, j, f)) (stable : k + f ≤ d.now)
    (stuck : d.isStuck i = true) : d.acceptOne i = (d.setInp i (d.acceptedInp i), []) := by
  have stays : (d.setInp i (d.acceptedInp i)).isStuck i = true := stuck
  unfold Dev.acceptOne
  simp only [hc]
  exact (if_neg (Nat.not_lt.2 stable)).trans (if_pos stays)

theorem glitchFilterAccept_of_stuck {d : Dev} {i k j f : Nat} (hc : (d.inp i).change = some (k, j, f)) (stable : k + f ≤ d.now)
    (stuck : d.isStuck i = true) : glitchFilterAccept [i] d = d.setInp i (d.acceptedInp i) := by
  simp only [glitchFilterAccept, Dev.gather_singleton, Dev.acceptOne_of_stuck hc stable stuck, Dev.consume_nil]

/-- A gap that is over closes without an edge where the consumer holds the level already. -/
theorem Dev.closeGap_of_level {d : Dev} {i g : Nat} (hg : (d.inp i).gapEnd = some g) (ended : g ≤ d.now)
    (level : ((d.inp i).filt && !d.isStuck i) = (d.inp i).passed) :
    d.closeGap i = (d.setInp i { d.inp i with gapEnd := none }, []) := by
  unfold Dev.closeGap
  simp only [hg]
  exact (if_neg (Nat.not_lt.2 ended)).trans (if_pos level)

theorem rateGapClose_of_level {d : Dev} {i g : Nat} (hg : (d.inp i).gapEnd = some g) (ended : g ≤ d.now)
    (level : ((d.inp i).filt && !d.isStuck i) = (d.inp i).passed) :
    rateGapClose [i] d = d.setInp i { d.inp i with gapEnd := none } := by
  simp only [rateGapClose, Dev.gather_singleton, Dev.closeGap_of_level hg ended level, Dev.consume_nil]

/-! ## Stuck inputs (R61) -/

/-- A stuck input is shown in its IN_STS, and a pacing input in PAC_EVT too (R61, R79). -/
def Dev.showStuck (d : Dev) (i : Nat) : Dev :=
  ((d.flag (inSts i) PAC_IN_STS.STUCK).put (inSts i) PAC_IN_STS.STUCK_NOW 1).pacInEvt i PAC_EVT.INSTUCK

theorem inSts_ne_pacEvt : ∀ i : Fin 32, inSts i.val ≠ PAC_EVT := by decide

theorem Frame.pacInEvt (rs : List Nat) (ps : List Part) (d : Dev) (i : Nat) (f : Fld) (h : PAC_EVT ∈ rs) :
    Frame rs ps d (d.pacInEvt i f) := by
  unfold Dev.pacInEvt
  split
  · exact Frame.flag _ _ _ _ _ h
  · exact Frame.refl _ _ _

theorem Frame.showStuck (ps : List Part) (d : Dev) (i : Nat) : Frame [inSts i, PAC_EVT] ps d (d.showStuck i) :=
  (Frame.flag _ _ _ _ _ (by simp)).trans ((Frame.put _ _ _ _ _ _ (by simp)).trans (Frame.pacInEvt _ _ _ _ _ (by simp)))

theorem Dev.get_pacInEvt_inSts (d : Dev) (i : Fin 32) (f g : Fld) :
    (d.pacInEvt i.val f).get (inSts i.val) g = d.get (inSts i.val) g := by
  have keeps := (Frame.pacInEvt [PAC_EVT] [] d i.val f (by simp)).1 (inSts i.val) (by simp [inSts_ne_pacEvt i])
  rw [Dev.get, keeps, Dev.get]

theorem Dev.showStuck_fields (d : Dev) (i : Fin 32) :
    (d.showStuck i.val).get (inSts i.val) PAC_IN_STS.STUCK = 1 ∧ (d.showStuck i.val).get (inSts i.val) PAC_IN_STS.STUCK_NOW = 1 ∧
    (i.val < 10 → (d.showStuck i.val).get PAC_EVT PAC_EVT.INSTUCK = 1) := by
  unfold Dev.showStuck
  refine ⟨?stuck, ?now, fun pacing => ?event⟩
  case stuck =>
    rw [Dev.get_pacInEvt_inSts, Dev.get_put_other _ _ _ _ _ _ (by decide) (.inr (by decide)),
      Dev.get_flag_same _ _ _ (by decide) (by decide)]
  case now => rw [Dev.get_pacInEvt_inSts, Dev.get_put_same _ _ _ _ (by decide)]; rfl
  case event => rw [Dev.pacInEvt, if_pos pacing, Dev.get_flag_same _ _ _ (by decide) (by decide)]

/-- The edge to inactive that an input makes when it sticks. -/
def Dev.stuckEdge (d : Dev) (i : Nat) : Edge := ⟨i, false, d.now, d.eventTimes 0⟩

section
variable {d : Dev} {i k m : Nat} (ha : (d.inp i).activeAt = some (k, m)) (hm : m ≠ 0) (free : d.isStuck i = false)
  (late : k + 800 * m < d.now)
include ha hm free late

/-- An input active for longer than MAX_ACTIVE is shown as stuck; if its consumer saw it active the consumer sees it inactive, and
a gate test on it ends (R61, R263). -/
theorem inputStuck_of_late : inputStuck i d =
    let e := if (d.inp i).passed then ((d.showStuck i).passEdge ((d.showStuck i).stuckEdge i)).consume
      [(d.showStuck i).stuckEdge i] else d.showStuck i
    if i = 14 ∨ i = 15 then e.gateAbort (i - 14) false else e := by
  have due : (m = 0 || d.isStuck i || decide (d.now ≤ k + usTicks m)) = false := by
    simp only [hm, free, usTicks, decide_false, Bool.or_self, Bool.false_or]
    exact decide_eq_false (by omega)
  unfold inputStuck
  simp only [ha, due, Bool.or_eq_true, decide_eq_true_eq]
  rfl

theorem inputStuck_of_passive (passive : (d.inp i).passed = false) (h14 : i ≠ 14) (h15 : i ≠ 15) :
    inputStuck i d = d.showStuck i := by
  simp [inputStuck_of_late ha hm free late, passive, h14, h15]

theorem inputStuck_of_passed (passed : (d.inp i).passed = true) : inputStuck i d =
    let e := ((d.showStuck i).passEdge ((d.showStuck i).stuckEdge i)).consume [(d.showStuck i).stuckEdge i]
    if i = 14 ∨ i = 15 then e.gateAbort (i - 14) false else e := by
  simp only [inputStuck_of_late ha hm free late, passed, if_true]

end

theorem stuckRelease_due {d : Dev} {i k r : Nat} (ha : (d.inp i).inactiveAt = some (k, r)) (stuck : d.isStuck i = true)
    (ended : k + 800 * r ≤ d.now) : stuckRelease i d = d.put (inSts i) PAC_IN_STS.STUCK_NOW 0 := by
  have due : (d.isStuck i && decide (k + usTicks r ≤ d.now)) = true := by
    rwa [stuck, Bool.true_and, decide_eq_true_eq, usTicks, Nat.mul_comm]
  unfold stuckRelease
  simp only [ha]
  exact if_pos due

/-! ## The statement -/

/-- Settles O22: each command by the lemma that says what its effect is on the chain. -/
theorem inputCommandsComplete : Obligations.InputCommandsComplete := by
  unfold Obligations.InputCommandsComplete
  refine ⟨fun s i j dt up => runs_event rfl up ⟨Frame.inputTransition _ _ _, inp_inputTransition _ _ _⟩,
    fun s q i v h => ?polWrite, fun s l dt up => exec_event rfl up, fun s i k j f dt up hc stable stuck => ?accept,
    fun s l dt up => exec_event rfl up, fun s i g dt up hg ended level => ?close,
    fun s i k m dt up ha hm free late passive h14 h15 => ?sticks,
    fun s i k m dt up ha hm free late passed => ?sticksPassed, fun s i k r dt up ha stuck ended => ?releases⟩
  case polWrite =>
    refine runs_answered (exec_inputPolWrite v h) ⟨Frame.answered _ _ (by decide) (by decide) ?_, ?_, fun level => ?_⟩
    · exact (Frame.typedWrite _ _ _ _ _ (by simp)).trans (Frame.inCfgWrite_typed _ _ _ _ _ (by decide))
    · rw [State.answered_rd, Dev.rd_inCfgWrite]
      exact Dev.rd_typedWrite_congr v (Dev.rd_renew s.dev q _)
    · have granted : ((s.granted q).typedWrite (inCfg i.val) v).polLevel i.val = (s.granted q).polLevel i.val := by
        rw [State.granted_polLevel_typedWrite, State.granted_polLevel, level]
      rw [inCfgWrite_of_level granted]
      exact (Dev.forward_input _ _ _ _).trans (Dev.renew_input s.dev q)
  case accept =>
    refine runs_event rfl up ?_
    rw [List.map_singleton, glitchFilterAccept_of_stuck hc stable stuck, Dev.inp_setInp]
    exact ⟨Frame.setInp _ _ _ _ _ (by decide), rfl, rfl, rfl⟩
  case close =>
    refine runs_event rfl up ?_
    rw [List.map_singleton, rateGapClose_of_level hg ended level, Dev.inp_setInp]
    exact ⟨Frame.setInp _ _ _ _ _ (by decide), rfl, rfl⟩
  case sticks =>
    refine runs_event rfl up ?_
    rw [inputStuck_of_passive ha hm free late passive h14 h15]
    exact ⟨Frame.showStuck _ _ _, Dev.showStuck_fields _ _⟩
  case sticksPassed =>
    rw [exec_event rfl up]
    exact congrArg (fun d => Host.Outcome.next { s.pass dt with dev := d }) (inputStuck_of_passed ha hm free late passed)
  case releases =>
    refine runs_event rfl up ?_
    rw [stuckRelease_due ha stuck ended]
    exact ⟨Frame.put _ _ _ _ _ _ (by simp), Dev.get_put_same _ _ _ _ (by decide)⟩

end Sys2Proof.Machine
end

section
/-! Proofs: the position counter across a change of the tracking loop's course (R67, R70). -/

namespace Sys2Proof.Machine

/-! ## What a frame keeps -/

theorem Frame.get_eq {rs : List Nat} {ps : List Part} {d e : Dev} (h : Frame rs ps d e) {a : Nat} (ha : a ∉ rs) (f : Fld) :
    e.get a f = d.get a f := by
  rw [Dev.get, Dev.get, h.1 a ha]

theorem Frame.mono_eq {rs : List Nat} {ps : List Part} {d e : Dev} (h : Frame rs ps d e) (hc : FIR_CFG ∉ rs)
    (hs : FIR_STS ∉ rs) : e.mono = d.mono := by
  have scan : e.scan = d.scan := congrArg (· != 0) (h.get_eq hc _)
  have active : e.passActive = d.passActive := congrArg (· != 0) (h.get_eq hs _)
  have dir : e.bit FIR_STS FIR_STS.PASS_DIR = d.bit FIR_STS FIR_STS.PASS_DIR := congrArg (· != 0) (h.get_eq hs _)
  unfold Dev.mono
  rw [scan, active, dir]

theorem Frame.withPac (rs : List Nat) (ps : List Part) (d : Dev) (x : PacSt) (h : Part.pac ∈ ps) :
    Frame rs ps d { d with pac := x } :=
  ⟨fun _ _ => rfl, fun p n => by
    cases p
    case pac => exact absurd h n
    all_goals rfl⟩

theorem Frame.setSource (rs : List Nat) (ps : List Part) (d : Dev) (i : Nat) (x : SrcSt) (h : Part.src ∈ ps) :
    Frame rs ps d (d.setSource i x) :=
  ⟨fun _ _ => rfl, fun p n => by
    cases p
    case src => exact absurd h n
    all_goals rfl⟩

/-! ## Publishing P (R70) -/

/-- A stretch begins at its first position. -/
theorem PacPiece.pAt_start (x : PacPiece) : x.pAt x.k0 = x.p0 := by
  have still : advOf x.v (x.k0 - x.k0) = 0 := by simp [advOf, rdiv]
  simp only [PacPiece.pAt, still, Int.add_zero]
  split
  · exact Int.min_eq_left (Int.le_max_left _ _)
  · split
    · exact Int.max_eq_left (Int.min_le_left _ _)
    · rfl

theorem Dev.P_eq (d : Dev) : d.P = d.publishFrom d.piece.held (d.piece.pAt d.now) := rfl

theorem Dev.publishFrom_congr {d e : Dev} (hm : e.mono = d.mono) (held p : Int) :
    e.publishFrom held p = d.publishFrom held p := by
  simp only [Dev.publishFrom, hm]

/-- P is a function of the direction, the stretch and the tick. -/
theorem Dev.P_congr {d e : Dev} (hm : e.mono = d.mono) (hn : e.now = d.now) (hp : e.piece = d.piece) : e.P = d.P := by
  rw [Dev.P_eq, Dev.P_eq, Dev.publishFrom_congr hm, hn, hp]

/-- Publishing a position again moves nothing. -/
theorem Dev.publishFrom_publishFrom (d : Dev) (held p : Int) : d.publishFrom (d.publishFrom held p) p = d.publishFrom held p := by
  unfold Dev.publishFrom
  split
  · rfl
  · split
    · exact Int.max_eq_left (Int.le_max_right _ _)
    · exact Int.min_eq_left (Int.min_le_right _ _)

/-- A position of whole sub-lines is published as they are. -/
theorem Dev.publishFrom_whole (d : Dev) (x : Int) : d.publishFrom x (x * 16777216) = x := by
  have whole : Int.fdiv (x * 16777216) 16777216 = x := Int.mul_fdiv_cancel x (by decide)
  simp [Dev.publishFrom, whole]

/-- P changes only with its registers, the tick, the sources and the loop; of the loop the count toward LOCK is no part of it. -/
theorem Frame.P_eq {rs : List Nat} {ps : List Part} {d e : Dev} (h : Frame rs ps d e)
    (hr : FIR_CFG ∉ rs ∧ FIR_STS ∉ rs ∧ PAC_LOSS ∉ rs) (hn : Part.now ∉ ps) (hs : Part.src ∉ ps)
    (hp : ∃ n, e.pac = { d.pac with lockN := n }) : e.P = d.P := by
  obtain ⟨cfg, sts, loss⟩ := hr
  obtain ⟨n, pac⟩ := hp
  have src : e.src = d.src := h.2 .src hs
  refine Dev.P_congr (h.mono_eq cfg sts) (h.2 .now hn) ?_
  simp only [Dev.piece, Dev.coastLimit, Dev.source, h.get_eq loss, src, pac]

/-! ## Anchoring the loop (R67) -/

theorem Frame.markDue (rs : List Nat) (ps : List Part) (d : Dev) (h : Part.hcs ∈ ps) : Frame rs ps d d.markDue :=
  Frame.each _ _ d fun c _ e => Frame.modHc _ _ e c _ h

theorem Frame.anchor (rs : List Nat) (ps : List Part) (d : Dev) (hp : Part.pac ∈ ps) (hc : Part.hcs ∈ ps) :
    Frame rs ps d d.anchor :=
  (Frame.markDue rs ps d hc).trans (Frame.withPac rs ps _ _ hp)

@[simp] theorem Dev.markDue_pac (d : Dev) : d.markDue.pac = d.pac := Part.same_markDue d .pac (by decide)

@[simp] theorem Dev.anchor_now (d : Dev) : d.anchor.now = d.now := Part.same_markDue d .now (by decide)

@[simp] theorem Dev.anchor_k0 (d : Dev) : d.anchor.pac.k0 = d.now := d.anchor_now

@[simp] theorem Dev.anchor_p0 (d : Dev) : d.anchor.pac.p0 = d.pNow := rfl

@[simp] theorem Dev.anchor_held (d : Dev) : d.anchor.pac.held = d.P := by
  have due := Frame.markDue [] [.hcs] d (by decide)
  have published : d.anchor.pac.held = d.markDue.publishFrom d.markDue.pac.held d.pNow := rfl
  rw [published, Dev.publishFrom_congr (due.mono_eq (by decide) (by decide)), Dev.markDue_pac]
  rfl

@[simp] theorem Dev.anchor_zarm (d : Dev) : d.anchor.pac.zarm = d.pac.zarm :=
  have kept := congrArg PacSt.zarm d.markDue_pac
  kept

@[simp] theorem Dev.anchor_restore (d : Dev) : d.anchor.pac.restore = d.pac.restore :=
  have kept := congrArg PacSt.restore d.markDue_pac
  kept

theorem Dev.pNow_of_anchored {d : Dev} (h : d.pac.k0 = d.now) : d.pNow = d.pac.p0 := by
  unfold Dev.pNow
  rw [← h]
  exact d.piece.pAt_start

/-- However the loop goes on from its anchor, P is where it was. -/
theorem Dev.P_of_anchor {d e : Dev} (hm : e.mono = d.mono) (hn : e.now = d.anchor.now) (hk : e.pac.k0 = d.anchor.pac.k0)
    (hp : e.pac.p0 = d.anchor.pac.p0) (hh : e.pac.held = d.anchor.pac.held) : e.P = d.P := by
  have start : e.pNow = d.pNow := by
    rw [Dev.pNow_of_anchored (hk.trans (d.anchor_k0.trans (d.anchor_now.symm.trans hn.symm))), hp, Dev.anchor_p0]
  calc
    e.P = e.publishFrom e.pac.held e.pNow := rfl
    _ = d.publishFrom (d.publishFrom d.pac.held d.pNow) d.pNow := by
      rw [Dev.publishFrom_congr hm, start, hh, Dev.anchor_held]; rfl
    _ = d.P := d.publishFrom_publishFrom _ _

/-! ## Setting the velocity, and LOCK (R69) -/

theorem Frame.setV (rs : List Nat) (ps : List Part) (d : Dev) (v : Int) (hp : Part.pac ∈ ps) (hc : Part.hcs ∈ ps) :
    Frame rs ps d (d.setV v) :=
  (Frame.anchor rs ps d hp hc).trans (Frame.withPac rs ps _ _ hp)

theorem Dev.setV_v (d : Dev) (v : Int) : (d.setV v).pac.v = v := rfl

theorem Dev.setV_P (d : Dev) (v : Int) : (d.setV v).P = d.P :=
  Dev.P_of_anchor ((Frame.setV [] [.pac, .hcs] d v (by decide) (by decide)).mono_eq (by decide) (by decide)) rfl rfl rfl rfl

theorem Frame.unlock (rs : List Nat) (ps : List Part) (d : Dev) (hs : PAC_STS ∈ rs) (he : PAC_EVT ∈ rs) (hp : Part.pac ∈ ps) :
    Frame rs ps d d.unlock := by
  refine (Frame.withPac rs ps d { d.pac with lockN := 0 } hp).trans ?_
  unfold Dev.unlock
  split
  · exact (Frame.put _ _ _ _ _ _ hs).trans (Frame.flag _ _ _ _ _ he)
  · exact Frame.refl _ _ _

theorem Dev.unlock_pac (d : Dev) : d.unlock.pac = { d.pac with lockN := 0 } := by
  unfold Dev.unlock; split <;> rfl

theorem Dev.unlock_P (d : Dev) : d.unlock.P = d.P :=
  (Frame.unlock [PAC_STS, PAC_EVT] [.pac] d (by decide) (by decide) (by decide)).P_eq (by decide) (by decide) (by decide)
    ⟨0, d.unlock_pac⟩

theorem Dev.unlock_lock (d : Dev) : d.unlock.get PAC_STS PAC_STS.LOCK = 0 := by
  unfold Dev.unlock
  split
  · rw [Dev.get_flag_other _ _ _ _ _ (by decide) (by decide), Dev.get_put_same _ _ _ _ (by decide)]; rfl
  · next unlocked =>
    have clear : d.get PAC_STS PAC_STS.LOCK = 0 := by simpa [Dev.bit] using unlocked
    exact clear

/-- Clearing LOCK leaves every other field but LOCKLOST. -/
theorem Dev.get_unlock (d : Dev) {a : Nat} {f : Fld}
    (hs : a ≠ PAC_STS ∨ PAC_STS.LOCK.lo + PAC_STS.LOCK.width ≤ f.lo ∨ f.lo + f.width ≤ PAC_STS.LOCK.lo)
    (he : a ≠ PAC_EVT ∨ PAC_EVT.LOCKLOST.lo + PAC_EVT.LOCKLOST.width ≤ f.lo ∨ f.lo + f.width ≤ PAC_EVT.LOCKLOST.lo) :
    d.unlock.get a f = d.get a f := by
  unfold Dev.unlock
  split
  · rw [Dev.get_flag_other _ _ _ _ _ (by decide) he, Dev.get_put_other _ _ _ _ _ _ (by decide) hs]; rfl
  · rfl

end Sys2Proof.Machine
end

section
/-! Proofs: the pacing commands (R56 to R58, R67 to R69, R72 to R78). -/

namespace Sys2Proof.Machine

/-! ## Updates of the loop (R67) -/

theorem Frame.refreshRatios (rs : List Nat) (ps : List Part) (d : Dev) (h : Part.src ∈ ps) : Frame rs ps d d.refreshRatios :=
  Frame.each _ _ d fun _ _ e => Frame.setSource _ _ e _ _ h

theorem Dev.refreshRatios_pacState (d : Dev) : d.refreshRatios.pacState = d.pacState :=
  (Frame.refreshRatios [] [.src] d (by decide)).get_eq List.not_mem_nil _

/-- No update falls due in the 1,024 ticks after the last one. -/
theorem loopUpdate_early {d : Dev} (h : d.now < d.pac.lastUpd + 1024) : loopUpdate d = d := by
  simp [loopUpdate, h]

theorem loopUpdate_due {d : Dev} (en : d.bit PAC_CFG PAC_CFG.EN = true) (due : d.pac.lastUpd + 1024 ≤ d.now)
    (tracks : d.pacState = 2 ∨ d.pacState = 3 ∨ d.pacState = 4) :
    loopUpdate d = { d with pac := { d.pac with lastUpd := d.now } }.refreshRatios.loopStep := by
  have acts : (!d.bit PAC_CFG PAC_CFG.EN || decide (d.now < d.pac.lastUpd + 1024)) = false := by simp [en, due]
  have state : { d with pac := { d.pac with lastUpd := d.now } }.refreshRatios.pacState = d.pacState :=
    Dev.refreshRatios_pacState _
  have steps : (d.pacState = 2 || d.pacState = 3 || d.pacState = 4) = true := by simpa [or_assoc] using tracks
  simp only [loopUpdate, acts, state, steps, Bool.false_eq_true, if_false, if_true]

/-- An update that is not due is no effect, whether the island runs or not. -/
theorem exec_loopUpdate_early {s : State} {dt : Nat} (h : (s.after dt).now < (s.after dt).pac.lastUpd + 1024) :
    exec (.loopUpdate dt) s = .next (s.pass dt) := by
  have still : (s.pass dt).onDev loopUpdate = s.pass dt := congrArg (fun d => { s.pass dt with dev := d }) (loopUpdate_early h)
  have either : (s.pass dt).onIsl 6 loopUpdate = s.pass dt := by
    unfold State.onIsl
    split
    · exact still
    · rfl
  exact congrArg Host.Outcome.next either

/-! ## Refusals (R58, R72, R77) -/

theorem Frame.pacReject (ps : List Part) (d : Dev) (why : Nat) : Frame [PAC_EVT, PAC_STS] ps d (d.pacReject why) :=
  (Frame.flag _ _ _ _ _ (by decide)).trans (Frame.put _ _ _ _ _ _ (by decide))

theorem Dev.pacReject_fields (d : Dev) {why : Nat} (h : why < 16) :
    (d.pacReject why).get PAC_EVT PAC_EVT.CMDREJ = 1 ∧ (d.pacReject why).get PAC_STS PAC_STS.REJ_WHY = why := by
  unfold Dev.pacReject
  constructor
  · rw [Dev.get_put_other _ _ _ _ _ _ (by decide) (.inl (by decide)), Dev.get_flag_same _ _ _ (by decide) (by decide)]
  · rw [Dev.get_put_same _ _ _ _ (by decide)]
    exact Nat.mod_eq_of_lt h

/-- A write whose effect is a refusal: CMDREJ, the reason, and nothing else. -/
theorem runs_pacReject {i : Instr} {s : State} {q : Req} {a why : Nat} {v : Word}
    (hi : exec i s = .next (s.answered q a v ((s.granted q).pacReject why))) (h : why < 16) :
    Runs i s fun t => Frame [PAC_EVT, PAC_STS] [.host, .out] s.dev t ∧ t.get PAC_EVT PAC_EVT.CMDREJ = 1 ∧
      t.get PAC_STS PAC_STS.REJ_WHY = why := by
  refine runs_answered hi ⟨Frame.answered _ _ (by decide) (by decide) (Frame.pacReject _ _ _), ?_⟩
  rw [State.answered_get, State.answered_get]
  exact Dev.pacReject_fields _ h

/-! ## One-bit fields -/

theorem Dev.get_of_clear {d : Dev} {a : Nat} {f : Fld} (h : d.bit a f = false) : d.get a f = 0 := by
  simpa [Dev.bit] using h

theorem Dev.get_of_set {d : Dev} {a : Nat} {f : Fld} (hw : f.width = 1) (h : d.bit a f = true) : d.get a f = 1 := by
  have low : d.get a f < 2 ^ f.width := Word.fld_lt _ f
  have set : d.get a f ≠ 0 := by simpa [Dev.bit] using h
  rw [hw] at low
  omega

/-! ## Writes of PAC_CFG (R56, R58, R74, R75) -/

theorem exec_pacCfg {i : Instr} {s : State} {q : Req} {v : Word}
    (hi : exec i s = .next (s.devCommand q PAC_CFG v pacCfgWrite)) (h : Allowed s q PAC_CFG) :
    exec i s = .next (s.answered q PAC_CFG v (pacCfgWrite v (s.granted q))) :=
  hi.trans (congrArg Host.Outcome.next (State.devCommand_allowed s q PAC_CFG v pacCfgWrite h))

/-- A backup that is no encoder or is the primary is refused before anything else. -/
theorem pacCfgWrite_conflict {d : Dev} {v : Word}
    (h : v.fld PAC_CFG.BKP = 3 ∨ (v.fld PAC_CFG.BKP ≠ 0 ∧ v.fld PAC_CFG.BKP - 1 = v.fld PAC_CFG.SRC)) :
    pacCfgWrite v d = d.pacReject 4 := by
  unfold pacCfgWrite
  refine if_pos ?_
  obtain h | ⟨h0, h1⟩ := h
  · simp [h]
  · simp [h0, h1]

section
variable {d : Dev} {v : Word} (backup : v.fld PAC_CFG.BKP ≠ 3)
  (apart : v.fld PAC_CFG.BKP ≠ 0 → v.fld PAC_CFG.BKP - 1 ≠ v.fld PAC_CFG.SRC)
  (advance : advSource (d.get PAC_ADV_CFG PAC_ADV_CFG.SRC) = none) (idle : d.pacBusy = false)
include backup apart advance idle

/-- A write of PAC_CFG without a source conflict, a job or a pass, and without a failed check, is made; then pacing is enabled,
disabled or changed as EN says. -/
theorem pacCfgWrite_accepted (check : v.fld PAC_CFG.EN = 1 → d.get PAC_CFG PAC_CFG.EN = 0 → d.enCheck (v.fld PAC_CFG.SRC) = true) :
    pacCfgWrite v d =
      let e := d.typedWrite PAC_CFG v
      let old := d.get PAC_CFG PAC_CFG.EN
      let bkp := v.fld PAC_CFG.BKP
      if v.fld PAC_CFG.EN = 1 ∧ old = 0 then e.pacEnable
      else if v.fld PAC_CFG.EN = 0 ∧ old = 1 then e.pacDisable
      else if v.fld PAC_CFG.EN = 1 ∧
        (v.fld PAC_CFG.EN ≠ old ∨ v.fld PAC_CFG.SRC ≠ d.get PAC_CFG PAC_CFG.SRC ∨ bkp ≠ d.get PAC_CFG PAC_CFG.BKP) then
        e.sourceChange (bkp ≠ 0 && bkp ≠ d.get PAC_CFG PAC_CFG.BKP)
      else e := by
  have noConflict : (decide (v.fld PAC_CFG.BKP = 3) ||
      (decide (v.fld PAC_CFG.BKP ≠ 0) && decide (v.fld PAC_CFG.BKP - 1 = v.fld PAC_CFG.SRC))) = false := by
    simpa [backup] using apart
  have checked : (decide (v.fld PAC_CFG.EN = 1) && decide (d.get PAC_CFG PAC_CFG.EN = 0) &&
      !d.enCheck (v.fld PAC_CFG.SRC)) = false := by
    simpa using check
  simp only [pacCfgWrite, advance, idle, noConflict, checked, Dev.when, reduceCtorEq, decide_false, Bool.or_false,
    Bool.and_false, Bool.false_eq_true, if_false, Bool.not_false, Bool.true_and, Bool.and_eq_true, Bool.or_eq_true,
    decide_eq_true_eq, or_assoc]

theorem pacCfgWrite_enables (on : v.fld PAC_CFG.EN = 1) (off : d.bit PAC_CFG PAC_CFG.EN = false)
    (check : d.enCheck (v.fld PAC_CFG.SRC) = true) : pacCfgWrite v d = (d.typedWrite PAC_CFG v).pacEnable := by
  rw [pacCfgWrite_accepted backup apart advance idle fun _ _ => check]
  exact if_pos ⟨on, Dev.get_of_clear off⟩

theorem pacCfgWrite_disables (off : v.fld PAC_CFG.EN = 0) (on : d.bit PAC_CFG PAC_CFG.EN = true) :
    pacCfgWrite v d = (d.typedWrite PAC_CFG v).pacDisable := by
  have noEnable : ¬ v.fld PAC_CFG.EN = 1 := by simp [off]
  rw [pacCfgWrite_accepted backup apart advance idle fun h => absurd h noEnable]
  exact (if_neg fun h => noEnable h.1).trans (if_pos ⟨off, Dev.get_of_set rfl on⟩)

theorem pacCfgWrite_changes (stays : v.fld PAC_CFG.EN = 1) (on : d.bit PAC_CFG PAC_CFG.EN = true)
    (source : v.fld PAC_CFG.SRC ≠ d.get PAC_CFG PAC_CFG.SRC) :
    pacCfgWrite v d = (d.typedWrite PAC_CFG v).sourceChange
      (v.fld PAC_CFG.BKP ≠ 0 && v.fld PAC_CFG.BKP ≠ d.get PAC_CFG PAC_CFG.BKP) := by
  have enabled : d.get PAC_CFG PAC_CFG.EN = 1 := Dev.get_of_set rfl on
  have wasOn : ¬ d.get PAC_CFG PAC_CFG.EN = 0 := by simp [enabled]
  have noDisable : ¬ v.fld PAC_CFG.EN = 0 := by simp [stays]
  rw [pacCfgWrite_accepted backup apart advance idle fun _ h => absurd h wasOn]
  exact (if_neg fun h => wasOn h.2).trans ((if_neg fun h => noDisable h.1).trans (if_pos ⟨stays, .inr (.inl source)⟩))

end

/-- The fields of PAC_CFG that a write of EN leaves. -/
theorem fld_setEn (v : Word) (n : Nat) :
    (v.setFld PAC_CFG.EN n).fld PAC_CFG.EN = n % 2 ∧ (v.setFld PAC_CFG.EN n).fld PAC_CFG.SRC = v.fld PAC_CFG.SRC ∧
    (v.setFld PAC_CFG.EN n).fld PAC_CFG.BKP = v.fld PAC_CFG.BKP :=
  ⟨Word.fld_setFld _ _ _ (by decide), Word.fld_setFld_ne _ _ _ _ (by decide) (by decide),
    Word.fld_setFld_ne _ _ _ _ (by decide) (by decide)⟩

/-- The word that SOURCE_CHANGE writes. -/
def sourceWord (w : Word) (src bkp : Fin 4) : Word := (w.setFld PAC_CFG.SRC src.val).setFld PAC_CFG.BKP bkp.val

theorem fld_sourceWord (w : Word) (src bkp : Fin 4) :
    (sourceWord w src bkp).fld PAC_CFG.EN = w.fld PAC_CFG.EN ∧ (sourceWord w src bkp).fld PAC_CFG.SRC = src.val ∧
    (sourceWord w src bkp).fld PAC_CFG.BKP = bkp.val := by
  unfold sourceWord
  refine ⟨?en, ?src, ?bkp⟩
  case en => rw [Word.fld_setFld_ne _ _ _ _ (by decide) (by decide), Word.fld_setFld_ne _ _ _ _ (by decide) (by decide)]
  case src =>
    rw [Word.fld_setFld_ne _ _ _ _ (by decide) (by decide), Word.fld_setFld _ _ _ (by decide)]
    exact Nat.mod_eq_of_lt src.isLt
  case bkp =>
    rw [Word.fld_setFld _ _ _ (by decide)]
    exact Nat.mod_eq_of_lt bkp.isLt

/-! ## ZERO, ZARM, ZDISARM (R72) -/

theorem exec_zero {s : State} {q : Req} (h : Allowed s q PAC_CMD) :
    exec (.zero q) s = .next (s.answered q PAC_CMD 1 (pacZero (s.granted q))) :=
  congrArg Host.Outcome.next (State.devCommand_allowed s q PAC_CMD 1 pacCmdWrite h)

theorem exec_zarm {s : State} {q : Req} (h : Allowed s q PAC_CMD) :
    exec (.zarm q) s = .next (s.answered q PAC_CMD 2 (pacZarm (s.granted q))) :=
  congrArg Host.Outcome.next (State.devCommand_allowed s q PAC_CMD 2 pacCmdWrite h)

theorem exec_zdisarm {s : State} {q : Req} (h : Allowed s q PAC_CMD) :
    exec (.zdisarm q) s = .next (s.answered q PAC_CMD 8 (pacZdisarm (s.granted q))) :=
  congrArg Host.Outcome.next (State.devCommand_allowed s q PAC_CMD 8 pacCmdWrite h)

theorem exec_restore {s : State} {q : Req} (h : Allowed s q PAC_CMD) :
    exec (.restore q) s = .next (s.answered q PAC_CMD 4 (pacRestore (s.granted q))) :=
  congrArg Host.Outcome.next (State.devCommand_allowed s q PAC_CMD 4 pacCmdWrite h)

@[simp] theorem State.answered_pac (s : State) (q : Req) (a : Nat) (v : Word) (d : Dev) : (s.answered q a v d).dev.pac = d.pac :=
  Dev.forward_pac d q a v

theorem Frame.preset_eq {rs : List Nat} {ps : List Part} {d e : Dev} (h : Frame rs ps d e)
    (hr : PAC_PRESET_LO ∉ rs ∧ PAC_PRESET_HI ∉ rs ∧ FIR_CFG ∉ rs) : e.preset = d.preset := by
  obtain ⟨lo, hi, cfg⟩ := hr
  have scan : e.scan = d.scan := congrArg (· != 0) (h.get_eq cfg _)
  have pair : e.rd64 PAC_PRESET_LO PAC_PRESET_HI = d.rd64 PAC_PRESET_LO PAC_PRESET_HI := by
    simp only [Dev.rd64, Dev.rdN, h.1 _ lo, h.1 _ hi]
  simp only [Dev.preset, scan, pair]

/-- The reference offsets of the sources, each moved by the same amount. -/
def Dev.shiftSources (d : Dev) (delta : Int) : Dev :=
  d.each [0, 1, 2, 3] (fun i d => d.setSource i { d.source i with off := (d.source i).off + delta })

theorem Frame.shiftSources (rs : List Nat) (ps : List Part) (d : Dev) (delta : Int) (h : Part.src ∈ ps) :
    Frame rs ps d (d.shiftSources delta) :=
  Frame.each _ _ d fun _ _ e => Frame.setSource _ _ e _ _ h

/-- How far ZERO moves p. -/
def Dev.zeroShift (d : Dev) : Int := d.preset * 16777216 - d.pNow

theorem Frame.shifted (rs : List Nat) (ps : List Part) (d : Dev) (hp : Part.pac ∈ ps) (hs : Part.src ∈ ps) (hc : Part.hcs ∈ ps) :
    Frame rs ps d (d.anchor.shiftSources d.zeroShift) :=
  (Frame.anchor _ _ _ hp hc).trans (Frame.shiftSources _ _ _ _ hs)

theorem Frame.zeroNow (rs : List Nat) (ps : List Part) (d : Dev) (hp : Part.pac ∈ ps) (hs : Part.src ∈ ps) (hc : Part.hcs ∈ ps) :
    Frame rs ps d d.zeroNow :=
  (Frame.shifted rs ps d hp hs hc).trans ((Frame.withPac _ _ _ _ hp).trans (Frame.withPac _ _ _ _ hp))

/-- The loop's fields after ZERO. -/
theorem Dev.zeroNow_pac (d : Dev) :
    d.zeroNow.pac.k0 = d.now ∧ d.zeroNow.pac.p0 = d.preset * 16777216 ∧ d.zeroNow.pac.held = d.preset ∧
    d.zeroNow.pac.hwm = d.preset ∧ d.zeroNow.pac.zarm = d.pac.zarm := by
  have shifted : (d.anchor.shiftSources d.zeroShift).pac = d.anchor.pac :=
    (Frame.shiftSources [] [.src] d.anchor d.zeroShift (by decide)).2 .pac (by decide)
  have k0 := congrArg PacSt.k0 shifted
  have zarm := congrArg PacSt.zarm shifted
  exact ⟨k0.trans d.anchor_k0, rfl, rfl, rfl, zarm.trans d.anchor_zarm⟩

/-- ZERO makes P the preset. -/
theorem Dev.zeroNow_P (d : Dev) : d.zeroNow.P = d.preset := by
  obtain ⟨k0, p0, held, -, -⟩ := d.zeroNow_pac
  have now : d.zeroNow.now = d.now := (Frame.zeroNow [] [.pac, .src, .hcs] d (by decide) (by decide) (by decide)).2 .now (by decide)
  have start : d.zeroNow.pNow = d.preset * 16777216 := (Dev.pNow_of_anchored (k0.trans now.symm)).trans p0
  calc
    d.zeroNow.P = d.zeroNow.publishFrom d.zeroNow.pac.held d.zeroNow.pNow := rfl
    _ = d.zeroNow.publishFrom d.preset (d.preset * 16777216) := by rw [held, start]
    _ = d.preset := Dev.publishFrom_whole _ _

theorem pacZero_idle {d : Dev} (job : d.jobActive = false) (pass : d.passActive = false) : pacZero d = d.zeroNow := by
  simp [pacZero, job, pass]

theorem pacZarm_idle {d : Dev} (job : d.jobActive = false) (pass : d.passActive = false) :
    pacZarm d = { d with pac := { d.pac with zarm := true } } := by
  simp [pacZarm, job, pass]

theorem pacZero_busy {d : Dev} (h : d.jobActive = true ∨ d.passActive = true) : pacZero d = d.pacReject 1 :=
  if_pos (by simpa using h)

theorem pacZarm_busy {d : Dev} (h : d.jobActive = true ∨ d.passActive = true) : pacZarm d = d.pacReject 1 :=
  if_pos (by simpa using h)

/-- What an answered write leaves of P: the forwarding and the report are no part of it. -/
theorem State.answered_P (s : State) (q : Req) (a : Nat) (v : Word) (d : Dev) : (s.answered q a v d).dev.P = d.P :=
  ((Frame.forward [] [.out] d q a v (by decide)).trans (Frame.emit [] [.out] _ _ (by decide))).P_eq
    (by simp) (by decide) (by decide) ⟨d.pac.lockN, Dev.forward_pac d q a v⟩

/-- The registers of the measurement that a Z edge of an encoder ends (R66). -/
def zMeasRegs (e : Nat) : List Nat := [if e = 0 then PAC_ZMEAS0 else PAC_ZMEAS1, PAC_EVT]

theorem zMeasRegs_apart : ∀ e : Fin 2,
    PAC_CFG ∉ zMeasRegs e.val ∧ PAC_PRESET_LO ∉ zMeasRegs e.val ∧ PAC_PRESET_HI ∉ zMeasRegs e.val ∧ FIR_CFG ∉ zMeasRegs e.val := by
  decide

/-- A turn's count is shown, with ZERR where it is wrong (R66). -/
def Dev.showTurn (d : Dev) (e n : Nat) (wrong : Bool) : Dev :=
  (d.wrN (if e = 0 then PAC_ZMEAS0 else PAC_ZMEAS1) n).when wrong (·.flag PAC_EVT PAC_EVT.ZERR)

/-- The next turn of an encoder is counted from `cnt` (R66). -/
def Dev.startTurn (d : Dev) (e : Nat) (cnt : Int) : Dev := d.setSource e { d.source e with zlast := some cnt }

theorem Frame.showTurn (ps : List Part) (d : Dev) (e n : Nat) (wrong : Bool) : Frame (zMeasRegs e) ps d (d.showTurn e n wrong) :=
  (Frame.wrN _ _ _ _ _ (List.mem_cons_self ..)).trans
    (Frame.when wrong (Frame.flag _ _ _ _ _ (List.mem_cons_of_mem _ (List.mem_singleton_self _))))

theorem Frame.startTurn (rs : List Nat) (d : Dev) (e : Nat) (cnt : Int) : Frame rs [.src] d (d.startTurn e cnt) :=
  Frame.setSource _ _ _ _ _ (List.mem_singleton_self _)

/-- At the armed Z edge of the primary the measurement of R66 is followed by ZERO (R72). -/
theorem Dev.zEdge_armed {d : Dev} {e : Fin 2} (armed : d.pac.zarm = true) (primary : d.get PAC_CFG PAC_CFG.SRC = e.val) :
    ∃ m, Frame (zMeasRegs e.val) [.src] d m ∧ d.zEdge e.val = (pacZdisarm m).zeroNow := by
  have presets : ∀ m, Frame (zMeasRegs e.val) [.src] d m →
      (if m.pac.zarm && m.get PAC_CFG PAC_CFG.SRC == e.val then (pacZdisarm m).zeroNow else m) = (pacZdisarm m).zeroNow :=
    fun m frame => by
      have pac : m.pac = d.pac := frame.2 .pac (by decide)
      simp [pac, armed, frame.get_eq (zMeasRegs_apart e).1, primary]
  unfold Dev.zEdge
  by_cases cpr : d.get PAC_ZCPR PAC_ZCPR.CPR = 0
  · simp only [cpr, if_true]
    exact ⟨d, Frame.refl _ _ _, presets d (Frame.refl _ _ _)⟩
  · simp only [cpr, if_false]
    cases (d.source e.val).zlast with
    | none =>
      have frame := Frame.startTurn (zMeasRegs e.val) d e.val (d.source e.val).cnt
      exact ⟨_, frame, presets _ frame⟩
    | some z =>
      have frame := (Frame.showTurn _ d e.val (unsignedOf 24 ((d.source e.val).cnt - z))
        (decide (1 < ((d.source e.val).cnt - z - d.get PAC_ZCPR PAC_ZCPR.CPR).natAbs))).trans
          (Frame.startTurn _ _ e.val (d.source e.val).cnt)
      exact ⟨_, frame, presets _ frame⟩

theorem Frame.pacZdisarm (rs : List Nat) (ps : List Part) (d : Dev) (h : Part.pac ∈ ps) : Frame rs ps d (pacZdisarm d) :=
  Frame.withPac _ _ _ _ h

/-- An armed preset at the primary's Z edge: P is the preset, and ZARM is off. -/
theorem Dev.zEdge_presets {d : Dev} {e : Fin 2} (armed : d.pac.zarm = true) (primary : d.get PAC_CFG PAC_CFG.SRC = e.val) :
    (d.zEdge e.val).pac.zarm = false ∧ (d.zEdge e.val).P = d.preset ∧
    Frame (zMeasRegs e.val) [.pac, .src, .hcs] d (d.zEdge e.val) := by
  obtain ⟨m, measured, zeroed⟩ := Dev.zEdge_armed armed primary
  have frame : Frame (zMeasRegs e.val) [.pac, .src, .hcs] d (pacZdisarm m) :=
    (measured.mono (fun _ h => h) (by decide)).trans (Frame.pacZdisarm _ _ _ (by decide))
  rw [zeroed, Dev.zeroNow_P]
  obtain ⟨-, -, -, -, zarm⟩ := (pacZdisarm m).zeroNow_pac
  have zeroes := Frame.zeroNow (zMeasRegs e.val) [.pac, .src, .hcs] (pacZdisarm m) (by decide) (by decide) (by decide)
  exact ⟨zarm, frame.preset_eq (zMeasRegs_apart e).2, frame.trans zeroes⟩

/-! ## RESTORE and the switch to the backup (R75 to R77) -/

theorem pacRestore_none {d : Dev} (h : d.backup = none) : pacRestore d = d.pacReject 3 := by
  simp [pacRestore, h]

/-- With a backup RESTORE waits while the loop is on it, and has no effect on the primary. -/
theorem pacRestore_some {d : Dev} (h : d.backup ≠ none) :
    pacRestore d = if d.bit PAC_STS PAC_STS.ON_BACKUP then { d with pac := { d.pac with restore := true } } else d := by
  have configured : d.backup.isNone = false := Option.isNone_eq_false_iff.2 (Option.isSome_iff_ne_none.2 h)
  cases on : d.bit PAC_STS PAC_STS.ON_BACKUP <;> simp [pacRestore, configured, on]

theorem Frame.pacRestore {d : Dev} (ps : List Part) (h : d.backup ≠ none) (hp : Part.pac ∈ ps) :
    Frame [] ps d (pacRestore d) := by
  rw [pacRestore_some h]
  split
  · exact Frame.withPac _ _ _ _ hp
  · exact Frame.refl _ _ _

theorem pacRestore_waits {d : Dev} (h : d.backup ≠ none) :
    (pacRestore d).pac.restore = (d.bit PAC_STS PAC_STS.ON_BACKUP || d.pac.restore) := by
  rw [pacRestore_some h]
  cases d.bit PAC_STS PAC_STS.ON_BACKUP <;> rfl

/-- The loop goes on from another source, its accounts as `c` leaves them (R76, R77). -/
def Dev.follow (d : Dev) (src : Nat) (c : PacSt → PacSt) : Dev :=
  let d := d.anchor
  let d := { d with pac := { c d.pac with use := src } }
  { d with pac := { d.pac with pc := d.loopMeasured, tc := (d.source src).tc } }

theorem Frame.follow (rs : List Nat) (ps : List Part) (d : Dev) (src : Nat) (c : PacSt → PacSt) (hp : Part.pac ∈ ps)
    (hc : Part.hcs ∈ ps) : Frame rs ps d (d.follow src c) :=
  (Frame.anchor _ _ _ hp hc).trans ((Frame.withPac _ _ _ _ hp).trans (Frame.withPac _ _ _ _ hp))

/-- The accounts of a loop that goes to the backup (R76). -/
def PacSt.toBackup (x : PacSt) : PacSt := { x with adj := x.adj + x.estPrev, nprim := 0 }

/-- The accounts of a loop that goes back to the primary (R77). -/
def PacSt.toPrimary (x : PacSt) : PacSt := { x with adj := x.adj - x.est, nbk := 0 }

theorem backupSwitch_due {d : Dev} {b : Nat} (due : d.switchDue = true) (backup : d.backup = some b) :
    backupSwitch d = ((d.follow b PacSt.toBackup).put PAC_STS PAC_STS.ON_BACKUP 1).flag PAC_EVT PAC_EVT.SWITCH := by
  simp only [backupSwitch, due, backup, Bool.not_true, Bool.false_eq_true, if_false]
  rfl

theorem restoreApply_early {d : Dev} (waits : d.pac.restore = true) (on : d.bit PAC_STS PAC_STS.ON_BACKUP = true)
    (early : d.pac.nprim < 256) :
    restoreApply d = Dev.pacReject { d with pac := { d.pac with restore := false } } 2 := by
  have on' : Dev.bit { d with pac := { d.pac with restore := false } } PAC_STS PAC_STS.ON_BACKUP = true := on
  simp only [restoreApply, waits, on', early, Bool.not_true, Bool.false_eq_true, if_false, if_true]

theorem restoreApply_due {d : Dev} (waits : d.pac.restore = true) (on : d.bit PAC_STS PAC_STS.ON_BACKUP = true)
    (counted : 256 ≤ d.pac.nprim) :
    restoreApply d = (Dev.follow { d with pac := { d.pac with restore := false } } (d.get PAC_CFG PAC_CFG.SRC)
      PacSt.toPrimary).put PAC_STS PAC_STS.ON_BACKUP 0 := by
  have on' : Dev.bit { d with pac := { d.pac with restore := false } } PAC_STS PAC_STS.ON_BACKUP = true := on
  simp only [restoreApply, waits, on', Nat.not_lt.2 counted, Bool.not_true, Bool.false_eq_true, if_false]
  rfl

/-- Following another source moves neither P nor what the accounts keep. -/
theorem Dev.follow_P (d : Dev) (src : Nat) {c : PacSt → PacSt} (hk : (c d.anchor.pac).k0 = d.anchor.pac.k0)
    (hp : (c d.anchor.pac).p0 = d.anchor.pac.p0) (hh : (c d.anchor.pac).held = d.anchor.pac.held) :
    (d.follow src c).P = d.P :=
  Dev.P_of_anchor ((Frame.follow [] [.pac, .hcs] d src c (by decide) (by decide)).mono_eq (by decide) (by decide)) rfl hk hp hh

theorem Dev.put_P (d : Dev) (a : Nat) (f : Fld) (v : Nat) (h : a ≠ FIR_CFG ∧ a ≠ FIR_STS ∧ a ≠ PAC_LOSS) :
    (d.put a f v).P = d.P := by
  obtain ⟨cfg, sts, loss⟩ := h
  exact (Frame.put [a] [] d a f v (List.mem_singleton_self a)).P_eq (by simp [cfg.symm, sts.symm, loss.symm])
    List.not_mem_nil List.not_mem_nil ⟨d.pac.lockN, rfl⟩

/-- BACKUP_SWITCH goes to the backup without moving P. -/
theorem backupSwitch_complete {d : Dev} {b : Nat} (due : d.switchDue = true) (backup : d.backup = some b) :
    Frame [PAC_STS, PAC_EVT] [.pac, .hcs] d (backupSwitch d) ∧ (backupSwitch d).pac.use = b ∧
    (backupSwitch d).get PAC_STS PAC_STS.ON_BACKUP = 1 ∧ (backupSwitch d).get PAC_EVT PAC_EVT.SWITCH = 1 ∧
    (backupSwitch d).P = d.P := by
  rw [backupSwitch_due due backup]
  refine ⟨?frame, rfl, ?on, Dev.get_flag_same _ _ _ (by decide) (by decide), ?position⟩
  case frame =>
    exact (Frame.follow _ _ _ _ _ (by decide) (by decide)).trans
      ((Frame.put _ _ _ _ _ _ (by decide)).trans (Frame.flag _ _ _ _ _ (by decide)))
  case on => rw [Dev.get_flag_other _ _ _ _ _ (by decide) (.inl (by decide)), Dev.get_put_same _ _ _ _ (by decide)]; rfl
  case position =>
    rw [Dev.flag, Dev.put_P _ _ _ _ (by decide), Dev.put_P _ _ _ _ (by decide)]
    exact Dev.follow_P _ _ rfl rfl rfl

/-- RESTORE_APPLY goes back to the primary without moving P. -/
theorem restoreApply_complete {d : Dev} (waits : d.pac.restore = true) (on : d.bit PAC_STS PAC_STS.ON_BACKUP = true)
    (counted : 256 ≤ d.pac.nprim) :
    Frame [PAC_STS] [.pac, .hcs] d (restoreApply d) ∧ (restoreApply d).get PAC_STS PAC_STS.ON_BACKUP = 0 ∧
    (restoreApply d).pac.restore = false ∧ (restoreApply d).pac.use = d.get PAC_CFG PAC_CFG.SRC ∧ (restoreApply d).P = d.P := by
  rw [restoreApply_due waits on counted]
  refine ⟨?frame, Dev.get_put_same _ _ _ _ (by decide), ?done, rfl, ?position⟩
  case frame =>
    exact (Frame.withPac _ _ _ _ (by decide)).trans
      ((Frame.follow _ _ _ _ _ (by decide) (by decide)).trans (Frame.put _ _ _ _ _ _ (by decide)))
  case done => exact Dev.anchor_restore _
  case position =>
    rw [Dev.put_P _ _ _ _ (by decide), Dev.follow_P _ _ rfl rfl rfl]
    exact Dev.P_congr rfl rfl rfl

/-- A RESTORE that comes too early is refused and waits no longer (R77). -/
theorem restoreApply_refused {d : Dev} (waits : d.pac.restore = true) (on : d.bit PAC_STS PAC_STS.ON_BACKUP = true)
    (early : d.pac.nprim < 256) :
    Frame [PAC_EVT, PAC_STS] [.pac] d (restoreApply d) ∧ (restoreApply d).get PAC_STS PAC_STS.REJ_WHY = 2 ∧
    (restoreApply d).get PAC_EVT PAC_EVT.CMDREJ = 1 ∧ (restoreApply d).pac.restore = false := by
  rw [restoreApply_early waits on early]
  obtain ⟨refused, why⟩ := Dev.pacReject_fields { d with pac := { d.pac with restore := false } } (why := 2) (by decide)
  exact ⟨(Frame.withPac _ _ _ _ (by decide)).trans (Frame.pacReject _ _ _), why, refused, rfl⟩

/-! ## Loss and stop (R69, R75) -/

/-- The loop halts in state `st` with the event `f`: v is 0, P holds, LOCK clears (R69, R75). -/
def Dev.halt (d : Dev) (f : Fld) (st : Nat) : Dev := (((d.flag PAC_EVT f).setPacState st).unlock).setV 0

theorem Frame.halt (rs : List Nat) (ps : List Part) (d : Dev) (f : Fld) (st : Nat) (hs : PAC_STS ∈ rs) (he : PAC_EVT ∈ rs)
    (hp : Part.pac ∈ ps) (hc : Part.hcs ∈ ps) : Frame rs ps d (d.halt f st) :=
  (Frame.flag _ _ _ _ _ he).trans ((Frame.put _ _ _ _ _ _ hs).trans
    ((Frame.unlock _ _ _ hs he hp).trans (Frame.setV _ _ _ _ hp hc)))

theorem Dev.get_setV (d : Dev) (v : Int) (a : Nat) (f : Fld) : (d.setV v).get a f = d.get a f :=
  (Frame.setV [] [.pac, .hcs] d v (by decide) (by decide)).get_eq List.not_mem_nil f

/-- What a halt shows; its event lies below LOCKLOST. -/
theorem Dev.halt_fields (d : Dev) {f : Fld} {st : Nat} (hf : f.lo + f.width ≤ PAC_EVT.LOCKLOST.lo) (hw : 0 < f.width)
    (hst : st < 8) : (d.halt f st).get PAC_STS PAC_STS.STATE = st ∧ (d.halt f st).get PAC_STS PAC_STS.LOCK = 0 ∧
    (d.halt f st).get PAC_EVT f = 1 ∧ (d.halt f st).pac.v = 0 ∧ (d.halt f st).P = d.P := by
  have room : f.lo + f.width ≤ 32 := Nat.le_trans hf (by decide)
  unfold Dev.halt
  simp only [Dev.get_setV, Dev.unlock_lock, Dev.setV_v, Dev.setV_P, Dev.unlock_P, true_and]
  refine ⟨?state, ?event, ?position⟩
  case state =>
    rw [Dev.get_unlock _ (by decide) (.inl (by decide)), Dev.setPacState, Dev.get_put_same _ _ _ _ (by decide)]
    exact Nat.mod_eq_of_lt hst
  case event =>
    rw [Dev.get_unlock _ (.inl (by decide)) (.inr (.inr hf)), Dev.setPacState,
      Dev.get_put_other _ _ _ _ _ _ (by decide) (.inl (by decide)), Dev.get_flag_same _ _ _ room hw]
  case position =>
    rw [Dev.setPacState, Dev.put_P _ _ _ _ (by decide), Dev.flag, Dev.put_P _ _ _ _ (by decide)]

theorem Dev.lossEnter_eq (d : Dev) : d.lossEnter = d.halt PAC_EVT.LOSS 6 := rfl

/-- A stop is a halt, which the active of a pair tells its standby (R75, R407). -/
theorem mediumStopped_due {d : Dev} (silent : d.silent = true) (still : d.motionExpected = false) :
    ∃ fs, mediumStopped d =
      (d.halt PAC_EVT.STOP 5).when (d.halt PAC_EVT.STOP 5).activeOfPair (·.brdSend 0x07 fs) :=
  ⟨_, if_pos (by simp [silent, still])⟩

theorem mediumStopped_complete {d : Dev} (silent : d.silent = true) (still : d.motionExpected = false) :
    Frame [PAC_STS, PAC_EVT] [.pac, .hcs, .out] d (mediumStopped d) ∧ (mediumStopped d).get PAC_STS PAC_STS.STATE = 5 ∧
    (mediumStopped d).get PAC_STS PAC_STS.LOCK = 0 ∧ (mediumStopped d).get PAC_EVT PAC_EVT.STOP = 1 ∧
    (mediumStopped d).pac.v = 0 ∧ (mediumStopped d).P = d.P := by
  obtain ⟨fs, stopped⟩ := mediumStopped_due silent still
  have told : ∀ rs ps, Part.out ∈ ps → Frame rs ps (d.halt PAC_EVT.STOP 5) (mediumStopped d) := fun rs ps h => by
    rw [stopped]; exact Frame.when _ (Frame.brdSend _ _ _ _ _ h)
  have sent := told [] [.out] (by decide)
  have pac : (mediumStopped d).pac = (d.halt PAC_EVT.STOP 5).pac := sent.2 .pac (by decide)
  have position : (mediumStopped d).P = (d.halt PAC_EVT.STOP 5).P :=
    sent.P_eq (by decide) (by decide) (by decide) ⟨_, pac⟩
  rw [sent.get_eq List.not_mem_nil, sent.get_eq List.not_mem_nil, sent.get_eq List.not_mem_nil, pac, position]
  exact ⟨(Frame.halt _ _ _ _ _ (by decide) (by decide) (by decide) (by decide)).trans (told _ _ (by decide)),
    d.halt_fields (by decide) (by decide) (by decide)⟩

/-- LOSS halts the loop, and stops the job where LOSS_STOP says so (R75, R92). -/
theorem lossEvent_due {d : Dev} (silent : d.silent = true) (motion : d.motionExpected = true) :
    lossEvent d = d.lossEnter.when (d.bit PAC_CFG PAC_CFG.LOSS_STOP) (·.jobStop 4) :=
  if_pos (by simp [silent, motion])

/-! ## The advance counter (R78) -/

theorem advIdle_due {d : Dev} (settled : d.pac.advAt + 800 * d.get PAC_ADV_CFG PAC_ADV_CFG.SETTLE ≤ d.now) :
    advIdle d = d.put PAC_ADV_CFG PAC_ADV_CFG.IDLE 1 :=
  if_pos (by rwa [usTicks, Nat.mul_comm])

theorem exec_advZero {s : State} {q : Req} (h : Allowed s q PAC_ADV_CFG) :
    exec (.advZero q) s = .next (s.answered q PAC_ADV_CFG (s.dev.rd PAC_ADV_CFG) (s.granted q).advZero) :=
  congrArg Host.Outcome.next (State.devCommand_allowed s q PAC_ADV_CFG (s.dev.rd PAC_ADV_CFG) (fun _ => Dev.advZero) h)

/-! ## The statement -/

/-- Settles O23: each command by the lemma that says what its effect is on a state of the clause. -/
theorem pacingCommandsComplete : Obligations.PacingCommandsComplete := by
  unfold Obligations.PacingCommandsComplete
  refine ⟨fun s dt up en due tracks => ?update, fun s dt early => exec_loopUpdate_early early,
    fun s q v h off backup apart advance idle check => ?enable, fun s q v h on backup apart advance idle => ?disable,
    fun s q src bkp h on source backup apart advance idle => ?change, fun s q src bkp h conflict => ?conflict,
    fun s q h job pass => ?zero, fun s q h busy => ?busy, fun s q h job pass => ?zarm, fun s q h => ?zdisarm,
    fun s e dt up armed primary => ?preset, fun s q h backup => ?noBackup, fun s q h backup => ?restore,
    fun s dt up waits on counted => ?apply, fun s dt up waits on early => ?early, fun s b dt up due backup => ?switch,
    fun s dt up silent still => ?stop, fun s dt up silent motion stay => ?loss, fun s dt up silent motion stop => ?lossStop,
    fun s dt up settled => ?idle, fun s q h => ?advZero⟩
  case update =>
    rw [exec_event rfl up]
    exact congrArg (fun d => Host.Outcome.next { s.pass dt with dev := d }) (loopUpdate_due en due tracks)
  case enable =>
    obtain ⟨fldEn, fldSrc, fldBkp⟩ := fld_setEn v 1
    rw [exec_pacCfg rfl h, pacCfgWrite_enables (by rwa [fldBkp]) (by rwa [fldBkp, fldSrc]) advance idle fldEn off (by rwa [fldSrc])]
  case disable =>
    obtain ⟨fldEn, fldSrc, fldBkp⟩ := fld_setEn v 0
    rw [exec_pacCfg rfl h, pacCfgWrite_disables (by rwa [fldBkp]) (by rwa [fldBkp, fldSrc]) advance idle fldEn on]
  case change =>
    obtain ⟨fldEn, fldSrc, fldBkp⟩ := fld_sourceWord (s.dev.rd PAC_CFG) src bkp
    have stays : (sourceWord (s.dev.rd PAC_CFG) src bkp).fld PAC_CFG.EN = 1 :=
      fldEn.trans ((State.granted_get s q _ _).symm.trans (Dev.get_of_set rfl on))
    have made := pacCfgWrite_changes (by rwa [fldBkp]) (by rwa [fldBkp, fldSrc]) advance idle stays on
      (by rw [fldSrc]; exact source.symm)
    rw [fldBkp] at made
    rw [exec_pacCfg rfl h]
    exact congrArg (fun d => Host.Outcome.next (s.answered q PAC_CFG _ d)) made
  case conflict =>
    obtain ⟨-, fldSrc, fldBkp⟩ := fld_sourceWord (s.dev.rd PAC_CFG) src bkp
    have refused := pacCfgWrite_conflict (d := s.granted q) (v := sourceWord (s.dev.rd PAC_CFG) src bkp)
      (by rwa [fldBkp, fldSrc])
    have run : exec (.sourceChange q src bkp) s =
        .next (s.answered q PAC_CFG (sourceWord (s.dev.rd PAC_CFG) src bkp) ((s.granted q).pacReject 4)) := by
      rw [← refused]; exact exec_pacCfg rfl h
    exact runs_pacReject run (by decide)
  case zero =>
    have run := exec_zero h
    rw [pacZero_idle job pass] at run
    obtain ⟨-, -, -, hwm, -⟩ := (s.granted q).zeroNow_pac
    have preset : (s.granted q).preset = s.dev.preset :=
      (Frame.renew [] [.host, .out] s.dev q (by decide) (by decide)).preset_eq (by simp)
    refine runs_answered run ⟨Frame.answered _ _ (by decide) (by decide) ?_, ?_, ?_⟩
    · exact Frame.zeroNow _ _ _ (by decide) (by decide) (by decide)
    · rw [State.answered_P, Dev.zeroNow_P, preset]
    · rw [State.answered_pac, hwm, preset]
  case busy =>
    exact ⟨runs_pacReject ((exec_zero h).trans (by rw [pacZero_busy busy])) (by decide),
      runs_pacReject ((exec_zarm h).trans (by rw [pacZarm_busy busy])) (by decide)⟩
  case zarm =>
    have run := exec_zarm h
    rw [pacZarm_idle job pass] at run
    exact runs_answered run ⟨Frame.answered _ _ (by decide) (by decide) (Frame.withPac _ _ _ _ (by decide)),
      by rw [State.answered_pac]⟩
  case zdisarm =>
    exact runs_answered (exec_zdisarm h) ⟨Frame.answered _ _ (by decide) (by decide) (Frame.pacZdisarm _ _ _ (by decide)),
      by rw [State.answered_pac]; rfl⟩
  case preset => exact runs_event rfl up (Dev.zEdge_presets armed primary)
  case noBackup => exact runs_pacReject ((exec_restore h).trans (by rw [pacRestore_none backup])) (by decide)
  case restore =>
    refine runs_answered (exec_restore h) ⟨Frame.answered _ _ (by decide) (by decide) ?_, ?_⟩
    · exact Frame.pacRestore _ backup (by decide)
    · rw [State.answered_pac, pacRestore_waits backup]
      exact congrArg (fun x : PacSt => _ || x.restore) (Dev.renew_pac s.dev q)
  case apply => exact runs_event rfl up (restoreApply_complete waits on counted)
  case early => exact runs_event rfl up (restoreApply_refused waits on early)
  case switch => exact runs_event rfl up (backupSwitch_complete due backup)
  case stop => exact runs_event rfl up (mediumStopped_complete silent still)
  case loss =>
    refine runs_event rfl up ?_
    rw [lossEvent_due silent motion, stay, Dev.lossEnter_eq]
    exact ⟨Frame.halt _ _ _ _ _ (by decide) (by decide) (by decide) (by decide),
      Dev.halt_fields _ (by decide) (by decide) (by decide)⟩
  case lossStop =>
    have stops : lossEvent (s.after dt) = (s.after dt).lossEnter.jobStop 4 := by
      rw [lossEvent_due silent motion, stop]; rfl
    rw [exec_event rfl up]
    exact congrArg (fun d => Host.Outcome.next { s.pass dt with dev := d }) stops
  case idle =>
    refine runs_event rfl up ?_
    rw [advIdle_due settled]
    exact ⟨Frame.put _ _ _ _ _ _ (by decide), Dev.get_put_same _ _ _ _ (by decide)⟩
  case advZero =>
    refine runs_answered (exec_advZero h) ⟨Frame.answered _ _ (by decide) (by decide) ?_, ?_⟩
    · exact Frame.wr _ _ _ _ _ (by decide)
    · rw [State.answered_rd]
      exact Dev.rd_wr_same _ _ _

end Sys2Proof.Machine
end

section
/-! Proofs: the arming of the sequencer, the firing of lines and FIRE_INH_N (R90, R91, R115, R199). -/

namespace Sys2Proof.Machine

/-! ## A line skipped while a run of voids is open (R90, R199) -/

/-- One void line, line 0 of job 0, given up for LOUVRE at tick 0. -/
def voidOfLineZero : VoidRun := ⟨0, 1, 6, 0, 0⟩

/-- Job 0 is RUNNING on channel 0 with S at 0; the paper is ten lines past the pending line 0, which the line rate holds back, and
a run of voids is open. -/
def skipWithOpenRun : State :=
  let d := (State.reset.dev.wrN (HC_GEOM_NOZ 0) 0x80000010).put FIR_STS FIR_STS.JOB 2
  { State.reset with dev := { d with
      ras := { d.ras with jobs := [⟨0, 1, false, 100, 1, 3, none, none⟩] }
      fir := { d.fir with chans := [0] }
      pac := { d.pac with p0 := 2560 * 2 ^ 24, held := 2560 }
      hcs := [(0, { m := some 0, kPrev := some 0, voids := [0], run := some voidOfLineZero })] } }

/-- The run of voids still open on a channel after a command (R199). -/
def openRunAfter (c : Nat) : Host.Outcome State Fault Refusal → Option VoidRun
  | .next t => (t.dev.hc c).run
  | _ => none

theorem skipWithOpenRun_mustSkip : (skipWithOpenRun.after 0).mustSkip 0 = true := by decide +kernel

theorem skipWithOpenRun_pending : (skipWithOpenRun.after 0).pending 0 = some 0 := by decide +kernel

/-- The run of voids ends at the skipped line. -/
theorem lineSkip_ends_openRun : openRunAfter 0 (exec (.lineSkip 0 0) skipWithOpenRun) = none := by decide +kernel

/-- Refutes O19: its LINE_SKIP clause leaves an open run of voids open, where the model ends it at the skipped line (log entry 58). -/
theorem not_firingCommandsComplete : ¬ Obligations.FiringCommandsComplete := by
  unfold Obligations.FiringCommandsComplete
  rintro ⟨-, -, -, -, -, -, -, -, skips, -⟩
  have stated := congrArg (openRunAfter 0) (skips skipWithOpenRun 0 0 0 skipWithOpenRun_mustSkip skipWithOpenRun_pending)
  rw [lineSkip_ends_openRun] at stated
  exact absurd stated (by decide +kernel)

end Sys2Proof.Machine
end

section
/-! Proofs: opening, changing, aborting and resuming jobs (R80, R170 to R173, R200). -/

namespace Sys2Proof.Machine

/-! ## What a command without an access runs to -/

/-- Such a command answers with what its effect is on the state in which it acts. -/
theorem exec_onDev {i : Instr} {s t : State} {f g : Dev → Dev} (hi : exec i s = .next (t.onDev f)) (h : f t.dev = g t.dev) :
    exec i s = .next (t.onDev g) :=
  hi.trans (congrArg (fun d => Host.Outcome.next { t with dev := d }) h)

/-- What an event that acts on any state runs to: whatever holds of its effect on the state in which it arrives. -/
theorem runs_after {i : Instr} {s : State} {dt : Nat} {f : Dev → Dev} {e : Dev} {P : Dev → Prop}
    (hi : exec i s = .next ((s.pass dt).onDev f)) (he : f (s.after dt) = e) (h : P e) : Runs i s P := by
  subst he
  exact ⟨_, hi, rfl, rfl, h⟩

/-! ## The lowest reason (R171) -/

@[simp] theorem lowest_nil : lowest [] = 0 := rfl

@[simp] theorem lowest_cons (n : Nat) (b : Bool) (l : List (Nat × Bool)) :
    lowest ((n, b) :: l) = if b then n else lowest l := by
  cases b <;> rfl

/-! ## OPEN (R171, R172) -/

/-- The channels that a frame's mask names. -/
def JobMsg.chans (x : JobMsg) : List Nat := (List.range 64).filter (fun c => x.mask.testBit c)

theorem JobMsg.mem_chans {x : JobMsg} {c : Nat} : c ∈ x.chans ↔ c < 64 ∧ x.mask.testBit c = true := by
  simp [JobMsg.chans]

/-- A mask of 64 bits that is not 0 names a channel. -/
theorem JobMsg.chans_ne_nil {x : JobMsg} (h : x.mask ≠ 0) (bound : x.mask < 2 ^ 64) : x.chans ≠ [] := by
  obtain ⟨c, hc⟩ := Nat.exists_testBit_of_ne_zero h
  have low : 2 ^ c < 2 ^ 64 := Nat.lt_of_le_of_lt (Nat.ge_two_pow_of_testBit hc) bound
  exact List.ne_nil_of_mem (JobMsg.mem_chans.2 ⟨(Nat.pow_lt_pow_iff_right (by decide)).1 low, hc⟩)

/-- The reason of a frame's RESULT: 0 where R171 has none against it. -/
def openReason (x : JobMsg) (d : Dev) : Nat :=
  lowest [
    (1, decide (16 ≤ d.ras.jobs.length)), (2, (d.jobOf x.job).isSome),
    (3, x.chans.isEmpty || x.chans.any (fun c => !d.hasChannel c)), (4, x.arg % 4 + 1 == 4),
    (5, x.chans.any (fun c => decide (d.leadCap c (x.arg % 4 + 1) < 80))), (8, 8 ≤ x.arg || x.other ≠ 0)]

theorem jobOpen_eq (x : JobMsg) (d : Dev) :
    jobOpen x d = if openReason x d ≠ 0 then d.sendResult 1 x.job (openReason x d) else
      let j : Job := ⟨x.job, x.arg % 4 + 1, x.arg.testBit 2, x.line, x.mask, 1, none, none⟩
      (({ d with ras := { d.ras with jobs := d.ras.jobs ++ [j] } }.sendResult 1 x.job 0).sendState j).mirrorJob x.job := rfl

theorem jobOpen_refused {x : JobMsg} {d : Dev} {why : Nat} (reason : openReason x d = why) (h : why ≠ 0) :
    jobOpen x d = d.sendResult 1 x.job why := by
  rw [jobOpen_eq, reason, if_pos h]

/-- A full queue is the first reason. -/
theorem openReason_full {x : JobMsg} {d : Dev} (full : 16 ≤ d.ras.jobs.length) : openReason x d = 1 := by
  simp [openReason, full]

theorem openReason_known {x : JobMsg} {d : Dev} (room : d.ras.jobs.length < 16) (known : (d.jobOf x.job).isSome = true) :
    openReason x d = 2 := by
  simp [openReason, Nat.not_le.2 room, known]

theorem openReason_none {x : JobMsg} {d : Dev} (room : d.ras.jobs.length < 16) (fresh : d.jobOf x.job = none)
    (named : x.chans ≠ []) (channels : ∀ c ∈ x.chans, d.hasChannel c = true) (bits : x.arg % 4 ≠ 3)
    (lead : ∀ c ∈ x.chans, 80 ≤ d.leadCap c (x.arg % 4 + 1)) (arg : x.arg < 8) (other : x.other = 0) :
    openReason x d = 0 := by
  have exist : (x.chans.isEmpty || x.chans.any (fun c => !d.hasChannel c)) = false := by simpa [named] using channels
  have fit : x.chans.any (fun c => decide (d.leadCap c (x.arg % 4 + 1) < 80)) = false := by simpa using lead
  simp only [openReason, lowest_cons, exist, fit]
  simp [Nat.not_le.2 room, fresh, bits, Nat.not_le.2 arg, other]

/-! ## SETLAST, ABORT and RESUME (R171 to R173, R200) -/

/-- A job that is not open is the first reason of each. -/
theorem jobChange_unknown {x : JobMsg} {d : Dev} (unknown : d.jobOf x.job = none) :
    jobSetLast x d = d.sendResult 2 x.job 6 ∧ jobAbort x d = d.sendResult 3 x.job 6 ∧
    jobResume x d = d.sendResult 4 x.job 6 := by
  simp [jobSetLast, jobAbort, jobResume, resumeWhy, unknown]

theorem jobSetLast_accepted {job line : Nat} {d : Dev} {j : Job} (known : d.jobOf job = some j)
    (ahead : j.atFront line = false) :
    jobSetLast ⟨0, job, line, 0, 0⟩ d =
      (((d.modJob job (fun j => { j with last := line })).mirrorJob job).sendResult 2 job 0).finishCheck := by
  simp [jobSetLast, known, ahead]

theorem jobAbort_accepted {job : Nat} {d : Dev} {j : Job} (known : d.jobOf job = some j) :
    jobAbort ⟨0, job, 0, 0, 0⟩ d = (d.sendResult 3 job 0).abortJob j := by
  simp [jobAbort, known]

/-- Only a STOPPED job resumes, at a line past its front. -/
theorem resumeWhy_some (j : Job) (line : Nat) :
    resumeWhy (some j) line = if j.state ≠ 4 ∨ j.atFront line = true then 7 else 0 := by
  simp [resumeWhy]

theorem resumeWhy_stopped {j : Job} {line : Nat} (stopped : j.state = 4) (ahead : j.atFront line = false) :
    resumeWhy (some j) line = 0 := by
  simp [resumeWhy_some, stopped, ahead]

theorem jobResume_accepted {job line : Nat} {d : Dev} {j : Job} (known : d.jobOf job = some j)
    (may : resumeWhy (some j) line = 0) :
    jobResume ⟨0, job, line, 0, 0⟩ d = (d.sendResult 4 job 0).resumeJob j line := by
  simp [jobResume, known, may]

theorem jobResume_refused {job line : Nat} {d : Dev} {j : Job} (known : d.jobOf job = some j)
    (why : resumeWhy (some j) line = 7) : jobResume ⟨0, job, line, 0, 0⟩ d = d.sendResult 4 job 7 := by
  simp [jobResume, known, why]

/-- The line at which CMP_RFL_CMD.RESUME resumes. -/
def Dev.resumeLine (d : Dev) : Nat := d.rdN CMP_RESUME_LO + 2 ^ 32 * (d.rdN CMP_RESUME_HI % 256)

@[simp] theorem State.granted_resumeLine (s : State) (q : Req) : (s.granted q).resumeLine = s.dev.resumeLine := by
  simp only [State.granted, Dev.resumeLine, Dev.rdN, Dev.rd_renew]

theorem cmpResume_head {d : Dev} {j : Job} (head : d.headJob = some j) (may : resumeWhy (some j) d.resumeLine = 0) :
    cmpResume d = d.resumeJob j d.resumeLine := by
  unfold cmpResume
  rw [head]
  exact if_pos may

theorem exec_cmpResume {s : State} {q : Req} (h : Allowed s q CMP_RFL_CMD) :
    exec (.cmpResume q) s = .next (s.answered q CMP_RFL_CMD 1 (cmpResume (s.granted q))) :=
  congrArg Host.Outcome.next (State.devCommand_allowed s q CMP_RFL_CMD 1 (fun _ => cmpResume) h)

/-! ## AUTOARM and JOB_PROGRESS (R172, R173) -/

theorem autoArm_held {d : Dev} {j : Job} {l : Nat} (head : d.headJob = some j) (line : d.autoLine = some l)
    (auto : j.autoarm = true) (queued : j.state = 1) (held : ∀ c ∈ j.chans, (d.blk c (blkKey j.id (l / 64))).st = .held) :
    autoArm d = d.armLoops.armHead := by
  unfold autoArm
  rw [head, line]
  refine if_pos ?_
  simp only [auto, queued, decide_true, Bool.and_true, Bool.true_and, List.all_eq_true]
  exact fun c hc => by rw [held c hc]

theorem jobProgress_due {d : Dev} {j : Job} (head : d.headJob = some j) (running : j.state = 3)
    (due : d.ras.progressAt + 800000 ≤ d.now) :
    jobProgress d =
      { d with ras := { d.ras with progressAt := d.now } }.sendFrame 0 3 (jobBody 0x83 0 0 0 j.id j.frontOr 0 0) := by
  have passed : d.ras.progressAt + msTicks 1 ≤ d.now := due
  simp [jobProgress, head, running, passed]

theorem Frame.withRas (rs : List Nat) (ps : List Part) (d : Dev) (x : RasSt) (h : Part.ras ∈ ps) :
    Frame rs ps d { d with ras := x } :=
  ⟨fun _ _ => rfl, fun p n => by
    cases p
    case ras => exact absurd h n
    all_goals rfl⟩

/-! ## The statement -/

/-- Settles O21: each command by the lemma that says what its effect is on a state of the clause. -/
theorem jobCommandsComplete : Obligations.JobCommandsComplete := by
  unfold Obligations.JobCommandsComplete
  refine ⟨fun s arg job line mask other full => exec_onDev rfl (jobOpen_refused (openReason_full full) (by decide)),
    fun s arg job line mask other room known =>
      exec_onDev rfl (jobOpen_refused (openReason_known room known) (by decide)),
    fun s arg job line mask room fresh mask0 channels arg8 bits lead => ?opened,
    fun s arg job line mask other unknown => ?unknown,
    fun s job line j known ahead => exec_onDev rfl (jobSetLast_accepted known ahead),
    fun s job j known => exec_onDev rfl (jobAbort_accepted known),
    fun s job line j known stopped ahead => exec_onDev rfl (jobResume_accepted known (resumeWhy_stopped stopped ahead)),
    fun s job line j known refused => ?notResumed,
    fun s q j h head stopped ahead => ?headResumed,
    fun s j l dt head line auto queued held => exec_onDev rfl (autoArm_held head line auto queued held),
    fun s j dt head running due => ?progress⟩
  case opened =>
    have named : (JobMsg.mk arg.val job.toNat line.toNat mask.toNat 0).chans ≠ [] :=
      JobMsg.chans_ne_nil (fun h => mask0 (BitVec.eq_of_toNat_eq h)) mask.isLt
    have accepted : openReason (JobMsg.mk arg.val job.toNat line.toNat mask.toNat 0) s.dev = 0 :=
      openReason_none room fresh named (fun c hc => channels c (JobMsg.mem_chans.1 hc).2) bits
        (fun c hc => lead c (JobMsg.mem_chans.1 hc).2) arg8 rfl
    exact exec_onDev rfl ((jobOpen_eq _ _).trans (if_neg (fun refused => refused accepted)))
  case unknown =>
    obtain ⟨setLast, abort, resume⟩ := jobChange_unknown (x := ⟨arg.val, job.toNat, line.toNat, mask.toNat, other⟩) unknown
    exact ⟨exec_onDev rfl setLast, exec_onDev rfl abort, exec_onDev rfl resume⟩
  case notResumed =>
    have why : resumeWhy (some j) line.toNat = 7 := by rw [resumeWhy_some, if_pos refused]
    exact exec_onDev rfl (jobResume_refused known why)
  case headResumed =>
    have may : resumeWhy (some j) s.dev.resumeLine = 0 := resumeWhy_stopped stopped ahead
    rw [exec_cmpResume h, cmpResume_head head (by rwa [State.granted_resumeLine]), State.granted_resumeLine]
    rfl
  case progress =>
    refine runs_after rfl (jobProgress_due head running due) ⟨?_, rfl, rfl⟩
    exact (Frame.withRas _ _ _ _ (by decide)).trans (Frame.sendFrame _ _ _ _ _ _ (by decide))

end Sys2Proof.Machine
end

section
/-! Proofs: the rules of a Louvre link: its channel's hidden state, its states, HOLD, its end, and what its bank images are made
from (R116, R118 to R120, R123). -/

namespace Sys2Proof.Machine

/-! ## A channel's hidden state -/

theorem Dev.hc_modHc (d : Dev) (c j : Nat) (f : HcSt → HcSt) :
    (d.modHc c f).hc j = if j = c then f (d.hc c) else d.hc j := tget_tput _ _ _ _ _

theorem Dev.hc_congr {d e : Dev} (h : e.hcs = d.hcs) (c : Nat) : e.hc c = d.hc c := by rw [Dev.hc, Dev.hc, h]

theorem Frame.hc_eq {rs : List Nat} {ps : List Part} {d e : Dev} (h : Frame rs ps d e) (hp : Part.hcs ∉ ps) (c : Nat) :
    e.hc c = d.hc c := Dev.hc_congr (h.2 .hcs hp) c

@[simp] theorem Dev.hc_flag (d : Dev) (a : Nat) (f : Fld) (c : Nat) : (d.flag a f).hc c = d.hc c := Dev.hc_congr rfl c
@[simp] theorem Dev.hc_count (d : Dev) (a : Nat) (f : Fld) (n c : Nat) : (d.count a f n).hc c = d.hc c := Dev.hc_congr rfl c
@[simp] theorem Dev.hc_typedWrite (d : Dev) (a : Nat) (v : Word) (c : Nat) : (d.typedWrite a v).hc c = d.hc c :=
  Dev.hc_congr rfl c
@[simp] theorem Dev.hc_emit (d : Dev) (o : Out) (c : Nat) : (d.emit o).hc c = d.hc c := Dev.hc_congr rfl c

@[simp] theorem Dev.get_modHc (d : Dev) (c : Nat) (f : HcSt → HcSt) (a : Nat) (g : Fld) :
    (d.modHc c f).get a g = d.get a g := by
  rw [Dev.get, Dev.get, Dev.rd, Dev.rd, Dev.modHc, Dev.setHc_regs]

/-- A counter that has been added to, at most its field's full value. -/
theorem Dev.get_count_same (d : Dev) (a : Nat) (f : Fld) (n : Nat) (h : f.lo + f.width ≤ 32) :
    (d.count a f n).get a f = min (2 ^ f.width - 1) (d.get a f + n) := by
  have pos := Nat.two_pow_pos f.width
  rw [Dev.count, Dev.get_put_same _ _ _ _ h, Nat.mod_eq_of_lt (by omega)]

/-! ## Link states (R120) -/

theorem Frame.lvrState (rs : List Nat) (ps : List Part) (d : Dev) (c st : Nat) (hr : HC_LVR_STS c ∈ rs) (hp : Part.hcs ∈ ps) :
    Frame rs ps d (d.lvrState c st) :=
  (Frame.put rs ps _ _ _ _ hr).trans (Frame.modHc rs ps _ _ _ hp)

theorem Dev.get_lvrState (d : Dev) (c st : Nat) : (d.lvrState c st).get (HC_LVR_STS c) HC_LVR_STS.STATE = st % 8 :=
  Dev.get_put_same d (HC_LVR_STS c) HC_LVR_STS.STATE st (by decide)

@[simp] theorem Dev.hc_lvrState (d : Dev) (c st : Nat) : (d.lvrState c st).hc c = { d.hc c with stateAt := d.now } :=
  Dev.hc_modHc_same ..

theorem Frame.lvrStart (rs : List Nat) (ps : List Part) (d : Dev) (c : Nat) (hr : HC_LVR_STS c ∈ rs) (hp : Part.hcs ∈ ps)
    (ho : Part.out ∈ ps) : Frame rs ps d (d.lvrStart c) :=
  (Frame.lvrState rs ps d c 1 hr hp).trans ((Frame.modHc rs ps _ _ _ hp).trans (Frame.emit rs ps _ _ ho))

/-- Link start: STATE TRAIN, its tick, no version yet, and TS1 with the version of HC_LVR_CFG. -/
theorem Dev.lvrStart_fields (d : Dev) (c : Nat) :
    (d.lvrStart c).get (HC_LVR_STS c) HC_LVR_STS.STATE = 1 ∧ ((d.lvrStart c).hc c).ver = 0 ∧
    ((d.lvrStart c).hc c).startAt = d.now ∧
    (d.lvrStart c).lastOut = some (.louvre c (.ts1 (d.get (HC_LVR_CFG c) HC_LVR_CFG.VER_MAX))) := by
  have cfg : (d.lvrState c 1).get (HC_LVR_CFG c) HC_LVR_CFG.VER_MAX = d.get (HC_LVR_CFG c) HC_LVR_CFG.VER_MAX :=
    (Frame.lvrState [HC_LVR_STS c] [.hcs] d c 1 (by simp) (by simp)).get_eq (by simp [HC_LVR_CFG, HC_LVR_STS]) _
  refine ⟨d.get_lvrState c 1, ?_, ?_, ?_⟩
  · simp [Dev.lvrStart]
  · simp [Dev.lvrStart, Dev.lvrState]
  · simp [Dev.lvrStart, cfg]

/-! ## HOLD (R118) -/

/-- HOLD changes: its flag and its tick. -/
def Dev.turnHold (d : Dev) (c : Nat) (on : Bool) : Dev :=
  (d.put (HC_FIR_STS c) HC_FIR_STS.HOLD (if on then 1 else 0)).modHc c (fun x => { x with hold := on, holdAt := d.now })

/-- The longest HOLD is kept. -/
def Dev.keepLongest (d : Dev) (c us : Nat) : Dev :=
  if d.get (HC_LVR_HOLDCNT c) hiHalf < us then d.put (HC_LVR_HOLDCNT c) hiHalf us else d

theorem Dev.setHold_same {d : Dev} {c : Nat} {on : Bool} (h : on = (d.hc c).hold) : d.setHold c on = d := if_pos h

theorem Dev.setHold_begins {d : Dev} {c : Nat} (off : (d.hc c).hold = false) : d.setHold c true = d.turnHold c true := by
  simp [Dev.setHold, Dev.turnHold, off]

theorem Dev.setHold_ends {d : Dev} {c : Nat} (on : (d.hc c).hold = true) :
    d.setHold c false = (d.turnHold c false).keepLongest c (min 65535 ((d.now - (d.hc c).holdAt) / 800)) := by
  simp [Dev.setHold, Dev.turnHold, Dev.keepLongest, on]

theorem Frame.turnHold (rs : List Nat) (ps : List Part) (d : Dev) (c : Nat) (on : Bool) (hs : HC_FIR_STS c ∈ rs)
    (hp : Part.hcs ∈ ps) : Frame rs ps d (d.turnHold c on) :=
  (Frame.put rs ps _ _ _ _ hs).trans (Frame.modHc rs ps _ _ _ hp)

@[simp] theorem Dev.hc_turnHold (d : Dev) (c : Nat) (on : Bool) :
    (d.turnHold c on).hc c = { d.hc c with hold := on, holdAt := d.now } := Dev.hc_modHc_same ..

theorem Dev.get_turnHold (d : Dev) (c : Nat) (on : Bool) :
    (d.turnHold c on).get (HC_FIR_STS c) HC_FIR_STS.HOLD = if on then 1 else 0 := by
  rw [Dev.turnHold, Dev.get_modHc, Dev.get_put_same _ _ _ _ (by decide)]
  cases on <;> rfl

theorem Frame.keepLongest (rs : List Nat) (ps : List Part) (d : Dev) (c us : Nat) (h : HC_LVR_HOLDCNT c ∈ rs) :
    Frame rs ps d (d.keepLongest c us) := by
  unfold Dev.keepLongest
  split
  · exact Frame.put rs ps _ _ _ _ h
  · exact Frame.refl _ _ _

theorem Dev.get_keepLongest (d : Dev) (c us : Nat) (h : us ≤ 65535) :
    (d.keepLongest c us).get (HC_LVR_HOLDCNT c) hiHalf = max (d.get (HC_LVR_HOLDCNT c) hiHalf) us := by
  have fits : us % 2 ^ hiHalf.width = us := Nat.mod_eq_of_lt (Nat.lt_succ_of_le h)
  unfold Dev.keepLongest
  split
  · rw [Dev.get_put_same _ _ _ _ (by decide), fits]; omega
  · omega

theorem Frame.setHold (rs : List Nat) (ps : List Part) (d : Dev) (c : Nat) (on : Bool) (hs : HC_FIR_STS c ∈ rs)
    (hn : HC_LVR_HOLDCNT c ∈ rs) (hp : Part.hcs ∈ ps) : Frame rs ps d (d.setHold c on) := by
  by_cases same : on = (d.hc c).hold
  · rw [Dev.setHold_same same]
    exact Frame.refl _ _ _
  · cases on
    · rw [Dev.setHold_ends (by simpa using same)]
      exact (Frame.turnHold rs ps d c false hs hp).trans (Frame.keepLongest rs ps _ _ _ hn)
    · rw [Dev.setHold_begins (by simpa using same)]
      exact Frame.turnHold rs ps d c true hs hp

/-- The longest HOLD is counted at its end only. -/
theorem Dev.get_setHold_true (d : Dev) (c : Nat) (f : Fld) :
    (d.setHold c true).get (HC_LVR_HOLDCNT c) f = d.get (HC_LVR_HOLDCNT c) f := by
  by_cases same : true = (d.hc c).hold
  · rw [Dev.setHold_same same]
  · rw [Dev.setHold_begins (by simpa using same)]
    exact (Frame.turnHold [HC_FIR_STS c] [.hcs] d c true (by simp) (by simp)).get_eq (by simp [HC_LVR_HOLDCNT, HC_FIR_STS]) f

/-- HOLD changes nothing else of the channel's hidden state. -/
theorem Dev.hc_setHold (d : Dev) (c : Nat) (on : Bool) :
    (d.setHold c on).hc c = if on = (d.hc c).hold then d.hc c else { d.hc c with hold := on, holdAt := d.now } := by
  split
  · next same => rw [Dev.setHold_same same]
  · next turns =>
    cases on
    · rw [Dev.setHold_ends (by simpa using turns),
        (Frame.keepLongest [HC_LVR_HOLDCNT c] [] _ c _ (by simp)).hc_eq (by simp), Dev.hc_turnHold]
    · rw [Dev.setHold_begins (by simpa using turns), Dev.hc_turnHold]

theorem Dev.setHold_hold (d : Dev) (c : Nat) (on : Bool) : ((d.setHold c on).hc c).hold = on := by
  rw [Dev.hc_setHold]
  split
  · next same => exact same.symm
  · rfl

/-! ## A link going down (R119, R263) -/

/-- What HOLD and the end of gate tests leave of a channel's link: its events, its status, its body and its bank image. -/
structure LinkKept (c : Nat) (d e : Dev) : Prop where
  evt : e.rd (HC_LVR_EVT c) = d.rd (HC_LVR_EVT c)
  sts : e.rd (HC_LVR_STS c) = d.rd (HC_LVR_STS c)
  body : (e.hc c).body = (d.hc c).body
  image : (e.hc c).image = (d.hc c).image

theorem LinkKept.refl (c : Nat) (d : Dev) : LinkKept c d d := ⟨rfl, rfl, rfl, rfl⟩

theorem LinkKept.trans {c : Nat} {d e f : Dev} (h : LinkKept c d e) (h' : LinkKept c e f) : LinkKept c d f :=
  ⟨h'.evt.trans h.evt, h'.sts.trans h.sts, h'.body.trans h.body, h'.image.trans h.image⟩

theorem LinkKept.get_sts {c : Nat} {d e : Dev} (h : LinkKept c d e) (f : Fld) :
    e.get (HC_LVR_STS c) f = d.get (HC_LVR_STS c) f := by
  rw [Dev.get, Dev.get, h.sts]

theorem Frame.linkKept {rs : List Nat} {ps : List Part} {d e : Dev} {c : Nat} (h : Frame rs ps d e) (he : HC_LVR_EVT c ∉ rs)
    (hs : HC_LVR_STS c ∉ rs) (hp : Part.hcs ∉ ps) : LinkKept c d e :=
  ⟨h.1 _ he, h.1 _ hs, congrArg HcSt.body (h.hc_eq hp c), congrArg HcSt.image (h.hc_eq hp c)⟩

theorem LinkKept.setHold (c : Nat) (d : Dev) (on : Bool) : LinkKept c d (d.setHold c on) := by
  have frame := Frame.setHold [HC_FIR_STS c, HC_LVR_HOLDCNT c] [.hcs] d c on (by simp) (by simp) (by simp)
  refine ⟨frame.1 _ (by simp [HC_LVR_EVT, HC_FIR_STS, HC_LVR_HOLDCNT]),
    frame.1 _ (by simp [HC_LVR_STS, HC_FIR_STS, HC_LVR_HOLDCNT]), ?_, ?_⟩ <;>
  · rw [Dev.hc_setHold]; split <;> rfl

/-- A trim that waits for rest, of whatever channel, is no part of a link. -/
theorem LinkKept.trimWrite (c p : Nat) (b : Bool) (v : Word) (d : Dev) : LinkKept c d (wavTrimWrite p b v d) := by
  have hidden : ((wavTrimWrite p b v d).hc c).body = (d.hc c).body ∧ ((wavTrimWrite p b v d).hc c).image = (d.hc c).image := by
    unfold wavTrimWrite
    simp only [Dev.hc_modHc, Dev.hc_typedWrite]
    split
    · next same => subst same; cases b <;> exact ⟨rfl, rfl⟩
    · exact ⟨rfl, rfl⟩
  obtain ⟨body, image⟩ := hidden
  refine ⟨Dev.rd_typedWrite_ne d v ?_, Dev.rd_typedWrite_ne d v ?_, body, image⟩ <;>
  · cases b <;> simp only [HC_LVR_EVT, HC_LVR_STS, WAV_TRIM_A, WAV_TRIM_B, if_true, Bool.false_eq_true, if_false] <;> omega

theorem Frame.withCal (rs : List Nat) (ps : List Part) (d : Dev) (x : CalSt) (h : Part.cal ∈ ps) :
    Frame rs ps d { d with cal := x } :=
  ⟨fun _ _ => rfl, fun p n => by
    cases p
    case cal => exact absurd h n
    all_goals rfl⟩

theorem Frame.withNh (rs : List Nat) (ps : List Part) (d : Dev) (x : NhSt) (h : Part.nh ∈ ps) :
    Frame rs ps d { d with nh := x } :=
  ⟨fun _ _ => rfl, fun p n => by
    cases p
    case nh => exact absurd h n
    all_goals rfl⟩

theorem LinkKept.calEnd (c : Nat) (d : Dev) (state reason step out : Nat) (meas : Int) (evt : Fld) :
    LinkKept c d (d.calEnd state reason step out meas evt) := by
  have ended {e : Dev} (h : Frame [CAL_STS, CAL_EVT, CAL_RESULT] [.cal] d e) : LinkKept c d e :=
    h.linkKept (by simp only [HC_LVR_EVT, CAL_STS, CAL_EVT, CAL_RESULT, List.mem_cons, List.not_mem_nil, or_false]; omega)
      (by simp only [HC_LVR_STS, CAL_STS, CAL_EVT, CAL_RESULT, List.mem_cons, List.not_mem_nil, or_false]; omega) (by simp)
  have result (n : Nat) : Frame [CAL_STS, CAL_EVT, CAL_RESULT] [.cal] d
      (((d.put CAL_STS CAL_STS.STATE state).flag CAL_EVT evt).wrN CAL_RESULT n) :=
    (Frame.put _ _ _ _ _ _ (by simp)).trans ((Frame.flag _ _ _ _ _ (by simp)).trans (Frame.wrN _ _ _ _ _ (by simp)))
  unfold Dev.calEnd
  dsimp only
  split
  · exact ended (result _)
  · split
    · exact ended ((result _).trans (Frame.withCal _ _ _ _ (by simp)))
    · refine LinkKept.trans ?_ (LinkKept.trans (LinkKept.trimWrite ..) (LinkKept.trimWrite ..))
      exact ended ((result _).trans (Frame.withCal _ _ _ _ (by simp)))

theorem LinkKept.calAbort (c : Nat) (d : Dev) : LinkKept c d d.calAbort := by
  unfold Dev.calAbort
  split
  · exact LinkKept.calEnd ..
  · exact LinkKept.refl c d

/-- The end of a gate test writes its unit's status, the result of its nozzle and what the procedure around it leaves. -/
theorem LinkKept.gateAbort {c k : Nat} (hc : c < 64) (_hk : k < 2) (d : Dev) (link : Bool) :
    LinkKept c d (d.gateAbort k link) := by
  have ended {n j : Nat} {e : Dev} (h : Frame [FIR_GATE_STS k, NH_GATE n j] [.nh] d e) : LinkKept c d e :=
    h.linkKept (by simp only [HC_LVR_EVT, FIR_GATE_STS, NH_GATE, List.mem_cons, List.not_mem_nil, or_false]; omega)
      (by simp only [HC_LVR_STS, FIR_GATE_STS, NH_GATE, List.mem_cons, List.not_mem_nil, or_false]; omega) (by simp)
  have result (n j v : Nat) (f : Fld) (x : NhSt) : Frame [FIR_GATE_STS k, NH_GATE n j] [.nh] d
      (Dev.put { d.put (FIR_GATE_STS k) FIR_GATE_STS.STATE 3 with nh := x } (NH_GATE n j) f v) :=
    (Frame.put _ _ _ _ _ _ (by simp)).trans ((Frame.withNh _ _ _ _ (by simp)).trans (Frame.put _ _ _ _ _ _ (by simp)))
  unfold Dev.gateAbort
  dsimp only
  split
  · exact LinkKept.refl c d
  · split
    · split
      · split
        · exact (ended (result ..)).trans (LinkKept.calEnd ..)
        · exact (ended (result ..)).trans (LinkKept.calAbort ..)
      · exact ended (result ..)
    · exact ended (result ..)

theorem LinkKept.gateLink {c : Nat} (hc : c < 64) (d : Dev) : LinkKept c d (d.gateLink c) := by
  have one (k : Nat) (hk : k < 2) (e : Dev) :
      LinkKept c e (if (tget (fun _ => ({} : GateSt)) e.nh.gate k).chan = c then e.gateAbort k true else e) := by
    split
    · exact LinkKept.gateAbort hc hk e true
    · exact LinkKept.refl c e
  exact (one 0 (by decide) d).trans (one 1 (by decide) _)

/-- What a link going down writes itself: the event and the state, and what belonged to the link (R119). -/
def Dev.dropLink (d : Dev) (c : Nat) : Dev :=
  (((d.flag (HC_LVR_EVT c) HC_LVR_EVT.DOWN).put (HC_LVR_STS c) HC_LVR_STS.VER 0).lvrState c 0).modHc c (fun x => { x with
    body := none, image := none, ready := false, prep := false, errs := [], ver := 0, wave := none })

theorem Dev.lvrDown_eq (d : Dev) (c : Nat) : d.lvrDown c = ((d.dropLink c).setHold c false).gateLink c := rfl

theorem LinkKept.dropLink_lvrDown {c : Nat} (hc : c < 64) (d : Dev) : LinkKept c (d.dropLink c) (d.lvrDown c) := by
  rw [Dev.lvrDown_eq]
  exact (LinkKept.setHold c _ false).trans (LinkKept.gateLink hc _)

/-- The events of a channel after its link has dropped are those before it and DOWN. -/
theorem Dev.rd_dropLink_evt (d : Dev) (c : Nat) :
    (d.dropLink c).rd (HC_LVR_EVT c) = (d.flag (HC_LVR_EVT c) HC_LVR_EVT.DOWN).rd (HC_LVR_EVT c) := by
  have frame : Frame [HC_LVR_STS c] [.hcs] (d.flag (HC_LVR_EVT c) HC_LVR_EVT.DOWN) (d.dropLink c) :=
    (Frame.put _ _ _ _ _ _ (by simp)).trans ((Frame.lvrState _ _ _ _ _ (by simp) (by simp)).trans
      (Frame.modHc _ _ _ _ _ (by simp)))
  exact frame.1 _ (by simp [HC_LVR_EVT, HC_LVR_STS])

/-- A link that has gone down: DOWN, STATE and VER 0, and neither a body nor an image on its lanes. -/
theorem Dev.lvrDown_fields {c : Nat} (hc : c < 64) (d : Dev) :
    (d.lvrDown c).get (HC_LVR_EVT c) HC_LVR_EVT.DOWN = 1 ∧ (d.lvrDown c).get (HC_LVR_STS c) HC_LVR_STS.STATE = 0 ∧
    (d.lvrDown c).get (HC_LVR_STS c) HC_LVR_STS.VER = 0 ∧ ((d.lvrDown c).hc c).image = none ∧
    ((d.lvrDown c).hc c).body = none := by
  have kept := LinkKept.dropLink_lvrDown hc d
  refine ⟨?_, ?_, ?_, kept.image.trans (by simp [Dev.dropLink]), kept.body.trans (by simp [Dev.dropLink])⟩
  · rw [Dev.get, kept.evt, Dev.rd_dropLink_evt]
    exact Dev.get_flag_same d (HC_LVR_EVT c) HC_LVR_EVT.DOWN (by decide) (by decide)
  · rw [kept.get_sts, Dev.dropLink, Dev.get_modHc, Dev.get_lvrState]
  · rw [kept.get_sts, Dev.dropLink, Dev.get_modHc, Dev.lvrState, Dev.get_modHc,
      Dev.get_put_other _ _ _ _ _ _ (by decide) (.inr (by decide)), Dev.get_put_same _ _ _ _ (by decide)]
    rfl

/-- Every other event of the channel stays as it was. -/
theorem Dev.get_lvrDown_evt {c : Nat} (hc : c < 64) (d : Dev) (f : Fld) (hf : 1 ≤ f.lo) :
    (d.lvrDown c).get (HC_LVR_EVT c) f = d.get (HC_LVR_EVT c) f := by
  rw [Dev.get, (LinkKept.dropLink_lvrDown hc d).evt, Dev.rd_dropLink_evt]
  exact Dev.get_flag_other d _ _ HC_LVR_EVT.DOWN f (by decide) (.inr (.inl hf))

/-! ## What a bank image and its checks read (R116, R123, R135) -/

section
variable {d e : Dev} {c : Nat} (regs : ∀ a, a < HC_LVR_STS c ∨ HC_LVR_BANK_AT_HI c < a → e.rd a = d.rd a)
include regs

theorem Dev.get_congr {a : Nat} (ha : a < HC_LVR_STS c ∨ HC_LVR_BANK_AT_HI c < a) (f : Fld) : e.get a f = d.get a f := by
  rw [Dev.get, Dev.get, regs a ha]

/-- The waveforms and the tables of a channel lie above its link's registers. -/
theorem Dev.rd_table_congr {a : Nat} (ha : WAV_SEL c ≤ a) : e.rd a = d.rd a :=
  regs a (.inr (Nat.lt_of_lt_of_le (by simp only [HC_LVR_BANK_AT_HI, WAV_SEL]; omega) ha))

theorem Dev.waveSegs_congr (b : Bool) (w : Nat) : e.waveSegs c b w = d.waveSegs c b w := by
  have seg (i : Nat) : e.rd (WAV_SEG c i) = d.rd (WAV_SEG c i) :=
    Dev.rd_table_congr regs (by simp only [WAV_SEL, WAV_SEG]; omega)
  simp only [Dev.waveSegs, seg]

theorem Dev.confNow_congr : e.confNow c = d.confNow c := by
  have table (j : Nat) : e.rd (WAV_CLASS c j) = d.rd (WAV_CLASS c j) :=
    Dev.rd_table_congr regs (by simp only [WAV_SEL, WAV_CLASS]; omega)
  have sel : e.rd (WAV_SEL c) = d.rd (WAV_SEL c) := Dev.rd_table_congr regs (Nat.le_refl _)
  have grey0 : e.rd (WAV_GREY0 c) = d.rd (WAV_GREY0 c) := Dev.rd_table_congr regs (by simp [WAV_SEL, WAV_GREY0])
  have grey1 : e.rd (WAV_GREY1 c) = d.rd (WAV_GREY1 c) := Dev.rd_table_congr regs (by simp [WAV_SEL, WAV_GREY1])
  simp only [Dev.confNow, table, sel, grey0, grey1]

theorem Dev.confNext_congr : e.confNext c = d.confNext c := by
  have table (j : Nat) : e.rd (WAV_CLASS_NEXT c j) = d.rd (WAV_CLASS_NEXT c j) :=
    Dev.rd_table_congr regs (by simp only [WAV_SEL, WAV_CLASS_NEXT]; omega)
  have sel : e.rd (WAV_SEL_NEXT c) = d.rd (WAV_SEL_NEXT c) := Dev.rd_table_congr regs (by simp [WAV_SEL, WAV_SEL_NEXT])
  have grey0 : e.rd (WAV_GREY_NEXT0 c) = d.rd (WAV_GREY_NEXT0 c) := Dev.rd_table_congr regs (by simp [WAV_SEL, WAV_GREY_NEXT0])
  have grey1 : e.rd (WAV_GREY_NEXT1 c) = d.rd (WAV_GREY_NEXT1 c) := Dev.rd_table_congr regs (by simp [WAV_SEL, WAV_GREY_NEXT1])
  simp only [Dev.confNext, table, sel, grey0, grey1]

theorem Dev.confFault_congr (ieff b : Nat) (conf : List Word) (restA restB : Nat) :
    e.confFault c ieff b conf restA restB = d.confFault c ieff b conf restA restB := by
  simp only [Dev.confFault, Dev.waveSegs_congr regs]

theorem Dev.bankTiming_congr (lat : (e.hc c).lat = (d.hc c).lat) : e.bankTiming c = d.bankTiming c := by
  have busy := Dev.busy_congr (regs FIR_STS (.inl (by simp only [FIR_STS, HC_LVR_STS]; omega)))
  have delay := Dev.get_congr regs (a := HC_FIR_CFG c) (.inl (by simp [HC_FIR_CFG, HC_LVR_STS]))
  have align := Dev.get_congr regs (a := HC_LVR_CFG c) (.inl (by simp [HC_LVR_CFG, HC_LVR_STS]))
  simp only [Dev.bankTiming, busy, delay, align, lat]

theorem Dev.bankBits_congr (ver : (e.hc c).ver = (d.hc c).ver) : e.bankBits c = d.bankBits c := by
  have caps := Dev.get_congr regs (a := HC_LVR_ID c) (.inr (by simp [HC_LVR_BANK_AT_HI, HC_LVR_ID]))
  simp only [Dev.bankBits, ver, caps]

theorem Dev.checkBits_congr (ver : (e.hc c).ver = (d.hc c).ver) (ras : e.ras = d.ras) : e.checkBits c = d.checkBits c := by
  simp only [Dev.checkBits, Dev.headJob, ras, Dev.bankBits_congr regs ver]

theorem Dev.bankBytes_congr (ver : (e.hc c).ver = (d.hc c).ver) (armwin align : Nat) (conf : List Word) :
    e.bankBytes c armwin align conf = d.bankBytes c armwin align conf := by
  have nozzles : e.nozzles c = d.nozzles c :=
    Dev.get_congr regs (a := HC_GEOM_NOZ c) (.inl (by simp [HC_GEOM_NOZ, HC_LVR_STS])) _
  simp only [Dev.bankBytes, Dev.bankBits_congr regs ver, nozzles, Dev.waveSegs_congr regs, ver]

end

theorem Frame.startImage (rs : List Nat) (ps : List Part) (d : Dev) (c bank : Nat) (change : Bool) (h : Part.hcs ∈ ps) :
    Frame rs ps d (d.startImage c bank change) := Frame.modHc rs ps _ _ _ h

/-- The image of the configuration in force starts at its first byte. -/
theorem Dev.image_startImage_now (d : Dev) (c bank : Nat) :
    ((d.startImage c bank false).hc c).image = some ⟨bank,
      d.bankBytes c (d.bankTiming c).1 (d.bankTiming c).2 (d.confNow c), 0, false, (d.bankTiming c).1, (d.bankTiming c).2⟩ := by
  rw [Dev.startImage, Dev.hc_modHc_same]
  rfl

end Sys2Proof.Machine
end

section
/-! Proofs: the start, the loss and the restart of a Louvre link (R117 to R120). -/

namespace Sys2Proof.Machine

/-! ## Loss and restart (R119) -/

theorem Dev.lvrUp_iff (d : Dev) (c : Nat) : d.lvrUp c = true ↔ d.get (HC_LVR_STS c) HC_LVR_STS.STATE = 3 := by
  simp [Dev.lvrUp]

theorem lvrStatusTimeout_due {d : Dev} {c : Nat} (up : d.lvrUp c = true) (due : (d.hc c).frameAt + 16000 ≤ d.now) :
    lvrStatusTimeout c d = d.lvrDown c := by
  have late : (d.hc c).frameAt + usTicks 20 ≤ d.now := due
  simp [lvrStatusTimeout, up, late]

theorem lvrBridgeTraining_up {d : Dev} {c : Nat} (up : d.lvrUp c = true) : lvrBridgeTraining c d = d.lvrDown c := if_pos up

theorem exec_lvrRestart {s : State} {q : Req} {c : Fin 64} (h : Allowed s q (HC_LVR_CMD c.val)) :
    exec (.lvrRestart q c) s = .next (s.answered q (HC_LVR_CMD c.val) 1
      (if s.dev.bit (HC_LVR_CFG c.val) HC_LVR_CFG.EN then (s.granted q).lvrDown c.val else s.granted q)) := by
  have enabled : (s.granted q).bit (HC_LVR_CFG c.val) HC_LVR_CFG.EN = s.dev.bit (HC_LVR_CFG c.val) HC_LVR_CFG.EN :=
    congrArg (· != 0) (Dev.get_renew ..)
  rw [← enabled]
  exact congrArg Host.Outcome.next (State.devCommand_allowed s q _ 1 (fun _ => lvrRestart c.val) h)

/-! ## Code errors (R119) -/

theorem hiHalf_full : 2 ^ hiHalf.width - 1 = 65535 := rfl

/-- The code errors of the last microsecond. -/
def Dev.recentErrs (d : Dev) (c : Nat) : List Nat := (d.hc c).errs.filter (fun k => d.now < k + 800)

/-- Code errors are counted, flagged and kept with their tick. -/
def Dev.countCodeErrs (d : Dev) (c n : Nat) : Dev :=
  ((d.count (HC_LVR_ERRCNT c) hiHalf n).flag (HC_LVR_EVT c) HC_LVR_EVT.CODEERR).modHc c
    (fun x => { x with errs := d.recentErrs c ++ List.replicate (min n 4) d.now })

/-- Code errors of an enabled link: the fourth within the microsecond takes an UP link down. -/
theorem lvrCodeErrors_enabled {d : Dev} {c n : Nat} (en : d.bit (HC_LVR_CFG c) HC_LVR_CFG.EN = true) (hn : 0 < n) :
    lvrCodeErrors c n d =
      if 4 ≤ (d.recentErrs c).length + min n 4 ∧ (d.countCodeErrs c n).lvrUp c = true then (d.countCodeErrs c n).lvrDown c
      else d.countCodeErrs c n := by
  have errors : (decide (n = 0) || !d.bit (HC_LVR_CFG c) HC_LVR_CFG.EN) = false := by simp [en]; omega
  have us : usTicks 1 = 800 := rfl
  have now : ((d.count (HC_LVR_ERRCNT c) hiHalf n).flag (HC_LVR_EVT c) HC_LVR_EVT.CODEERR).now = d.now :=
    (Dev.flag_now ..).trans (Dev.count_now ..)
  unfold lvrCodeErrors
  simp only [errors, us, now, Dev.lvrUp_iff, Dev.countCodeErrs, Dev.recentErrs, Dev.hc_flag, Dev.hc_count, List.length_append,
    List.length_replicate, Bool.and_eq_true, decide_eq_true_eq, Bool.false_eq_true, if_false]

theorem Frame.countCodeErrs (d : Dev) (c n : Nat) : Frame [HC_LVR_ERRCNT c, HC_LVR_EVT c] [.hcs] d (d.countCodeErrs c n) :=
  (Frame.count _ _ _ _ _ _ (by simp)).trans ((Frame.flag _ _ _ _ _ (by simp)).trans (Frame.modHc _ _ _ _ _ (by simp)))

theorem Dev.countCodeErrs_fields (d : Dev) (c n : Nat) :
    (d.countCodeErrs c n).get (HC_LVR_EVT c) HC_LVR_EVT.CODEERR = 1 ∧
    (d.countCodeErrs c n).get (HC_LVR_ERRCNT c) hiHalf = min 65535 (d.get (HC_LVR_ERRCNT c) hiHalf + n) ∧
    ((d.countCodeErrs c n).hc c).errs = d.recentErrs c ++ List.replicate (min n 4) d.now := by
  refine ⟨?_, ?_, by simp [Dev.countCodeErrs]⟩
  · rw [Dev.countCodeErrs, Dev.get_modHc, Dev.get_flag_same _ _ _ (by decide) (by decide)]
  · rw [Dev.countCodeErrs, Dev.get_modHc,
      Dev.get_flag_other _ _ _ _ _ (by decide) (.inl (by simp [HC_LVR_ERRCNT, HC_LVR_EVT])),
      Dev.get_count_same _ _ _ _ (by decide), hiHalf_full]

theorem Dev.lvrUp_countCodeErrs (d : Dev) (c n : Nat) : (d.countCodeErrs c n).lvrUp c = d.lvrUp c :=
  congrArg (· == 3) ((Frame.countCodeErrs d c n).get_eq (by simp [HC_LVR_STS, HC_LVR_ERRCNT, HC_LVR_EVT]) _)

theorem lvrCodeErrors_few {d : Dev} {c n : Nat} (en : d.bit (HC_LVR_CFG c) HC_LVR_CFG.EN = true) (hn : 0 < n)
    (few : (d.recentErrs c).length + n < 4) : lvrCodeErrors c n d = d.countCodeErrs c n := by
  rw [lvrCodeErrors_enabled en hn, if_neg (by omega)]

theorem lvrCodeErrors_many {d : Dev} {c n : Nat} (en : d.bit (HC_LVR_CFG c) HC_LVR_CFG.EN = true) (many : 4 ≤ n)
    (up : d.lvrUp c = true) : lvrCodeErrors c n d = (d.countCodeErrs c n).lvrDown c := by
  rw [lvrCodeErrors_enabled en (by omega), if_pos ⟨by omega, by rw [Dev.lvrUp_countCodeErrs, up]⟩]

/-! ## Link start (R120) -/

theorem fld_setFld_en (v : Word) (f : Fld) (h : 1 ≤ f.lo) : (v.setFld HC_LVR_CFG.EN 1).fld f = v.fld f :=
  Word.fld_setFld_above v HC_LVR_CFG.EN f 1 (by decide) h

/-- A write of HC_LVR_CFG that turns EN on with values inside the limits starts the link. -/
theorem lvrCfgWrite_enables {d : Dev} {c : Nat} {v : Word} (off : d.bit (HC_LVR_CFG c) HC_LVR_CFG.EN = false)
    (free : d.linksHeld = false) (ver : v.fld HC_LVR_CFG.VER_MAX = 1 ∨ v.fld HC_LVR_CFG.VER_MAX = 2)
    (stb : 16 ≤ v.fld HC_LVR_CFG.STB_W) :
    lvrCfgWrite c (v.setFld HC_LVR_CFG.EN 1) d = (d.typedWrite (HC_LVR_CFG c) (v.setFld HC_LVR_CFG.EN 1)).lvrStart c := by
  have en : (v.setFld HC_LVR_CFG.EN 1).fld HC_LVR_CFG.EN = 1 := Word.fld_setFld v HC_LVR_CFG.EN 1 (by decide)
  have held : (d.typedWrite (HC_LVR_CFG c) (v.setFld HC_LVR_CFG.EN 1)).linksHeld = false := by
    have stage := (Frame.typedWrite [HC_LVR_CFG c] [] d (HC_LVR_CFG c) (v.setFld HC_LVR_CFG.EN 1) (by simp)).get_eq (a := PWR_STS)
      (by simp only [PWR_STS, HC_LVR_CFG, List.mem_singleton]; omega) PWR_STS.STAGE
    rw [← free, Dev.linksHeld, stage, Dev.linksHeld]
  have verIn : ((v.setFld HC_LVR_CFG.EN 1).fld HC_LVR_CFG.VER_MAX = 1 || (v.setFld HC_LVR_CFG.EN 1).fld HC_LVR_CFG.VER_MAX = 2) =
      true := by
    rw [fld_setFld_en _ _ (by decide)]; simpa using ver
  have stbIn : ¬ (v.setFld HC_LVR_CFG.EN 1).fld HC_LVR_CFG.STB_W < 16 := by
    rw [fld_setFld_en _ _ (by decide)]; exact Nat.not_lt.2 stb
  unfold lvrCfgWrite
  simp only [verIn, stbIn, off, held, en, if_true, if_false, decide_true, Bool.not_false, Bool.and_self, Bool.false_eq_true]

theorem exec_lvrEnable {s : State} {q : Req} {c : Fin 64} {v : Word} (h : Allowed s q (HC_LVR_CFG c.val)) :
    exec (.lvrEnable q c v) s = .next (s.answered q (HC_LVR_CFG c.val) (v.setFld HC_LVR_CFG.EN 1)
      (lvrCfgWrite c.val (v.setFld HC_LVR_CFG.EN 1) (s.granted q))) :=
  congrArg Host.Outcome.next (State.devCommand_allowed s q _ _ (lvrCfgWrite c.val) h)

theorem linkStartRetry_due {d : Dev} {c : Nat} (isl : d.islUp (0x40 + c) = true)
    (en : d.bit (HC_LVR_CFG c) HC_LVR_CFG.EN = true) (free : d.linksHeld = false) (plain : d.looped 2 c = false)
    (down : d.get (HC_LVR_STS c) HC_LVR_STS.STATE = 0) (due : (d.hc c).stateAt + 80000 ≤ d.now) :
    linkStartRetry c d = d.lvrStart c := by
  have late : (d.hc c).stateAt + usTicks 100 ≤ d.now := due
  simp [linkStartRetry, isl, en, free, plain, down, late]

theorem failedRetry_due {d : Dev} {c : Nat} (en : d.bit (HC_LVR_CFG c) HC_LVR_CFG.EN = true)
    (failed : d.get (HC_LVR_STS c) HC_LVR_STS.STATE = 4) (due : (d.hc c).stateAt + 80000000 ≤ d.now) :
    failedRetry c d = d.lvrStart c := by
  have late : (d.hc c).stateAt + msTicks 100 ≤ d.now := due
  simp [failedRetry, en, failed, late]

theorem linkStartFailed_due {d : Dev} {c : Nat}
    (starting : d.get (HC_LVR_STS c) HC_LVR_STS.STATE = 1 ∨ d.get (HC_LVR_STS c) HC_LVR_STS.STATE = 2)
    (due : (d.hc c).startAt + 8000000 ≤ d.now) : linkStartFailed c d = d.lvrState c 4 := by
  have late : (d.hc c).startAt + msTicks 10 ≤ d.now := due
  simp [linkStartFailed, starting, late]

/-- The identity of the bridge on a channel: CAPS, NMAX and ID (R120). -/
def Dev.nameBridge (d : Dev) (c caps nmax id : Nat) : Dev :=
  d.wrN (HC_LVR_ID c) (caps % 4 + 4 * (nmax % 16384) + 65536 * (id % 65536))

theorem Frame.nameBridge (ps : List Part) (d : Dev) (c caps nmax id : Nat) :
    Frame [HC_LVR_ID c] ps d (d.nameBridge c caps nmax id) := Frame.wrN _ _ _ _ _ (by simp)

theorem Dev.rdN_nameBridge (d : Dev) (c caps nmax id : Nat) :
    (d.nameBridge c caps nmax id).rdN (HC_LVR_ID c) = caps % 4 + 4 * (nmax % 16384) + 65536 * (id % 65536) := by
  rw [Dev.rdN, Dev.nameBridge, Dev.rd_wrN, if_pos rfl, BitVec.toNat_ofNat]
  omega

/-- In TRAIN the bridge is recorded, and refused with a smaller NMAX than N or answered with TS2 (R120). -/
theorem bridgeTs_train {d : Dev} {c : Nat} (verMax caps nmax id : Nat) (train : d.get (HC_LVR_STS c) HC_LVR_STS.STATE = 1) :
    bridgeTs c verMax caps nmax id d =
      let e := d.nameBridge c caps nmax id
      let ver := min verMax (d.get (HC_LVR_CFG c) HC_LVR_CFG.VER_MAX)
      if nmax < d.nozzles c then e.lvrState c 4
      else (e.modHc c (fun x => { x with ver := ver })).emit (.louvre c (.ts2 ver)) := by
  have frame := Frame.nameBridge [] d c caps nmax id
  rw [Dev.nozzles, ← frame.get_eq (a := HC_GEOM_NOZ c) (by simp [HC_GEOM_NOZ, HC_LVR_ID]),
    ← frame.get_eq (a := HC_LVR_CFG c) (by simp [HC_LVR_CFG, HC_LVR_ID])]
  exact if_neg (fun other => other train)

theorem bridgeTs_refused {d : Dev} {c nmax : Nat} (verMax caps id : Nat) (train : d.get (HC_LVR_STS c) HC_LVR_STS.STATE = 1)
    (few : nmax < d.nozzles c) : bridgeTs c verMax caps nmax id d = (d.nameBridge c caps nmax id).lvrState c 4 :=
  (bridgeTs_train verMax caps nmax id train).trans (if_pos few)

theorem bridgeTs_accepted {d : Dev} {c nmax : Nat} (verMax caps id : Nat) (train : d.get (HC_LVR_STS c) HC_LVR_STS.STATE = 1)
    (enough : d.nozzles c ≤ nmax) :
    bridgeTs c verMax caps nmax id d =
      let ver := min verMax (d.get (HC_LVR_CFG c) HC_LVR_CFG.VER_MAX)
      ((d.nameBridge c caps nmax id).modHc c (fun x => { x with ver := ver })).emit (.louvre c (.ts2 ver)) :=
  (bridgeTs_train verMax caps nmax id train).trans (if_neg (Nat.not_lt.2 enough))

theorem bridgeTs_complete {d t : Dev} {c : Nat} (verMax caps nmax id : Nat)
    (train : d.get (HC_LVR_STS c) HC_LVR_STS.STATE = 1) (ht : bridgeTs c verMax caps nmax id d = t) :
    Frame [HC_LVR_ID c, HC_LVR_STS c] [.hcs, .out] d t ∧
    t.rdN (HC_LVR_ID c) = caps % 4 + 4 * (nmax % 16384) + 65536 * (id % 65536) ∧
    (nmax < d.nozzles c → t.get (HC_LVR_STS c) HC_LVR_STS.STATE = 4) ∧
    (d.nozzles c ≤ nmax → t.get (HC_LVR_STS c) HC_LVR_STS.STATE = 1 ∧
      (t.hc c).ver = min verMax (d.get (HC_LVR_CFG c) HC_LVR_CFG.VER_MAX) ∧
      t.lastOut = some (.louvre c (.ts2 (t.hc c).ver))) := by
  subst ht
  have named : Frame [HC_LVR_ID c, HC_LVR_STS c] [.hcs, .out] d (d.nameBridge c caps nmax id) :=
    (Frame.nameBridge _ d c caps nmax id).mono (by simp) (fun _ h => h)
  have ident := d.rdN_nameBridge c caps nmax id
  obtain few | enough := Nat.lt_or_ge nmax (d.nozzles c)
  · have state := Frame.lvrState [HC_LVR_STS c] [.hcs] (d.nameBridge c caps nmax id) c 4 (by simp) (by simp)
    rw [bridgeTs_refused verMax caps id train few]
    refine ⟨named.trans (state.mono (by simp) (by simp)), ?_, fun _ => Dev.get_lvrState ..,
      fun enough => absurd few (by omega)⟩
    rw [Dev.rdN, state.1 _ (by simp [HC_LVR_ID, HC_LVR_STS]), ← Dev.rdN, ident]
  · rw [bridgeTs_accepted verMax caps id train enough]
    refine ⟨named.trans ((Frame.modHc _ _ _ _ _ (by simp)).trans (Frame.emit _ _ _ _ (by simp))), ident,
      fun few => absurd few (by omega), fun _ => ⟨?_, by simp, by simp⟩⟩
    rw [Dev.get_emit, Dev.get_modHc, (Frame.nameBridge [] d c caps nmax id).get_eq (by simp [HC_LVR_STS, HC_LVR_ID]), train]

/-- TS2_ECHO of the agreed version in TRAIN starts the image of bank 0 in CONFIG. -/
theorem ts2Echo_train {d : Dev} {c ver : Nat} (train : d.get (HC_LVR_STS c) HC_LVR_STS.STATE = 1) (agreed : (d.hc c).ver = ver)
    (nonzero : ver ≠ 0) : ts2Echo c ver d = (d.lvrState c 2).startImage c 0 false := by
  simp [ts2Echo, train, agreed, nonzero]

theorem ts2Echo_complete {d : Dev} {c ver : Nat} (train : d.get (HC_LVR_STS c) HC_LVR_STS.STATE = 1)
    (agreed : (d.hc c).ver = ver) (nonzero : ver ≠ 0) :
    Frame [HC_LVR_STS c] [.hcs] d (ts2Echo c ver d) ∧ (ts2Echo c ver d).get (HC_LVR_STS c) HC_LVR_STS.STATE = 2 ∧
    ((ts2Echo c ver d).hc c).image = some ⟨0, d.bankBytes c (d.bankTiming c).1 (d.bankTiming c).2 (d.confNow c), 0, false,
      (d.bankTiming c).1, (d.bankTiming c).2⟩ := by
  have frame := Frame.lvrState [HC_LVR_STS c] [.hcs] d c 2 (by simp) (by simp)
  have regs (a : Nat) (h : a < HC_LVR_STS c ∨ HC_LVR_BANK_AT_HI c < a) : (d.lvrState c 2).rd a = d.rd a :=
    frame.1 a (by simp only [HC_LVR_STS, HC_LVR_BANK_AT_HI, List.mem_singleton] at h ⊢; omega)
  have timing := Dev.bankTiming_congr regs (by simp)
  have bytes := Dev.bankBytes_congr regs (by simp)
  rw [ts2Echo_train train agreed nonzero]
  refine ⟨frame.trans (Frame.startImage _ _ _ _ _ _ (by simp)), Dev.get_lvrState d c 2, ?_⟩
  rw [Dev.image_startImage_now, timing, bytes, Dev.confNow_congr regs]

/-! ## HOLD_ON and HOLD_OFF (R118) -/

theorem holdOn_up {d : Dev} {c : Nat} (up : d.lvrUp c = true) :
    holdOn c d = (d.count (HC_LVR_HOLDCNT c) HC_LVR_HOLDCNT.HOLD_ON 1).setHold c true := if_pos up

theorem holdOn_complete {d : Dev} {c : Nat} (up : d.lvrUp c = true) :
    Frame [HC_LVR_HOLDCNT c, HC_FIR_STS c] [.hcs] d (holdOn c d) ∧ ((holdOn c d).hc c).hold = true ∧
    (holdOn c d).get (HC_LVR_HOLDCNT c) HC_LVR_HOLDCNT.HOLD_ON =
      min 65535 (d.get (HC_LVR_HOLDCNT c) HC_LVR_HOLDCNT.HOLD_ON + 1) ∧
    ((d.hc c).hold = false → (holdOn c d).get (HC_FIR_STS c) HC_FIR_STS.HOLD = 1 ∧ ((holdOn c d).hc c).holdAt = d.now) := by
  rw [holdOn_up up]
  refine ⟨(Frame.count _ _ _ _ _ _ (by simp)).trans (Frame.setHold _ _ _ _ _ (by simp) (by simp) (by simp)),
    Dev.setHold_hold .., ?_, fun off => ?_⟩
  · rw [Dev.get_setHold_true, Dev.get_count_same _ _ _ _ (by decide)]
    rfl
  · rw [Dev.setHold_begins (d := d.count _ _ 1) off, Dev.get_turnHold, Dev.hc_turnHold]
    exact ⟨rfl, rfl⟩

theorem holdOff_complete {d : Dev} {c : Nat} (on : (d.hc c).hold = true) :
    Frame [HC_LVR_HOLDCNT c, HC_FIR_STS c] [.hcs] d (holdOff c d) ∧ ((holdOff c d).hc c).hold = false ∧
    (holdOff c d).get (HC_FIR_STS c) HC_FIR_STS.HOLD = 0 ∧
    (holdOff c d).get (HC_LVR_HOLDCNT c) hiHalf =
      max (d.get (HC_LVR_HOLDCNT c) hiHalf) (min 65535 ((d.now - (d.hc c).holdAt) / 800)) := by
  refine ⟨Frame.setHold _ _ _ _ _ (by simp) (by simp) (by simp), Dev.setHold_hold .., ?_, ?_⟩
  · rw [holdOff, Dev.setHold_ends on,
      (Frame.keepLongest [HC_LVR_HOLDCNT c] [] _ c _ (by simp)).get_eq (by simp [HC_LVR_HOLDCNT, HC_FIR_STS]), Dev.get_turnHold]
    rfl
  · rw [holdOff, Dev.setHold_ends on, Dev.get_keepLongest _ _ _ (Nat.min_le_left _ _),
      (Frame.turnHold [HC_FIR_STS c] [.hcs] d c false (by simp) (by simp)).get_eq (by simp [HC_LVR_HOLDCNT, HC_FIR_STS])]

/-! ## The statement -/

/-- Settles O24: each command by the lemma that says what its effect is on a state of the clause. -/
theorem louvreLinkCommandsComplete : Obligations.LouvreLinkCommandsComplete := by
  unfold Obligations.LouvreLinkCommandsComplete
  refine ⟨fun s c dt up due => exec_onDev rfl (lvrStatusTimeout_due up due),
    fun s c dt isl up => exec_onDev (exec_event rfl isl) (lvrBridgeTraining_up up),
    fun s q c h => exec_lvrRestart h,
    fun s c dt up => ⟨_, rfl, fun due => ?timeout⟩,
    fun s c n dt isl en errors few => runs_event rfl isl ?fewErrors,
    fun s c n dt isl en many up => ⟨_, exec_event rfl isl, rfl, rfl, ?manyErrors⟩,
    fun s q c v h off free ver stb => ?enable,
    fun s c dt isl en free plain down due => runs_event rfl isl ?retry,
    fun s c dt isl en failed due => runs_event rfl isl ?failedRetry,
    fun s c dt isl starting due => runs_event rfl isl ?startFailed,
    fun s c verMax caps nmax id dt isl train => runs_event rfl isl (bridgeTs_complete verMax caps nmax id train rfl),
    fun s c ver dt isl train agreed nonzero => runs_event rfl isl (ts2Echo_complete train agreed nonzero),
    fun s c dt isl up => runs_event rfl isl (holdOn_complete up),
    fun s c dt isl on => runs_event rfl isl (holdOff_complete on)⟩
  case timeout =>
    have down : lvrStatusTimeout c.val (s.after dt) = (s.after dt).lvrDown c.val := lvrStatusTimeout_due up due
    have fields := Dev.lvrDown_fields c.isLt (s.after dt)
    rwa [← down] at fields
  case fewErrors =>
    rw [lvrCodeErrors_few en errors few]
    obtain ⟨flag, count, errs⟩ := (s.after dt).countCodeErrs_fields c.val n
    rw [Nat.min_eq_left (by omega)] at errs
    exact ⟨Frame.countCodeErrs .., flag, count, errs⟩
  case manyErrors =>
    have down : lvrCodeErrors c.val n (s.after dt) = ((s.after dt).countCodeErrs c.val n).lvrDown c.val :=
      lvrCodeErrors_many en many up
    obtain ⟨event, state, -⟩ := Dev.lvrDown_fields c.isLt ((s.after dt).countCodeErrs c.val n)
    have errors := Dev.get_lvrDown_evt c.isLt ((s.after dt).countCodeErrs c.val n) HC_LVR_EVT.CODEERR (by decide)
    rw [((s.after dt).countCodeErrs_fields c.val n).1] at errors
    rw [← down] at event state errors
    exact ⟨state, event, errors⟩
  case enable =>
    have enabled : (s.granted q).bit (HC_LVR_CFG c.val) HC_LVR_CFG.EN = false := (congrArg (· != 0) (Dev.get_renew ..)).trans off
    have held : (s.granted q).linksHeld = false := by rw [Dev.linksHeld, State.granted, Dev.get_renew, ← Dev.linksHeld, free]
    rw [exec_lvrEnable h, lvrCfgWrite_enables enabled held ver stb]
  case retry =>
    rw [linkStartRetry_due isl en free plain down due]
    exact ⟨Frame.lvrStart _ _ _ _ (by simp) (by simp) (by simp), Dev.lvrStart_fields ..⟩
  case failedRetry =>
    rw [failedRetry_due en failed due]
    obtain ⟨state, -, start, out⟩ := (s.after dt).lvrStart_fields c.val
    exact ⟨Frame.lvrStart _ _ _ _ (by simp) (by simp) (by simp), state, start, out⟩
  case startFailed =>
    rw [linkStartFailed_due starting due]
    exact ⟨Frame.lvrState _ _ _ _ _ (by simp) (by simp), Dev.get_lvrState .., by rw [Dev.hc_lvrState]⟩

end Sys2Proof.Machine
end

section
/-! Proofs: bank images, waveforms, trims, status frames and line bodies of a Louvre link (R109, R113, R117, R124, R125, R129,
R132, R135, R136). -/

namespace Sys2Proof.Machine

/-! ## Bank changes (R125, R135) -/

@[simp] theorem State.answered_hc (s : State) (q : Req) (a : Nat) (v : Word) (d : Dev) (c : Nat) :
    (s.answered q a v d).dev.hc c = d.hc c :=
  Frame.hc_eq (rs := []) (ps := [.out]) ((Frame.forward _ _ d q a v (by simp)).trans (Frame.emit _ _ _ _ (by simp))) (by simp) c

/-- What an answered write leaves, seen from the state before the access. -/
theorem Frame.answered_dev {rs : List Nat} {ps : List Part} {s : State} {q : Req} {d : Dev} (a : Nat) (v : Word)
    (h : Part.out ∈ ps) (hd : Frame rs ps s.dev d) : Frame rs ps s.dev (s.answered q a v d).dev :=
  hd.trans ((Frame.forward rs ps d q a v h).trans (Frame.emit rs ps _ _ h))

/-- The line of a bank change stands in its two registers (R11, R125). -/
def Dev.putBankLine (d : Dev) (c : Nat) (lo v : Word) : Dev := (d.wr (HC_LVR_BANK_AT_LO c) lo).typedWrite (HC_LVR_BANK_AT_HI c) v

theorem Frame.putBankLine (ps : List Part) (d : Dev) (c : Nat) (lo v : Word) :
    Frame [HC_LVR_BANK_AT_LO c, HC_LVR_BANK_AT_HI c] ps d (d.putBankLine c lo v) :=
  (Frame.wr _ ps d _ _ (by simp)).trans (Frame.typedWrite _ ps _ _ _ (by simp))

/-- A write of HC_LVR_BANK_AT_HI with ARM arms the change whose line it completes. -/
theorem bankAtWrite_arm (c : Nat) (lo : Word) {v : Word} (d : Dev) (h : Word.bit v 31 = true) :
    bankAtWrite c lo v d = bankArm c (d.putBankLine c lo v) := by
  unfold bankAtWrite
  rw [h]
  rfl

/-- The state in which an allowed BANK_ARM checks the change: the lease has restarted and the line is written. -/
def State.lineWritten (s : State) (q : Req) (c : Nat) (v : Word) : Dev :=
  (s.granted q).putBankLine c ((s.granted q).lowPart q (HC_LVR_BANK_AT_LO c)) v

theorem State.lineWritten_frame (s : State) (q : Req) (c : Nat) (v : Word) :
    Frame [HC_LVR_BANK_AT_LO c, HC_LVR_BANK_AT_HI c] [.host, .out] s.dev (s.lineWritten q c v) :=
  (Frame.renew _ _ _ _ (by simp) (by simp)).trans (Frame.putBankLine _ _ _ _ _)

/-- BANK_ARM through an allowed access. -/
theorem exec_bankArm {s : State} {q : Req} {c : Fin 64} (hi : Fin 256) (h : Allowed s q (HC_LVR_BANK_AT_HI c.val)) :
    exec (.bankArm q c hi) s = .next (s.answered q (HC_LVR_BANK_AT_HI c.val) (BitVec.ofNat 32 (2 ^ 31 + hi.val))
      (bankArm c.val (s.lineWritten q c.val (BitVec.ofNat 32 (2 ^ 31 + hi.val))))) := by
  rw [State.lineWritten, ← bankAtWrite_arm _ _ _ (bit_arm hi)]
  exact congrArg Host.Outcome.next (State.highCommand_allowed s q _ _ _ (bankAtWrite c.val) h)

/-- The first failure of the pending configuration (R135). -/
def Dev.nextFault (d : Dev) (c : Nat) : Option (Bool × Nat) :=
  d.confFault c (d.get (HC_FIR_MININT_EFF c) ⟨0, 20⟩) (d.checkBits c) (d.confNext c) (d.hc c).restA (d.hc c).restB

theorem Dev.nextFault_congr {d e : Dev} {c : Nat} (regs : ∀ a, a < HC_LVR_STS c ∨ HC_LVR_BANK_AT_HI c < a → e.rd a = d.rd a)
    (hc : e.hc c = d.hc c) (ras : e.ras = d.ras) : e.nextFault c = d.nextFault c := by
  have interval := Dev.get_congr regs (a := HC_FIR_MININT_EFF c) (.inl (by simp [HC_FIR_MININT_EFF, HC_LVR_STS])) ⟨0, 20⟩
  have bits := Dev.checkBits_congr regs (congrArg HcSt.ver hc) ras
  rw [Dev.nextFault, Dev.nextFault, Dev.confFault_congr regs, Dev.confNext_congr regs, interval, bits, hc]

/-- A bank change that a check refuses: the event, and nothing of the change left. -/
def Dev.rejectBank (d : Dev) (c : Nat) : Dev :=
  ((d.flag (HC_LVR_EVT c) HC_LVR_EVT.BANK_REJ).put (HC_LVR_STS c) HC_LVR_STS.PENDING 0).modHc c
    (fun x => { x with nextConf := [], ready := false, image := x.image.filter (fun im => !im.change) })

/-- A bank change that waits for its line, with its configuration as armed. -/
def Dev.pendBank (d : Dev) (c : Nat) : Dev :=
  (d.put (HC_LVR_STS c) HC_LVR_STS.PENDING 1).modHc c (fun x => { x with nextConf := d.confNext c, ready := false })

theorem bankArm_faulty {d : Dev} {c : Nat} {f : Bool × Nat} (down : d.lvrUp c = false) (fault : d.nextFault c = some f) :
    bankArm c d = (d.tableErr c f).rejectBank c := by
  rw [Dev.nextFault] at fault
  simp only [bankArm, down, fault, Bool.false_and, Bool.false_eq_true, if_false]
  rfl

theorem Dev.lvrUp_pendBank (d : Dev) (c : Nat) : (d.pendBank c).lvrUp c = d.lvrUp c := by
  rw [Dev.lvrUp, Dev.pendBank, Dev.get_modHc, Dev.get_put_other _ _ _ _ _ _ (by decide) (.inr (by decide)), Dev.lvrUp]

theorem bankArm_passes {d : Dev} {c : Nat} (down : d.lvrUp c = false) (passes : d.nextFault c = none) :
    bankArm c d =
      (d.pendBank c).propose 2 (2 ^ c) ((d.pendBank c).bankAt c) ((d.confNext c).map (·.toNat)) := by
  have still : ((d.pendBank c).propose 2 (2 ^ c) ((d.pendBank c).bankAt c) ((d.confNext c).map (·.toNat))).lvrUp c = false := by
    rw [Dev.lvrUp, Dev.get, Dev.rd_propose, ← Dev.get, ← Dev.lvrUp, Dev.lvrUp_pendBank, down]
  rw [Dev.nextFault] at passes
  unfold Dev.pendBank at still ⊢
  simp only [bankArm, down, passes, still, Bool.false_and, Bool.false_eq_true, if_false]

theorem Frame.tableErr (rs : List Nat) (ps : List Part) (d : Dev) (c : Nat) (f : Bool × Nat) (h : WAV_STS c ∈ rs) :
    Frame rs ps d (d.tableErr c f) :=
  (Frame.flag rs ps _ _ _ h).trans ((Frame.put rs ps _ _ _ _ h).trans (Frame.put rs ps _ _ _ _ h))

theorem Dev.tableErr_fields (d : Dev) (c : Nat) (f : Bool × Nat) :
    (d.tableErr c f).get (WAV_STS c) WAV_STS.TABLE_ERR = 1 ∧
    (d.tableErr c f).get (WAV_STS c) WAV_STS.ERR_OUT = if f.1 then 1 else 0 := by
  have out : (if f.1 then 1 else 0) % 2 ^ WAV_STS.ERR_OUT.width = if f.1 then 1 else 0 := by cases f.1 <;> rfl
  unfold Dev.tableErr
  constructor
  · rw [Dev.get_put_other _ _ _ _ _ _ (by decide) (.inr (by decide)),
      Dev.get_put_other _ _ _ _ _ _ (by decide) (.inr (by decide)), Dev.get_flag_same _ _ _ (by decide) (by decide)]
  · rw [Dev.get_put_other _ _ _ _ _ _ (by decide) (.inr (by decide)), Dev.get_put_same _ _ _ _ (by decide), out]

theorem Frame.rejectBank (rs : List Nat) (ps : List Part) (d : Dev) (c : Nat) (he : HC_LVR_EVT c ∈ rs)
    (hs : HC_LVR_STS c ∈ rs) (hp : Part.hcs ∈ ps) : Frame rs ps d (d.rejectBank c) :=
  (Frame.flag rs ps _ _ _ he).trans ((Frame.put rs ps _ _ _ _ hs).trans (Frame.modHc rs ps _ _ _ hp))

theorem Dev.rejectBank_fields (d : Dev) (c : Nat) :
    (d.rejectBank c).get (HC_LVR_EVT c) HC_LVR_EVT.BANK_REJ = 1 ∧
    (d.rejectBank c).get (HC_LVR_STS c) HC_LVR_STS.PENDING = 0 := by
  unfold Dev.rejectBank
  constructor
  · rw [Dev.get_modHc, Dev.get_put_other _ _ _ _ _ _ (by decide) (.inl (by simp [HC_LVR_EVT, HC_LVR_STS])),
      Dev.get_flag_same _ _ _ (by decide) (by decide)]
  · rw [Dev.get_modHc, Dev.get_put_same _ _ _ _ (by decide)]
    rfl

theorem Frame.pendBank (rs : List Nat) (ps : List Part) (d : Dev) (c : Nat) (hs : HC_LVR_STS c ∈ rs) (hp : Part.hcs ∈ ps) :
    Frame rs ps d (d.pendBank c) :=
  (Frame.put rs ps _ _ _ _ hs).trans (Frame.modHc rs ps _ _ _ hp)

theorem Dev.pendBank_fields (d : Dev) (c : Nat) :
    (d.pendBank c).get (HC_LVR_STS c) HC_LVR_STS.PENDING = 1 ∧ ((d.pendBank c).hc c).nextConf = d.confNext c ∧
    ((d.pendBank c).hc c).ready = false := by
  unfold Dev.pendBank
  refine ⟨?_, by simp, by simp⟩
  rw [Dev.get_modHc, Dev.get_put_same _ _ _ _ (by decide)]
  rfl

section
variable {d e : Dev} {c : Nat} (written : Frame [HC_LVR_BANK_AT_LO c, HC_LVR_BANK_AT_HI c] [.host, .out] d e)
include written

theorem Frame.bankLine_regs (a : Nat) (ha : a < HC_LVR_STS c ∨ HC_LVR_BANK_AT_HI c < a) : e.rd a = d.rd a :=
  written.1 a (by
    simp only [HC_LVR_STS, HC_LVR_BANK_AT_LO, HC_LVR_BANK_AT_HI, List.mem_cons, List.not_mem_nil, or_false] at ha ⊢
    omega)

/-- The line of a change is no part of what is checked. -/
theorem Frame.bankLine_nextFault : e.nextFault c = d.nextFault c :=
  Dev.nextFault_congr written.bankLine_regs (written.hc_eq (by simp) c) (written.2 .ras (by simp))

theorem Frame.bankLine_lvrUp : e.lvrUp c = d.lvrUp c := by
  rw [Dev.lvrUp, written.get_eq (by simp [HC_LVR_STS, HC_LVR_BANK_AT_LO, HC_LVR_BANK_AT_HI]), Dev.lvrUp]

end

section
variable {s : State} {q : Req} {c : Fin 64} (hi : Fin 256) (h : Allowed s q (HC_LVR_BANK_AT_HI c.val))
  (down : s.dev.lvrUp c.val = false)
include h down

theorem runs_bankArm_faulty {f : Bool × Nat} (fault : s.dev.nextFault c.val = some f) :
    Runs (.bankArm q c hi) s fun t => t.get (HC_LVR_EVT c.val) HC_LVR_EVT.BANK_REJ = 1 ∧
      t.get (HC_LVR_STS c.val) HC_LVR_STS.PENDING = 0 ∧ t.get (WAV_STS c.val) WAV_STS.TABLE_ERR = 1 ∧
      t.get (WAV_STS c.val) WAV_STS.ERR_OUT = (if f.1 then 1 else 0) ∧
      Frame [HC_LVR_BANK_AT_LO c.val, HC_LVR_BANK_AT_HI c.val, HC_LVR_EVT c.val, HC_LVR_STS c.val, WAV_STS c.val]
        [.hcs, .host, .out] s.dev t := by
  have written := s.lineWritten_frame q c.val (BitVec.ofNat 32 (2 ^ 31 + hi.val))
  have run := exec_bankArm hi h
  rw [bankArm_faulty (written.bankLine_lvrUp.trans down) (written.bankLine_nextFault.trans fault)] at run
  obtain ⟨rejected, pending⟩ := Dev.rejectBank_fields
    ((s.lineWritten q c.val (BitVec.ofNat 32 (2 ^ 31 + hi.val))).tableErr c.val f) c.val
  obtain ⟨table, out⟩ := Dev.tableErr_fields (s.lineWritten q c.val (BitVec.ofNat 32 (2 ^ 31 + hi.val))) c.val f
  have reject (e : Dev) (g : Fld) : (e.rejectBank c.val).get (WAV_STS c.val) g = e.get (WAV_STS c.val) g :=
    (Frame.rejectBank [HC_LVR_EVT c.val, HC_LVR_STS c.val] [.hcs] e c.val (by simp) (by simp) (by simp)).get_eq
      (by simp [WAV_STS, HC_LVR_EVT, HC_LVR_STS]) g
  refine runs_answered run ⟨?_, ?_, ?_, ?_, Frame.answered_dev _ _ (by simp) ?_⟩
  · rw [State.answered_get, rejected]
  · rw [State.answered_get, pending]
  · rw [State.answered_get, reject, table]
  · rw [State.answered_get, reject, out]
  · exact (written.mono (by simp) (by simp)).trans ((Frame.tableErr _ _ _ _ _ (by simp)).trans
      (Frame.rejectBank _ _ _ _ (by simp) (by simp) (by simp)))

theorem runs_bankArm_passes (passes : s.dev.nextFault c.val = none) :
    Runs (.bankArm q c hi) s fun t => t.get (HC_LVR_STS c.val) HC_LVR_STS.PENDING = 1 ∧
      (t.hc c.val).nextConf = s.dev.confNext c.val ∧ (t.hc c.val).ready = false ∧
      Frame [HC_LVR_BANK_AT_LO c.val, HC_LVR_BANK_AT_HI c.val, HC_LVR_STS c.val] [.hcs, .pair, .host, .out] s.dev t := by
  have written := s.lineWritten_frame q c.val (BitVec.ofNat 32 (2 ^ 31 + hi.val))
  have run := exec_bankArm hi h
  rw [bankArm_passes (written.bankLine_lvrUp.trans down) (written.bankLine_nextFault.trans passes)] at run
  obtain ⟨pending, conf, ready⟩ := Dev.pendBank_fields (s.lineWritten q c.val (BitVec.ofNat 32 (2 ^ 31 + hi.val))) c.val
  have propose (e : Dev) (line : Nat) (l : List Nat) := Frame.propose [] [.pair, .out] e 2 (2 ^ c.val) line l (by simp) (by simp)
  refine runs_answered run ⟨?_, ?_, ?_, Frame.answered_dev _ _ (by simp) ?_⟩
  · rw [State.answered_get, (propose ..).get_eq (by simp), pending]
  · rw [State.answered_hc, (propose ..).hc_eq (by simp), conf, Dev.confNext_congr written.bankLine_regs]
  · rw [State.answered_hc, (propose ..).hc_eq (by simp), ready]
  · exact (written.mono (by simp) (by simp)).trans ((Frame.pendBank _ _ _ _ (by simp) (by simp)).trans
      (Frame.propose _ _ _ _ _ _ _ (by simp) (by simp)))

end

/-! ## Bank images (R124) -/

/-- The next bytes of an image, at most 256. -/
def BankImg.piece (im : BankImg) : List Byte := (im.bytes.drop im.sent).take 256

theorem BankImg.length_piece (im : BankImg) : im.piece.length = min 256 (im.bytes.length - im.sent) := by
  simp [BankImg.piece]

/-- The body that carries a piece: its bank, whether it is the last, and its offset (R109, R124). -/
def BankImg.pieceBody (im : BankImg) (nozzles : Nat) : List Byte :=
  let flags := 2 * im.bank + (if im.bytes.length ≤ im.sent + im.piece.length then 1 else 0)
  bodyBytes 2 flags im.sent nozzles im.piece
    (crcOf crc16Ibm3740 (bodyHead 2 flags im.sent nozzles im.piece.length ++ im.piece))

/-- The test on STATE with which a bank image and a status frame are dropped lets CONFIG and UP pass. -/
theorem config_or_up {n : Nat} (h : n = 2 ∨ n = 3) : (decide (n ≠ 2) && decide (n ≠ 3)) = false := by
  obtain rfl | rfl := h <;> rfl

/-- With no pending line a piece is sent as soon as the lanes are free. -/
theorem bankImagePiece_sends {d : Dev} {c : Nat} {im : BankImg} (image : (d.hc c).image = some im)
    (more : im.sent < im.bytes.length)
    (state : d.get (HC_LVR_STS c) HC_LVR_STS.STATE = 2 ∨ d.get (HC_LVR_STS c) HC_LVR_STS.STATE = 3)
    (free : d.lanesFree c = true) (noLine : d.pending c = none) :
    bankImagePiece c d = (d.emit (.louvre c (.body (im.pieceBody (d.nozzles c))))).modHc c (fun x => { x with
      image := some { im with sent := im.sent + im.piece.length }, idleAt := d.now + bodyTicks im.piece.length }) := by
  have bytes : im.piece ≠ [] := by
    rw [← List.length_pos_iff, BankImg.length_piece]; omega
  have notEmpty : ((im.bytes.drop im.sent).take 256).isEmpty = false := by rwa [List.isEmpty_eq_false_iff]
  unfold bankImagePiece
  simp only [image, noLine, notEmpty, config_or_up state, free, Bool.not_true, Bool.or_false, Bool.false_eq_true, if_false]
  rfl

theorem bankImagePiece_complete {d : Dev} {c : Nat} {im : BankImg} (image : (d.hc c).image = some im)
    (more : im.sent < im.bytes.length)
    (state : d.get (HC_LVR_STS c) HC_LVR_STS.STATE = 2 ∨ d.get (HC_LVR_STS c) HC_LVR_STS.STATE = 3)
    (free : d.lanesFree c = true) (noLine : d.pending c = none) :
    Frame [] [.hcs, .out] d (bankImagePiece c d) ∧
    ((bankImagePiece c d).hc c).image = some { im with sent := im.sent + min 256 (im.bytes.length - im.sent) } ∧
    (bankImagePiece c d).out.length = d.out.length + 1 ∧
    ((bankImagePiece c d).hc c).idleAt = d.now + bodyTicks (min 256 (im.bytes.length - im.sent)) := by
  rw [bankImagePiece_sends image more state free noLine, Dev.hc_modHc_same, BankImg.length_piece]
  exact ⟨(Frame.emit _ _ _ _ (by simp)).trans (Frame.modHc _ _ _ _ _ (by simp)), rfl, List.length_append, rfl⟩

/-! ## Trims (R132) -/

/-- The trim register of an output. -/
def trimReg (c : Nat) (b : Bool) : Nat := if b then WAV_TRIM_B c else WAV_TRIM_A c

/-- The trim of an output that waits for rest, and the one in force. -/
def HcSt.trim (x : HcSt) (b : Bool) : Option Word := if b then x.trimB else x.trimA
def HcSt.trimIn (x : HcSt) (b : Bool) : Word := if b then x.trimInB else x.trimInA

/-- The rest code of an output. -/
def HcSt.rest (x : HcSt) (b : Bool) : Nat := if b then x.restB else x.restA

theorem exec_wavTrimWrite {s : State} {q : Req} {c : Fin 64} {b : Bool} (v : Word) (h : Allowed s q (trimReg c.val b)) :
    exec (.wavTrimWrite q c b v) s = .next (s.answered q (trimReg c.val b) v (wavTrimWrite c.val b v (s.granted q))) :=
  congrArg Host.Outcome.next (State.devCommand_allowed s q _ v (wavTrimWrite c.val b) h)

/-- A written trim stands in its register and waits. -/
theorem wavTrimWrite_complete (c : Nat) (b : Bool) (v : Word) (d : Dev) :
    Frame [trimReg c b] [.hcs] d (wavTrimWrite c b v d) ∧
    (wavTrimWrite c b v d).rd (trimReg c b) = (d.typedWrite (trimReg c b) v).rd (trimReg c b) ∧
    ((wavTrimWrite c b v d).hc c).trim b = some ((wavTrimWrite c b v d).rd (trimReg c b)) := by
  refine ⟨(Frame.typedWrite _ _ _ _ _ (List.mem_singleton_self _)).trans (Frame.modHc _ _ _ _ _ (by simp)), rfl, ?_⟩
  unfold wavTrimWrite
  rw [Dev.hc_modHc_same]
  cases b <;> rfl

/-- A trim comes into force. -/
def Dev.takeTrim (d : Dev) (c : Nat) (b : Bool) (w : Word) : Dev :=
  d.modHc c (fun x => if b then { x with trimB := none, trimInB := w } else { x with trimA := none, trimInA := w })

/-- At rest a waiting trim comes into force, and the rest code under it may clip. -/
theorem trimApply_atRest {d : Dev} {c : Nat} {b : Bool} {w : Word} (waits : (d.hc c).trim b = some w)
    (rest : d.atRest c b = true) : trimApply c b d = (d.takeTrim c b w).clipCheck c w [(d.hc c).rest b] := by
  rw [HcSt.trim] at waits
  unfold trimApply
  dsimp only
  rw [waits]
  simp only [rest, Bool.not_true, Bool.false_eq_true, if_false]
  rfl

theorem trimApply_complete {d : Dev} {c : Nat} {b : Bool} {w : Word} (waits : (d.hc c).trim b = some w)
    (rest : d.atRest c b = true) :
    Frame [WAV_STS c] [.hcs] d (trimApply c b d) ∧ ((trimApply c b d).hc c).trim b = none ∧
    ((trimApply c b d).hc c).trimIn b = w ∧
    (clips w ((d.hc c).rest b) = true → (trimApply c b d).get (WAV_STS c) WAV_STS.CLIP = 1) := by
  have clip (e : Dev) : Frame [WAV_STS c] [] e (e.clipCheck c w [(d.hc c).rest b]) :=
    Frame.when _ (Frame.flag _ _ _ _ _ (by simp))
  obtain ⟨free, inForce⟩ : ((d.takeTrim c b w).hc c).trim b = none ∧ ((d.takeTrim c b w).hc c).trimIn b = w := by
    rw [Dev.takeTrim, Dev.hc_modHc_same]
    cases b <;> exact ⟨rfl, rfl⟩
  rw [trimApply_atRest waits rest, (clip _).hc_eq (by simp)]
  refine ⟨(Frame.modHc _ _ _ _ _ (by simp)).trans ((clip _).mono (fun _ h => h) (by simp)), free, inForce, fun clipped => ?_⟩
  have any : [(d.hc c).rest b].any (clips w) = true := by simpa using clipped
  rw [Dev.clipCheck, any]
  exact Dev.get_flag_same _ _ _ (by decide) (by decide)

/-! ## Segments (R128, R136) -/

theorem exec_wavSegWrite {s : State} {q : Req} {c : Fin 64} {i : Fin 1024} (v : Word) (h : Allowed s q (WAV_SEG c.val i.val)) :
    exec (.wavSegWrite q c i v) s = .next (s.answered q (WAV_SEG c.val i.val) v (wavSegWrite c.val i.val v (s.granted q))) :=
  congrArg Host.Outcome.next (State.devCommand_allowed s q _ v (wavSegWrite c.val i.val) h)

/-- The waveform that an output uses. -/
def Dev.usedWave (d : Dev) (c i : Nat) : Nat := d.get (WAV_SEL c) (if 512 ≤ i then WAV_SEL.WFB else WAV_SEL.WFA)

theorem State.granted_usedWave (s : State) (q : Req) (c i : Nat) : (s.granted q).usedWave c i = s.dev.usedWave c i :=
  Dev.get_renew ..

theorem wavSegWrite_used {d : Dev} {c i : Nat} (v : Word) (used : d.usedWave c i = i % 512 / 32) :
    wavSegWrite c i v d = d.flag (WAV_STS c) WAV_STS.BUSYWR := by
  rw [Dev.usedWave] at used
  unfold wavSegWrite
  simp [used]

theorem wavSegWrite_unused {d : Dev} {c i : Nat} (v : Word) (unused : d.usedWave c i ≠ i % 512 / 32)
    (settled : d.bit (HC_LVR_STS c) HC_LVR_STS.PENDING = false) : wavSegWrite c i v d = d.typedWrite (WAV_SEG c i) v := by
  rw [Dev.usedWave] at unused
  unfold wavSegWrite
  simp [unused, settled]

/-! ## Line bodies (R109, R113) -/

/-- The body of a line: its length, the bank it names, its flags, its check and its bytes. -/
def Dev.lineLen (d : Dev) (c : Nat) : Nat := lineBytes (d.nozzles c) d.fir.bits

def Dev.lineFlags (d : Dev) (c m : Nat) : Nat := 2 * d.bankFor c m + (if d.reverse then 4 else 0) + 8 * (d.fir.bits - 1)

def Dev.lineCrc (d : Dev) (c m : Nat) : Nat :=
  headCheck (bodyHead 1 (d.lineFlags c m) (m % 65536) (d.nozzles c) (d.lineLen c)) (d.lineLen c) ^^^ d.lineCheck c m

def Dev.lineBody (d : Dev) (c m : Nat) : List Byte :=
  bodyBytes 1 (d.lineFlags c m) (m % 65536) (d.nozzles c) (packLine d.fir.bits (d.lineLen c) (d.lineValues c m)) (d.lineCrc c m)

theorem bodySend_starts {d : Dev} {c m : Nat} (line : d.pending c = some m) (up : d.lvrUp c = true) (free : (d.hc c).body = none)
    (unmasked : d.masked m = false) (gap : (d.hc c).idleAt + 80 ≤ d.now) (released : d.lineReleased c m = true)
    (data : d.lineData c m = true) :
    bodySend c d = ((d.put (HC_LVR_STS c) HC_LVR_STS.BANK (d.bankFor c m)).emit (.louvre c (.body (d.lineBody c m)))).modHc c
      (fun x => { x with body := some ⟨m, d.now + bodyTicks (d.lineLen c), d.lineCrc c m, true, d.bankFor c m⟩ }) := by
  have late : ¬ d.now < (d.hc c).idleAt + 80 := Nat.not_lt.2 gap
  unfold bodySend
  rw [line]
  simp only [up, free, unmasked, late, released, data, Bool.not_true, Option.isSome_none, decide_false, Bool.or_false,
    Bool.false_eq_true, if_false]
  rfl

theorem bodySend_complete {d : Dev} {c m : Nat} (line : d.pending c = some m) (up : d.lvrUp c = true)
    (free : (d.hc c).body = none) (unmasked : d.masked m = false) (gap : (d.hc c).idleAt + 80 ≤ d.now)
    (released : d.lineReleased c m = true) (data : d.lineData c m = true) :
    Frame [HC_LVR_STS c] [.hcs, .out] d (bodySend c d) ∧
    (bodySend c d).get (HC_LVR_STS c) HC_LVR_STS.BANK = d.bankFor c m % 2 ∧ (bodySend c d).out.length = d.out.length + 1 ∧
    ((bodySend c d).hc c).body = some ⟨m, d.now + bodyTicks (d.lineLen c), d.lineCrc c m, true, d.bankFor c m⟩ := by
  rw [bodySend_starts line up free unmasked gap released data, Dev.hc_modHc_same]
  refine ⟨(Frame.put _ _ _ _ _ _ (by simp)).trans ((Frame.emit _ _ _ _ (by simp)).trans (Frame.modHc _ _ _ _ _ (by simp))),
    ?_, List.length_append, rfl⟩
  rw [Dev.get_modHc, Dev.get_emit, Dev.get_put_same _ _ _ _ (by decide)]
  rfl

/-! ## Status frames (R117) -/

theorem leNat_lt (bs : List Byte) : leNat bs < 256 ^ bs.length := by
  induction bs with
  | nil => decide
  | cons b t ih =>
    have byte := b.isLt
    rw [leNat, List.length_cons, Nat.pow_succ]
    omega

theorem leField_lt (bs : List Byte) (off n : Nat) : leField bs off n < 256 ^ n :=
  Nat.lt_of_lt_of_le (leNat_lt _) (Nat.pow_le_pow_right (by decide) (List.length_take_le _ _))

theorem statusFrame_bad {d : Dev} {c : Nat} {bs : List Byte}
    (state : d.get (HC_LVR_STS c) HC_LVR_STS.STATE = 2 ∨ d.get (HC_LVR_STS c) HC_LVR_STS.STATE = 3)
    (bad : bs.length ≠ 12 ∨ leField bs 0 1 ≠ 0x81 ∨ crcOf crc16Ibm3740 (bs.take 10) ≠ leField bs 10 2) :
    statusFrame c bs d = d.flag (HC_LVR_EVT c) HC_LVR_EVT.RETCRC := by
  have fails : (decide (bs.length ≠ 12) || decide (leField bs 0 1 ≠ 0x81) ||
      decide (crcOf crc16Ibm3740 (bs.take 10) ≠ leField bs 10 2)) = true := by
    simpa [or_assoc] using bad
  unfold statusFrame
  simp only [config_or_up state, fails, Bool.false_eq_true, if_false, if_true]

/-- The tick of the last frame that passed its check. -/
def Dev.stampFrame (d : Dev) (c : Nat) : Dev := d.modHc c (fun x => { x with frameAt := d.now })

/-- A frame's flags of the head. -/
def Dev.headFlags (d : Dev) (c flags : Nat) : Dev :=
  ((d.put (HC_LVR_STS c) HC_LVR_STS.HEAD_PRESENT (if flags.testBit 1 then 1 else 0)).put (HC_LVR_STS c) HC_LVR_STS.HEAD_FAULT
    (if flags.testBit 2 then 1 else 0)).put (HC_LVR_STS c) HC_LVR_STS.OVERTEMP (if flags.testBit 3 then 1 else 0)

/-- A frame's temperature and head status. -/
def Dev.headWords (d : Dev) (c : Nat) (bs : List Byte) : Dev :=
  (d.wrN (HC_LVR_TEMP c) (leField bs 4 2)).wrN (HC_LVR_HSTAT c) (leField bs 8 2 + 65536 * leField bs 2 2)

/-- A frame's counts of errors and of missed lines. -/
def Dev.bridgeErrs (d : Dev) (c : Nat) (bs : List Byte) : Dev :=
  ((d.count (HC_LVR_ERRCNT c) HC_LVR_ERRCNT.CRCERR (leField bs 6 1)).count (HC_LVR_MISS c) HC_LVR_MISS.MISS (leField bs 7 1)).when
    (leField bs 6 1 != 0) (·.flag (HC_LVR_EVT c) HC_LVR_EVT.BRIDGE_ERR)

/-- What a frame that passes its check records, before the HOLD and the bank that it shows. -/
def Dev.recordFrame (d : Dev) (c : Nat) (bs : List Byte) : Dev :=
  (((d.stampFrame c).headFlags c (leField bs 1 1)).headWords c bs).bridgeErrs c bs

theorem statusFrame_passes {d : Dev} {c : Nat} {bs : List Byte} (up : d.get (HC_LVR_STS c) HC_LVR_STS.STATE = 3)
    (length : bs.length = 12) (type : leField bs 0 1 = 0x81) (crc : crcOf crc16Ibm3740 (bs.take 10) = leField bs 10 2) :
    statusFrame c bs d = ((d.recordFrame c bs).setHold c ((leField bs 1 1).testBit 0)).bankReady c (leField bs 1 1) := by
  have passes : (decide (bs.length ≠ 12) || decide (leField bs 0 1 ≠ 0x81) ||
      decide (crcOf crc16Ibm3740 (bs.take 10) ≠ leField bs 10 2)) = false := by
    simp [length, type, crc]
  unfold statusFrame
  simp only [config_or_up (.inr up), passes, Bool.false_eq_true, if_false]
  rfl

theorem Dev.bankReady_none {d : Dev} {c : Nat} (flags : Nat) (h : (d.hc c).image = none) : d.bankReady c flags = d := by
  unfold Dev.bankReady
  rw [h]

theorem Frame.headFlags (rs : List Nat) (ps : List Part) (d : Dev) (c flags : Nat) (h : HC_LVR_STS c ∈ rs) :
    Frame rs ps d (d.headFlags c flags) :=
  (Frame.put rs ps _ _ _ _ h).trans ((Frame.put rs ps _ _ _ _ h).trans (Frame.put rs ps _ _ _ _ h))

theorem Dev.headFlags_fields (d : Dev) (c flags : Nat) :
    (d.headFlags c flags).get (HC_LVR_STS c) HC_LVR_STS.STATE = d.get (HC_LVR_STS c) HC_LVR_STS.STATE ∧
    (d.headFlags c flags).get (HC_LVR_STS c) HC_LVR_STS.HEAD_PRESENT = (if flags.testBit 1 then 1 else 0) ∧
    (d.headFlags c flags).get (HC_LVR_STS c) HC_LVR_STS.HEAD_FAULT = (if flags.testBit 2 then 1 else 0) ∧
    (d.headFlags c flags).get (HC_LVR_STS c) HC_LVR_STS.OVERTEMP = (if flags.testBit 3 then 1 else 0) := by
  have bit (b : Bool) : (if b then 1 else 0) % 2 ^ 1 = if b then 1 else 0 := by cases b <;> rfl
  have other (e : Dev) (f g : Fld) (v : Nat) (hf : f.lo + f.width ≤ 32)
      (hg : f.lo + f.width ≤ g.lo ∨ g.lo + g.width ≤ f.lo) :
      (e.put (HC_LVR_STS c) f v).get (HC_LVR_STS c) g = e.get (HC_LVR_STS c) g :=
    Dev.get_put_other e _ _ f g v hf (.inr hg)
  unfold Dev.headFlags
  refine ⟨?_, ?_, ?_, ?_⟩
  · rw [other _ _ _ _ (by decide) (by decide), other _ _ _ _ (by decide) (by decide), other _ _ _ _ (by decide) (by decide)]
  · rw [other _ _ _ _ (by decide) (by decide), other _ _ _ _ (by decide) (by decide), Dev.get_put_same _ _ _ _ (by decide)]
    exact bit _
  · rw [other _ _ _ _ (by decide) (by decide), Dev.get_put_same _ _ _ _ (by decide)]
    exact bit _
  · rw [Dev.get_put_same _ _ _ _ (by decide)]
    exact bit _

theorem Frame.headWords (rs : List Nat) (ps : List Part) (d : Dev) (c : Nat) (bs : List Byte) (ht : HC_LVR_TEMP c ∈ rs)
    (hs : HC_LVR_HSTAT c ∈ rs) : Frame rs ps d (d.headWords c bs) :=
  (Frame.wrN rs ps _ _ _ ht).trans (Frame.wrN rs ps _ _ _ hs)

theorem Dev.headWords_words (d : Dev) (c : Nat) (bs : List Byte) :
    (d.headWords c bs).rdN (HC_LVR_TEMP c) = leField bs 4 2 ∧
    (d.headWords c bs).rdN (HC_LVR_HSTAT c) = leField bs 8 2 + 65536 * leField bs 2 2 := by
  have temp := leField_lt bs 4 2
  have code := leField_lt bs 8 2
  have fired := leField_lt bs 2 2
  unfold Dev.headWords Dev.rdN
  constructor
  · rw [Dev.rd_wrN, if_neg (by simp [HC_LVR_TEMP, HC_LVR_HSTAT]), Dev.rd_wrN, if_pos rfl, BitVec.toNat_ofNat]
    omega
  · rw [Dev.rd_wrN, if_pos rfl, BitVec.toNat_ofNat]
    omega

theorem Frame.bridgeErrs (rs : List Nat) (ps : List Part) (d : Dev) (c : Nat) (bs : List Byte) (hc : HC_LVR_ERRCNT c ∈ rs)
    (hm : HC_LVR_MISS c ∈ rs) (he : HC_LVR_EVT c ∈ rs) : Frame rs ps d (d.bridgeErrs c bs) :=
  (Frame.count rs ps _ _ _ _ hc).trans ((Frame.count rs ps _ _ _ _ hm).trans (Frame.when _ (Frame.flag rs ps _ _ _ he)))

theorem Dev.bridgeErrs_flag {c : Nat} {bs : List Byte} (d : Dev) (h : leField bs 6 1 ≠ 0) :
    (d.bridgeErrs c bs).get (HC_LVR_EVT c) HC_LVR_EVT.BRIDGE_ERR = 1 := by
  have errs : (leField bs 6 1 != 0) = true := by simpa using h
  rw [Dev.bridgeErrs, errs]
  exact Dev.get_flag_same _ _ _ (by decide) (by decide)

/-- Of what a frame records, the words and the counts leave the status, and the counts leave the words. -/
theorem Dev.recordFrame_frames (d : Dev) (c : Nat) (bs : List Byte) :
    let flags := (d.stampFrame c).headFlags c (leField bs 1 1)
    Frame [HC_LVR_TEMP c, HC_LVR_HSTAT c, HC_LVR_ERRCNT c, HC_LVR_MISS c, HC_LVR_EVT c] [] flags (d.recordFrame c bs) ∧
    Frame [HC_LVR_ERRCNT c, HC_LVR_MISS c, HC_LVR_EVT c] [] (flags.headWords c bs) (d.recordFrame c bs) :=
  ⟨(Frame.headWords _ _ _ _ _ (by simp) (by simp)).trans (Frame.bridgeErrs _ _ _ _ _ (by simp) (by simp) (by simp)),
    Frame.bridgeErrs _ _ _ _ _ (by simp) (by simp) (by simp)⟩

theorem Frame.recordFrame (d : Dev) (c : Nat) (bs : List Byte) :
    Frame [HC_LVR_STS c, HC_LVR_TEMP c, HC_LVR_HSTAT c, HC_LVR_ERRCNT c, HC_LVR_MISS c, HC_LVR_EVT c] [.hcs] d
      (d.recordFrame c bs) :=
  (Frame.modHc _ _ _ _ _ (by simp)).trans ((Frame.headFlags _ _ _ _ _ (by simp)).trans
    ((d.recordFrame_frames c bs).1.mono (fun _ h => List.mem_cons_of_mem _ h) (by simp)))

theorem Dev.hc_recordFrame (d : Dev) (c : Nat) (bs : List Byte) :
    (d.recordFrame c bs).hc c = { d.hc c with frameAt := d.now } := by
  rw [(d.recordFrame_frames c bs).1.hc_eq (by simp), (Frame.headFlags [HC_LVR_STS c] [] _ c _ (by simp)).hc_eq (by simp),
    Dev.stampFrame, Dev.hc_modHc_same]

theorem Dev.recordFrame_sts (d : Dev) (c : Nat) (bs : List Byte) (f : Fld) :
    (d.recordFrame c bs).get (HC_LVR_STS c) f =
      ((d.stampFrame c).headFlags c (leField bs 1 1)).get (HC_LVR_STS c) f :=
  (d.recordFrame_frames c bs).1.get_eq
    (by simp [HC_LVR_STS, HC_LVR_TEMP, HC_LVR_HSTAT, HC_LVR_ERRCNT, HC_LVR_MISS, HC_LVR_EVT]) f

theorem Dev.recordFrame_words (d : Dev) (c : Nat) (bs : List Byte) :
    (d.recordFrame c bs).rdN (HC_LVR_TEMP c) = leField bs 4 2 ∧
    (d.recordFrame c bs).rdN (HC_LVR_HSTAT c) = leField bs 8 2 + 65536 * leField bs 2 2 := by
  obtain ⟨temp, status⟩ := ((d.stampFrame c).headFlags c (leField bs 1 1)).headWords_words c bs
  obtain ⟨-, counts⟩ := d.recordFrame_frames c bs
  constructor
  · rw [Dev.rdN, counts.1 _ (by simp [HC_LVR_TEMP, HC_LVR_ERRCNT, HC_LVR_MISS, HC_LVR_EVT]), ← Dev.rdN, temp]
  · rw [Dev.rdN, counts.1 _ (by simp [HC_LVR_HSTAT, HC_LVR_ERRCNT, HC_LVR_MISS, HC_LVR_EVT]), ← Dev.rdN, status]

/-- With no image on its way a frame is recorded, and shows HOLD. -/
theorem statusFrame_noImage {d : Dev} {c : Nat} {bs : List Byte} (up : d.get (HC_LVR_STS c) HC_LVR_STS.STATE = 3)
    (image : (d.hc c).image = none) (length : bs.length = 12) (type : leField bs 0 1 = 0x81)
    (crc : crcOf crc16Ibm3740 (bs.take 10) = leField bs 10 2) :
    statusFrame c bs d = (d.recordFrame c bs).setHold c ((leField bs 1 1).testBit 0) := by
  rw [statusFrame_passes up length type crc]
  refine Dev.bankReady_none _ ((LinkKept.setHold c _ _).image.trans ?_)
  rw [Dev.hc_recordFrame]
  exact image

theorem statusFrame_complete {d : Dev} {c : Nat} {bs : List Byte} (up : d.get (HC_LVR_STS c) HC_LVR_STS.STATE = 3)
    (image : (d.hc c).image = none) (length : bs.length = 12) (type : leField bs 0 1 = 0x81)
    (crc : crcOf crc16Ibm3740 (bs.take 10) = leField bs 10 2) {t : Dev} (ht : statusFrame c bs d = t) :
    Frame [HC_LVR_EVT c, HC_LVR_STS c, HC_LVR_TEMP c, HC_LVR_HSTAT c, HC_LVR_ERRCNT c, HC_LVR_MISS c, HC_LVR_HOLDCNT c,
      HC_FIR_STS c] [.hcs] d t ∧
    (t.hc c).frameAt = d.now ∧ (t.hc c).hold = (leField bs 1 1).testBit 0 ∧
    t.get (HC_LVR_STS c) HC_LVR_STS.STATE = 3 ∧ t.rdN (HC_LVR_TEMP c) = leField bs 4 2 ∧
    t.get (HC_LVR_STS c) HC_LVR_STS.HEAD_PRESENT = (if (leField bs 1 1).testBit 1 then 1 else 0) ∧
    t.get (HC_LVR_STS c) HC_LVR_STS.HEAD_FAULT = (if (leField bs 1 1).testBit 2 then 1 else 0) ∧
    t.get (HC_LVR_STS c) HC_LVR_STS.OVERTEMP = (if (leField bs 1 1).testBit 3 then 1 else 0) ∧
    t.rdN (HC_LVR_HSTAT c) = leField bs 8 2 + 65536 * leField bs 2 2 ∧
    (leField bs 6 1 ≠ 0 → t.get (HC_LVR_EVT c) HC_LVR_EVT.BRIDGE_ERR = 1) := by
  subst ht
  rw [statusFrame_noImage up image length type crc]
  have hold := Frame.setHold [HC_FIR_STS c, HC_LVR_HOLDCNT c] [.hcs] (d.recordFrame c bs) c ((leField bs 1 1).testBit 0)
    (by simp) (by simp) (by simp)
  have sts (f : Fld) := (LinkKept.setHold c (d.recordFrame c bs) ((leField bs 1 1).testBit 0)).get_sts f
  obtain ⟨state, present, fault, hot⟩ := (d.stampFrame c).headFlags_fields c (leField bs 1 1)
  obtain ⟨temp, status⟩ := d.recordFrame_words c bs
  refine ⟨((Frame.recordFrame d c bs).mono (by simp) (fun _ h => h)).trans (hold.mono (by simp) (fun _ h => h)), ?_,
    Dev.setHold_hold .., ?_, ?_, ?_, ?_, ?_, ?_, fun errs => ?_⟩
  · rw [Dev.hc_setHold]
    split <;> rw [Dev.hc_recordFrame]
  · rw [sts, Dev.recordFrame_sts, state, Dev.stampFrame, Dev.get_modHc, up]
  · rw [Dev.rdN, hold.1 _ (by simp [HC_LVR_TEMP, HC_FIR_STS, HC_LVR_HOLDCNT]), ← Dev.rdN, temp]
  · rw [sts, Dev.recordFrame_sts, present]
  · rw [sts, Dev.recordFrame_sts, fault]
  · rw [sts, Dev.recordFrame_sts, hot]
  · rw [Dev.rdN, hold.1 _ (by simp [HC_LVR_HSTAT, HC_FIR_STS, HC_LVR_HOLDCNT]), ← Dev.rdN, status]
  · rw [hold.get_eq (by simp [HC_LVR_EVT, HC_FIR_STS, HC_LVR_HOLDCNT]), Dev.recordFrame, Dev.bridgeErrs_flag _ errs]

/-! ## The statement -/

/-- Settles O25: each command by the lemma that says what its effect is on a state of the clause. -/
theorem louvreDataCommandsComplete : Obligations.LouvreDataCommandsComplete := by
  unfold Obligations.LouvreDataCommandsComplete
  refine ⟨fun s q c hi h => exec_bankArm hi h, fun s q c hi f h down fault => runs_bankArm_faulty hi h down fault,
    fun s q c hi h down passes => runs_bankArm_passes hi h down passes,
    fun s c im dt isl image more state free noLine =>
      runs_event rfl isl (bankImagePiece_complete image more state free noLine),
    fun s q c b v h => ?trimWrite, fun s c b w dt waits rest => runs_after rfl rfl ?trimApply,
    fun s q c i v h used => ?used, fun s q c i v h unused settled => ?unused,
    fun s c bs dt isl state bad => runs_event rfl isl ?badFrame,
    fun s c bs dt isl up image length type crc =>
      runs_event rfl isl (statusFrame_complete up image length type crc rfl),
    fun s c m dt isl line up free unmasked gap released data => runs_event rfl isl ?body⟩
  case trimWrite =>
    obtain ⟨frame, register, waits⟩ := wavTrimWrite_complete c.val b v (s.granted q)
    refine runs_answered (exec_wavTrimWrite v h)
      ⟨Frame.answered _ _ (by simp) (by simp) (frame.mono (fun _ h => h) (by simp)), ?_, ?_⟩
    · exact (State.answered_rd ..).trans (register.trans (Dev.rd_typedWrite_congr v (Dev.rd_renew ..)))
    · exact (congrArg (HcSt.trim · b) (State.answered_hc ..)).trans (waits.trans (congrArg some (State.answered_rd ..).symm))
  case trimApply => exact trimApply_complete waits rest
  case used =>
    have run := exec_wavSegWrite v h
    rw [wavSegWrite_used v ((State.granted_usedWave ..).trans used)] at run
    refine runs_answered run ⟨Frame.answered _ _ (by simp) (by simp) (Frame.flag _ _ _ _ _ (by simp)), ?_⟩
    rw [State.answered_get, Dev.get_flag_same _ _ _ (by decide) (by decide)]
  case unused =>
    have run := exec_wavSegWrite v h
    rw [wavSegWrite_unused v (by rwa [State.granted_usedWave]) (by rwa [Dev.bit, State.granted, Dev.get_renew])] at run
    refine runs_answered run ⟨Frame.answered _ _ (by simp) (by simp) (Frame.typedWrite _ _ _ _ _ (by simp)), ?_⟩
    rw [State.answered_rd]
    exact Dev.rd_typedWrite_congr v (Dev.rd_renew ..)
  case badFrame =>
    rw [statusFrame_bad state bad]
    exact ⟨Frame.flag _ _ _ _ _ (by simp), Dev.get_flag_same _ _ _ (by decide) (by decide)⟩
  case body =>
    obtain ⟨frame, bank, out, body⟩ := bodySend_complete line up free unmasked gap released data
    exact ⟨frame, bank, out, _, body, rfl, rfl, rfl, rfl⟩

end Sys2Proof.Machine
end

section
/-! Proofs: the commands that store nothing leave the page store (R179, R181, R212). The store is a field of the state beside
`Dev`, so each of them keeps it by the shape of its meaning: an effect on `Dev`, after ticks, behind an island's gate or behind the
checks of a register access. The few commands that act on the whole state (engines, check units, power states, Sash, messages to
the firmware) have a lemma each. -/

namespace Sys2Proof.Machine

/-! ## Effects behind an island's gate or an access -/

@[simp] theorem State.onIsl_mem (s : State) (code : Nat) (f : Dev → Dev) : (s.onIsl code f).mem = s.mem := by
  unfold State.onIsl
  split <;> rfl

/-- An event's effect, after its ticks; stated for both at once, so that no proof compares the event's effect with the state. -/
theorem State.onDev_pass_mem (s : State) (dt : Nat) (f : Dev → Dev) : ((s.pass dt).onDev f).mem = s.mem :=
  (State.onDev_mem ..).trans (State.pass_mem ..)

/-- The checks of a write and what follows it concern `Dev` alone. -/
theorem State.write_mem {s : State} {q : Req} {a : Nat} {v : Word} {f : State → State × Status}
    (hf : ∀ s, (f s).1.mem = s.mem) : (s.write q a v f).1.mem = s.mem := by
  unfold State.write
  split
  case h_1 => rfl
  case h_2 => rfl
  case h_3 =>
    dsimp only
    split
    · exact hf _
    · exact hf _

theorem State.command_mem {s : State} {q : Req} {a : Nat} {v : Word} {f : Word → State → State}
    (hf : ∀ s, (f v s).mem = s.mem) : (s.command q a v f).mem = s.mem :=
  State.write_mem hf

@[simp] theorem State.devCommand_mem (s : State) (q : Req) (a : Nat) (v : Word) (f : Word → Dev → Dev) :
    (s.devCommand q a v f).mem = s.mem :=
  State.command_mem fun _ => rfl

@[simp] theorem State.highCommand_mem (s : State) (q : Req) (lo hi : Nat) (v : Word) (f : Word → Word → Dev → Dev) :
    (s.highCommand q lo hi v f).mem = s.mem :=
  State.devCommand_mem ..

@[simp] theorem State.statusCommand_mem (s : State) (q : Req) (a : Nat) (v : Word) (f : Word → Dev → Dev × Status) :
    (s.statusCommand q a v f).mem = s.mem :=
  State.write_mem fun _ => rfl

@[simp] theorem State.readReport_mem (s : State) (q : Req) (a width : Nat) : (s.readReport q a width).mem = s.mem := rfl

@[simp] theorem spiRead_mem (a : Word) (s : State) : (spiRead a s).mem = s.mem := rfl

/-! ## Engines and check units: what is read from the store is not written to it -/

/-- The lines that a block decodes to go to the line buffers (R187). -/
theorem blockDecodeDone_mem (e cycles : Nat) (s : State) : (blockDecodeDone e cycles s).mem = s.mem := by
  unfold blockDecodeDone
  split
  case h_1 =>
    split
    · exact State.onDev_mem ..
    · split
      · rfl
      · exact State.onDev_mem ..
  case h_2 => rfl

/-- The output of a check in advance is discarded (R194). -/
theorem advanceVerifyDone_mem (e cycles : Nat) (s : State) : (advanceVerifyDone e cycles s).mem = s.mem := by
  unfold advanceVerifyDone
  split
  case h_1 =>
    split
    · exact State.onDev_mem ..
    · split
      · rfl
      · exact State.onDev_mem ..
  case h_2 => rfl

/-- What a check unit has read up to an ABORT enters its register (R387). -/
theorem cuAbort_mem (k : Nat) (s : State) : (cuAbort k s).mem = s.mem := State.onDev_mem ..

/-- A check unit writes its result when it has read its buffer, not at a command (R387). -/
theorem cuCmdWrite_mem (q : Req) (k : Nat) (v : Word) (s : State) : (cuCmdWrite q k v s).mem = s.mem := by
  dsimp only [cuCmdWrite]
  split
  · exact cuAbort_mem k s
  · split
    · rw [State.onDev_mem]
      split
      · exact cuAbort_mem k s
      · rfl
    · repeat' split
      all_goals simp only [State.onDev_mem]

/-! ## Power states: a write of PWR_CMD without HARD and SOFT, and the wake -/

theorem pwrCmdWrite_mem {v : Word} (hard : v.bit 9 = false) (soft : v.bit 8 = false) (s : State) :
    (pwrCmdWrite v s).mem = s.mem := by
  simp [pwrCmdWrite, hard, soft]

/-- ENTER with a TARGET sets neither HARD nor SOFT. -/
theorem bit_enter : ∀ target : Fin 8,
    Word.bit (BitVec.ofNat 32 (8 + target.val)) 9 = false ∧ Word.bit (BitVec.ofNat 32 (8 + target.val)) 8 = false := by
  decide

theorem wakeDone_mem (s : State) : (wakeDone s).mem = s.mem := by
  unfold wakeDone
  dsimp only
  split <;> rfl

/-! ## Sash (R359, R360) -/

theorem sashOpen_mem (r : SashReq) (s : State) : (sashOpen r s).mem = s.mem := by
  dsimp only [sashOpen]
  repeat' split
  all_goals rfl

/-- The session, the version, the retry and the header concern `Dev` alone; what remains is the request's own act. -/
theorem sashRequest_mem {op : Nat} {r : SashReq} {act : State → State × Nat × List Byte × Status} (s : State)
    (hact : ∀ s, (act s).1.mem = s.mem) : (sashRequest op r act s).mem = s.mem := by
  dsimp only [sashRequest]
  repeat' split
  case h_2.isFalse.isFalse.isFalse => exact hact _
  all_goals rfl

theorem sashClose_mem (r : SashReq) (s : State) : (sashClose r s).mem = s.mem := by
  have request : (sashRequest 0x02 r (fun s => (s, 0, [], .ok)) s).mem = s.mem := sashRequest_mem s fun _ => rfl
  dsimp only [sashClose]
  split
  · exact request
  · exact request

/-! ## Messages to the firmware (R377) -/

/-- The firmware's taking and answering of a message concern `Dev` alone; what remains is the request's own act. -/
theorem fwRequest_mem {type n : Nat} {f : List Word → State → State × FwResult × List Word} (s : State)
    (hf : ∀ ws s, (f ws s).1.mem = s.mem) : (fwRequest type n f s).mem = s.mem := by
  dsimp only [fwRequest]
  split
  case h_1 => rfl
  case h_2 =>
    split
    · rfl
    · rw [State.onDev_mem]
      split
      · rfl
      · split
        · rfl
        · exact hf _ _

theorem fwKeelRead_mem (ws : List Word) (s : State) : (fwKeelRead ws s).1.mem = s.mem := by
  unfold fwKeelRead
  split <;> rfl

theorem fwLogRead_mem (ws : List Word) (s : State) : (fwLogRead ws s).1.mem = s.mem := by
  dsimp only [fwLogRead]
  repeat' split
  all_goals rfl

theorem fwTelemSet_mem (ws : List Word) (s : State) : (fwTelemSet ws s).1.mem = s.mem := by
  dsimp only [fwTelemSet]
  split <;> rfl

theorem fwCxAssign_mem (ws : List Word) (s : State) : (fwCxAssign ws s).1.mem = s.mem := by
  dsimp only [fwCxAssign]
  repeat' split
  all_goals rfl

/-- The object decoded from the staging area is the firmware's, not the page store's (R247). -/
theorem fwObjLoad_mem (ws : List Word) (s : State) : (fwObjLoad ws s).1.mem = s.mem := by
  dsimp only [fwObjLoad]
  repeat' split
  all_goals rfl

theorem fwFlashWrite_mem (entryOk : Bool) (ws : List Word) (s : State) : (fwFlashWrite entryOk ws s).1.mem = s.mem := by
  dsimp only [fwFlashWrite]
  repeat' split
  all_goals rfl

theorem fwPtpSend_mem (eighth : Int) (sent : Bool) (ws : List Word) (s : State) :
    (fwPtpSend eighth sent ws s).1.mem = s.mem := by
  dsimp only [fwPtpSend]
  repeat' split
  all_goals rfl

/-! ## The statement -/

/-- The commands whose meaning is more than an effect on `Dev` cite their lemma; every other one is such an effect, after ticks,
behind an island's gate or behind an access. -/
theorem exec_mem {i : Instr} {s t : State} (stores : mayStore i = false) (run : exec i s = .next t) : t.mem = s.mem := by
  cases i with
  | registerWrite | loWriteHold | hiWriteCommit | spiWrite | spiWriteUrgent | sashWrite | sashBlob | sashreg | frameAccept
  | segment | cuBufferDone | objDone | cxFlushed | cxDone | cxOverflow | memRequest | memReadReturn | scrub
  | islandGateComplete | configuration | powerOn | uvlo | railFault | pinReset | hardReset | softReset | guardReset
  | entryDone => cases stores
  | readClear | loReadCapture | fracReadCapture | statCapture => cases run; exact State.readReport_mem ..
  | spiRead => cases run; exact spiRead_mem ..
  | blockDecodeDone e cycles dt =>
    cases run
    split
    · exact blockDecodeDone_mem ..
    · rfl
  | advanceVerifyDone e cycles dt =>
    cases run
    split
    · exact advanceVerifyDone_mem ..
    · rfl
  | cuStart | cuGo | cuAbort | cuRelease => cases run; exact State.command_mem (cuCmdWrite_mem _ _ _)
  | powerEnter q target =>
    obtain ⟨hard, soft⟩ := bit_enter target
    cases run
    exact State.command_mem (pwrCmdWrite_mem hard soft)
  | powerWake => cases run; exact State.command_mem (pwrCmdWrite_mem rfl rfl)
  | wakeDone => cases run; exact wakeDone_mem _
  | sashOpen => cases run; exact sashOpen_mem ..
  | sashClose => cases run; exact sashClose_mem ..
  | sashKeepalive | sashRead => cases run; exact sashRequest_mem _ fun _ => rfl
  | ping => cases run; exact fwRequest_mem _ fun _ _ => rfl
  | keelRead => cases run; exact fwRequest_mem _ fwKeelRead_mem
  | logRead => cases run; exact fwRequest_mem _ fwLogRead_mem
  | telemSet => cases run; exact fwRequest_mem _ fwTelemSet_mem
  | cxAssign => cases run; exact fwRequest_mem _ fwCxAssign_mem
  | objLoad => cases run; exact fwRequest_mem _ fwObjLoad_mem
  | flashWrite => cases run; exact fwRequest_mem _ (fwFlashWrite_mem _)
  | ptpSend => cases run; exact fwRequest_mem _ (fwPtpSend_mem _ _)
  | rereqNo | jobOpen | jobSetlast | jobAbort | jobResume => cases run; exact State.onDev_mem ..
  | slewDone => cases run; exact State.pass_mem ..
  | _ =>
    cases run
    simp only [State.onDev_pass_mem, State.onIsl_mem, State.pass_mem, State.devCommand_mem, State.highCommand_mem,
      State.statusCommand_mem]

/-- Settles O5: such a command leaves the page store whole, and with it every byte and every mark. -/
theorem onlyStoringCommandsStore : Obligations.OnlyStoringCommandsStore := by
  unfold Obligations.OnlyStoringCommandsStore
  intro i s t stores run
  have whole : t.mem = s.mem := exec_mem stores run
  exact ⟨fun a => congrArg (Store.byte · a) whole, fun g => congrArg (Store.isBad · g) whole⟩

end Sys2Proof.Machine
end

section
/-! Proofs: nozzle health, its evidence, overrides, updates, proposals and vetoes (R256 to R258, R260 to R262, R269 to R273). -/

namespace Sys2Proof.Machine

/-! ## Events that change nothing, and the state in which an allowed access acts -/

/-- An event whose effect leaves the state in which it arrives is the passing of its ticks alone. -/
theorem exec_unchanged {i : Instr} {s : State} {dt : Nat} {f : Dev → Dev} (hi : exec i s = .next ((s.pass dt).onDev f))
    (h : f (s.after dt) = s.after dt) : exec i s = .next (s.pass dt) :=
  exec_onDev (g := fun d => d) hi h

/-- What is mirrored to the standby only leaves the part. -/
theorem Dev.mirror_eq (d : Dev) (fields : List Nat) : ∃ o, d.mirror fields = { d with out := o } := by
  unfold Dev.mirror Dev.brdSend
  split
  · split <;> exact ⟨_, rfl⟩
  · exact ⟨_, rfl⟩

theorem Dev.modHost_mirrorLatch_eq (d : Dev) (f : HostSt → HostSt) :
    ∃ x o, (d.modHost f).mirrorLatch = { d with host := x, out := o } := by
  obtain ⟨o, mirrored⟩ := (d.modHost f).mirror_eq _
  exact ⟨f d.host, o, mirrored⟩

/-- The lease's renewal concerns the ports and what left the part: whatever reads neither is the same after it. -/
theorem State.granted_eq (s : State) (q : Req) : ∃ x o, s.granted q = { s.dev with host := x, out := o } := by
  rw [State.granted, Dev.renew_eq]
  split
  · exact Dev.modHost_mirrorLatch_eq ..
  · exact ⟨_, _, rfl⟩

/-- So each function of the state that does not read the ports or what left the part has the same value after it. -/
theorem State.granted_congr {α : Type} {f : Dev → α} (h : ∀ d x o, f { d with host := x, out := o } = f d) (s : State) (q : Req) :
    f (s.granted q) = f s.dev := by
  obtain ⟨x, o, granted⟩ := s.granted_eq q
  rw [granted, h]

@[simp] theorem State.granted_standby (s : State) (q : Req) : (s.granted q).standby = s.dev.standby :=
  State.granted_congr (f := Dev.standby) (fun _ _ _ => rfl) s q

@[simp] theorem State.granted_nozzles (s : State) (q : Req) (c : Nat) : (s.granted q).nozzles c = s.dev.nozzles c :=
  State.granted_get ..

@[simp] theorem State.granted_noz (s : State) (q : Req) (c n : Nat) (f : Fld) : (s.granted q).noz c n f = s.dev.noz c n f :=
  State.granted_get ..

@[simp] theorem State.granted_nh (s : State) (q : Req) : (s.granted q).nh = s.dev.nh := Dev.renew_nh ..

@[simp] theorem State.granted_cal (s : State) (q : Req) : (s.granted q).cal = s.dev.cal := Dev.renew_cal ..

@[simp] theorem State.granted_nhStale (s : State) (q : Req) (c n first : Nat) :
    (s.granted q).nhStale c n first = s.dev.nhStale c n first :=
  State.granted_congr (f := fun d => d.nhStale c n first) (fun _ _ _ => rfl) s q

@[simp] theorem State.granted_frontLine (s : State) (q : Req) : (s.granted q).frontLine = s.dev.frontLine :=
  State.granted_congr (f := Dev.frontLine) (fun _ _ _ => rfl) s q

@[simp] theorem State.answered_nh (s : State) (q : Req) (a : Nat) (v : Word) (d : Dev) : (s.answered q a v d).dev.nh = d.nh :=
  Dev.forward_nh d q a v

/-! ## The entry of one nozzle (R256, R276) -/

/-- The byte of a nozzle lies in its word. -/
theorem nozFld_le (n : Nat) {f : Fld} (h : f.lo + f.width ≤ 8) : (nozFld n f).lo + (nozFld n f).width ≤ 32 := by
  simp only [nozFld]; omega

theorem Dev.noz_setNoz_same (d : Dev) (c n : Nat) {f : Fld} (v : Nat) (h : f.lo + f.width ≤ 8) :
    (d.setNoz c n f v).noz c n f = v % 2 ^ f.width :=
  Dev.get_put_same d _ _ v (nozFld_le n h)

/-- The other fields of the nozzle's entry stay. -/
theorem Dev.noz_setNoz_other (d : Dev) (c n : Nat) {f g : Fld} (v : Nat) (h : f.lo + f.width ≤ 8)
    (hg : f.lo + f.width ≤ g.lo ∨ g.lo + g.width ≤ f.lo) : (d.setNoz c n f v).noz c n g = d.noz c n g :=
  Dev.get_put_other d _ _ _ _ v (nozFld_le n h) (.inr (by simp only [nozFld]; omega))

theorem Frame.setNoz (rs : List Nat) (ps : List Part) (d : Dev) (c n : Nat) (f : Fld) (v : Nat) (h : NH_STATE c (n / 4) ∈ rs) :
    Frame rs ps d (d.setNoz c n f v) :=
  Frame.put rs ps d _ _ _ h

theorem Frame.setNozEv (rs : List Nat) (ps : List Part) (d : Dev) (c n : Nat) (x : NozEv) (h : Part.nh ∈ ps) :
    Frame rs ps d (d.setNozEv c n x) :=
  Frame.withNh rs ps d _ h

@[simp] theorem Dev.noz_setNozEv (d : Dev) (c n : Nat) (x : NozEv) (c' n' : Nat) (f : Fld) :
    (d.setNozEv c n x).noz c' n' f = d.noz c' n' f := rfl

theorem Frame.mirrorNozzles (rs : List Nat) (ps : List Part) (d : Dev) (ks : List (Nat × Nat)) (h : Part.out ∈ ps) :
    Frame rs ps d (d.mirrorNozzles ks) :=
  Frame.mirror rs ps d _ h

@[simp] theorem Dev.noz_mirrorNozzles (d : Dev) (ks : List (Nat × Nat)) (c n : Nat) (f : Fld) :
    (d.mirrorNozzles ks).noz c n f = d.noz c n f :=
  Dev.get_mirror ..

/-! ## A credited hit (R257, R260) -/

/-- The first hit on a GOOD nozzle: SUSPECT, its weight as SCORE, and as the sum of its kind. -/
def Dev.suspect (d : Dev) (c n kind q : Nat) : Dev :=
  ((d.setNoz c n fState 1).setNoz c n fScore (min 15 q)).setNozEv c n (({ eff := (d.nozEv c n).eff } : NozEv).add kind q)

theorem Dev.creditHit_good {d : Dev} {c n q : Nat} (kind src : Nat) (good : d.noz c n fState = 0) (weight : 0 < q) :
    d.creditHit c n kind q src = d.suspect c n kind q := by
  have counts : q ≠ 0 := Nat.pos_iff_ne_zero.1 weight
  simp [Dev.creditHit, Dev.suspect, good, counts]

theorem Frame.suspect (rs : List Nat) (ps : List Part) (d : Dev) (c n kind q : Nat) (h : NH_STATE c (n / 4) ∈ rs)
    (hp : Part.nh ∈ ps) : Frame rs ps d (d.suspect c n kind q) :=
  (Frame.setNoz rs ps _ _ _ _ _ h).trans ((Frame.setNoz rs ps _ _ _ _ _ h).trans (Frame.setNozEv rs ps _ _ _ _ hp))

theorem Dev.noz_suspect (d : Dev) (c n kind q : Nat) :
    (d.suspect c n kind q).noz c n fState = 1 ∧ (d.suspect c n kind q).noz c n fScore = min 15 q := by
  have fits : min 15 q % 2 ^ fScore.width = min 15 q := Nat.mod_eq_of_lt (by simp only [fScore]; omega)
  rw [Dev.suspect, Dev.noz_setNozEv, Dev.noz_setNozEv]
  constructor
  · rw [Dev.noz_setNoz_other _ _ _ _ (by decide) (by decide), Dev.noz_setNoz_same _ _ _ _ (by decide)]; rfl
  · rw [Dev.noz_setNoz_same _ _ _ _ (by decide), fits]

theorem Frame.countStale (ps : List Part) (d : Dev) (c : Nat) : Frame [HC_NH_STALE c, FIR_NH_EVT] ps d (d.countStale c) :=
  (Frame.count _ _ _ _ _ _ (by simp)).trans (Frame.flag _ _ _ _ _ (by simp))

/-! ## Reports (R258, R260, R273) -/

theorem nhReport_standby {d : Dev} (es : List NhEntry) (h : d.standby = true) : nhReport es d = d := if_pos h

theorem nhReport_credits {d : Dev} (es : List NhEntry) (h : d.standby = false) :
    nhReport es d = (es.foldl Dev.creditEntry d).mirrorNozzles (es.map (fun e => (e.chan.val, e.noz))) := by
  simp [nhReport, h]

section
variable {d : Dev} {e : NhEntry} (channel : d.hasChannel e.chan.val = true) (nozzle : e.noz < d.nozzles e.chan.val)
include channel nozzle

/-- Evidence about a nozzle that the channel has is stale, a clear, or a hit. -/
theorem Dev.creditEntry_known : d.creditEntry e =
    if d.nhStale e.chan.val e.noz e.first then d.countStale e.chan.val
    else if e.kind.val = 0 ∨ e.covNum * 100 < d.get FIR_NH_CFG FIR_NH_CFG.COVER * e.covDen then d.creditClear e.chan.val e.noz
    else d.creditHit e.chan.val e.noz e.kind.val ((8 * e.shNum + e.shDen) / (2 * e.shDen)) 0 := by
  simp [Dev.creditEntry, channel, Nat.not_le.2 nozzle]

theorem Dev.creditEntry_stale (stale : d.nhStale e.chan.val e.noz e.first = true) :
    d.creditEntry e = d.countStale e.chan.val := by
  rw [Dev.creditEntry_known channel nozzle, if_pos stale]

theorem Dev.creditEntry_hit (fresh : d.nhStale e.chan.val e.noz e.first = false) (hit : e.kind.val ≠ 0)
    (cover : d.get FIR_NH_CFG FIR_NH_CFG.COVER * e.covDen ≤ e.covNum * 100) :
    d.creditEntry e = d.creditHit e.chan.val e.noz e.kind.val ((8 * e.shNum + e.shDen) / (2 * e.shDen)) 0 := by
  have noClear : ¬ (e.kind.val = 0 ∨ e.covNum * 100 < d.get FIR_NH_CFG FIR_NH_CFG.COVER * e.covDen) := by omega
  rw [Dev.creditEntry_known channel nozzle, fresh, if_neg (by decide), if_neg noClear]

end

/-! ## The commands of HC_NH_CMD (R262, R271) -/

/-- What the word of a command reads as, field by field (R277). -/
theorem nhWord_fields {op kind st n : Nat} (atEn : Bool) (ho : op < 4) (hk : kind < 4) (hs : st < 8) (hn : n < 4096) :
    (nhWord op kind st n atEn).fld HC_NH_CMD.OP = op ∧ (nhWord op kind st n atEn).fld HC_NH_CMD.KIND = kind ∧
    (nhWord op kind st n atEn).fld HC_NH_CMD.STATE = st ∧ (nhWord op kind st n atEn).fld HC_NH_CMD.NOZZLE = n ∧
    decide ((nhWord op kind st n atEn).fld HC_NH_CMD.AT_EN = 1) = atEn := by
  unfold nhWord
  simp only [Word.fld_ofNat _ HC_NH_CMD.OP (by decide), Word.fld_ofNat _ HC_NH_CMD.KIND (by decide),
    Word.fld_ofNat _ HC_NH_CMD.STATE (by decide), Word.fld_ofNat _ HC_NH_CMD.NOZZLE (by decide),
    Word.fld_ofNat _ HC_NH_CMD.AT_EN (by decide)]
  simp only [HC_NH_CMD.OP, HC_NH_CMD.KIND, HC_NH_CMD.STATE, HC_NH_CMD.NOZZLE, HC_NH_CMD.AT_EN]
  cases atEn
  · simp only [Bool.false_eq_true, if_false, decide_eq_false_iff_not]; omega
  · simp only [if_true, decide_eq_true_eq]; omega

section
variable {s : State} {q : Req} {c : Fin 64} (h : Allowed s q (HC_NH_CMD c.val)) (active : s.dev.standby = false)
include h active

theorem exec_nhEvidence (n : Fin 4096) (kind : Fin 4) :
    exec (.nhEvidence q c n kind) s = .next (s.answered q (HC_NH_CMD c.val) (nhWord 2 kind.val 0 n.val false)
      (nhEvidence c.val n.val kind.val (s.granted q))) := by
  obtain ⟨op, kindRead, -, nozzle, -⟩ := nhWord_fields (op := 2) (st := 0) false (by decide) kind.isLt (by decide) n.isLt
  have effect : nhCmdWrite c.val (nhWord 2 kind.val 0 n.val false) (s.granted q) =
      nhEvidence c.val n.val kind.val (s.granted q) := by
    simp [nhCmdWrite, op, kindRead, nozzle, active]
  rw [← effect]
  exact congrArg Host.Outcome.next (State.devCommand_allowed s q _ _ (nhCmdWrite c.val) h)

theorem exec_nhOverride (n : Fin 4096) (st : Fin 8) (atEn : Bool) :
    exec (.nhOverride q c n st atEn) s = .next (s.answered q (HC_NH_CMD c.val) (nhWord 1 0 st.val n.val atEn)
      (nhOverride c.val n.val st.val atEn (s.granted q))) := by
  obtain ⟨op, -, state, nozzle, atLine⟩ := nhWord_fields (op := 1) (kind := 0) atEn (by decide) (by decide) st.isLt n.isLt
  have effect : nhCmdWrite c.val (nhWord 1 0 st.val n.val atEn) (s.granted q) =
      nhOverride c.val n.val st.val atEn (s.granted q) := by
    simp only [nhCmdWrite, op, state, nozzle, atLine, State.granted_standby, active, Bool.false_eq_true, if_false, if_true]
  rw [← effect]
  exact congrArg Host.Outcome.next (State.devCommand_allowed s q _ _ (nhCmdWrite c.val) h)

theorem exec_nhReset :
    exec (.nhReset q c) s = .next (s.answered q (HC_NH_CMD c.val) (nhWord 3 0 0 0 false) (nhReset c.val (s.granted q))) := by
  have effect : nhCmdWrite c.val (nhWord 3 0 0 0 false) (s.granted q) = nhReset c.val (s.granted q) := by
    have op : (nhWord 3 0 0 0 false).fld HC_NH_CMD.OP = 3 := by decide
    simp [nhCmdWrite, op, active]
  rw [← effect]
  exact congrArg Host.Outcome.next (State.devCommand_allowed s q _ _ (nhCmdWrite c.val) h)

end

/-- A command that is refused: the event, and nothing else. -/
theorem runs_nhRefuse {i : Instr} {s : State} {q : Req} {a : Nat} {v : Word}
    (hi : exec i s = .next (s.answered q a v (s.granted q).nhRefuse)) :
    Runs i s fun t => Frame [FIR_NH_EVT] [.host, .out] s.dev t ∧ t.get FIR_NH_EVT FIR_NH_EVT.REFUSED = 1 := by
  refine runs_answered hi ⟨Frame.answered _ _ (by decide) (by decide) (Frame.flag _ _ _ _ _ (by decide)), ?_⟩
  rw [State.answered_get, Dev.nhRefuse, Dev.get_flag_same _ _ _ (by decide) (by decide)]

theorem nhEvidence_refused {d : Dev} {c n kind : Nat} (h : kind = 0 ∨ d.nozzles c ≤ n) : nhEvidence c n kind d = d.nhRefuse :=
  if_pos (by simpa using h)

theorem nhEvidence_hit {d : Dev} {c n kind : Nat} (hit : kind ≠ 0) (nozzle : n < d.nozzles c)
    (fresh : d.nhStale c n d.frontLine = false) :
    nhEvidence c n kind d = (d.creditHit c n kind 4 3).mirrorNozzles [(c, n)] := by
  simp [nhEvidence, hit, Nat.not_le.2 nozzle, fresh]

/-- The change that an override decides (R271). -/
def Dev.overrideChange (d : Dev) (c n st : Nat) (atEn : Bool) : NhChange :=
  ⟨c, n, st, 2, if atEn then some (d.rdN (HC_NH_AT_LO c) + 2 ^ 32 * (d.rdN (HC_NH_AT_HI c) % 256)) else none⟩

theorem State.granted_overrideChange (s : State) (q : Req) (c n st : Nat) (atEn : Bool) :
    (s.granted q).overrideChange c n st atEn = s.dev.overrideChange c n st atEn :=
  State.granted_congr (f := fun d => d.overrideChange c n st atEn) (fun _ _ _ => rfl) s q

theorem nhOverride_refused {d : Dev} {c n st : Nat} (atEn : Bool) (h : st = 1 ∨ 5 < st ∨ d.nozzles c ≤ n) :
    nhOverride c n st atEn d = d.nhRefuse :=
  if_pos (by simpa [or_assoc] using h)

theorem nhOverride_waits {d : Dev} {c n st : Nat} (atEn : Bool) (legal : st ≠ 1) (high : st ≤ 5) (nozzle : n < d.nozzles c) :
    nhOverride c n st atEn d = d.addChange (d.overrideChange c n st atEn) :=
  if_neg (by simp [legal]; omega)

theorem Frame.addChange (rs : List Nat) (ps : List Part) (d : Dev) (x : NhChange) (h : Part.nh ∈ ps) :
    Frame rs ps d (d.addChange x) := by
  unfold Dev.addChange
  dsimp only
  split
  · exact Frame.refl _ _ _
  · exact Frame.withNh _ _ _ _ h

/-- An override waits in the place of every change of its nozzle. -/
theorem Dev.wait_addChange_override {d : Dev} {x : NhChange} (h : x.override = true) :
    (d.addChange x).nh.wait = d.nh.wait.filter (fun y => !(y.chan == x.chan && y.noz == x.noz)) ++ [x] := by
  simp [Dev.addChange, h]

/-! ## Updates and proposals (R269, R270, R272) -/

theorem nhUpdate_nothing {d : Dev} (h : d.standby = true ∨ d.nh.flight ≠ none ∨ d.nh.wait = []) : nhUpdate d = d := by
  have idle : (d.standby || d.nh.flight.isSome || d.nh.wait.isEmpty) = true := by
    simpa [Option.isSome_iff_ne_none, or_assoc] using h
  unfold nhUpdate
  exact if_pos idle

/-- The changes that wait become a proposal, told to the firmware (R272). -/
def Dev.proposeWaiting (d : Dev) : Dev :=
  { d with nh := { d.nh with
    wait := [], prop := some (d.nh.propNext, d.now + msTicks (d.get FIR_NH_VETO FIR_NH_VETO.HOLD), d.nh.wait)
    propNext := nextId d.nh.propNext } }

section
variable {d : Dev} (active : d.standby = false) (free : d.nh.flight = none)
include active free

theorem nhUpdate_launches (waiting : d.nh.wait ≠ []) (noHold : d.get FIR_NH_VETO FIR_NH_VETO.HOLD = 0) :
    nhUpdate d = { d with nh := { d.nh with wait := [] } }.launch d.nh.wait := by
  simp [nhUpdate, active, free, waiting, noHold]

theorem nhUpdate_proposes (noProp : d.nh.prop = none) (auto : ∃ x ∈ d.nh.wait, x.override = false)
    (hold : d.get FIR_NH_VETO FIR_NH_VETO.HOLD ≠ 0) :
    nhUpdate d = ((d.proposeWaiting.wrN FIR_NH_PROP d.nh.propNext).flag FIR_NH_EVT FIR_NH_EVT.PROPOSED).notify 0x0004
      [BitVec.ofNat 32 d.nh.propNext] := by
  have automatic : d.nh.wait.any (fun x => !x.override) = true := by simpa using auto
  have waiting : d.nh.wait ≠ [] := by rintro empty; simp [empty] at auto
  unfold nhUpdate
  simp [active, free, noProp, automatic, waiting, hold, Dev.proposeWaiting]

end

theorem proposalHoldEnd_due {d : Dev} {id end_ : Nat} {cs : List NhChange} (prop : d.nh.prop = some (id, end_, cs))
    (due : end_ ≤ d.now) (free : d.nh.flight = none) : proposalHoldEnd d = d.dropProposal.launch cs := by
  unfold proposalHoldEnd
  rw [prop]
  simp [Nat.not_lt.2 due, free]

theorem Dev.launch_nil (d : Dev) : d.launch [] = d := rfl

/-! ## Vetoes (R272) -/

/-- The word of NH_VETO names its proposal with VETO set. -/
theorem firNhCmdWrite_veto (id : Fin 65536) (d : Dev) : firNhCmdWrite (BitVec.ofNat 32 (65536 + id.val)) d = nhVeto id.val d := by
  have value : (BitVec.ofNat 32 (65536 + id.val)).toNat = 65536 + id.val := by
    rw [BitVec.toNat_ofNat, Nat.mod_eq_of_lt (by omega)]
  have veto : Word.bit (BitVec.ofNat 32 (65536 + id.val)) 16 = true := by
    rw [Word.bit, value, Nat.testBit_eq_decide_div_mod_eq, decide_eq_true_eq]; omega
  rw [firNhCmdWrite, if_pos veto, value, Nat.add_mod_left, Nat.mod_eq_of_lt id.isLt]

theorem exec_nhVeto {s : State} {q : Req} (id : Fin 65536) (h : Allowed s q FIR_NH_CMD) :
    exec (.nhVeto q id) s = .next (s.answered q FIR_NH_CMD (BitVec.ofNat 32 (65536 + id.val)) (nhVeto id.val (s.granted q))) := by
  rw [← firNhCmdWrite_veto]
  exact congrArg Host.Outcome.next (State.devCommand_allowed s q _ _ firNhCmdWrite h)

theorem nhVeto_refused {d : Dev} {id : Nat} (h : ∀ k e cs, d.nh.prop = some (k, e, cs) → k ≠ id) : nhVeto id d = d.nhRefuse := by
  unfold nhVeto
  split
  · rfl
  · next k e cs prop => exact if_pos (h k e cs prop)

/-- SCORE of the nozzles of changes becomes 0. -/
def Dev.clearScores (d : Dev) (cs : List NhChange) : Dev := cs.foldl (fun d x => d.clearScore x.chan x.noz) d

/-- That writes the nozzles' states and evidence alone. -/
theorem Dev.clearScores_keeps (cs : List NhChange) : ∀ d : Dev,
    (∀ a, a < 0x400000 → (d.clearScores cs).rd a = d.rd a) ∧ (d.clearScores cs).nh.prop = d.nh.prop ∧
    (d.clearScores cs).nh.wait = d.nh.wait ∧ (d.clearScores cs).nh.flight = d.nh.flight := by
  induction cs with
  | nil => exact fun d => ⟨fun _ _ => rfl, rfl, rfl, rfl⟩
  | cons x cs ih =>
    intro d
    obtain ⟨regs, prop, wait, flight⟩ := ih (d.clearScore x.chan x.noz)
    have first (a : Nat) (ha : a < 0x400000) : (d.clearScore x.chan x.noz).rd a = d.rd a :=
      Dev.rd_wr_ne d _ (by simp only [NH_STATE]; omega)
    exact ⟨fun a ha => (regs a ha).trans (first a ha), prop, wait, flight⟩

/-- The veto of a proposal without overrides drops it and the scores of its changes. -/
theorem nhVeto_automatic {d : Dev} {id end_ : Nat} {cs : List NhChange} (prop : d.nh.prop = some (id, end_, cs))
    (auto : ∀ x ∈ cs, x.override = false) :
    nhVeto id d = (d.dropProposal.clearScores cs).flag FIR_NH_EVT FIR_NH_EVT.VETOED := by
  have all : cs.filter (fun x => !x.override) = cs := List.filter_eq_self.2 (by simpa using auto)
  have own : cs.filter NhChange.override = [] := List.filter_eq_nil_iff.2 (by simpa using auto)
  unfold nhVeto
  rw [prop]
  simp only [ne_eq, not_true_eq_false, if_false, all, own, List.nil_append, Dev.launch_nil]
  exact ite_self _

theorem nhVeto_automatic_fields {d : Dev} {id end_ : Nat} {cs : List NhChange} (prop : d.nh.prop = some (id, end_, cs))
    (auto : ∀ x ∈ cs, x.override = false) :
    (nhVeto id d).rd FIR_NH_PROP = 0 ∧ (nhVeto id d).nh.prop = none ∧ (nhVeto id d).get FIR_NH_EVT FIR_NH_EVT.VETOED = 1 ∧
    (nhVeto id d).nh.wait = d.nh.wait ∧ (nhVeto id d).nh.flight = d.nh.flight := by
  obtain ⟨regs, noProp, wait, flight⟩ := Dev.clearScores_keeps cs d.dropProposal
  rw [nhVeto_automatic prop auto]
  refine ⟨?_, noProp, Dev.get_flag_same _ _ _ (by decide) (by decide), wait, flight⟩
  rw [Dev.rd_flag, if_neg (by decide), regs _ (by decide)]
  exact d.rd_wr_same FIR_NH_PROP 0

/-! ## The end of an update (R270) -/

theorem nhUpdateApplied_released {d : Dev} {u : NhUpd} (flight : d.nh.flight = some u) (released : d.nhReleased u = true) :
    nhUpdateApplied d = nhUpdate d.nhApplied := by
  unfold nhUpdateApplied
  rw [flight]
  exact if_pos released

theorem nhUpdateApplied_early {d : Dev} {u : NhUpd} (flight : d.nh.flight = some u) (waits : d.nhReleased u = false) :
    nhUpdateApplied d = d := by
  unfold nhUpdateApplied
  rw [flight]
  simp [waits]

/-! ## The statement -/

/-- Settles O34: each command by the lemma that says what its effect is on a state of the clause. -/
theorem nozzleHealthCommandsComplete : Obligations.NozzleHealthCommandsComplete := by
  unfold Obligations.NozzleHealthCommandsComplete
  refine ⟨fun s es dt standby => exec_unchanged rfl (nhReport_standby es standby),
    fun s es dt active => exec_onDev rfl (nhReport_credits es active),
    fun s e dt active channel nozzle fresh hit cover good weight => ?hit,
    fun s e dt active channel nozzle stale => ?stale, fun s q c n kind h active bad => ?evidenceRefused,
    fun s q c n kind h active hit nozzle fresh good => ?evidence, fun s q c n st atEn h active bad => ?overrideRefused,
    fun s q c n st atEn h active legal high nozzle => ?override, fun s q c h active => ?reset,
    fun s dt idle => exec_unchanged rfl (nhUpdate_nothing idle),
    fun s dt active free waiting noHold => exec_onDev rfl (nhUpdate_launches active free waiting noHold),
    fun s dt active free noProp auto hold => runs_after rfl (nhUpdate_proposes active free noProp auto hold) ?proposed,
    fun s id end_ cs dt prop due free => exec_onDev rfl (proposalHoldEnd_due prop due free),
    fun s q id h other => ?vetoRefused, fun s q id end_ cs h prop auto => ?veto,
    fun s u dt flight released => exec_onDev rfl (nhUpdateApplied_released flight released),
    fun s u dt flight waits => exec_unchanged rfl (nhUpdateApplied_early flight waits)⟩
  case hit =>
    have credited : nhReport [e] (s.after dt) = _ := nhReport_credits [e] active
    rw [List.foldl_cons, List.foldl_nil, Dev.creditEntry_hit channel nozzle fresh hit cover,
      Dev.creditHit_good _ _ good weight] at credited
    refine runs_after rfl credited ⟨?_, ?_⟩
    · exact (Frame.suspect _ _ _ _ _ _ _ (by simp) (by simp)).trans (Frame.mirrorNozzles _ _ _ _ (by simp))
    · rw [Dev.noz_mirrorNozzles, Dev.noz_mirrorNozzles]
      exact Dev.noz_suspect ..
  case stale =>
    have counted : nhReport [e] (s.after dt) = _ := nhReport_credits [e] active
    rw [List.foldl_cons, List.foldl_nil, Dev.creditEntry_stale channel nozzle stale] at counted
    refine runs_after rfl counted ⟨?_, ?_⟩
    · exact (Frame.countStale _ _ _).trans (Frame.mirrorNozzles _ _ _ _ (by simp))
    · rw [Dev.mirrorNozzles, Dev.get_mirror, Dev.countStale, Dev.get_flag_same _ _ _ (by decide) (by decide)]
  case evidenceRefused =>
    have run := exec_nhEvidence h active n kind
    rw [nhEvidence_refused (by simpa using bad)] at run
    exact runs_nhRefuse run
  case evidence =>
    have run := exec_nhEvidence h active n kind
    rw [nhEvidence_hit hit (by simpa using nozzle) (by simpa using fresh),
      Dev.creditHit_good _ _ (by simpa using good) (by decide)] at run
    refine runs_answered run ⟨Frame.answered _ _ (by simp) (by simp) ?_, ?_⟩
    · exact (Frame.suspect _ _ _ _ _ _ _ (by simp) (by simp)).trans (Frame.mirrorNozzles _ _ _ _ (by simp))
    · simp only [Dev.noz, State.answered_get, Dev.mirrorNozzles, Dev.get_mirror]
      exact Dev.noz_suspect ..
  case overrideRefused =>
    have run := exec_nhOverride h active n st atEn
    rw [nhOverride_refused atEn (by simpa using bad)] at run
    exact runs_nhRefuse run
  case override =>
    have run := exec_nhOverride h active n st atEn
    rw [nhOverride_waits atEn legal high (by simpa using nozzle), State.granted_overrideChange] at run
    refine runs_answered run ⟨Frame.answered _ _ (by simp) (by simp) (Frame.addChange _ _ _ _ (by simp)), ?_⟩
    rw [State.answered_nh, Dev.wait_addChange_override rfl, State.granted_nh]
    refine ⟨List.mem_append_right _ (List.mem_singleton_self _), fun x hx => ?_⟩
    obtain before | new := List.mem_append.1 hx
    · exact .inl (List.mem_filter.1 before).1
    · rw [List.mem_singleton.1 new]
      exact .inr ⟨rfl, rfl⟩
  case reset =>
    rw [exec_nhReset h active, nhReset, State.granted_nozzles]
  case proposed =>
    refine ⟨?frame, ?fields⟩
    case frame =>
      exact (Frame.withNh _ _ _ _ (by simp)).trans ((Frame.wrN _ _ _ _ _ (by simp)).trans
        ((Frame.flag _ _ _ _ _ (by simp)).trans (Frame.notify _ _ _ _ _ (by simp))))
    case fields =>
      have told := Frame.notify [] [.host] (((s.after dt).proposeWaiting.wrN FIR_NH_PROP (s.after dt).nh.propNext).flag
        FIR_NH_EVT FIR_NH_EVT.PROPOSED) 0x0004 [BitVec.ofNat 32 (s.after dt).nh.propNext] (by simp)
      rw [told.2 .nh (by simp), told.get_eq (by simp), Dev.get_flag_same _ _ _ (by decide) (by decide)]
      refine ⟨rfl, ?_, rfl, rfl⟩
      rw [Nat.mul_comm 800000]
      rfl
  case vetoRefused =>
    have run := exec_nhVeto id h
    rw [nhVeto_refused (by simpa using other)] at run
    exact runs_nhRefuse run
  case veto =>
    refine runs_answered (exec_nhVeto id h) ?_
    rw [State.answered_rd, State.answered_get, State.answered_nh, ← State.granted_nh s q]
    exact nhVeto_automatic_fields ((congrArg NhSt.prop (State.granted_nh s q)).trans prop) auto

end Sys2Proof.Machine
end

section
/-! Proofs: the drop gates: the start of a test, its end, its strobes and its windows (R263, R264). -/

namespace Sys2Proof.Machine

/-! ## The test in progress -/

@[simp] theorem Dev.gateSt_setGate (d : Dev) (k : Nat) (g : GateSt) : (d.setGate k g).gateSt k = g := tget_tput_same _ _ _ _

theorem Dev.gateSt_congr {d e : Dev} (h : e.nh = d.nh) (k : Nat) : e.gateSt k = d.gateSt k := by rw [Dev.gateSt, Dev.gateSt, h]

theorem Frame.setGate (rs : List Nat) (ps : List Part) (d : Dev) (k : Nat) (g : GateSt) (h : Part.nh ∈ ps) :
    Frame rs ps d (d.setGate k g) :=
  Frame.withNh rs ps d _ h

@[simp] theorem Dev.get_setGate (d : Dev) (k : Nat) (g : GateSt) (a : Nat) (f : Fld) : (d.setGate k g).get a f = d.get a f := rfl

@[simp] theorem State.answered_gateSt (s : State) (q : Req) (a : Nat) (v : Word) (d : Dev) (k : Nat) :
    (s.answered q a v d).dev.gateSt k = d.gateSt k :=
  Dev.gateSt_congr (State.answered_nh ..) k

@[simp] theorem State.granted_gateSt (s : State) (q : Req) (k : Nat) : (s.granted q).gateSt k = s.dev.gateSt k :=
  Dev.gateSt_congr (State.granted_nh ..) k

/-! ## GATE_START (R263) -/

theorem lowest_le {l : List (Nat × Bool)} {n : Nat} (h : ∀ p ∈ l, p.1 ≤ n) : lowest l ≤ n := by
  unfold lowest
  cases found : l.find? (·.2) with
  | none => exact Nat.zero_le n
  | some p => exact h p (List.mem_of_find?_eq_some found)

theorem Dev.gateReason_le (d : Dev) (k c top : Nat) : d.gateReason k c top ≤ 7 := lowest_le (by simp)

/-- The range of nozzles that a START names: one past its last (R263). -/
def Dev.gateTop (d : Dev) (k : Nat) : Nat :=
  d.get (FIR_GATE_RANGE k) FIR_GATE_RANGE.FIRST + d.get (FIR_GATE_RANGE k) FIR_GATE_RANGE.COUNT

/-- The first reason to refuse a START (R263). -/
def Dev.startReason (d : Dev) (k : Nat) : Nat := d.gateReason k (d.get (FIR_GATE_CFG k) FIR_GATE_CFG.CHANNEL) (d.gateTop k)

theorem State.granted_startReason (s : State) (q : Req) (k : Nat) : (s.granted q).startReason k = s.dev.startReason k :=
  State.granted_congr (f := fun d => d.startReason k) (fun _ _ _ => rfl) s q

/-- START alone does not abort, and ABORT alone does not start. -/
theorem exec_gateStart {s : State} {q : Req} {k : Fin 2} (h : Allowed s q (FIR_GATE_CMD k.val)) :
    exec (.gateStart q k) s = .next (s.answered q (FIR_GATE_CMD k.val) 1 (gateStart k.val (s.granted q))) :=
  congrArg Host.Outcome.next (State.devCommand_allowed s q (FIR_GATE_CMD k.val) 1 (gateCmdWrite k.val) h)

theorem exec_gateAbort {s : State} {q : Req} {k : Fin 2} (h : Allowed s q (FIR_GATE_CMD k.val)) :
    exec (.gateAbort q k) s = .next (s.answered q (FIR_GATE_CMD k.val) 2 ((s.granted q).gateAbort k.val false)) :=
  congrArg Host.Outcome.next (State.devCommand_allowed s q (FIR_GATE_CMD k.val) 2 (gateCmdWrite k.val) h)

/-- A test that is refused shows why. -/
def Dev.refuseGate (d : Dev) (k why : Nat) : Dev :=
  (d.put (FIR_GATE_STS k) FIR_GATE_STS.REASON why).put (FIR_GATE_STS k) FIR_GATE_STS.STATE 4

section
variable {d : Dev} {k : Nat} (free : (d.gateSt k).run = false) (active : d.standby = false)
include free active

theorem gateStart_refused (reason : d.startReason k ≠ 0) : gateStart k d = d.refuseGate k (d.startReason k) := by
  have why : d.gateReason k (d.get (FIR_GATE_CFG k) FIR_GATE_CFG.CHANNEL)
    (d.get (FIR_GATE_RANGE k) FIR_GATE_RANGE.FIRST + d.get (FIR_GATE_RANGE k) FIR_GATE_RANGE.COUNT) = d.startReason k := rfl
  unfold gateStart
  simp only [free, active, why, reason, Bool.or_self, Bool.false_eq_true, if_false, ne_eq, not_false_eq_true, if_true]
  rfl

theorem gateStart_accepted (reason : d.startReason k = 0) :
    gateStart k d = d.gateRun k (d.get (FIR_GATE_CFG k) FIR_GATE_CFG.CHANNEL)
      ((List.range (d.get (FIR_GATE_RANGE k) FIR_GATE_RANGE.COUNT)).map (d.get (FIR_GATE_RANGE k) FIR_GATE_RANGE.FIRST + ·)) := by
  have why : d.gateReason k (d.get (FIR_GATE_CFG k) FIR_GATE_CFG.CHANNEL)
    (d.get (FIR_GATE_RANGE k) FIR_GATE_RANGE.FIRST + d.get (FIR_GATE_RANGE k) FIR_GATE_RANGE.COUNT) = d.startReason k := rfl
  unfold gateStart
  simp only [free, active, why, reason, Bool.or_self, Bool.false_eq_true, if_false, ne_eq, not_true_eq_false]

end

theorem Frame.refuseGate (ps : List Part) (d : Dev) (k why : Nat) : Frame [FIR_GATE_STS k] ps d (d.refuseGate k why) :=
  (Frame.put _ _ _ _ _ _ (by simp)).trans (Frame.put _ _ _ _ _ _ (by simp))

theorem Dev.refuseGate_fields (d : Dev) (k : Nat) {why : Nat} (h : why < 16) :
    (d.refuseGate k why).get (FIR_GATE_STS k) FIR_GATE_STS.STATE = 4 ∧
    (d.refuseGate k why).get (FIR_GATE_STS k) FIR_GATE_STS.REASON = why := by
  unfold Dev.refuseGate
  constructor
  · rw [Dev.get_put_same _ _ _ _ (by decide)]; rfl
  · rw [Dev.get_put_other _ _ _ _ _ _ (by decide) (.inr (by decide)), Dev.get_put_same _ _ _ _ (by decide)]
    exact Nat.mod_eq_of_lt h

theorem Frame.gateRun (ps : List Part) (d : Dev) (k c : Nat) (ns : List Nat) (h : Part.nh ∈ ps) :
    Frame [FIR_GATE_STS k] ps d (d.gateRun k c ns) :=
  (Frame.put _ _ _ _ _ _ (by simp)).trans ((Frame.put _ _ _ _ _ _ (by simp)).trans (Frame.setGate _ _ _ _ _ h))

/-- A test of nozzles shows RUN and takes the first of them. -/
theorem Dev.gateRun_fields (d : Dev) (k c : Nat) (ns : List Nat) :
    (d.gateRun k c ns).get (FIR_GATE_STS k) FIR_GATE_STS.STATE = 1 ∧ ((d.gateRun k c ns).gateSt k).run = true ∧
    ((d.gateRun k c ns).gateSt k).chan = c ∧ ((d.gateRun k c ns).gateSt k).noz = ns.headD 0 ∧
    ((d.gateRun k c ns).gateSt k).rest = ns.drop 1 := by
  unfold Dev.gateRun
  rw [Dev.gateSt_setGate]
  refine ⟨?_, rfl, rfl, rfl, rfl⟩
  rw [Dev.get_setGate, Dev.get_put_other _ _ _ _ _ _ (by decide) (.inr (by decide)), Dev.get_put_same _ _ _ _ (by decide)]
  rfl

/-- The nozzles of a range that is not empty: the first, and as many as there are beside it. -/
theorem gateRange_first_and_rest (first : Nat) {count : Nat} (h : 0 < count) :
    ((List.range count).map (first + ·)).headD 0 = first ∧
    (((List.range count).map (first + ·)).drop 1).length + 1 = count := by
  obtain ⟨n, rfl⟩ := Nat.exists_eq_succ_of_ne_zero (Nat.pos_iff_ne_zero.1 h)
  simp [List.range_succ_eq_map]

/-! ## GATE_ABORT (R263) -/

/-- A test that ends ABORTED: its state, no test in progress, and the entry of the nozzle under test cleared. -/
def Dev.cutGate (d : Dev) (k : Nat) : Dev :=
  ((d.put (FIR_GATE_STS k) FIR_GATE_STS.STATE 3).setGate k {}).put (NH_GATE (d.gateSt k).chan ((d.gateSt k).noz / 2))
    ⟨16 * ((d.gateSt k).noz % 2), 16⟩ 0

theorem Dev.gateAbort_alone {d : Dev} {k : Nat} (run : (d.gateSt k).run = true) (proc : d.cal.proc = none) (link : Bool) :
    d.gateAbort k link = d.cutGate k := by
  have test : tget (fun _ => {}) d.nh.gate k = d.gateSt k := rfl
  unfold Dev.gateAbort
  simp only [test, run, Bool.not_true, Bool.false_eq_true, if_false, Dev.put_cal, proc]
  rfl

theorem Frame.cutGate (ps : List Part) (d : Dev) (k : Nat) (h : Part.nh ∈ ps) :
    Frame [FIR_GATE_STS k, NH_GATE (d.gateSt k).chan ((d.gateSt k).noz / 2)] ps d (d.cutGate k) :=
  (Frame.put _ _ _ _ _ _ (by simp)).trans ((Frame.setGate _ _ _ _ _ h).trans (Frame.put _ _ _ _ _ _ (by simp)))

/-- The results of nozzles lie above the units' registers. -/
theorem firGateSts_ne_nhGate (k : Fin 2) (c j : Nat) : FIR_GATE_STS k.val ≠ NH_GATE c j := by
  simp only [FIR_GATE_STS, NH_GATE]; omega

theorem Dev.cutGate_fields (d : Dev) (k : Fin 2) :
    (d.cutGate k.val).get (FIR_GATE_STS k.val) FIR_GATE_STS.STATE = 3 ∧ ((d.cutGate k.val).gateSt k.val).run = false := by
  constructor
  · rw [Dev.cutGate, Dev.get_put_other _ _ _ _ _ _ (by simp only []; omega) (.inl (firGateSts_ne_nhGate k _ _)),
      Dev.get_setGate, Dev.get_put_same _ _ _ _ (by decide)]
    rfl
  · rw [Dev.cutGate, Dev.gateSt_congr (Dev.put_nh ..), Dev.gateSt_setGate]

/-! ## GATE_STROBE (R263) -/

theorem Frame.lvrSend (rs : List Nat) (ps : List Part) (d : Dev) (c : Nat) (x : Lvr) (hh : Part.hcs ∈ ps) (ho : Part.out ∈ ps) :
    Frame rs ps d (d.lvrSend c x) := by
  unfold Dev.lvrSend
  split
  · exact (Frame.emit rs ps _ _ ho).trans (Frame.modHc rs ps _ _ _ hh)
  · exact Frame.refl _ _ _

theorem Frame.testLine (rs : List Nat) (ps : List Part) (d : Dev) (c n v : Nat) (hh : Part.hcs ∈ ps) (ho : Part.out ∈ ps) :
    Frame rs ps d (d.testLine c n v) :=
  (Frame.emit rs ps _ _ ho).trans (Frame.lvrSend rs ps _ _ _ hh ho)

theorem Frame.clipCheck (rs : List Nat) (ps : List Part) (d : Dev) (c : Nat) (trim : Word) (codes : List Nat) (h : WAV_STS c ∈ rs) :
    Frame rs ps d (d.clipCheck c trim codes) :=
  Frame.when _ (Frame.flag rs ps d _ _ h)

/-- A strobe that leaves is counted (R104). -/
def Dev.countStrobe (d : Dev) (c line wfa wfb : Nat) : Dev :=
  (d.emit (.strobe c line (d.strobeWidth c) wfa wfb)).count (HC_FIRE_CNT c) whole 1

/-- A strobe under a guard that has not lapsed: counted, checked for clipping, and its waveforms noted. -/
theorem Dev.issueStrobe_guarded {d : Dev} (c line wfa wfb : Nat) (guard : d.bit BRD_STS BRD_STS.GUARD_OK = true) :
    ∃ trimA trimB codesA codesB f, d.issueStrobe c line wfa wfb =
      (((d.countStrobe c line wfa wfb).clipCheck c trimA codesA).clipCheck c trimB codesB).modHc c f := by
  unfold Dev.issueStrobe
  simp only [guard, Bool.not_true, Bool.false_eq_true, if_false]
  exact ⟨_, _, _, _, _, rfl⟩

section
variable {d : Dev} (c line wfa wfb : Nat) (guard : d.bit BRD_STS BRD_STS.GUARD_OK = true)
include guard

theorem Frame.issueStrobe : Frame [HC_FIRE_CNT c, WAV_STS c] [.hcs, .out] d (d.issueStrobe c line wfa wfb) := by
  obtain ⟨trimA, trimB, codesA, codesB, f, issued⟩ := Dev.issueStrobe_guarded c line wfa wfb guard
  rw [issued]
  exact ((Frame.emit _ _ _ _ (by simp)).trans (Frame.count _ _ _ _ _ _ (by simp))).trans
    ((Frame.clipCheck _ _ _ _ _ _ (by simp)).trans ((Frame.clipCheck _ _ _ _ _ _ (by simp)).trans
      (Frame.modHc _ _ _ _ _ (by simp))))

theorem Dev.get_issueStrobe_fireCnt : (d.issueStrobe c line wfa wfb).get (HC_FIRE_CNT c) whole =
    min (2 ^ 32 - 1) (d.get (HC_FIRE_CNT c) whole + 1) := by
  obtain ⟨trimA, trimB, codesA, codesB, f, issued⟩ := Dev.issueStrobe_guarded c line wfa wfb guard
  have checked := ((Frame.clipCheck [WAV_STS c] [] _ c trimA codesA (by simp)).trans
    (Frame.clipCheck _ _ _ c trimB codesB (by simp))).get_eq (d := d.countStrobe c line wfa wfb) (a := HC_FIRE_CNT c)
      (by simp [HC_FIRE_CNT, WAV_STS]) whole
  rw [issued, Dev.get_modHc, checked, Dev.countStrobe, Dev.get_count_same _ _ _ _ (by decide), Dev.get_emit]
  rfl

end

/-- The test line of the nozzle under test and its strobe (R263). -/
def Dev.testFire (d : Dev) (k : Nat) : Dev :=
  let g := d.gateSt k
  let e := d.testLine g.chan g.noz (d.get (FIR_GATE_CFG k) FIR_GATE_CFG.GVAL)
  e.issueStrobe g.chan 0 ((e.rd (WAV_SEL g.chan)).fld WAV_SEL.WFA) ((e.rd (WAV_SEL g.chan)).fld WAV_SEL.WFB)

section
variable {d : Dev} {k : Nat} (guard : d.bit BRD_STS BRD_STS.GUARD_OK = true)
include guard

theorem Dev.guardOk_testLine (c n v : Nat) : (d.testLine c n v).bit BRD_STS BRD_STS.GUARD_OK = true := by
  rw [Dev.bit, (Frame.testLine [] [.hcs, .out] d c n v (by simp) (by simp)).get_eq (by simp), ← Dev.bit, guard]

theorem Frame.testFire :
    Frame [HC_FIRE_CNT (d.gateSt k).chan, WAV_STS (d.gateSt k).chan] [.hcs, .out] d (d.testFire k) :=
  (Frame.testLine _ _ _ _ _ _ (by simp) (by simp)).trans (Frame.issueStrobe _ _ _ _ (Dev.guardOk_testLine guard _ _ _))

theorem Dev.get_testFire_fireCnt : (d.testFire k).get (HC_FIRE_CNT (d.gateSt k).chan) whole =
    min (2 ^ 32 - 1) (d.get (HC_FIRE_CNT (d.gateSt k).chan) whole + 1) := by
  rw [Dev.testFire, Dev.get_issueStrobe_fireCnt _ _ _ _ (Dev.guardOk_testLine guard _ _ _),
    (Frame.testLine [] [.hcs, .out] d _ _ _ (by simp) (by simp)).get_eq (by simp)]

/-- INTERVAL is a setting of the unit, not of the channel under test. -/
theorem Dev.gateInt_testFire : (d.testFire k).gateInt k = d.gateInt k :=
  congrArg usTicks ((Frame.testFire guard).get_eq
    (by simp only [FIR_GATE_INT, HC_FIRE_CNT, WAV_STS, List.mem_cons, List.not_mem_nil, or_false]; omega) _)

end

section
variable {d : Dev} {k : Nat} (run : (d.gateSt k).run = true) (due : (d.gateSt k).nextAt ≤ d.now)
  (closed : (d.gateSt k).strobeAt = none) (more : (d.gateSt k).strobes < d.get (FIR_GATE_CFG k) FIR_GATE_CFG.REP)
include run due closed more

/-- A strobe of a running test that is due: an inhibit or a lapsed guard ends the test, HOLD puts it off, and else it fires. -/
theorem gateStrobe_due : gateStrobe k d =
    if d.bit FIR_STS FIR_STS.INH_NOW = true ∨ d.bit BRD_STS BRD_STS.GUARD_OK = false then d.gateAbort k false
    else if (d.hc (d.gateSt k).chan).hold then d
    else (d.testFire k).setGate k { d.gateSt k with
      strobes := (d.gateSt k).strobes + 1, strobeAt := some (d.testFire k).now
      nextAt := (d.testFire k).now + (d.testFire k).gateInt k, crossed := false } := by
  unfold gateStrobe
  simp [run, Nat.not_lt.2 due, closed, Nat.not_le.2 more, Dev.testFire]

theorem gateStrobe_inhibited (inhibit : d.bit FIR_STS FIR_STS.INH_NOW = true) : gateStrobe k d = d.gateAbort k false := by
  rw [gateStrobe_due run due closed more, if_pos (.inl inhibit)]

theorem gateStrobe_fires (clear : d.bit FIR_STS FIR_STS.INH_NOW = false)
    (guard : d.bit BRD_STS BRD_STS.GUARD_OK = true) (free : (d.hc (d.gateSt k).chan).hold = false) :
    gateStrobe k d = (d.testFire k).setGate k { d.gateSt k with
      strobes := (d.gateSt k).strobes + 1, strobeAt := some d.now, nextAt := d.now + d.gateInt k, crossed := false } := by
  have now : (d.testFire k).now = d.now := (Frame.testFire guard).2 .now (by simp)
  rw [gateStrobe_due run due closed more, if_neg (by simp [clear, guard]), free, if_neg (by decide), now,
    Dev.gateInt_testFire guard]

end

/-! ## GATE_WINDOW_CLOSE (R264) -/

/-- Without a procedure nothing waits for the end of a test. -/
theorem Dev.calGateDone_none {d : Dev} (k : Nat) (h : d.cal.proc = none) : d.calGateDone k = d := by
  unfold Dev.calGateDone
  rw [h]

section
variable {d : Dev} {k u : Nat} (run : (d.gateSt k).run = true) (strobe : (d.gateSt k).strobeAt = some u)
  (due : u + tenNs (d.get (FIR_GATE_TOF k) FIR_GATE_TOF.TOFMAX) ≤ d.now)
  (settled : d.gatePending k (u + tenNs (d.get (FIR_GATE_TOF k) FIR_GATE_TOF.TOFMAX)) = false)
include run strobe due settled

/-- A window that closes: the nozzle's next repetition, or its judgement. -/
theorem gateWindowClose_due : gateWindowClose k d =
    let g := { d.gateSt k with strobeAt := none, closed := (d.gateSt k).closed + 1 }
    if (d.gateSt k).closed + 1 < d.get (FIR_GATE_CFG k) FIR_GATE_CFG.REP then d.setGate k g else d.gateNozzle k g := by
  unfold gateWindowClose
  simp [run, strobe, Nat.not_lt.2 due, settled]

theorem gateWindowClose_next (proc : d.cal.proc = none)
    (more : (d.gateSt k).closed + 1 < d.get (FIR_GATE_CFG k) FIR_GATE_CFG.REP) :
    (gateWindowClose k d).calGateDone k =
      d.setGate k { d.gateSt k with strobeAt := none, closed := (d.gateSt k).closed + 1 } := by
  rw [gateWindowClose_due run strobe due settled]
  dsimp only
  rw [if_pos more]
  exact Dev.calGateDone_none k proc

theorem gateWindowClose_last (last : d.get (FIR_GATE_CFG k) FIR_GATE_CFG.REP ≤ (d.gateSt k).closed + 1) :
    gateWindowClose k d = d.gateNozzle k { d.gateSt k with strobeAt := none, closed := (d.gateSt k).closed + 1 } := by
  rw [gateWindowClose_due run strobe due settled]
  exact if_neg (Nat.not_lt.2 last)

end

/-! ## The statement -/

/-- Settles O35: each command by the lemma that says what its effect is on a state of the clause. -/
theorem gateCommandsComplete : Obligations.GateCommandsComplete := by
  unfold Obligations.GateCommandsComplete
  refine ⟨fun s q k h free active reason => ?refused, fun s q k h free active nozzles reason => ?starts,
    fun s q k h run proc => ?abort,
    fun s k dt run due closed more inhibit => exec_onDev rfl (gateStrobe_inhibited run due closed more inhibit),
    fun s k dt run due closed more clear guard free =>
      runs_after rfl (gateStrobe_fires run due closed more clear guard free) ?fires,
    fun s k u dt run strobe due settled proc more =>
      runs_after rfl (gateWindowClose_next run strobe due settled proc more) ?closes,
    fun s k u dt run strobe due settled last =>
      exec_onDev rfl (congrArg (fun d => d.calGateDone k.val) (gateWindowClose_last run strobe due settled last))⟩
  case refused =>
    have run := exec_gateStart h
    rw [gateStart_refused (by rwa [State.granted_gateSt]) (by rwa [State.granted_standby])
      (by rw [State.granted_startReason]; exact reason), State.granted_startReason] at run
    refine runs_answered run ⟨Frame.answered _ _ (by simp) (by simp) (Frame.refuseGate _ _ _ _), ?_⟩
    rw [State.answered_get, State.answered_get]
    exact Dev.refuseGate_fields _ _ (Nat.lt_of_le_of_lt (Dev.gateReason_le ..) (by decide))
  case starts =>
    have run := exec_gateStart h
    rw [gateStart_accepted (by rwa [State.granted_gateSt]) (by rwa [State.granted_standby])
      (by rw [State.granted_startReason]; exact reason), State.granted_get, State.granted_get, State.granted_get] at run
    obtain ⟨first, others⟩ := gateRange_first_and_rest (s.dev.get (FIR_GATE_RANGE k.val) FIR_GATE_RANGE.FIRST) nozzles
    refine runs_answered run ⟨Frame.answered _ _ (by simp) (by simp) (Frame.gateRun _ _ _ _ _ (by simp)), ?_⟩
    obtain ⟨state, running, chan, noz, rest⟩ := (s.granted q).gateRun_fields k.val
      (s.dev.get (FIR_GATE_CFG k.val) FIR_GATE_CFG.CHANNEL)
      ((List.range (s.dev.get (FIR_GATE_RANGE k.val) FIR_GATE_RANGE.COUNT)).map
        (s.dev.get (FIR_GATE_RANGE k.val) FIR_GATE_RANGE.FIRST + ·))
    rw [State.answered_get, State.answered_gateSt]
    exact ⟨state, running, chan, noz.trans first, by rw [rest, others]⟩
  case abort =>
    have cut := exec_gateAbort h
    rw [Dev.gateAbort_alone (by rwa [State.granted_gateSt]) (by rwa [State.granted_cal])] at cut
    have frame := Frame.cutGate [.nh, .host, .out] (s.granted q) k.val (by simp)
    rw [State.granted_gateSt] at frame
    refine runs_answered cut ⟨Frame.answered _ _ (by simp) (by simp) frame, ?_⟩
    rw [State.answered_get, State.answered_gateSt]
    exact Dev.cutGate_fields _ k
  case fires =>
    refine ⟨?_, by rw [Dev.gateSt_setGate], by rw [Dev.gateSt_setGate], by rw [Dev.gateSt_setGate], ?_⟩
    · exact ((Frame.testFire guard).mono (fun _ h => h) (by simp)).trans (Frame.setGate _ _ _ _ _ (by simp))
    · rw [Dev.get_setGate]
      exact Dev.get_testFire_fireCnt guard
  case closes =>
    exact ⟨Frame.setGate _ _ _ _ _ (by simp), by rw [Dev.gateSt_setGate], by rw [Dev.gateSt_setGate],
      by rw [Dev.gateSt_setGate]; exact run⟩

end Sys2Proof.Machine
end

section
/-! Proofs: the Keel store: bytes written and read back, requests for commits, the nozzle and device records, and the key slots
(R274, R320, R324, R325, R328, R329). -/

namespace Sys2Proof.Machine

/-! ## Numbers as bytes -/

@[simp] theorem length_leBytes (n : Nat) : ∀ x, (leBytes n x).length = n := by
  induction n with
  | zero => exact fun _ => rfl
  | succ n ih => exact fun x => congrArg (· + 1) (ih (x / 256))

/-- Lists of one length each, one after the other. -/
theorem length_flatMap_const {α β : Type} {f : α → List β} {n : Nat} (h : ∀ x, (f x).length = n) (l : List α) :
    (l.flatMap f).length = n * l.length := by
  induction l with
  | nil => rfl
  | cons x l ih => rw [List.flatMap_cons, List.length_append, h, ih, List.length_cons, Nat.mul_succ, Nat.add_comm]

theorem leNat_leBytes (n : Nat) : ∀ x, leNat (leBytes n x) = x % 256 ^ n := by
  induction n with
  | zero => exact fun x => (Nat.mod_one x).symm
  | succ n ih =>
    intro x
    rw [leBytes, leNat, ih, BitVec.toNat_ofNat, Nat.pow_succ' (m := 256) (n := n)]
    exact Nat.mod_mul.symm

/-- A message that begins with the bytes of a number has the number as its first field. -/
theorem leField_leBytes (n x : Nat) (t : List Byte) : leField (leBytes n x ++ t) 0 n = x % 256 ^ n := by
  rw [leField, List.drop_zero, List.take_left' (length_leBytes n x), leNat_leBytes]

theorem reflectBits_lt (n : Nat) : ∀ x, reflectBits n x < 2 ^ n := by
  induction n with
  | zero => exact fun _ => Nat.one_pos
  | succ n ih =>
    intro x
    have rest := ih (x / 2)
    have top : x % 2 * 2 ^ n ≤ 1 * 2 ^ n := Nat.mul_le_mul_right _ (by omega)
    rw [reflectBits, Nat.pow_succ]
    omega

/-- A CRC-32C is a number of 32 bits. -/
theorem crc32c_lt (bs : List Byte) : crc32c bs < 2 ^ 32 :=
  Nat.xor_lt_two_pow (reflectBits_lt 32 _) (by decide)

/-! ## Bytes of the store (R320) -/

theorem tget_putBytes (bs : List Byte) : ∀ (t : List (Nat × Byte)) (a k x : Nat),
    tget zeroByte ((bs.zipIdx k).foldl (fun t p => tput zeroByte t (a + p.2) p.1) t) x =
      if a + k ≤ x ∧ x < a + k + bs.length then bs.getD (x - (a + k)) 0 else tget zeroByte t x := by
  induction bs with
  | nil => intro t a k x; rw [List.length_nil, if_neg (by omega)]; rfl
  | cons b bs ih =>
    intro t a k x
    rw [List.zipIdx_cons, List.foldl_cons, ih, tget_tput, List.length_cons]
    by_cases first : x = a + k
    · rw [if_neg (by omega), if_pos first, if_pos (by omega), first, Nat.sub_self, List.getD_cons_zero]
    · by_cases later : a + (k + 1) ≤ x ∧ x < a + (k + 1) + bs.length
      · have place : x - (a + k) = x - (a + (k + 1)) + 1 := by omega
        rw [if_pos later, if_pos (by omega), place, List.getD_cons_succ]
      · rw [if_neg later, if_neg first, if_neg (by omega)]

/-- A byte after a write of bytes: what was written there, or what was there before. -/
theorem Dev.keelByte_keelPut (d : Dev) (a : Nat) (bs : List Byte) (x : Nat) :
    (d.keelPut a bs).keelByte x = if a ≤ x ∧ x < a + bs.length then bs.getD (x - a) 0 else d.keelByte x :=
  tget_putBytes bs d.cal.keel a 0 x

/-- Bytes apart from those written read as before. -/
theorem Dev.keelBytes_keelPut_apart (d : Dev) (a : Nat) (bs : List Byte) {x n : Nat} (h : x + n ≤ a ∨ a + bs.length ≤ x) :
    (d.keelPut a bs).keelBytes x n = d.keelBytes x n := by
  refine List.map_congr_left fun i hi => ?_
  have below := List.mem_range.1 hi
  rw [Dev.keelByte_keelPut, if_neg (by omega)]

/-- Bytes among those written read as they were written. -/
theorem Dev.keelBytes_keelPut_within (d : Dev) (a : Nat) (bs : List Byte) {off n : Nat} (h : off + n ≤ bs.length) :
    (d.keelPut a bs).keelBytes (a + off) n = (bs.drop off).take n := by
  refine List.ext_getElem (by simp [Dev.keelBytes]; omega) fun i hi _ => ?_
  have below : i < n := by simpa [Dev.keelBytes] using hi
  have place : a + off + i - a = off + i := by omega
  simp only [Dev.keelBytes, List.getElem_map, List.getElem_range, List.getElem_take, List.getElem_drop]
  rw [Dev.keelByte_keelPut, if_pos (by omega), place, List.getD_eq_getElem?_getD, List.getElem?_eq_getElem (by omega),
    Option.getD_some]

theorem Dev.keelBytes_take (d : Dev) (a : Nat) {m n : Nat} (h : m ≤ n) : (d.keelBytes a n).take m = d.keelBytes a m := by
  rw [Dev.keelBytes, ← List.map_take, List.take_range, Nat.min_eq_left h, Dev.keelBytes]

/-- A field of bytes read is the number in the bytes at its place. -/
theorem Dev.leField_keelBytes (d : Dev) (a : Nat) {off m n : Nat} (h : off + m ≤ n) :
    leField (d.keelBytes a n) off m = leNat (d.keelBytes (a + off) m) := by
  refine congrArg leNat (List.ext_getElem (by simp [Dev.keelBytes]; omega) fun i _ _ => ?_)
  simp [Dev.keelBytes, Nat.add_assoc]

theorem Frame.keelPut (rs : List Nat) (ps : List Part) (d : Dev) (a : Nat) (bs : List Byte) (h : Part.cal ∈ ps) :
    Frame rs ps d (d.keelPut a bs) :=
  Frame.withCal rs ps d _ h

/-! ## Requests for commits (R324) -/

theorem Dev.cal_when_flag (d : Dev) (c : Bool) (a : Nat) (f : Fld) : (d.when c (·.flag a f)).cal = d.cal := by
  cases c <;> rfl

/-- A request writes DEFER at most, and puts its record at the end of what waits. -/
theorem Frame.keelRequest (ps : List Part) (d : Dev) (rid : Nat) (body : List Byte) (h : Part.cal ∈ ps) :
    Frame [KEEL_EVT] ps d (d.keelRequest rid body) :=
  (Frame.withCal _ _ d _ h).trans ((Frame.withCal _ _ _ _ h).trans (Frame.when _ (Frame.flag _ _ _ _ _ (by simp))))

theorem Dev.keelRequest_cal (d : Dev) (rid : Nat) (body : List Byte) :
    ∃ l hold, (d.keelRequest rid body).cal = { d.cal with commits := l ++ [⟨rid, body, hold⟩] } := by
  unfold Dev.keelRequest
  exact ⟨_, _, Dev.cal_when_flag ..⟩

/-- The record waits, and nothing else of the store changes. -/
theorem Dev.keelRequest_fields (d : Dev) (rid : Nat) (body : List Byte) :
    (∃ r ∈ (d.keelRequest rid body).cal.commits, r.rid = rid ∧ r.body = body) ∧
    (d.keelRequest rid body).cal.device = d.cal.device ∧ (d.keelRequest rid body).cal.deviceAt = d.cal.deviceAt := by
  obtain ⟨l, hold, cal⟩ := d.keelRequest_cal rid body
  rw [cal]
  exact ⟨⟨⟨rid, body, hold⟩, List.mem_append_right _ (List.mem_singleton_self _), rfl, rfl⟩, rfl, rfl⟩

/-- KEEL_DEFER_END of a record of which no request is ready releases its deferred ones once the second has passed. -/
theorem keelDeferEnd_due {d : Dev} {rid u : Nat} (last : d.lastCommit rid = some u) (due : u + secTicks 1 ≤ d.now)
    (supply : d.pwr.uvWarn = false) (test : d.test.mramRun = false)
    (deferred : ∀ r ∈ d.cal.commits, r.rid = rid → r.deferred = true) :
    keelDeferEnd rid d = { d with cal := { d.cal with
      commits := d.cal.commits.map (fun r => if r.rid = rid then { r with deferred := false } else r) } } := by
  have noneReady : d.cal.commits.any (fun r => r.rid == rid && !r.deferred) = false := by
    simpa using fun r hr same => deferred r hr same
  unfold keelDeferEnd
  rw [last, supply, test, noneReady]
  simp [due]

theorem keelDeferEnd_early {d : Dev} {rid u : Nat} (last : d.lastCommit rid = some u) (early : d.now < u + secTicks 1) :
    keelDeferEnd rid d = d := by
  unfold keelDeferEnd
  rw [last]
  simp [Nat.not_le.2 early]

/-! ## The nozzle record (R274, R325) -/

/-- The body of the nozzle record. -/
def nozzleBody (kept : List (Nat × Nat × Nat × Nat)) : List Byte :=
  leBytes 2 kept.length ++ leBytes 2 0 ++
    kept.flatMap (fun x => leBytes 1 x.1 ++ leBytes 1 (x.2.2.1 + 8 * x.2.2.2) ++ leBytes 2 x.2.1)

theorem length_nozzleBody (kept : List (Nat × Nat × Nat × Nat)) : (nozzleBody kept).length = 4 + 4 * kept.length := by
  rw [nozzleBody, List.length_append, length_flatMap_const (n := 4) fun _ => by simp only [List.length_append, length_leBytes]]
  simp only [List.length_append, length_leBytes]

theorem leField_nozzleBody {kept : List (Nat × Nat × Nat × Nat)} (h : kept.length ≤ 8192) :
    leField (nozzleBody kept) 0 2 = kept.length := by
  rw [nozzleBody, List.append_assoc, leField_leBytes, Nat.mod_eq_of_lt (by omega)]

/-- The nozzle record is written: nothing is due until the next change or job end. -/
def Dev.recordWritten (d : Dev) : Dev := { d with nh := { d.nh with recordAt := d.now, recordDue := false, recordNow := false } }

theorem nozzleRecordWrite_idle {d : Dev} (now : d.nh.recordNow = false) (due : d.nh.recordDue = false) :
    nozzleRecordWrite d = d := by
  simp [nozzleRecordWrite, now, due]

theorem nozzleRecordWrite_now {d : Dev} (now : d.nh.recordNow = true) (fits : d.keptNozzles.length ≤ 8192) :
    nozzleRecordWrite d = d.recordWritten.keelRequest 0x60 (nozzleBody d.keptNozzles) := by
  have all : keepFirst d.keptNozzles = d.keptNozzles := if_pos fits
  have noneLost : decide (8192 < d.keptNozzles.length) = false := decide_eq_false (Nat.not_lt.2 fits)
  unfold nozzleRecordWrite
  dsimp only
  rw [all, noneLost, now]
  rfl

/-! ## The device record (R325) -/

/-- The hour that has passed is counted in ON_HOURS. -/
def Dev.countHour (d : Dev) : Dev :=
  { d with cal := { d.cal with
    device := [d.cal.device.getD 0 0, (d.cal.device.getD 1 0 + 1) % 2 ^ 32, d.cal.device.getD 2 0, d.cal.device.getD 3 0]
    deviceAt := d.now } }

theorem deviceRecordCommit_early {d : Dev} (early : d.now < d.cal.deviceAt + secTicks 3600) : deviceRecordCommit d = d :=
  if_pos early

theorem deviceRecordCommit_due {d : Dev} (due : d.cal.deviceAt + secTicks 3600 ≤ d.now) :
    deviceRecordCommit d = d.countHour.keelRequest 0x01 d.countHour.deviceBody :=
  if_neg (Nat.not_lt.2 due)

/-! ## Writes that end in a status -/

/-- An allowed write whose effect ends in another status than success: no forwarding, and the report. -/
theorem State.statusCommand_failed {s : State} {q : Req} {a : Nat} {v : Word} {f : Word → Dev → Dev × Status} {st : Status}
    {d : Dev} (h : Allowed s q a) (failed : st ≠ .ok) (effect : f v (s.granted q) = (d, st)) :
    s.statusCommand q a v f = { s with dev := d.emit (.access q.port.val st.code 0) } := by
  unfold Allowed at h
  unfold State.granted at effect
  simp [State.statusCommand, State.write, h, State.report, State.onDev, effect, failed]

/-- The same for an effect that succeeds, by what it leaves. -/
theorem exec_statusCommand {i : Instr} {s : State} {q : Req} {a : Nat} {v : Word} {f : Word → Dev → Dev × Status} {d : Dev}
    (hi : exec i s = .next (s.statusCommand q a v f)) (h : Allowed s q a) (effect : f v (s.granted q) = (d, .ok)) :
    exec i s = .next (s.answered q a v d) := by
  rw [hi, State.statusCommand_ok s q a v f h (by rw [effect]), effect]

theorem State.granted_of_not_holder {s : State} {q : Req} (h : s.dev.isHolder q = false) : s.granted q = s.dev := by
  rw [State.granted, Dev.renew_eq, h, if_neg (by decide)]

/-! ## Key slots (R328) -/

/-- The state mark of a slot and the check of its key. -/
def Dev.keyMark (d : Dev) (s : Nat) : Nat := leNat (d.keelBytes (64 * s + 32) 4)
def Dev.keyCheck (d : Dev) (s : Nat) : Nat := leNat (d.keelBytes (64 * s + 36) 4)

/-- Every byte of a slot is 0. -/
def Dev.slotBlank (d : Dev) (s : Nat) : Bool := (d.keelBytes (64 * s) 64).all (· == 0)

theorem Dev.keyState_eq (d : Dev) (s : Nat) : d.keyState s =
    if d.keyMark s = 0 then (if d.slotBlank s then 0 else 3)
    else if d.keyMark s = 0x4B455931 ∧ crc32c (d.keyOfSlot s) = d.keyCheck s then 1
    else if d.keyMark s = 0x5245564B ∧ crc32c (d.keyOfSlot s) = d.keyCheck s then 2
    else 3 := by
  unfold Dev.keyState
  dsimp only
  rw [Dev.leField_keelBytes _ _ (by decide), Dev.leField_keelBytes _ _ (by decide), Dev.keelBytes_take _ _ (by decide)]
  simp only [Bool.and_eq_true, decide_eq_true_eq]
  rfl

theorem Dev.slotBlank_of_empty {d : Dev} {s : Nat} (h : d.keyState s = 0) : d.slotBlank s = true := by
  rw [Dev.keyState_eq] at h
  cases blank : d.slotBlank s with
  | true => rfl
  | false =>
    rw [blank] at h
    split at h
    · cases h
    · split at h
      · cases h
      · split at h <;> cases h

/-- A WRITTEN slot holds a key and its check. -/
theorem Dev.keyCheck_of_written {d : Dev} {s : Nat} (h : d.keyState s = 1) : crc32c (d.keyOfSlot s) = d.keyCheck s := by
  rw [Dev.keyState_eq] at h
  split at h
  · split at h <;> cases h
  · split at h
    · next written => exact written.2
    · split at h <;> cases h

theorem Dev.keyState_of_written {d : Dev} {s : Nat} (mark : d.keyMark s = 0x4B455931)
    (check : crc32c (d.keyOfSlot s) = d.keyCheck s) : d.keyState s = 1 := by
  rw [Dev.keyState_eq, mark, if_neg (by decide), if_pos ⟨rfl, check⟩]

theorem Dev.keyState_of_revoked {d : Dev} {s : Nat} (mark : d.keyMark s = 0x5245564B)
    (check : crc32c (d.keyOfSlot s) = d.keyCheck s) : d.keyState s = 2 := by
  rw [Dev.keyState_eq, mark, if_neg (by decide), if_neg (by simp), if_pos ⟨rfl, check⟩]

/-- The key in KEEL_KEY_DATA. -/
def Dev.keyData (d : Dev) : List Byte := (List.range 8).flatMap (fun j => leBytes 4 (d.rdN (KEEL_KEY_DATA j)))

theorem Dev.length_keyData (d : Dev) : d.keyData.length = 32 := by
  rw [Dev.keyData, length_flatMap_const (n := 4) (fun _ => length_leBytes ..), List.length_range]

/-- A key, the mark of a WRITTEN slot and the key's check. -/
def Dev.writeKey (d : Dev) (s : Nat) : Dev :=
  d.keelPut (64 * s) (d.keyData ++ leBytes 4 0x4B455931 ++ leBytes 4 (crc32c d.keyData))

theorem Dev.writeKey_fields (d : Dev) (s : Nat) : (d.writeKey s).keyOfSlot s = d.keyData ∧
    (d.writeKey s).keyMark s = 0x4B455931 ∧ (d.writeKey s).keyCheck s = crc32c d.keyData := by
  have len := d.length_keyData
  have key : (d.writeKey s).keelBytes (64 * s + 0) 32 = d.keyData := by
    rw [Dev.writeKey, Dev.keelBytes_keelPut_within _ _ _ (by simp [len]), List.append_assoc, List.drop_zero, List.take_left' len]
  have mark : (d.writeKey s).keelBytes (64 * s + 32) 4 = leBytes 4 0x4B455931 := by
    rw [Dev.writeKey, Dev.keelBytes_keelPut_within _ _ _ (by simp [len]), List.append_assoc, List.drop_left' len,
      List.take_left' (length_leBytes ..)]
  have check : (d.writeKey s).keelBytes (64 * s + 36) 4 = leBytes 4 (crc32c d.keyData) := by
    rw [Dev.writeKey, Dev.keelBytes_keelPut_within _ _ _ (by simp [len]), List.drop_left' (by simp [len]),
      List.take_of_length_le (by simp)]
  refine ⟨key, ?_, ?_⟩
  · rw [Dev.keyMark, mark]; decide
  · rw [Dev.keyCheck, check, leNat_leBytes]
    exact Nat.mod_eq_of_lt (crc32c_lt _)

/-- The mark of a REVOKED slot. -/
def Dev.markRevoked (d : Dev) (s : Nat) : Dev := d.keelPut (64 * s + 32) (leBytes 4 0x5245564B)

theorem Dev.markRevoked_fields (d : Dev) (s : Nat) : (d.markRevoked s).keyOfSlot s = d.keyOfSlot s ∧
    (d.markRevoked s).keyMark s = 0x5245564B ∧ (d.markRevoked s).keyCheck s = d.keyCheck s := by
  have mark : (d.markRevoked s).keelBytes (64 * s + 32 + 0) 4 = leBytes 4 0x5245564B := by
    rw [Dev.markRevoked, Dev.keelBytes_keelPut_within _ _ _ (by simp), List.drop_zero, List.take_of_length_le (by simp)]
  refine ⟨Dev.keelBytes_keelPut_apart _ _ _ (.inl (Nat.le_refl _)), ?_,
    congrArg leNat (Dev.keelBytes_keelPut_apart _ _ _ (.inr (by simp)))⟩
  rw [Dev.keyMark, ← Nat.add_zero (64 * s + 32), mark]
  decide

/-- The events are no part of the store. -/
@[simp] theorem Dev.keyState_flag (d : Dev) (a : Nat) (f : Fld) (s : Nat) : (d.flag a f).keyState s = d.keyState s := rfl
@[simp] theorem Dev.keyOfSlot_flag (d : Dev) (a : Nat) (f : Fld) (s : Nat) : (d.flag a f).keyOfSlot s = d.keyOfSlot s := rfl

theorem Dev.keelBytes_congr {d e : Dev} (h : e.cal = d.cal) (a n : Nat) : e.keelBytes a n = d.keelBytes a n := by
  simp only [Dev.keelBytes, Dev.keelByte, h]

theorem Dev.keyOfSlot_congr {d e : Dev} (h : e.cal = d.cal) (s : Nat) : e.keyOfSlot s = d.keyOfSlot s :=
  Dev.keelBytes_congr h _ _

theorem Dev.keyState_congr {d e : Dev} (h : e.cal = d.cal) (s : Nat) : e.keyState s = d.keyState s :=
  congrArg (fun c => Dev.keyState { d with cal := c } s) h

@[simp] theorem State.answered_cal (s : State) (q : Req) (a : Nat) (v : Word) (d : Dev) : (s.answered q a v d).dev.cal = d.cal :=
  Dev.forward_cal d q a v

theorem State.granted_keyData (s : State) (q : Req) : (s.granted q).keyData = s.dev.keyData :=
  State.granted_congr (f := Dev.keyData) (fun _ _ _ => rfl) s q

/-! ## Writes of KEEL_KEY_CMD (R329) -/

/-- What the word of KEY_PROGRAM (`op` 1) and KEY_REVOKE (2) reads as. -/
theorem keyWord_fields {slot op confirm : Nat} (hs : slot < 4) (ho : op < 4) (hc : confirm < 65536) :
    (keyWord slot op confirm).fld KEEL_KEY_CMD.CONFIRM = confirm ∧ (keyWord slot op confirm).fld KEEL_KEY_CMD.SLOT = slot ∧
    (keyWord slot op confirm).bit 0 = decide (op % 2 = 1) ∧ (keyWord slot op confirm).bit 1 = decide (op / 2 = 1) := by
  have value : (keyWord slot op confirm).toNat = confirm * 65536 + slot * 16 + op := by
    rw [keyWord, BitVec.toNat_ofNat, Nat.mod_eq_of_lt (by omega)]
  simp only [Word.fld, Word.bit, value, Nat.testBit_eq_decide_div_mod_eq, KEEL_KEY_CMD.CONFIRM, KEEL_KEY_CMD.SLOT,
    decide_eq_decide]
  omega

/-- Any port but JTAG and the holder's SERVICE is refused. -/
theorem keyCmdWrite_denied {q : Req} (v : Word) {d : Dev} (jtag : q.port.val ≠ 6)
    (service : q.port.val ≠ 5 ∨ d.isHolder q = false) : keyCmdWrite q v d = (d, .access) := by
  have other : (decide (q.port.val = 6) || (decide (q.port.val = 5) && d.isHolder q)) = false := by
    obtain h | h := service <;> simp [jtag, h]
  simp [keyCmdWrite, other]

section
variable {q : Req} {slot confirm : Nat} (d : Dev) (jtag : q.port.val = 6) (hs : slot < 4) (hc : confirm < 65536)
include jtag hs hc

theorem keyCmdWrite_program : keyCmdWrite q (keyWord slot 1 confirm) d =
    (if confirm = 0x4B59 ∧ d.slotBlank slot = true then (d.writeKey slot).flag KEEL_EVT KEEL_EVT.KEYPROG
      else d.flag KEEL_EVT KEEL_EVT.KEYREJ, .ok) := by
  obtain ⟨confirmRead, slotRead, bit0, bit1⟩ := keyWord_fields (op := 1) hs (by decide) hc
  have accepted : (decide (confirm = 0x4B59) && (true != false) && d.slotBlank slot) =
      decide (confirm = 0x4B59 ∧ d.slotBlank slot = true) := by simp
  have blank : (d.keelBytes (64 * slot) 64).all (· == 0) = d.slotBlank slot := rfl
  have program : (keyWord slot 1 confirm).bit 0 = true := bit0
  have revoke : (keyWord slot 1 confirm).bit 1 = false := bit1
  simp only [keyCmdWrite, jtag, confirmRead, slotRead, program, revoke, blank, if_true, accepted]
  by_cases accept : confirm = 0x4B59 ∧ d.slotBlank slot = true
  · rw [if_pos accept, decide_eq_true accept]; rfl
  · rw [if_neg accept, decide_eq_false accept]; rfl

theorem keyCmdWrite_revoke : keyCmdWrite q (keyWord slot 2 confirm) d =
    (if confirm = 0x4B59 ∧ d.keyState slot = 1 then (d.markRevoked slot).flag KEEL_EVT KEEL_EVT.KEYPROG
      else d.flag KEEL_EVT KEEL_EVT.KEYREJ, .ok) := by
  obtain ⟨confirmRead, slotRead, bit0, bit1⟩ := keyWord_fields (op := 2) hs (by decide) hc
  have accepted : (decide (confirm = 0x4B59) && (false != true) && d.keyState slot == 1) =
      decide (confirm = 0x4B59 ∧ d.keyState slot = 1) := by rw [Bool.eq_iff_iff]; simp
  have program : (keyWord slot 2 confirm).bit 0 = false := bit0
  have revoke : (keyWord slot 2 confirm).bit 1 = true := bit1
  simp only [keyCmdWrite, jtag, confirmRead, slotRead, program, revoke, Bool.false_eq_true, if_false, accepted]
  by_cases accept : confirm = 0x4B59 ∧ d.keyState slot = 1
  · rw [if_pos accept, decide_eq_true accept]; rfl
  · rw [if_neg accept, decide_eq_false accept]; rfl

end

section
variable {s : State} {q : Req} {slot : Fin 4} (h : Allowed s q KEEL_KEY_CMD)
include h

/-- A write of KEEL_KEY_CMD that is denied reports ACCESS and does nothing else. -/
theorem runs_keyCmd_denied {i : Instr} {v : Word} (hi : exec i s = .next (s.statusCommand q KEEL_KEY_CMD v (keyCmdWrite q)))
    (jtag : q.port.val ≠ 6) (service : q.port.val ≠ 5 ∨ s.dev.isHolder q = false) :
    Runs i s fun t => t.cal = s.dev.cal ∧ (∀ a, t.rd a = s.dev.rd a) ∧
      ∃ n, t.lastOut = some (.access q.port.val (Status.code .access) n) := by
  have service' : q.port.val ≠ 5 ∨ (s.granted q).isHolder q = false :=
    service.imp_right fun noHolder => by rw [State.granted_of_not_holder noHolder, noHolder]
  rw [State.statusCommand_failed h (by decide) (keyCmdWrite_denied v jtag service')] at hi
  exact ⟨_, hi, rfl, rfl, State.granted_cal .., fun a => Dev.rd_renew .., 0, Dev.lastOut_emit _ _⟩

/-- A write of KEEL_KEY_CMD that is rejected shows it and changes no byte of the store. -/
theorem runs_keyCmd_rejected {i : Instr} {v : Word} (hi : exec i s = .next (s.statusCommand q KEEL_KEY_CMD v (keyCmdWrite q)))
    (effect : keyCmdWrite q v (s.granted q) = ((s.granted q).flag KEEL_EVT KEEL_EVT.KEYREJ, .ok)) :
    Runs i s fun t => Frame [KEEL_EVT] [.host, .out] s.dev t ∧ t.get KEEL_EVT KEEL_EVT.KEYREJ = 1 := by
  refine runs_answered (exec_statusCommand hi h effect)
    ⟨Frame.answered _ _ (by simp) (by simp) (Frame.flag _ _ _ _ _ (by simp)), ?_⟩
  rw [State.answered_get, Dev.get_flag_same _ _ _ (by decide) (by decide)]

variable (jtag : q.port.val = 6)
include jtag

theorem exec_keyProgram (empty : s.dev.keyState slot.val = 0) :
    exec (.keyProgram q slot 0x4B59) s = .next (s.answered q KEEL_KEY_CMD (keyWord slot.val 1 0x4B59)
      (((s.granted q).writeKey slot.val).flag KEEL_EVT KEEL_EVT.KEYPROG)) := by
  have blank := Dev.slotBlank_of_empty ((Dev.keyState_congr (State.granted_cal s q) slot.val).trans empty)
  have effect := keyCmdWrite_program (s.granted q) (confirm := 0x4B59) jtag slot.isLt (by decide)
  rw [if_pos ⟨rfl, blank⟩] at effect
  exact exec_statusCommand rfl h effect

theorem exec_keyRevoke (written : s.dev.keyState slot.val = 1) :
    exec (.keyRevoke q slot 0x4B59) s = .next (s.answered q KEEL_KEY_CMD (keyWord slot.val 2 0x4B59)
      (((s.granted q).markRevoked slot.val).flag KEEL_EVT KEEL_EVT.KEYPROG)) := by
  have state := (Dev.keyState_congr (State.granted_cal s q) slot.val).trans written
  have effect := keyCmdWrite_revoke (s.granted q) (confirm := 0x4B59) jtag slot.isLt (by decide)
  rw [if_pos ⟨rfl, state⟩] at effect
  exact exec_statusCommand rfl h effect

end

/-- A change of a key slot that succeeds: its bytes, KEYPROG, and nothing else. -/
theorem Frame.keyChange {s : State} {q : Req} {v : Word} {a : Nat} (bs : List Byte) :
    Frame [KEEL_EVT] [.cal, .host, .out] s.dev
      (s.answered q KEEL_KEY_CMD v (((s.granted q).keelPut a bs).flag KEEL_EVT KEEL_EVT.KEYPROG)).dev :=
  Frame.answered _ _ (by simp) (by simp) ((Frame.keelPut _ _ _ _ _ (by simp)).trans (Frame.flag _ _ _ _ _ (by simp)))

/-! ## The statement -/

/-- Settles O38: each command by the lemma that says what its effect is on a state of the clause. -/
theorem keelCommandsComplete : Obligations.KeelCommandsComplete := by
  unfold Obligations.KeelCommandsComplete
  refine ⟨fun s dt now due => exec_unchanged rfl (nozzleRecordWrite_idle now due),
    fun s dt now fits => runs_after rfl (nozzleRecordWrite_now now fits) ?record,
    fun s rid u dt last due supply test deferred => runs_after rfl (keelDeferEnd_due last due supply test deferred) ?release,
    fun s rid u dt last early => exec_unchanged rfl (keelDeferEnd_early last early),
    fun s dt early => exec_unchanged rfl (deviceRecordCommit_early early),
    fun s dt due => runs_after rfl (deviceRecordCommit_due due) ?device,
    fun s q slot confirm h jtag service i hi => ?denied, fun s q slot confirm h jtag other i hi => ?rejected,
    fun s q slot h jtag empty => runs_answered (exec_keyProgram h jtag empty) ⟨Frame.keyChange _, ?program⟩,
    fun s q slot h jtag written => runs_answered (exec_keyRevoke h jtag written) ⟨Frame.keyChange _, ?revoke⟩⟩
  case record =>
    obtain ⟨⟨r, waits, rid, body⟩, -, -⟩ :=
      (s.after dt).recordWritten.keelRequest_fields 0x60 (nozzleBody (s.after dt).keptNozzles)
    have request := Frame.keelRequest [.cal] (s.after dt).recordWritten 0x60 (nozzleBody (s.after dt).keptNozzles) (by simp)
    rw [request.2 .nh (by simp)]
    refine ⟨(Frame.withNh _ _ _ _ (by simp)).trans (request.mono (fun _ h => h) (by simp)), rfl, rfl, rfl, r, waits, rid, ?_⟩
    rw [body]
    exact ⟨leField_nozzleBody fits, length_nozzleBody _⟩
  case release =>
    refine ⟨Frame.withCal _ _ _ _ (by simp), rfl, fun r hr same => ?_, List.length_map ..⟩
    obtain ⟨r', -, rfl⟩ := List.mem_map.1 hr
    split at same
    · next own => rw [if_pos own]
    · next other => exact absurd same other
  case device =>
    obtain ⟨⟨r, waits, rid, body⟩, device, deviceAt⟩ :=
      (s.after dt).countHour.keelRequest_fields 0x01 (s.after dt).countHour.deviceBody
    refine ⟨(Frame.withCal _ _ _ _ (by simp)).trans (Frame.keelRequest _ _ _ _ (by simp)), ?_⟩
    rw [device, deviceAt]
    exact ⟨rfl, rfl, rfl, r, waits, rid, body⟩
  case denied =>
    obtain rfl | rfl : i = .keyProgram q slot confirm ∨ i = .keyRevoke q slot confirm := by simpa using hi
    · exact runs_keyCmd_denied h rfl jtag service
    · exact runs_keyCmd_denied h rfl jtag service
  case rejected =>
    obtain rfl | rfl : i = .keyProgram q slot confirm ∨ i = .keyRevoke q slot confirm := by simpa using hi
    · have effect := keyCmdWrite_program (s.granted q) jtag slot.isLt confirm.isLt
      rw [if_neg (fun both => other both.1)] at effect
      exact runs_keyCmd_rejected h rfl effect
    · have effect := keyCmdWrite_revoke (s.granted q) jtag slot.isLt confirm.isLt
      rw [if_neg (fun both => other both.1)] at effect
      exact runs_keyCmd_rejected h rfl effect
  case program =>
    obtain ⟨key, mark, check⟩ := (s.granted q).writeKey_fields slot.val
    have cal := State.answered_cal s q KEEL_KEY_CMD (keyWord slot.val 1 0x4B59)
      (((s.granted q).writeKey slot.val).flag KEEL_EVT KEEL_EVT.KEYPROG)
    rw [Dev.keyState_congr cal, Dev.keyOfSlot_congr cal, State.answered_get,
      Dev.get_flag_same _ _ _ (by decide) (by decide), Dev.keyState_flag, Dev.keyOfSlot_flag]
    exact ⟨Dev.keyState_of_written mark (by rw [key, check]), rfl, key.trans (State.granted_keyData s q)⟩
  case revoke =>
    obtain ⟨key, mark, check⟩ := (s.granted q).markRevoked_fields slot.val
    have cal := State.answered_cal s q KEEL_KEY_CMD (keyWord slot.val 2 0x4B59)
      (((s.granted q).markRevoked slot.val).flag KEEL_EVT KEEL_EVT.KEYPROG)
    have before := (Dev.keyState_congr (State.granted_cal s q) slot.val).trans written
    rw [Dev.keyState_congr cal, Dev.keyOfSlot_congr cal, State.answered_get,
      Dev.get_flag_same _ _ _ (by decide) (by decide), Dev.keyState_flag, Dev.keyOfSlot_flag]
    exact ⟨Dev.keyState_of_revoked mark (by rw [key, check]; exact Dev.keyCheck_of_written before), rfl,
      key.trans (Dev.keyOfSlot_congr (State.granted_cal s q) _)⟩

end Sys2Proof.Machine
end

section
/-! Proofs: the hidden state of a camera port, and its frames as they open and close (R282, R286, R288, R290, R351). -/

namespace Sys2Proof.Machine

/-! ## Events without an effect, and effects in turn -/

/-- An event of an island's work that leaves the state in which it arrives is the passing of its ticks alone, whether the island
runs or not. -/
theorem exec_onIsl_unchanged {i : Instr} {s : State} {dt code : Nat} {f : Dev → Dev}
    (hi : exec i s = .next ((s.pass dt).onIsl code f)) (h : f (s.after dt) = s.after dt) : exec i s = .next (s.pass dt) := by
  have still : (s.pass dt).onDev f = s.pass dt := congrArg (fun d => { s.pass dt with dev := d }) h
  refine hi.trans (congrArg Host.Outcome.next ?_)
  unfold State.onIsl
  split
  · exact still
  · rfl

theorem Dev.each_cons (d : Dev) (k : Nat) (l : List Nat) (f : Nat → Dev → Dev) : d.each (k :: l) f = (f k d).each l f := rfl

theorem Dev.each_append (d : Dev) (l l' : List Nat) (f : Nat → Dev → Dev) : d.each (l ++ l') f = (d.each l f).each l' f :=
  List.foldl_append

/-! ## The hidden state of a port -/

@[simp] theorem Dev.cam_setCam (d : Dev) (n : Nat) (x : CamSt) : (d.setCam n x).cam n = x := tget_tput_same _ _ _ _

theorem Dev.cam_setCam_ne (d : Dev) {n m : Nat} (x : CamSt) (h : m ≠ n) : (d.setCam n x).cam m = d.cam m := tget_tput_ne _ _ _ h

@[simp] theorem Dev.cam_modCam (d : Dev) (n : Nat) (f : CamSt → CamSt) : (d.modCam n f).cam n = f (d.cam n) := Dev.cam_setCam _ _ _

theorem Dev.cam_congr {d e : Dev} (h : e.cams = d.cams) (n : Nat) : e.cam n = d.cam n := by rw [Dev.cam, Dev.cam, h]

theorem Frame.cam_eq {rs : List Nat} {ps : List Part} {d e : Dev} (h : Frame rs ps d e) (hp : Part.cams ∉ ps) (n : Nat) :
    e.cam n = d.cam n := Dev.cam_congr (h.2 .cams hp) n

theorem Frame.setCam (rs : List Nat) (ps : List Part) (d : Dev) (n : Nat) (x : CamSt) (h : Part.cams ∈ ps) :
    Frame rs ps d (d.setCam n x) :=
  ⟨fun _ _ => rfl, fun p x => by
    cases p
    case cams => exact absurd h x
    all_goals rfl⟩

theorem Frame.modCam (rs : List Nat) (ps : List Part) (d : Dev) (n : Nat) (f : CamSt → CamSt) (h : Part.cams ∈ ps) :
    Frame rs ps d (d.modCam n f) := Frame.setCam rs ps d n _ h

@[simp] theorem Dev.rd_setCam (d : Dev) (n : Nat) (x : CamSt) (a : Nat) : (d.setCam n x).rd a = d.rd a := rfl
@[simp] theorem Dev.get_setCam (d : Dev) (n : Nat) (x : CamSt) (a : Nat) (f : Fld) : (d.setCam n x).get a f = d.get a f := rfl
@[simp] theorem Dev.get_modCam (d : Dev) (n : Nat) (g : CamSt → CamSt) (a : Nat) (f : Fld) : (d.modCam n g).get a f = d.get a f := rfl
@[simp] theorem Dev.camOn_setCam (d : Dev) (n : Nat) (x : CamSt) (m : Nat) : (d.setCam n x).camOn m = d.camOn m := rfl
@[simp] theorem Dev.framing_setCam (d : Dev) (n : Nat) (x : CamSt) (m : Nat) : (d.setCam n x).framing m = d.framing m := rfl
@[simp] theorem Dev.camOn_modCam (d : Dev) (n : Nat) (f : CamSt → CamSt) (m : Nat) : (d.modCam n f).camOn m = d.camOn m := rfl
@[simp] theorem Dev.framing_modCam (d : Dev) (n : Nat) (f : CamSt → CamSt) (m : Nat) : (d.modCam n f).framing m = d.framing m := rfl
@[simp] theorem Dev.camLines_modCam (d : Dev) (n : Nat) (f : CamSt → CamSt) (m : Nat) :
    (d.modCam n f).camLines m = d.camLines m := rfl

/-! ## Frames that close (R286, R288, R290) -/

theorem Frame.closeFrame (ps : List Part) (d : Dev) (n : Nat) (f : CamFrame) (h : Part.cams ∈ ps) :
    Frame [CAM_EVT n] ps d (d.closeFrame n f) :=
  (Frame.modCam _ _ _ _ _ h).trans (Frame.when _ (Frame.flag _ _ _ _ _ (by simp)))

/-- A frame that closes leaves the open frames and joins the closed ones. -/
theorem Dev.cam_closeFrame (d : Dev) (n : Nat) (f : CamFrame) :
    ∃ mean, (d.closeFrame n f).cam n = { d.cam n with
      frames := (d.cam n).frames.filter (fun g => g.num != f.num), closed := (d.cam n).closed ++ [f], mean := mean } := by
  unfold Dev.closeFrame
  dsimp only
  exact ⟨_, (Frame.cam_eq (Frame.when _ (Frame.flag [CAM_EVT n] [] _ _ _ (by simp))) (by simp) n).trans (Dev.cam_modCam _ _ _)⟩

/-- The only open frame closes: none is open then. -/
theorem Dev.cam_closeFrame_only {d : Dev} {n : Nat} {f : CamFrame} (only : (d.cam n).frames = [f]) :
    ((d.closeFrame n f).cam n).frames = [] ∧ ((d.closeFrame n f).cam n).closed = (d.cam n).closed ++ [f] ∧
    ((d.closeFrame n f).cam n).fval = (d.cam n).fval := by
  obtain ⟨mean, cam⟩ := d.cam_closeFrame n f
  rw [cam, only]
  simp

/-- A frame that closes with lines missing is SHORT. -/
theorem Dev.closeFrame_short {d : Dev} {n : Nat} {f : CamFrame} (h : f.lines.length < d.camLines n) :
    (d.closeFrame n f).get (CAM_EVT n) CAM_EVT.SHORT = 1 := by
  unfold Dev.closeFrame
  simp only [Dev.camLines_modCam, h, decide_true, Dev.when, if_true]
  exact Dev.get_flag_same _ _ _ (by decide) (by decide)

theorem Dev.closeFrames_none {d : Dev} {n : Nat} (h : (d.cam n).frames = []) : d.closeFrames n = d := by
  rw [Dev.closeFrames, h, List.foldl_nil]

theorem Dev.closeFrames_one {d : Dev} {n : Nat} {f : CamFrame} (h : (d.cam n).frames = [f]) :
    d.closeFrames n = d.closeFrame n f := by
  rw [Dev.closeFrames, h, List.foldl_cons, List.foldl_nil]

/-! ## Captures of an event (R351) -/

/-- The registers in which the capture units show what they lost. -/
def captureRegs : List Nat := (List.range 16).flatMap fun i => [CAP_STS i, CAP_CNT i]

theorem Frame.capUnit (d : Dev) (i : Nat) (times : List Nat) (pos : Int) :
    Frame [CAP_STS i, CAP_CNT i] [.cap] d (d.capUnit i times pos) := by
  unfold Dev.capUnit
  dsimp only
  split
  · exact (Frame.flag _ _ _ _ _ (by simp)).trans (Frame.count _ _ _ _ _ _ (by simp))
  · split
    · exact (Frame.flag _ _ _ _ _ (by simp)).trans (Frame.count _ _ _ _ _ _ (by simp))
    · refine ⟨fun _ _ => rfl, fun p other => ?_⟩
      cases p
      case cap => exact absurd (by simp) other
      all_goals rfl

theorem Frame.capEvent (d : Dev) (src : Nat) (active : Bool) (times : List Nat) (tick : Nat) :
    Frame captureRegs [.cap] d (d.capEvent src active times tick) :=
  Frame.each _ _ d fun i unit e => by
    dsimp only
    split
    · exact (Frame.capUnit e i _ _).mono (fun a ha => List.mem_flatMap.2 ⟨i, unit, ha⟩) (fun _ h => h)
    · exact Frame.refl _ _ _

/-- The capture units lie below the cameras. -/
theorem camFrame_not_mem_captureRegs (n : Nat) : CAM_FRAME n ∉ captureRegs := by
  simp only [captureRegs, List.mem_flatMap, List.mem_range, List.mem_cons, List.not_mem_nil, or_false, CAM_FRAME, CAP_STS, CAP_CNT]
  omega

/-! ## Frames that open (R282, R290) -/

/-- The frame that a port opens with its settings in use. -/
def Dev.newFrame (d : Dev) (n : Nat) (y0 : Int) : CamFrame :=
  { num := (d.cam n).nextNum, gen := (d.cam n).useGen, set := (d.cam n).set, epoch := (d.cam n).epoch, y0 := y0
    job := d.frameJob n y0, start := d.devTime }

/-- The port with that frame open. -/
def Dev.openCam (d : Dev) (n : Nat) (y0 : Int) : CamSt :=
  { d.cam n with
    frames := (d.cam n).frames ++ [d.newFrame n y0], nextNum := ((d.cam n).nextNum + 1) % 2 ^ 32, rises := [], lineAt := d.now }

section
variable {d : Dev} {n : Nat} (settled : (d.cam n).commit = none) (y0 pos : Int)
include settled

/-- With no settings waiting a frame opens, shows its number, and is an event that may be captured. -/
theorem Dev.openFrame_settled : ∃ times tick, d.openFrame n y0 pos =
    ((d.setCam n (d.openCam n y0)).wrN (CAM_FRAME n) (d.cam n).nextNum).capEvent (32 + n) true times tick := by
  have settings : d.frameSettings n pos = d := by rw [Dev.frameSettings]; simp only [settled]
  unfold Dev.openFrame
  rw [settings]
  exact ⟨_, _, rfl⟩

theorem Frame.openFrame : Frame (CAM_FRAME n :: captureRegs) [.cams, .cap] d (d.openFrame n y0 pos) := by
  obtain ⟨times, tick, opened⟩ := Dev.openFrame_settled settled y0 pos
  rw [opened]
  exact (Frame.setCam _ _ _ _ _ (by simp)).trans ((Frame.wrN _ _ _ _ _ (by simp)).trans
    ((Frame.capEvent _ _ _ _ _).mono (by simp +contextual) (by simp)))

theorem Dev.cam_openFrame : (d.openFrame n y0 pos).cam n = d.openCam n y0 := by
  obtain ⟨times, tick, opened⟩ := Dev.openFrame_settled settled y0 pos
  rw [opened, (Frame.capEvent _ _ _ _ _).cam_eq (by simp), Dev.cam_congr (Dev.wrN_cams ..), Dev.cam_setCam]

theorem Dev.rd_openFrame_camFrame : (d.openFrame n y0 pos).rd (CAM_FRAME n) = BitVec.ofNat 32 (d.cam n).nextNum := by
  obtain ⟨times, tick, opened⟩ := Dev.openFrame_settled settled y0 pos
  rw [opened, (Frame.capEvent _ _ _ _ _).1 _ (camFrame_not_mem_captureRegs n), Dev.rd_wrN, if_pos rfl]

end

end Sys2Proof.Machine
end

section
/-! Proofs: frames of a camera by frame valid, exposure, time-out and the grid of a job; enabling and settings (R282 to R285, R287,
R288). -/

namespace Sys2Proof.Machine

/-! ## Frame valid (R282) -/

section
variable {d : Dev} {n : Nat}

/-- FVAL_RISE in framing 1: the frame that starts is the port's only one. -/
theorem fvalRise_opens (on : d.camOn n = true) (framing : d.framing n = 1) (low : (d.cam n).fval = false)
    (free : (d.cam n).frames = []) :
    fvalRise n d = (d.setCam n { d.cam n with fval := true }).openFrame n 0 0 := by
  simp [fvalRise, on, framing, low, free]

theorem fvalRise_other (framing : d.framing n ≠ 1) : fvalRise n d = d.setCam n { d.cam n with fval := true } := by
  simp [fvalRise, framing]

theorem Dev.endLine_none (h : (d.cam n).cur = none) : d.endLine n = d := by
  rw [Dev.endLine]
  simp only [h]

/-- FVAL_FALL in framings 1 to 3, with no line open: the open frame closes. -/
theorem fvalFall_closes (on : d.camOn n = true) (framing : d.framing n ≠ 0) (line : (d.cam n).cur = none) {f : CamFrame}
    (only : (d.cam n).frames = [f]) : fvalFall n d = (d.modCam n (fun x => { x with fval := false })).closeFrame n f := by
  have ended : (d.modCam n (fun x => { x with fval := false })).endLine n = d.modCam n (fun x => { x with fval := false }) :=
    Dev.endLine_none (by rw [Dev.cam_modCam]; exact line)
  simp only [fvalFall, Dev.camOn_modCam, Dev.framing_modCam, on, framing, ended, Bool.not_true, decide_false, Bool.or_self,
    Bool.false_eq_true, if_false]
  exact Dev.closeFrames_one (by rw [Dev.cam_modCam]; exact only)

theorem fvalFall_grid (framing : d.framing n = 0) : fvalFall n d = d.setCam n { d.cam n with fval := false } := by
  simp [fvalFall, framing, Dev.modCam]

/-! ## The line time-out (R284) -/

theorem ftmo_early (h : d.now < (d.cam n).lineAt + msTicks (10 * d.get (CAM_CFG n) CAM_CFG.FTMO)) : ftmo n d = d := by
  simp [ftmo, h]

theorem ftmo_due (framing : d.framing n = 0) (set : d.get (CAM_CFG n) CAM_CFG.FTMO ≠ 0)
    (due : (d.cam n).lineAt + msTicks (10 * d.get (CAM_CFG n) CAM_CFG.FTMO) ≤ d.now) : ftmo n d = d.closeFrames n := by
  simp [ftmo, framing, set, Nat.not_lt.2 due]

/-! ## The grid of a job (R283) -/

theorem Dev.followJob_none (h : d.startsReached n = []) : d.followJob n = d := by
  rw [Dev.followJob, h, List.getLast?_nil]

/-- The port follows a job from its start. -/
def CamSt.follow (x : CamSt) (id bits : Nat) (start : Int) : CamSt :=
  { x with gridS := start, job := some (id, bits), epoch := x.epoch + 1, seen := x.seen + 1, nextF := 0 }

theorem Dev.followJob_one {id bits : Nat} {start : Int} (h : d.startsReached n = [(id, bits, start)]) :
    d.followJob n = d.modCam n (fun x => x.follow id bits start) := by
  rw [Dev.followJob, h, List.getLast?_singleton]
  rfl

theorem gridRephase_none (h : d.startsReached n = []) : gridRephase n d = d := by
  simp [gridRephase, h]

/-- GRID_REPHASE with no frame open: the port follows the job, from the line of its grid that P has reached. -/
theorem gridRephase_one (on : d.camOn n = true) (framing : d.framing n = 0) {id bits : Nat} {start : Int}
    (reached : d.startsReached n = [(id, bits, start)]) (free : (d.cam n).frames = []) :
    ∃ line, gridRephase n d =
      (d.modCam n (fun x => x.follow id bits start)).modCam n (fun x => { x with sx := 0, sy := 0, nextY := line }) := by
  unfold gridRephase
  rw [Dev.closeFrames_none free, Dev.followJob_one reached]
  simp only [on, framing, reached, List.isEmpty_cons, Bool.not_true, ne_eq, not_true_eq_false, decide_false, Bool.or_self,
    Bool.false_eq_true, if_false]
  exact ⟨_, rfl⟩

/-! ## Exposures (R285) -/

theorem expose_other (h : d.camOn n = false ∨ d.framing n ≠ 2) : expose n d = d :=
  if_pos (by simpa using h)

/-- The grid line at which the next frame of framing 2 starts. -/
def Dev.exposeLine (d : Dev) (n : Nat) : Int := (d.cam n).nextF * d.camLines n

/-- EXPOSE at the position of a frame of the job counts the frame and exposes it. -/
theorem expose_due (on : d.camOn n = true) (framing : d.framing n = 2) (starts : d.startsReached n = [])
    (inside : (d.frameJob n (d.exposeLine n)).isSome = true) (reached : d.gridPos n (d.exposeLine n) ≤ d.P) :
    expose n d =
      (d.modCam n (fun x => { x with nextF := x.nextF + 1 })).exposeAt n (d.exposeLine n) (d.gridPos n (d.exposeLine n)) := by
  unfold expose
  rw [Dev.followJob_none starts]
  unfold Dev.exposeLine at inside reached ⊢
  simp [on, framing, Option.isSome_iff_ne_none.1 inside, Int.not_lt.2 reached]

theorem Frame.emitShared (rs : List Nat) (ps : List Part) (d : Dev) (o : Out) (h : Part.out ∈ ps) :
    Frame rs ps d (d.emitShared o) := by
  unfold Dev.emitShared
  split
  · exact Frame.emit _ _ _ _ h
  · exact Frame.refl _ _ _

theorem Frame.camPulse (rs : List Nat) (ps : List Part) (d : Dev) (n sig width : Nat) (hc : Part.cams ∈ ps) (ho : Part.out ∈ ps) :
    Frame rs ps d (d.camPulse n sig width) :=
  (Frame.emitShared _ _ _ _ ho).trans (Frame.modCam _ _ _ _ _ hc)

theorem Dev.cam_camPulse (d : Dev) (n sig width : Nat) :
    (d.camPulse n sig width).cam n = { d.cam n with pulseEnd := some (d.now + width) } := by
  have sent := Frame.emitShared [] [.out] d (.cam n sig true d.now) (by simp)
  rw [Dev.camPulse, Dev.cam_modCam, sent.cam_eq (by simp)]

theorem Dev.exposeAt_free (y0 pos : Int) (free : (d.cam n).frames = []) : d.exposeAt n y0 pos =
    (d.openFrame n y0 pos).camPulse n 1 (8 * (((d.openFrame n y0 pos).cam n).set.getD 0 0).fld CAM_PULSE.EXP_W) := by
  simp [Dev.exposeAt, free]

section
variable (settled : (d.cam n).commit = none) (free : (d.cam n).frames = []) (y0 pos : Int)
include settled free

theorem Frame.exposeAt : Frame (CAM_FRAME n :: captureRegs) [.cams, .cap, .out] d (d.exposeAt n y0 pos) := by
  rw [Dev.exposeAt_free y0 pos free]
  exact ((Frame.openFrame settled y0 pos).mono (fun _ h => h) (by simp)).trans
    (Frame.camPulse _ _ _ _ _ _ (by simp) (by simp))

/-- The frame opens and EXPOSE rises for its width. -/
theorem Dev.cam_exposeAt : (d.exposeAt n y0 pos).cam n = { d.openCam n y0 with
    pulseEnd := some (d.now + 8 * ((d.cam n).set.getD 0 0).fld CAM_PULSE.EXP_W) } := by
  have now : (d.openFrame n y0 pos).now = d.now := (Frame.openFrame settled y0 pos).2 .now (by simp)
  rw [Dev.exposeAt_free y0 pos free, Dev.cam_camPulse, Dev.cam_openFrame settled, now]
  rfl

end

end

/-! ## Enabling (R287) -/

/-- A write with EN = 1 that R287 refuses: inside a job, or for a setting. -/
def Dev.enableBarred (d : Dev) (n : Nat) (v : Word) : Prop :=
  d.jobActive = true ∨ d.mapOk n = false ∨ d.camPixels n % 32 ≠ 0 ∨ d.clp n < 64 ∨ 2 ^ 29 < d.ringNeed n v

theorem State.granted_enableBarred (s : State) (q : Req) (n : Nat) (v : Word) :
    (s.granted q).enableBarred n v = s.dev.enableBarred n v :=
  State.granted_congr (f := fun d => d.enableBarred n v) (fun _ _ _ => rfl) s q

/-- The port of a camera that has been enabled: nothing open, numbers from 0, the grid from P. -/
def Dev.freshCam (d : Dev) (n : Nat) (x : CamSt) : CamSt :=
  { x with
    cur := none, gridS := d.P - d.camOrigin n, job := none, seen := d.fir.starts.length, epoch := x.epoch + 1
    nextY := 0, trigs := [], lastTrig := none, nextF := 0, frames := [], closed := [], nextNum := 0, lineAt := d.now
    rises := [], mean := (0, 0), sx := 0, sy := 0, dispGen := none, dispN := 0 }

section
variable {d : Dev} {n : Nat} {v : Word} (en : v.fld CAM_CFG.EN = 1)
include en

theorem camCfgWrite_barred (h : d.enableBarred n v) : camCfgWrite n v d = d.camReject n := by
  unfold camCfgWrite
  by_cases job : d.jobActive = true
  · exact if_pos job
  · have setting := h.resolve_left job
    refine (if_neg job).trans (if_pos ?_)
    simp only [en, decide_true, Bool.true_and, Bool.or_eq_true, Bool.not_eq_true', decide_eq_true_eq, or_assoc]
    obtain map | pixels | clp | need := setting
    · exact .inl map
    · exact .inr (.inl pixels)
    · exact .inr (.inr (.inl clp))
    · exact .inr (.inr (.inr (.inl need)))

theorem camCfgWrite_enables (free : ¬ d.enableBarred n v) (scan : d.scan = false) (off : d.camOn n = false) :
    camCfgWrite n v d = (d.typedWrite (CAM_CFG n) v).modCam n ((d.typedWrite (CAM_CFG n) v).freshCam n) := by
  simp only [Dev.enableBarred, not_or] at free
  obtain ⟨job, map, pixels, clp, need⟩ := free
  unfold camCfgWrite
  have mapOk : d.mapOk n = true := eq_true_of_ne_false map
  refine (if_neg job).trans ((if_neg ?_).trans (if_pos ?_))
  · simp only [mapOk, pixels, clp, need, scan, Bool.not_true, decide_false, Bool.false_and, Bool.or_false, Bool.and_false,
      Bool.false_eq_true, not_false_eq_true]
  · simp [en, off]

end

theorem camCfg_en_rw : ∀ n : Fin 4, (regMasks (CAM_CFG n.val)).1.testBit 0 = true := by decide

/-- EN is written as it stands (R9). -/
theorem Dev.camOn_typedWrite (d : Dev) (n : Fin 4) {v : Word} (en : v.fld CAM_CFG.EN = 1) :
    (d.typedWrite (CAM_CFG n.val) v).camOn n.val = true := by
  have written := Dev.get_typedWrite_of_rw d (CAM_CFG n.val) v CAM_CFG.EN (by decide) fun i hi => by
    obtain rfl : i = 0 := Nat.lt_one_iff.1 hi
    exact camCfg_en_rw n
  rw [Dev.camOn, Dev.bit, written, en]
  rfl

/-- The place of a port comes from CAMn_YOFF and the station records (R283). -/
theorem Dev.camOrigin_typedWrite (d : Dev) (n : Nat) (v : Word) :
    (d.typedWrite (CAM_CFG n) v).camOrigin n = d.camOrigin n := by
  have yoff : (d.typedWrite (CAM_CFG n) v).rd (CAM_YOFF n) = d.rd (CAM_YOFF n) :=
    Dev.rd_typedWrite_ne d v (by simp only [CAM_YOFF, CAM_CFG]; omega)
  simp only [Dev.camOrigin, Dev.rdN, yoff, Dev.typedWrite_stations]

theorem Dev.P_typedWrite_camCfg (d : Dev) (n : Fin 4) (v : Word) : (d.typedWrite (CAM_CFG n.val) v).P = d.P :=
  (Frame.typedWrite [CAM_CFG n.val] [] d _ v (by simp)).P_eq
    (by simp only [FIR_CFG, FIR_STS, PAC_LOSS, CAM_CFG, List.mem_singleton]; omega) (by simp) (by simp) ⟨d.pac.lockN, rfl⟩

/-! ## Settings and generations (R288) -/

/-- The generation after the last committed. -/
def CamSt.nextGen (x : CamSt) : Nat := (x.gen + 1) % 65536

theorem Dev.commitCam_eq (d : Dev) (n : Nat) : ∃ x, d.commitCam n = (d.put (CAM_GEN n) hiHalf (d.cam n).nextGen).setCam n x := by
  unfold Dev.commitCam
  dsimp only
  split
  · exact ⟨_, rfl⟩
  · exact ⟨_, rfl⟩

theorem Frame.commitCam (d : Dev) (n : Nat) : Frame [CAM_GEN n] [.cams] d (d.commitCam n) := by
  obtain ⟨x, committed⟩ := d.commitCam_eq n
  rw [committed]
  exact (Frame.put _ _ _ _ _ _ (by simp)).trans (Frame.setCam _ _ _ _ _ (by simp))

/-- The generation's register is no shadow register. -/
theorem Frame.shadow_eq {d e : Dev} {k : Nat} {ps : List Part} (h : Frame [CAM_GEN k] ps d e) (n : Nat) : e.shadow n = d.shadow n :=
  List.map_congr_left fun a ha => h.1 a (by
    simp only [List.mem_cons, List.not_mem_nil, or_false, CAM_PULSE, CAM_WIN, CAM_LVL_R, CAM_LVL_G, CAM_LVL_B, CAM_DET, CAM_REG,
      CAM_PANE] at ha
    simp only [List.mem_singleton, CAM_GEN]
    omega)

/-- A camera that is not enabled takes its settings at once. -/
theorem Dev.commitCam_off {d : Dev} {n : Nat} (off : d.camOn n = false) :
    ((d.commitCam n).cam n).set = d.shadow n ∧ ((d.commitCam n).cam n).gen = (d.cam n).nextGen ∧
    (d.commitCam n).get (CAM_GEN n) hiHalf = (d.cam n).nextGen := by
  have put := Frame.put [CAM_GEN n] [] d (CAM_GEN n) hiHalf (d.cam n).nextGen (by simp)
  have still : (d.put (CAM_GEN n) hiHalf (d.cam n).nextGen).camOn n = false :=
    (congrArg (· != 0) (put.get_eq (by simp only [CAM_CFG, CAM_GEN, List.mem_singleton]; omega) _)).trans off
  have committed : d.commitCam n = (d.put (CAM_GEN n) hiHalf (d.cam n).nextGen).setCam n { d.cam n with
      gen := (d.cam n).nextGen, commit := none, set := (d.put (CAM_GEN n) hiHalf (d.cam n).nextGen).shadow n
      useGen := (d.cam n).nextGen } := if_neg (Bool.eq_false_iff.1 still)
  rw [committed, Dev.cam_setCam, put.shadow_eq n, Dev.get_setCam, Dev.get_put_same _ _ _ _ (by decide)]
  exact ⟨rfl, rfl, Nat.mod_mod _ _⟩

/-- What a commit leaves of a port: its state, its generation's register, its settings and whether it is enabled. -/
structure PortKept (n : Nat) (d e : Dev) : Prop where
  cam : e.cam n = d.cam n
  gen : e.rd (CAM_GEN n) = d.rd (CAM_GEN n)
  shadow : e.shadow n = d.shadow n
  on : e.camOn n = d.camOn n

theorem PortKept.refl (n : Nat) (d : Dev) : PortKept n d d := ⟨rfl, rfl, rfl, rfl⟩

theorem PortKept.trans {n : Nat} {d e f : Dev} (h : PortKept n d e) (h' : PortKept n e f) : PortKept n d f :=
  ⟨h'.cam.trans h.cam, h'.gen.trans h.gen, h'.shadow.trans h.shadow, h'.on.trans h.on⟩

/-- A camera commits where INS_COMMIT names it. -/
def Dev.commitNamed (v : Word) (k : Nat) (d : Dev) : Dev := if v.bit k then d.commitCam k else d

theorem insCommit_eq (v : Word) (d : Dev) : insCommit v d = d.each [0, 1, 2, 3] (Dev.commitNamed v) := rfl

theorem Frame.commitNamed (v : Word) (k : Nat) (d : Dev) : Frame [CAM_GEN k] [.cams] d (d.commitNamed v k) := by
  unfold Dev.commitNamed
  split
  · exact Frame.commitCam d k
  · exact Frame.refl _ _ _

theorem Dev.commitNamed_other (v : Word) {k n : Nat} (d : Dev) (h : n ≠ k) : PortKept n d (d.commitNamed v k) := by
  have frame := Frame.commitNamed v k d
  refine ⟨?_, frame.1 _ ?_, frame.shadow_eq n, congrArg (· != 0) (frame.get_eq ?_ _)⟩
  · unfold Dev.commitNamed
    split
    · obtain ⟨x, committed⟩ := d.commitCam_eq k
      rw [committed, Dev.cam_setCam_ne _ _ h, Dev.cam_congr (Dev.put_cams ..)]
    · rfl
  · simp only [CAM_GEN, List.mem_singleton]; omega
  · simp only [CAM_CFG, CAM_GEN, List.mem_singleton]; omega

theorem Dev.each_commitNamed_others (v : Word) (n : Nat) (l : List Nat) (h : n ∉ l) :
    ∀ d : Dev, PortKept n d (d.each l (Dev.commitNamed v)) := by
  induction l with
  | nil => exact fun d => PortKept.refl n d
  | cons k l ih =>
    obtain ⟨here, later⟩ := not_or.1 (fun m => h (List.mem_cons.2 m))
    exact fun d => (Dev.commitNamed_other v d here).trans (ih later _)

/-- Each camera is named once. -/
theorem cameras_around : ∀ n : Fin 4, ∃ before after, [0, 1, 2, 3] = before ++ n.val :: after ∧ n.val ∉ before ∧ n.val ∉ after
  | 0 => ⟨[], [1, 2, 3], by decide⟩
  | 1 => ⟨[0], [2, 3], by decide⟩
  | 2 => ⟨[0, 1], [3], by decide⟩
  | 3 => ⟨[0, 1, 2], [], by decide⟩

/-- What INS_COMMIT does to one port: its own part of the commit, in a state in which the port is as before. -/
theorem insCommit_port (v : Word) (d : Dev) (n : Fin 4) :
    ∃ e, PortKept n.val d e ∧ PortKept n.val (e.commitNamed v n.val) (insCommit v d) := by
  obtain ⟨before, after, cameras, earlier, later⟩ := cameras_around n
  have split : insCommit v d =
      ((d.each before (Dev.commitNamed v)).commitNamed v n.val).each after (Dev.commitNamed v) := by
    rw [insCommit_eq, cameras, Dev.each_append, Dev.each_cons]
  rw [split]
  exact ⟨_, Dev.each_commitNamed_others v _ before earlier d, Dev.each_commitNamed_others v _ after later _⟩

theorem insCommit_named {v : Word} {d : Dev} {n : Fin 4} (named : v.bit n.val = true) (off : d.camOn n.val = false) :
    ((insCommit v d).cam n.val).set = d.shadow n.val ∧ ((insCommit v d).cam n.val).gen = (d.cam n.val).nextGen ∧
    (insCommit v d).get (CAM_GEN n.val) hiHalf = (d.cam n.val).nextGen := by
  obtain ⟨e, earlier, later⟩ := insCommit_port v d n
  have here : e.commitNamed v n.val = e.commitCam n.val := if_pos named
  rw [here] at later
  rw [Dev.get, later.gen, ← Dev.get, later.cam, ← earlier.shadow, ← earlier.cam]
  exact Dev.commitCam_off (earlier.on.trans off)

theorem insCommit_unnamed {v : Word} {d : Dev} {n : Fin 4} (unnamed : v.bit n.val = false) :
    (insCommit v d).cam n.val = d.cam n.val ∧ (insCommit v d).rd (CAM_GEN n.val) = d.rd (CAM_GEN n.val) := by
  obtain ⟨e, earlier, later⟩ := insCommit_port v d n
  have here : e.commitNamed v n.val = e := if_neg (by simp [unnamed])
  rw [here] at later
  obtain ⟨cam, gen, -, -⟩ := earlier.trans later
  exact ⟨cam, gen⟩

theorem Frame.insCommit (v : Word) (d : Dev) : Frame ((List.range 4).map CAM_GEN) [.cams] d (insCommit v d) :=
  Frame.each _ _ d fun k camera e => (Frame.commitNamed v k e).mono
    (fun a ha => by
      rw [List.mem_singleton.1 ha]
      exact List.mem_map_of_mem (f := CAM_GEN) camera)
    (fun _ h => h)

/-! ## The commands of R287 and R288 -/

theorem exec_camEnable {s : State} {q : Req} {n : Fin 4} {v : Word} (h : Allowed s q (CAM_CFG n.val)) :
    exec (.camEnable q n v) s = .next (s.answered q (CAM_CFG n.val) (v.setFld CAM_CFG.EN 1)
      (camCfgWrite n.val (v.setFld CAM_CFG.EN 1) (s.granted q))) :=
  congrArg Host.Outcome.next (State.devCommand_allowed s q (CAM_CFG n.val) _ (camCfgWrite n.val) h)

theorem exec_insCommit {s : State} {q : Req} {mask : BitVec 4} (h : Allowed s q INS_COMMIT) :
    exec (.insCommit q mask) s =
      .next (s.answered q INS_COMMIT (mask.zeroExtend 32) (insCommit (mask.zeroExtend 32) (s.granted q))) :=
  congrArg Host.Outcome.next (State.devCommand_allowed s q INS_COMMIT _ insCommit h)

theorem fld_en_setFld (v : Word) : (v.setFld CAM_CFG.EN 1).fld CAM_CFG.EN = 1 := Word.fld_setFld v _ 1 (by decide)

theorem bit_zeroExtend (mask : BitVec 4) (n : Fin 4) : Word.bit (mask.zeroExtend 32) n.val = mask.getLsbD n.val := by
  rw [Word.bit, BitVec.toNat_setWidth, Nat.mod_eq_of_lt (Nat.lt_trans mask.isLt (by decide)), BitVec.getLsbD]

@[simp] theorem State.answered_cam (s : State) (q : Req) (a : Nat) (v : Word) (d : Dev) (n : Nat) :
    (s.answered q a v d).dev.cam n = d.cam n := Dev.cam_congr (Dev.forward_cams d q a v) n

@[simp] theorem State.granted_cam (s : State) (q : Req) (n : Nat) : (s.granted q).cam n = s.dev.cam n :=
  Dev.cam_congr (Dev.renew_cams ..) n

@[simp] theorem State.granted_shadow (s : State) (q : Req) (n : Nat) : (s.granted q).shadow n = s.dev.shadow n :=
  State.granted_congr (f := fun d => d.shadow n) (fun _ _ _ => rfl) s q

@[simp] theorem State.granted_camOn (s : State) (q : Req) (n : Nat) : (s.granted q).camOn n = s.dev.camOn n :=
  congrArg (· != 0) (State.granted_get ..)

/-! ## The statement -/

/-- Settles O40: each command by the lemma that says what its effect is on a state of the clause (log entries 65 and 66). -/
theorem cameraFrameCommandsComplete : Obligations.CameraFrameCommandsComplete := by
  unfold Obligations.CameraFrameCommandsComplete
  refine ⟨fun s n dt up on framing low free settled => runs_after (exec_event rfl up) (fvalRise_opens on framing low free) ?opens,
    fun s n dt up framing => runs_after (exec_event rfl up) (fvalRise_other framing)
      ⟨Frame.setCam _ _ _ _ _ (by simp), Dev.cam_setCam _ _ _⟩,
    fun s n f dt up on framing line only =>
      runs_after (exec_event rfl up) (fvalFall_closes on framing line only) ?closes,
    fun s n dt up framing => runs_after (exec_event rfl up) (fvalFall_grid framing)
      ⟨Frame.setCam _ _ _ _ _ (by simp), Dev.cam_setCam _ _ _⟩,
    fun s n dt up on framing starts free settled inside reached =>
      runs_after (exec_event rfl up) (expose_due on framing starts inside reached) ?exposes,
    fun s n dt other => exec_onIsl_unchanged rfl (expose_other other),
    fun s n dt _ early => exec_onIsl_unchanged rfl (ftmo_early early),
    fun s n f dt up framing set due only =>
      runs_after (exec_event rfl up) ((ftmo_due framing set due).trans (Dev.closeFrames_one only)) ?timesOut,
    fun s n id bits st dt up on framing reached free => ?rephases,
    fun s n dt none => exec_onIsl_unchanged rfl (gridRephase_none none),
    fun s q n v h barred => ?refused, fun s q n v h job map pixels clp need scan off => ?enables,
    fun s q mask h off => ?commits⟩
  case opens =>
    have waiting : (((s.after dt).setCam n.val { (s.after dt).cam n.val with fval := true }).cam n.val).commit = none := by
      rw [Dev.cam_setCam]; exact settled
    have frame := Frame.openFrame waiting 0 0
    have shown := Dev.rd_openFrame_camFrame waiting 0 0
    rw [Dev.cam_openFrame waiting, shown, Dev.openCam, Dev.newFrame, Dev.cam_setCam, free]
    exact ⟨rfl, rfl, rfl, rfl, rfl, frame.2 .ras (by simp), frame.2 .pac (by simp), frame.2 .hcs (by simp)⟩
  case closes =>
    have alone : (((s.after dt).modCam n.val (fun x => { x with fval := false })).cam n.val).frames = [f] := by
      rw [Dev.cam_modCam]; exact only
    obtain ⟨frames, closed, fval⟩ := Dev.cam_closeFrame_only alone
    rw [Dev.cam_modCam] at closed fval
    exact ⟨(Frame.modCam _ _ _ _ _ (by simp)).trans (Frame.closeFrame _ _ _ _ (by simp)), fval, frames, closed,
      fun short => Dev.closeFrame_short short⟩
  case exposes =>
    have waiting : (((s.after dt).modCam n.val (fun x => { x with nextF := x.nextF + 1 })).cam n.val).commit = none := by
      rw [Dev.cam_modCam]; exact settled
    have noneOpen : (((s.after dt).modCam n.val (fun x => { x with nextF := x.nextF + 1 })).cam n.val).frames = [] := by
      rw [Dev.cam_modCam]; exact free
    have frame := Frame.exposeAt waiting noneOpen ((s.after dt).exposeLine n.val)
      ((s.after dt).gridPos n.val ((s.after dt).exposeLine n.val))
    rw [Dev.cam_exposeAt waiting noneOpen, Dev.openCam, Dev.newFrame, Dev.cam_modCam, free]
    exact ⟨rfl, rfl, rfl, frame.2 .ras (by simp), frame.2 .pac (by simp), frame.2 .hcs (by simp)⟩
  case timesOut =>
    obtain ⟨frames, closed, -⟩ := Dev.cam_closeFrame_only only
    exact ⟨Frame.closeFrame _ _ _ _ (by simp), frames, closed⟩
  case rephases =>
    obtain ⟨line, rephased⟩ := gridRephase_one on framing reached free
    refine runs_after (exec_event rfl up) rephased
      ⟨(Frame.modCam _ _ _ _ _ (by simp)).trans (Frame.modCam _ _ _ _ _ (by simp)), ?_⟩
    rw [Dev.cam_modCam, Dev.cam_modCam]
    exact ⟨rfl, rfl, rfl, rfl, rfl, rfl⟩
  case refused =>
    have run := exec_camEnable (v := v) h
    have bars : (s.granted q).enableBarred n.val (v.setFld CAM_CFG.EN 1) := by
      rw [State.granted_enableBarred]; exact barred
    rw [camCfgWrite_barred (fld_en_setFld v) bars] at run
    refine runs_answered run ⟨Frame.answered _ _ (by simp) (by simp) (Frame.flag _ _ _ _ _ (by simp)), ?_⟩
    rw [State.answered_get]
    exact Dev.get_flag_same _ _ _ (by decide) (by decide)
  case enables =>
    have run := exec_camEnable (v := v) h
    have free : ¬ (s.granted q).enableBarred n.val (v.setFld CAM_CFG.EN 1) := by
      rw [State.granted_enableBarred]
      simp only [Dev.enableBarred, job, map, pixels, Nat.not_lt.2 clp, Nat.not_lt.2 need, Bool.false_eq_true, reduceCtorEq,
        ne_eq, not_true_eq_false, or_self, not_false_eq_true]
    have stays : (s.granted q).camOn n.val = false := (State.granted_camOn ..).trans off
    have noScan : (s.granted q).scan = false := (congrArg (· != 0) (State.granted_get ..)).trans scan
    rw [camCfgWrite_enables (fld_en_setFld v) free noScan stays] at run
    refine runs_answered run ⟨Frame.answered _ _ (by simp) (by simp)
      ((Frame.typedWrite _ _ _ _ _ (by simp)).trans (Frame.modCam _ _ _ _ _ (by simp))), ?_, ?_⟩
    · rw [Dev.camOn, Dev.bit, State.answered_get, ← Dev.bit, ← Dev.camOn, Dev.camOn_modCam]
      exact Dev.camOn_typedWrite _ n (fld_en_setFld v)
    · rw [State.answered_cam, Dev.cam_modCam]
      refine ⟨rfl, rfl, rfl, Dev.renew_now .., ?_⟩
      rw [Dev.freshCam, Dev.P_typedWrite_camCfg, Dev.camOrigin_typedWrite]
      exact State.granted_congr (f := fun d => d.P - d.camOrigin n.val) (fun _ _ _ => rfl) s q
  case commits =>
    have run := exec_insCommit (mask := mask) h
    refine runs_answered run ⟨Frame.answered _ _ (by simp) (by simp) ((Frame.insCommit _ _).mono (fun _ h => h) (by simp)), ?_⟩
    intro n
    have stays : (s.granted q).camOn n.val = false := (State.granted_camOn ..).trans (off n.val n.isLt)
    rw [State.answered_cam, State.answered_get, State.answered_rd]
    split
    case isTrue named =>
      obtain ⟨set, gen, shown⟩ := insCommit_named (d := s.granted q) ((bit_zeroExtend mask n).trans named) stays
      rw [set, gen, shown, State.granted_shadow, State.granted_cam]
      exact ⟨rfl, rfl, rfl⟩
    case isFalse unnamed =>
      obtain ⟨cam, gen⟩ := insCommit_unnamed (d := s.granted q) ((bit_zeroExtend mask n).trans (Bool.eq_false_iff.2 unnamed))
      rw [cam, gen, State.granted_cam]
      exact ⟨rfl, Dev.rd_renew ..⟩

end Sys2Proof.Machine
end

section
/-! Proofs: frame records and panes (R290, R298, R299, R301). -/

namespace Sys2Proof.Machine

/-! ## Frame records (R290) -/

theorem frameRecord_none {d : Dev} {n : Nat} (ue : List Int) (h : (d.cam n).closed = []) : frameRecord n ue d = d := by
  rw [frameRecord]
  simp only [h]

/-- A record begins with its frame's number. -/
theorem Eval.leField_record (e : Eval) (rgb : Rgb) (flags findings : Nat) (r : Reg) :
    leField (e.record rgb flags findings r) 0 4 = e.f.num % 2 ^ 32 := by
  unfold Eval.record
  simp only [List.append_assoc]
  exact leField_leBytes 4 _ _

/-- A generation without panes forms none. -/
theorem Dev.formPanes_off (d : Dev) (n : Nat) {e : Eval} (img : Img) (rgb : Rgb) (rec_ : List Byte) (hits : List Hit)
    (h : e.f.set.getD 7 0 = 0) : d.formPanes n e img rgb rec_ hits = d := by
  have off : ∀ f, e.set 7 f = 0 := fun f => by rw [Eval.set, h]; simp [Word.fld]
  simp [Dev.formPanes, off]

/-- The words of a record stand in CAMn_STAT. -/
def Dev.putRecord (d : Dev) (n : Nat) (rec_ : List Byte) : Dev :=
  d.each (List.range 20) (fun j d => d.wrN (CAM_STAT n j) (leField rec_ (4 * j) 4))

theorem Frame.putRecord (d : Dev) (n : Nat) (rec_ : List Byte) :
    Frame ((List.range 20).map (CAM_STAT n)) [] d (d.putRecord n rec_) :=
  Frame.each _ _ d fun _ word _ => Frame.wrN _ _ _ _ _ (List.mem_map_of_mem word)

/-- The first word is written once. -/
theorem Dev.rd_putRecord_first (d : Dev) (n : Nat) (rec_ : List Byte) :
    (d.putRecord n rec_).rd (CAM_STAT n 0) = BitVec.ofNat 32 (leField rec_ 0 4) := by
  have words : List.range 20 = 0 :: List.range' 1 19 := by decide
  have others : ∀ e : Dev, Frame ((List.range' 1 19).map (CAM_STAT n)) [] e
      (e.each (List.range' 1 19) (fun j d => d.wrN (CAM_STAT n j) (leField rec_ (4 * j) 4))) :=
    fun e => Frame.each _ _ e fun _ word _ => Frame.wrN _ _ _ _ _ (List.mem_map_of_mem word)
  have apart : CAM_STAT n 0 ∉ (List.range' 1 19).map (CAM_STAT n) := by
    simp only [List.mem_map, List.mem_range'_1, CAM_STAT]
    omega
  rw [Dev.putRecord, words, Dev.each_cons, (others _).1 _ apart, Dev.rd_wrN, if_pos rfl]

/-- What the port shows of a closed frame: its record, its generation, and FRAME. -/
def Dev.showRecord (d : Dev) (n gen : Nat) (rec_ : List Byte) : Dev :=
  ((d.putRecord n rec_).put (CAM_GEN n) loHalf gen).camEvt n CAM_EVT.FRAME

theorem Frame.showRecord (ps : List Part) (d : Dev) (n gen : Nat) (rec_ : List Byte) :
    Frame ([CAM_GEN n, CAM_EVT n] ++ (List.range 20).map (CAM_STAT n)) ps d (d.showRecord n gen rec_) :=
  ((Frame.putRecord d n rec_).mono (fun _ h => List.mem_append_right _ h) (by simp)).trans
    ((Frame.put _ _ _ _ _ _ (by simp)).trans (Frame.flag _ _ _ _ _ (by simp)))

theorem Dev.showRecord_fields (d : Dev) (n : Nat) {gen : Nat} (rec_ : List Byte) (small : gen < 2 ^ 16) :
    (d.showRecord n gen rec_).rd (CAM_STAT n 0) = BitVec.ofNat 32 (leField rec_ 0 4) ∧
    (d.showRecord n gen rec_).get (CAM_GEN n) loHalf = gen ∧ (d.showRecord n gen rec_).get (CAM_EVT n) CAM_EVT.FRAME = 1 := by
  unfold Dev.showRecord Dev.camEvt
  refine ⟨?_, ?_, Dev.get_flag_same _ _ _ (by decide) (by decide)⟩
  · rw [Dev.rd_flag, if_neg (by simp only [CAM_STAT, CAM_EVT]; omega), Dev.rd_put, if_neg (by simp only [CAM_STAT, CAM_GEN]; omega),
      Dev.rd_putRecord_first]
  · rw [Dev.get_flag_other _ _ _ _ _ (by decide) (.inl (by simp only [CAM_GEN, CAM_EVT]; omega)), Dev.get_put_same _ _ _ _ (by decide)]
    exact Nat.mod_eq_of_lt small

/-- A closed frame of no job: the shift stays, and nothing but the record and its generation is reported. -/
theorem frameRecord_no_job {d : Dev} {n : Nat} (ue : List Int) {f : CamFrame} {rest : List CamFrame}
    (closed : (d.cam n).closed = f :: rest) (job : f.job = none) (panes : f.set.getD 7 0 = 0) :
    ∃ rgb flags findings r, frameRecord n ue d =
      (d.modCam n (fun x => { x with closed := rest })).showRecord n f.gen ((d.evalOf n f).record rgb flags findings r) := by
  have noExp : (d.scan || decide (d.framing n = 1) || f.job.isNone) = true := by simp [job]
  have none : (d.evalOf n f).f.set.getD 7 0 = 0 := panes
  unfold frameRecord
  simp only [closed, noExp, Bool.true_or, Bool.not_true, Bool.and_false, Bool.false_and, if_true, Dev.when,
    Bool.false_eq_true, if_false]
  rw [Dev.formPanes_off _ _ _ _ _ _ none]
  exact ⟨_, _, _, _, rfl⟩

/-! ## Panes (R299, R301) -/

theorem paneSend_none {d : Dev} (h : d.tethUp = false ∨ d.tethVer < 2 ∨ d.nextPane = none ∨ ∃ f ∈ d.teth.wait, f.vc = 2) :
    paneSend d = d := by
  obtain down | old | nothing | ⟨f, waits, vc⟩ := h
  · exact if_pos (by simp [down])
  · exact if_pos (by simp [old])
  · simp only [paneSend, nothing, ite_self]
  · have taken : d.teth.wait.any (fun f => f.vc == 2) = true := List.any_eq_true.2 ⟨f, waits, beq_iff_eq.2 vc⟩
    exact if_pos (by rw [taken, Bool.or_true])

/-- An image none of which has been sent, and which fits one piece, goes whole. -/
theorem paneSend_whole {d : Dev} {n : Nat} {p : PaneImg} (up : d.tethUp = true) (version : 2 ≤ d.tethVer)
    (free : ∀ f ∈ d.teth.wait, f.vc ≠ 2) (next : d.nextPane = some (n, p)) (unsent : p.sent = 0)
    (fits : p.bytes.length ≤ d.teth.maxPay - 16) :
    paneSend d = (d.sendFrame 2 0x20 (paneHeader n p true ((d.cam n).gap.contains p.pane) ++ p.bytes)).setCam n { d.cam n with
      gap := (d.cam n).gap.filter (· != p.pane), panes := (d.cam n).panes.erase p } := by
  have sendable : (!d.tethUp || decide (d.tethVer < 2) || d.teth.wait.any (fun f => f.vc == 2)) = false := by
    simpa [up, Nat.not_lt.2 version] using free
  have piece : (p.bytes.drop p.sent).take (d.teth.maxPay - 16) = p.bytes := by
    rw [unsent, List.drop_zero, List.take_of_length_le fits]
  have last : p.bytes.length ≤ p.sent + p.bytes.length := Nat.le_add_left _ _
  unfold paneSend
  simp only [sendable, next, piece, last, decide_true, Bool.false_eq_true, if_false, if_true]

/-! ## The statement -/

/-- Settles O41: each command by the lemma that says what its effect is on a state of the clause (log entries 68 and 69). -/
theorem inspectionCommandsComplete : Obligations.InspectionCommandsComplete := by
  unfold Obligations.InspectionCommandsComplete
  refine ⟨fun s n ue dt none => exec_onIsl_unchanged rfl (frameRecord_none ue none),
    fun s n ue f rest dt up closed job panes num gen => ?record,
    fun s dt h => exec_onIsl_unchanged rfl (paneSend_none h),
    fun s n p dt isl up version free next unsent fits =>
      exec_onDev (exec_event rfl isl) (paneSend_whole up version free next unsent fits)⟩
  case record =>
    obtain ⟨rgb, flags, findings, r, recorded⟩ := frameRecord_no_job ue closed job panes
    obtain ⟨first, generation, reported⟩ := Dev.showRecord_fields
      ((s.after dt).modCam n.val (fun x => { x with closed := rest })) n.val
      (((s.after dt).evalOf n.val f).record rgb flags findings r) gen
    have shown := Frame.showRecord [] ((s.after dt).modCam n.val (fun x => { x with closed := rest })) n.val f.gen
      (((s.after dt).evalOf n.val f).record rgb flags findings r)
    refine runs_after (exec_event rfl up) recorded
      ⟨(Frame.modCam _ _ _ _ _ (by simp)).trans (Frame.showRecord _ _ _ _ _),
        (shown.cam_eq (by simp) n.val).trans (Dev.cam_modCam ..),
        ?_, generation, reported⟩
    rw [first, Eval.leField_record]
    exact congrArg (BitVec.ofNat 32) (Nat.mod_eq_of_lt num)

end Sys2Proof.Machine
end
